-- ==== Sys2Proof/Word.lean ====
section
/-!
DEFINITION. The words of the SK512: registers and dwords are 32 bits (R7, R11), host addresses 64 bits.
-/
namespace Sys2Proof

/-- A register or a dword of a host structure (R7, R11). -/
abbrev Word := BitVec 32

/-- A byte of host memory, of EBM, of an image or of a packet. -/
abbrev Byte := BitVec 8

/-- A host address (R117, R218). -/
abbrev Addr := BitVec 64

end Sys2Proof
end

