-- ==== Sys2Proof/Syntax.lean ====
section
/-!
DEFINITION. The commands of the SK512 block: one constructor of Instr for each row of spec/opcode_table.json, with the
operands of the row. The table gives its rows no operands and no bits: the operands are what the row's rule names and what
the wire, the host or a timer supplies (assumption 1).
-/
namespace Sys2Proof

/-- The port of arrival of a register access (R96). A ring access carries the AUTH, SRC and TAG of its cell. -/
inductive Src where
  | pf
  | vf (i : BitVec 10)
  | ring (auth : BitVec 3) (src : BitVec 6) (tag : Word)
  | svc
  | jtag
deriving DecidableEq, Repr

/-- A register access: a read, or a write of a word. -/
inductive Op where
  | read
  | write (v : Word)
deriving DecidableEq, Repr

/-- The two ring ports (R37). -/
inductive Side where
  | east | west
deriving DecidableEq, Repr

/-- Who owns a queue, an admin queue or an MSI-X table: the manager or an instance (R240). -/
inductive Owner where
  | mgr
  | inst (i : BitVec 10)
deriving DecidableEq, Repr

/-- A host access to a BAR (R80): the byte offset in PF BAR0, in PF BAR2, or in the VF BAR0 of an instance. -/
inductive Win where
  | bar0 (off : BitVec 26)
  | bar2 (off : BitVec 14)
  | vf (i : BitVec 10) (off : BitVec 14)
deriving DecidableEq, Repr

/-- A cell (R45), field by field; `pay` holds the 64 payload bytes. -/
structure Cell where
  dst : BitVec 6
  src : BitVec 6
  typ : BitVec 4
  cls : BitVec 2
  ringB : Bool
  wrapped : Bool
  bcast : Bool
  auth : BitVec 3
  hops : BitVec 7
  crdCount : BitVec 8
  crdClass : BitVec 2
  crdRing : Bool
  seq : BitVec 16
  tag : Word
  len : BitVec 7
  crc : BitVec 16
  pay : List Byte
deriving DecidableEq, Repr

/-- What a POST cell asks of the head (R109, R257): the owner, the queue number, the address and dwords of the CQ entry, the
new CQ PI, the mirror's address when it is due, the vector when an interrupt is asked for, and the number and CI of a TQ whose CI
has changed (R108). The spec gives the payload no layout, so the command carries the message beside its cell (assumption 1). -/
structure PostMsg where
  owner : Owner
  q : BitVec 11
  addr : Addr
  dws : List Word
  pi : BitVec 16
  mirror : Option Addr
  vec : Option (BitVec 8)
  ci : Option (BitVec 11 × BitVec 16)
deriving DecidableEq, Repr

/-- A timing cell as it is received (R55, R57), with the chip's own RCT at the start of reception in units of 2^-16 ns. -/
structure Timing where
  c : Cell
  atRct : BitVec 80
deriving DecidableEq, Repr

/-- What a TOPO cell says (R43, R52, R63, R68): the cell that gathers the live map round ring A, the live map, a grant of credits, a
request to leave, the notice of a planned closing, a release. The spec gives the payload no layout, so the command carries the message
beside its cell (assumption 1). -/
inductive TopoMsg where
  | round (map dup : BitVec 64) (epoch : BitVec 8) (headSlot : BitVec 6)
  | live (map dup : BitVec 64) (epoch : BitVec 8) (headSlot : BitVec 6)
  | grant (epoch : BitVec 8) (iso ctrl data : BitVec 16)
  | leave (pos : BitVec 6)
  | closing (pos : BitVec 6) (w : Word)
  | release (w : Word)
deriving DecidableEq, Repr

/-- The timing cells of a microframe, of ring A and ring B (R57). -/
structure Timings where
  a : Option Timing
  b : Option Timing
deriving DecidableEq, Repr

/-- A cell in transit (R49, R56) with its residence time in units of 2^-16 ns. -/
structure Passing where
  c : Cell
  res : BitVec 32
deriving DecidableEq, Repr

/-- A TOPO cell (R46) with what it says, beside the cell (assumption 1). -/
structure Topo (α : Type) where
  c : Cell
  val : α
deriving DecidableEq, Repr

/-- What a training step measures (R59): the loss in 0.25 dB, half the round trip in 1/16 ns, the neighbour's slot and serial. -/
structure Train where
  loss : BitVec 8
  delay : BitVec 16
  slot : BitVec 6
  serial : BitVec 64
deriving DecidableEq, Repr

/-- How a frame's ID and body fare on the line (R73, R75): through, beaten by a frame of a type, or stopped by a check. -/
inductive Arb where
  | clean
  | lost (typ : BitVec 4) (slot : BitVec 6)
  | collided
deriving DecidableEq, Repr

/-- The PCIe resets of R307. -/
inductive LinkReset where
  | perst | hot | down
deriving DecidableEq, Repr

/-- How a transaction on the wire ends (R193, R194, R196, R197). `sent` is a packet that gets no handshake. -/
inductive Reply where
  | ack
  | nak
  | nyet
  | stall
  | sent
  | data (d : List Byte)
  | babble (pastEof : Bool)
  | splitErr
deriving DecidableEq, Repr

/-- The errors that R193 retries. -/
inductive TErr where
  | timeout | crc | badPid | falseEop
deriving DecidableEq, Repr

/-- A USB 2.0 line state on an idle port (R184). -/
inductive Line where
  | se0 | dPlus | dMinus
deriving DecidableEq, Repr

/-- The line at the end of a bus reset (R184). -/
inductive ResetLine where
  | hsIdle | idleJ | neither
deriving DecidableEq, Repr

/-- A standard request on service endpoint 0x00 (R205, R266). -/
inductive SvcStd where
  | deviceDescriptor
  | interfaceDescriptor
  | serialString
  | setAddress (a : BitVec 7)
  | setConfiguration (v : BitVec 8)
  | other
  | unsupported
deriving DecidableEq, Repr

/-- The reader that meets a bus error: a software or planner channel, or the flow of an endpoint context (R221). -/
inductive DmaTarget where
  | chan (ch : BitVec 6)
  | flow (ctx : BitVec 13)
deriving DecidableEq, Repr

/-- The bus errors of R221, told apart as R221 tells them apart; an EBM error carries its byte address. -/
inductive BusErr where
  | cellLost
  | eccUe (a : BitVec 25)
  | other
deriving DecidableEq, Repr

/-- A bus error (R221): its kind, the bytes at a software channel's destination that come from before it, and those bytes. -/
structure BusFail where
  kind : BusErr
  moved : BitVec 24
  d : List Byte
deriving DecidableEq, Repr

/-- An ECC error found by the scrubber (R214, R215). -/
structure EccHit where
  addr : BitVec 25
  ue : Bool
deriving DecidableEq, Repr

/-- The masking conditions of R256 that software ends: a vector's mask, the function's mask, the function's enable. -/
inductive MaskCond where
  | vector (v : BitVec 8)
  | func
  | enable
deriving DecidableEq, Repr

/-- The kinds of engine of R16 that no port holds. -/
inductive EngKind where
  | le | te | re | mc
deriving DecidableEq, Repr

/-- A list, tenant, ring or management engine (R16). -/
structure Engine where
  kind : EngKind
  n : BitVec 5
deriving DecidableEq, Repr

/-- The margins of R301. -/
inductive CalMargin where
  | eye (side : Side)
  | term (p : BitVec 9)
deriving DecidableEq, Repr

/-- The 3,407 cells of the boundary register (R346), the cell nearest TDI in the highest bit. -/
abbrev Scan := BitVec 3407

/-- The commands of the opcode table (R28 to R357), in its order, those without operands after the others: Lean compiles no constructor
with operands beyond the 244th. -/
inductive Instr where
  /-- MODE_WRITE_HOLD (R29): A write of 0 to MGT_MODE with manager authority requests the transition to HOLD, which
  completes only after the aborts of R31. -/
  | modeWriteHold (src : Src)
  /-- MODE_WRITE_STANDALONE (R29): A write of 1 requests STANDALONE and is accepted from HOLD when the PCIe link is
  trained and no ring partner is trained. -/
  | modeWriteStandalone (src : Src)
  /-- MODE_WRITE_HEAD (R29): A write of 2 requests HEAD and is accepted from HOLD when the PCIe link is trained and
  the head election was won. -/
  | modeWriteHead (src : Src)
  /-- MODE_WRITE_MEMBER (R29): A write of 3 that arrives by ring with authority stamped by the head moves a chip in
  HOLD to MEMBER. -/
  | modeWriteMember (src : Src)
  /-- MODE_WRITE_LOOP (R29): A write of 5 by the manager or through JTAG moves a chip in HOLD to LOOP. -/
  | modeWriteLoop (src : Src)
  /-- MODE_WRITE_RECOVERY (R29): A write of 6 by the manager or through JTAG moves a chip in HOLD to RECOVERY. -/
  | modeWriteRecovery (src : Src)
  /-- MODE_WRITE_VAULT (R30): A write of 7 is refused in every mode and recorded with reason VAULT. -/
  | modeWriteVault (src : Src)
  /-- MODE_WRITE_REJOIN (R29): A write of the mode held before SEVERED returns the chip to HEAD or MEMBER once the
  ring is whole and retrained. -/
  | modeWriteRejoin (src : Src) (v : BitVec 3)
  /-- MGT_RESET_GO (R103): A write of 1 to MGT_RESET.GO in HOLD, LOOP or RECOVERY starts a chip reset with cause
  SOFTWARE, and is refused in other modes. -/
  | mgtResetGo (src : Src)
  /-- CHIP_RESET (R306): A chip reset from any cause returns registers to their reset values, keeps kept fields and
  AON, records its cause and turns every port OFF. -/
  | chipReset (cause : BitVec 3)
  /-- CHIP_RESET_RELEASED (R308): Chip reset is released once supplies are in range; the straps are latched and MC3
  reads the boot record. -/
  | chipResetReleased (straps : BitVec 6)
  /-- JOIN (R62): A write of 1 to RING_CONTROL.JOIN joins the ring at once and opens the switches while BYPASS_REQ
  reads 0. -/
  | join (src : Src)
  /-- BYPASS_REQ_SET (R63): A write of 1 to BYPASS_REQ starts a planned closing when its conditions hold, and
  otherwise closes the switches at once as a break. -/
  | bypassReqSet (src : Src)
  /-- BYPASS_REQ_CLEAR (R62): A write of 0 to BYPASS_REQ opens the switches if the chip has joined since its last
  reset or deep exit, and otherwise only withdraws the request. -/
  | bypassReqClear (src : Src)
  /-- FORCE_WRAP (R65): A write to RING_CONTROL.FORCE_WRAP wraps the named ports and counts as a break. -/
  | forceWrap (src : Src) (v : BitVec 2)
  /-- RETRAIN (R59): A write of 1 to RING_CONTROL.RETRAIN restarts training on both ring ports. -/
  | retrain (src : Src)
  /-- TRAINING_STEP_DONE (R59): A training step of a ring port meets its completion condition and the port moves to
  the next step, or is UP after step 6. -/
  | trainingStepDone (side : Side) (m : Train)
  /-- TRAINING_STEP_TIMEOUT (R59): A training step overruns its time limit, training restarts at step 1 and
  TRAINING_FAIL counts the restart. -/
  | trainingStepTimeout (side : Side)
  /-- RECEIVE_LANES_DOWN (R65): A ring port's receive lane has been without block lock for 1 µs, so the port goes
  down and the chip wraps and reports the break. -/
  | receiveLanesDown (side : Side)
  /-- TIMING_CELL_RX (R57): A chip takes the chosen timing cell of the microframe, computes its offset and steps or
  slews its RCT. -/
  | timingCellRx (t : Timings)
  /-- CELL_TRANSIT (R49): A transit cell is forwarded cut-through, with its CRC checked, HOPS incremented and a cell
  at HOPS = 127 discarded. -/
  | cellTransit (ringB : Bool) (p : Passing)
  /-- DATA_CELL_RX (R46): A DATA cell at its destination delivers DMA write data or a read completion, with a SEQ gap
  failing its transfer. -/
  | dataCellRx (c : Cell)
  /-- READ_REQ_CELL_RX (R46): A READ_REQ cell at the head or a chip starts the DMA read it names. -/
  | readReqCellRx (c : Cell)
  /-- REG_WR_CELL_RX (R98): A member accepts a REG_WR cell under its AUTH, including forwarded queue-index writes, or
  discards it with AUTH_VIOL. -/
  | regWrCellRx (c : Cell)
  /-- REG_RD_CELL_RX (R98): A member accepts a REG_RD cell under its AUTH and answers with a REG_CPL cell, or
  discards it. -/
  | regRdCellRx (c : Cell)
  /-- REG_CPL_CELL_RX (R81): The head receives a register read completion and answers the waiting PCIe request. -/
  | regCplCellRx (c : Cell)
  /-- EVENT_CELL_RX (R257): The head receives an EVENT cell, sets the member's bit in TEN_EVT_POS or routes the
  vector, and sends the MSI-X message. -/
  | eventCellRx (c : Cell)
  /-- POST_CELL_RX (R257): The head receives a POST cell and writes the CQ entry, PI, mirror and MSI-X in order. -/
  | postCellRx (c : Cell) (p : PostMsg)
  /-- RELAY_CELL_RX (R172): A RELAY cell with data is written into the sink endpoint's buffer named by its TAG. -/
  | relayCellRx (c : Cell)
  /-- RELAY_ROOM_REPORT_RX (R172): A RELAY cell with LEN = 0 restores the source's count of free sink buffer space. -/
  | relayRoomReportRx (c : Cell)
  /-- CREDIT_CELL_RX (R53): Credits returned in a cell header or a CREDIT cell are added to the source's credits for
  the destination, class and ring. -/
  | creditCellRx (c : Cell)
  /-- CREDIT_RETURN_TIMER (R53): A credit return that has waited 0.5 µs with no other cell leaving for the source is
  sent in a CREDIT cell. -/
  | creditReturnTimer (pos : BitVec 6) (cls : BitVec 2) (ringB : Bool)
  /-- TOPO_CIRCULATE (R43): Each live chip sets its position bit in the circulating TOPO cell, and a chip finding its
  bit set marks a duplicate. -/
  | topoCirculate (map : Topo (BitVec 64)) (dup : BitVec 64) (epoch : BitVec 8) (headSlot : BitVec 6)
  /-- LIVE_MAP_RX (R43): Every chip loads the broadcast live map into RING_LIVE and recomputes its path choice. -/
  | liveMapRx (map : Topo (BitVec 64)) (dup : BitVec 64) (epoch : BitVec 8) (headSlot : BitVec 6)
  /-- CREDIT_GRANT_RX (R54): A destination's grant for the new epoch arrives, and the source resumes injection toward
  it. -/
  | creditGrantRx (c : Cell) (epoch : BitVec 8) (iso : BitVec 16) (ctrl : BitVec 16) (data : BitVec 16)
  /-- TOPO_LEAVE_REQUEST_RX (R63): The head receives a leaving chip's request and broadcasts the position and wrap
  microframe w with manager authority. -/
  | topoLeaveRequestRx (pos : Topo (BitVec 6))
  /-- TOPO_CLOSING_NOTICE_RX (R63): A chip receives the head's notice of a planned closing and prepares to wrap at
  microframe w. -/
  | topoClosingNoticeRx (pos : Topo (BitVec 6)) (w : Word)
  /-- TOPO_RELEASE_RX (R68): A chip receives the head's TOPO cell naming a release microframe two microframes later. -/
  | topoReleaseRx (w : Topo Word)
  /-- FAULT_CELL_RX (R66): The head receives a FAULT cell, handles the report in its funnel and, for a break,
  advances EPOCH, sends the live map and enters SEVERED. -/
  | faultCellRx (c : Cell) (loc : BitVec 64) (code : BitVec 16)
  /-- HOST_WINDOW_ACCESS (R81): A PCIe access to BAR0 window p is served locally for window 0 or forwarded in order
  as a REG_WR or REG_RD cell. -/
  | hostWindowAccess (win : Win) (op : Op)
  /-- FORWARDED_READ_TIMEOUT (R82): A forwarded read with no REG_CPL within 50 µs completes 0xFFFF_FFFF with an error
  completion. -/
  | forwardedReadTimeout (tag : Word)
  /-- PCIE_LINK_RESET (R307): PERST#, Hot Reset or Link Down resets the PCI block and link and handles each enabled
  instance as if VF Enable were cleared. -/
  | pcieLinkReset (kind : LinkReset)
  /-- ELECT_GO (R76): A write of 1 to SBD_CONTROL.ELECT_GO clears WINNER and sends an ELECT frame. -/
  | electGo (src : Src)
  /-- SBD_TX_WAKE (R353): SBD_TX.GO with TYPE WAKE sends a WAKE frame from the body registers, or sets FAILED while
  ENABLE is 0. -/
  | sbdTxWake (src : Src)
  /-- SBD_TX_ALARM_SET (R353): SBD_TX.GO with TYPE ALARM_SET sends an ALARM_SET frame from the body registers, or
  sets FAILED while ENABLE is 0. -/
  | sbdTxAlarmSet (src : Src)
  /-- SBD_FRAME_START (R73): A pending frame starts once the listener has seen the line recessive for 8 bit times,
  arbitrating during ID and checking bits from LEN on. -/
  | sbdFrameStart (arb : Arb)
  /-- FAULT_FRAME_RX (R289): A received FAULT frame sets SB_FAULT, and a chip whose log holds its location counts it
  under R287. -/
  | faultFrameRx (loc : BitVec 64) (code : BitVec 16) (rct : Word) (captured : Bool)
  /-- HEAD_CLAIM_FRAME_RX (R354): A received HEAD_CLAIM sets WINNER to its head slot and moves a chip not yet in HEAD
  to LOST. -/
  | headClaimFrameRx (slot : BitVec 6) (epoch : BitVec 8) (captured : Bool)
  /-- ELECT_FRAME_RX (R76): A received ELECT updates WINNER, moves a higher-slot chip to LOST, and makes a head
  answer with HEAD_CLAIM within 1 ms. -/
  | electFrameRx (slot : BitVec 6) (trained : Bool) (captured : Bool)
  /-- WAKE_FRAME_RX (R275): A WAKE frame naming the chip loads the alarm with the current RTC and arms it. -/
  | wakeFrameRx (mask : BitVec 64) (captured : Bool)
  /-- ALARM_SET_FRAME_RX (R275): An ALARM_SET frame naming the chip loads its alarm value and arms it. -/
  | alarmSetFrameRx (mask : BitVec 64) (alarm : BitVec 64) (captured : Bool)
  /-- SOFT_RESET (R88): A write of 1 to PAGE_CONTROL.SOFT_RESET resets the block and holds its registers, where the
  page and mode allow it. -/
  | softReset (src : Src) (page : BitVec 8)
  /-- SOFT_RESET_DONE (R88): A soft reset completes within 1 µs and the held accesses are served in order. -/
  | softResetDone (page : BitVec 8)
  /-- VOTE_SET (R89): A write to VOTE_SET casts votes in allocated software slots of the page's domain or domains. -/
  | voteSet (src : Src) (page : BitVec 8) (v : Word)
  /-- VOTE_CLEAR (R89): A write to VOTE_CLEAR withdraws votes in allocated software slots without freeing them. -/
  | voteClear (src : Src) (page : BitVec 8) (v : Word)
  /-- PAGE_LOCK_SET (R91): A write of 1 to PAGE_LOCK.LOCK locks the covered fields until chip reset and captures
  PAGE_CHECK. -/
  | pageLockSet (src : Src) (page : BitVec 8)
  /-- EVENT_ENABLE_WRITE (R351): A write to EVENT_ENABLE that makes a status and enable pair 1 raises the page-event
  interrupt at once. -/
  | eventEnableWrite (src : Src) (page : BitVec 8) (v : Word)
  /-- DARK_ACCESS (R93): An access to a dark register with WAKE_ON_ACCESS = 0 is refused or dropped and counted in
  PAGE_DARK. -/
  | darkAccess (src : Src) (page : BitVec 8) (off : BitVec 12) (op : Op)
  /-- WAKE_ON_ACCESS (R94): An access to a dark register of a wakeable page casts a slot 63 vote and waits the
  domain's exit latency. -/
  | wakeOnAccess (src : Src) (page : BitVec 8) (off : BitVec 12) (op : Op)
  /-- REGISTER_VOTE_RELEASE (R94): The slot 63 vote is withdrawn 1 ms after the last access that arrived at the
  domain. -/
  | registerVoteRelease (dom : BitVec 8)
  /-- REGISTER_WRITE (R100): A write to a register with no row of its own takes effect in the page's single order of
  accesses. -/
  | registerWrite (src : Src) (page : BitVec 8) (off : BitVec 12) (v : Word)
  /-- MISALIGNED_ACCESS (R7): A narrower, wider or unaligned write is dropped, and such a read returns 0xFFFF_FFFF
  with an error completion. -/
  | misalignedAccess (src : Src) (page : BitVec 8) (off : BitVec 12) (isWrite : Bool)
  /-- WIDE_LOW_READ (R8): A read of the low half of a 64-bit quantity latches the high half for the next read. -/
  | wideLowRead (src : Src) (page : BitVec 8) (off : BitVec 12)
  /-- WIDE_HIGH_WRITE (R8): A write of the high half makes a held low-half write and itself take effect together. -/
  | wideHighWrite (src : Src) (page : BitVec 8) (off : BitVec 12) (v : Word)
  /-- READ_CLEAR (R10): A read of an RC field returns its value and clears it. -/
  | readClear (src : Src) (page : BitVec 8) (off : BitVec 12)
  /-- TQ_PI_WRITE (R108): A write of a TQ PI is range-checked and forwarded to the home chip, starting no fetch. -/
  | tqPiWrite (o : Owner) (q : BitVec 11) (v : Word)
  /-- CQ_CI_WRITE (R108): A write of a CQ CI is checked against S and PI and forwarded to the home chip, freeing CQ
  room. -/
  | cqCiWrite (o : Owner) (q : BitVec 11) (v : Word)
  /-- AQ_PI_WRITE (R129): A write of INST_AQ_IDX.PI is checked and makes the tenant engine serve the AQ within 2 µs. -/
  | aqPiWrite (o : Owner) (v : BitVec 16)
  /-- ACQ_CI_WRITE (R360): A write of INST_ACQ_IDX.CI is checked and frees ACQ room. -/
  | acqCiWrite (o : Owner) (v : BitVec 16)
  /-- AQ_ENABLE (R128): A write of 1 to INST_AQ_CFG.ENABLE checks sizes and bases and starts AQ service with all
  indices 0, or sets CFG_ERR. -/
  | aqEnable (o : Owner)
  /-- AQ_DISABLE (R128): A write of 0 to ENABLE lets the command in execution finish and then stops AQ service. -/
  | aqDisable (o : Owner)
  /-- AQ_ENTRY_READ_FAIL (R129): A failed host read of an AQ entry writes an ACQ entry with BAD_DESC and the AQ
  index, and advances the AQ CI. -/
  | aqEntryReadFail (o : Owner)
  /-- POLL_TICK (R112): At each poll tick the list engine samples the TQ's PI, checks it, closes an idle batch and
  issues FETCH for uncached window entries. -/
  | pollTick (tq : BitVec 12)
  /-- ENTRY_FETCH_DONE (R152): An entry fetch completes into the descriptor cache and the planner builds the rest of
  the entry's graph. -/
  | entryFetchDone (tq : BitVec 12) (idx : BitVec 16) (e : List Word)
  /-- ENTRY_FETCH_FAIL (R114): A failed entry fetch completes each entry of the range BAD_DESC within its chain and
  sets FETCH_ERR. -/
  | entryFetchFail (tq : BitVec 12) (idx : BitVec 16) (n : BitVec 5)
  /-- PREFETCH_REFILL (R113): Between ticks the list engine refills freed window positions up to the last sampled PI. -/
  | prefetchRefill (tq : BitVec 12)
  /-- CHAIN_TIMEOUT (R121): An open chain whose next entry is not covered by PI 8 ms after its last fetch completes
  SEQ_ERR. -/
  | chainTimeout (tq : BitVec 12)
  /-- PI_MIRROR_WRITE (R110): The PI mirror is written at most once per 1 µs per CQ, always after the last PI change
  of an interval. -/
  | piMirrorWrite (cq : BitVec 10)
  /-- TQ_INVAL_GO (R116): A write to TQ_INVAL with GO starts a manager invalidation of the range in TQ_INVAL_RANGE. -/
  | tqInvalGo (src : Src) (v : Word)
  /-- CREATE_TQ (R134): CREATE_TQ creates an empty TQ on an endpoint's home chip posting to a CQ of the same home. -/
  | createTq (o : Owner) (e : List Word)
  /-- DESTROY_TQ (R135): DESTROY_TQ stops fetching, drops unserved operations, writes one ABORTED entry and releases
  the queue. -/
  | destroyTq (o : Owner) (e : List Word)
  /-- RESET_TQ (R135): RESET_TQ aborts as DESTROY_TQ does and then sets PI = CI = 0 and clears ERROR. -/
  | resetTq (o : Owner) (e : List Word)
  /-- INVALIDATE_TQ (R116): INVALIDATE_TQ discards cached copies of entries in a range whose service has not begun. -/
  | invalidateTq (o : Owner) (e : List Word)
  /-- CREATE_CQ (R134): CREATE_CQ creates an empty CQ at a named home position with mirror and interrupt options. -/
  | createCq (o : Owner) (e : List Word)
  /-- DESTROY_CQ (R133): DESTROY_CQ destroys a CQ that no TQ references. -/
  | destroyCq (o : Owner) (e : List Word)
  /-- BIND_ENDPOINT (R188): BIND_ENDPOINT binds an endpoint context, and possibly a new device context, with an EBM
  buffer on an owned port. -/
  | bindEndpoint (o : Owner) (e : List Word)
  /-- UNBIND_ENDPOINT (R189): UNBIND_ENDPOINT releases the endpoint's reservation, cohort membership and buffer, and
  frees an emptied device context. -/
  | unbindEndpoint (o : Owner) (e : List Word)
  /-- RESERVE_BW (R164): RESERVE_BW checks port, TT and chip-share budgets, grants a phase and links the PSE into the
  wheel. -/
  | reserveBw (o : Owner) (e : List Word)
  /-- RELEASE_BW (R148): RELEASE_BW removes the endpoint's PSE and reservation before its ACQ entry is written. -/
  | releaseBw (o : Owner) (e : List Word)
  /-- SET_PORT_POWER_ON (R179): SET_PORT POWER_ON turns signal-VBUS on for an OFF port, clearing OVERCURRENT, subject
  to the charging limit. -/
  | setPortPowerOn (o : Owner) (e : List Word)
  /-- SET_PORT_POWER_OFF (R179): SET_PORT POWER_OFF turns signal-VBUS off and moves the port to OFF, or cancels a
  waiting POWER_ON. -/
  | setPortPowerOff (o : Owner) (e : List Word)
  /-- SET_PORT_RESET (R184): SET_PORT RESET starts a bus reset on a DISABLED or ENABLED port. -/
  | setPortReset (o : Owner) (e : List Word)
  /-- SET_PORT_DISABLE (R179): SET_PORT DISABLE stops SOF and transactions on an ENABLED port. -/
  | setPortDisable (o : Owner) (e : List Word)
  /-- SET_PORT_SUSPEND (R199): SET_PORT SUSPEND sends the port to L2 or U3 after the transaction on the wire ends. -/
  | setPortSuspend (o : Owner) (e : List Word)
  /-- SET_PORT_RESUME (R199): SET_PORT RESUME starts resume signalling on a SUSPENDED port. -/
  | setPortResume (o : Owner) (e : List Word)
  /-- SET_PORT_SET_LPM (R179): SET_PORT SET_LPM loads PRT_LPM with the L1 and U1/U2 settings. -/
  | setPortSetLpm (o : Owner) (e : List Word)
  /-- SET_PORT_TEST (R179): SET_PORT TEST puts a DISABLED port into a USB 2.0 test mode that only POWER_OFF leaves. -/
  | setPortTest (o : Owner) (e : List Word)
  /-- SET_PORT_SET_OWNER (R180): SET_PORT with SET_OWNER makes the named instance the port's owner, when no endpoint
  is bound on it. -/
  | setPortSetOwner (o : Owner) (e : List Word)
  /-- SET_PORT_NO_OWNER (R180): SET_PORT with NO_OWNER returns the port to the manager, when no endpoint is bound on
  it. -/
  | setPortNoOwner (o : Owner) (e : List Word)
  /-- GET_PORT (R181): GET_PORT returns the port's PRT_STATE, owner and bound device count. -/
  | getPort (o : Owner) (e : List Word)
  /-- GET_TOPOLOGY (R182): GET_TOPOLOGY writes one record per device context on the port and sets MORE when the
  buffer is too short. -/
  | getTopology (o : Owner) (e : List Word)
  /-- SET_VOTE (R265): SET_VOTE allocates a software slot on a domain of a named chip and casts its vote. -/
  | setVote (o : Owner) (e : List Word)
  /-- CLEAR_VOTE (R265): CLEAR_VOTE withdraws the vote of an allocated software slot and frees the slot. -/
  | clearVote (o : Owner) (e : List Word)
  /-- QUIESCE_INSTANCE (R248): QUIESCE_INSTANCE stops new work of an instance, lets in-service work finish and holds
  its interrupts. -/
  | quiesceInstance (o : Owner) (e : List Word)
  /-- QUIESCE_DONE (R248): When every completion is written and the flushing read completes, the ACQ entry is written
  and the instance becomes QUIESCED. -/
  | quiesceDone (i : BitVec 10)
  /-- RESUME_INSTANCE (R250): RESUME_INSTANCE writes held completions and interrupts in order and makes the instance
  ACTIVE. -/
  | resumeInstance (o : Owner) (e : List Word)
  /-- SWAP_DIRTY_LOG (R254): SWAP_DIRTY_LOG installs a new dirty bitmap, or stops logging, and returns the previous
  one with its overflow flag. -/
  | swapDirtyLog (o : Owner) (e : List Word)
  /-- UPDATE_BEGIN (R316): UPDATE_BEGIN opens an update session on the non-running slot, which becomes WRITING. -/
  | updateBegin (o : Owner) (e : List Word)
  /-- UPDATE_WRITE (R316): UPDATE_WRITE writes image bytes from host memory at an offset within the session length. -/
  | updateWrite (o : Owner) (e : List Word) (d : List Byte)
  /-- UPDATE_VERIFY (R316): UPDATE_VERIFY checks the image's header, hash, signature, part and security version and
  makes the slot VERIFIED. -/
  | updateVerify (o : Owner) (e : List Word)
  /-- UPDATE_ACTIVATE (R316): UPDATE_ACTIVATE makes the target TRIAL and the running slot STANDBY, then schedules a
  chip reset. -/
  | updateActivate (o : Owner) (e : List Word)
  /-- UPDATE_CONFIRM (R316): UPDATE_CONFIRM makes the running trial slot ACTIVE and raises the minimum security
  version. -/
  | updateConfirm (o : Owner) (e : List Word)
  /-- FORM_COHORT (R168): FORM_COHORT forms a ring-wide cohort of isochronous endpoints with a common interval, phase
  and start. -/
  | formCohort (o : Owner) (e : List Word) (d : List Word)
  /-- DISSOLVE_COHORT (R170): DISSOLVE_COHORT ends a cohort from the first plan opened after its ACQ entry. -/
  | dissolveCohort (o : Owner) (e : List Word)
  /-- RESERVED_OPCODE (R133): An AQ entry with an unknown opcode completes BAD_DESC with detail OPCODE. -/
  | reservedOpcode (o : Owner) (e : List Word)
  /-- WHEEL_BLOCK_READ_DONE (R148): A PSE block read completes, its PSEs are validated, graphs are built for valid
  ones and the walk follows NEXT. -/
  | wheelBlockReadDone (n : Word) (addr : Addr) (block : List Word) (took : BitVec 16)
  /-- WHEEL_READ_FAIL (R148): A failed wheel block read ends the walk and sets WHEEL_READ. -/
  | wheelReadFail (n : Word)
  /-- COHORT_CHECK (R169): 10 µs before a cohort's service microframe each chip checks its members and serves or
  suppresses them. -/
  | cohortCheck (n : Word)
  /-- OPERATION_DISPATCH (R154): An operation whose predecessor, flow and condition allow joins its ready list and is
  started by its engine. -/
  | operationDispatch (ctx : BitVec 13) (t : Nat)
  /-- GRAPH_REOFFER (R158): A deferred asynchronous graph is offered again when every list it uses falls below 3/4
  full. -/
  | graphReoffer (ctx : BitVec 13)
  /-- SPILL_RETURN (R159): A spilled record returns to its ready list in written order when that list falls below 3/4
  full. -/
  | spillReturn (ctx : BitVec 13)
  /-- STAGE_DONE (R153): A STAGE completes with the segment's data in the endpoint buffer, releasing the flow's next
  operation. -/
  | stageDone (ctx : BitVec 13) (d : List Byte) (ce : Option (BitVec 25)) (waits : List (BitVec 16))
  /-- DRAIN_DONE (R152): A DRAIN completes with data in host memory or the peer's buffer, and a parked operation on
  its channel resumes. -/
  | drainDone (ctx : BitVec 13) (ce : Option (BitVec 25)) (waits : List (BitVec 16))
  /-- POST_DONE (R109): A POST writes the CQ entry or extends a batch, updates PI and mirror, sends MSI-X as needed
  and advances CI. -/
  | postDone (tq : BitVec 12)
  /-- FIRST_TRANSACTION_START (R357): The first transaction of a microframe or frame starts its token after the SOF
  offset. -/
  | firstTransactionStart (p : BitVec 9)
  /-- TRANSACTION_END (R357): A transaction releases the bus on its handshake or last data, completing its COLLECT
  and letting the next transaction start. -/
  | transactionEnd (p : BitVec 9) (r : Reply) (t : Nat)
  /-- TRANSACTION_TIMEOUT (R193): A transaction times out or errs and is retried up to three times, after which the
  chain completes XACT_ERR. -/
  | transactionTimeout (p : BitVec 9) (k : TErr) (t : Nat)
  /-- LINE_CHANGE (R184): A USB 2.0 line change on a POWERED port starts or restarts the 100 ms connect debounce. -/
  | lineChange (p : BitVec 9) (l : Line)
  /-- CONNECT_DEBOUNCE_DONE (R184): A connect stable for 100 ms moves the port to DISABLED with CONNECTED and sets
  CONNECT_CHG, unless SuperSpeed training is pending. -/
  | connectDebounceDone (p : BitVec 9)
  /-- DEVICE_CHIRP_END (R184): The port sees the end of a device chirp K during reset and schedules its own K-J
  chirps. -/
  | deviceChirpEnd (p : BitVec 9)
  /-- HOST_CHIRP_START (R184): 100 µs after the device chirp ends, the port starts K-J chirps. -/
  | hostChirpStart (p : BitVec 9)
  /-- BUS_RESET_END (R184): At S + 50 ms the reset ends and the port enters ENABLED with its final speed, or DISABLED
  with LINK_FAIL. -/
  | busResetEnd (p : BitVec 9) (l : ResetLine)
  /-- RESET_RECOVERY_END (R184): 10 ms after the reset ends, the port engine may issue transactions on the port. -/
  | resetRecoveryEnd (p : BitVec 9)
  /-- SS_LINK_U0 (R185): The SuperSpeed link reaches U0, and the port enters ENABLED with SPEED 3 or 4 or a reset or
  resume completes. -/
  | ssLinkU0 (p : BitVec 9) (gen2 : Bool)
  /-- SS_TRAINING_FAIL (R185): SuperSpeed training fails within 360 ms and leaves the port to the USB 2.0 path. -/
  | ssTrainingFail (p : BitVec 9)
  /-- SS_RESET_TIMEOUT (R177): A SuperSpeed reset not complete in 100 ms moves the port to DISABLED and sets
  LINK_FAIL. -/
  | ssResetTimeout (p : BitVec 9)
  /-- SS_WARM_RESET_LFPS_END (R185): After 80 ms of LFPS a warm reset retrains the SuperSpeed link. -/
  | ssWarmResetLfpsEnd (p : BitVec 9)
  /-- SS_RESUME_TIMEOUT (R177): A SuperSpeed link not in U0 within 20 ms of U3 exit moves the port to DISABLED and
  sets LINK_FAIL. -/
  | ssResumeTimeout (p : BitVec 9)
  /-- DISCONNECT (R187): A detected disconnect moves the port to POWERED, sets CONNECT_CHG and makes every device
  context on it GONE. -/
  | disconnect (p : BitVec 9)
  /-- REMOTE_WAKE (R199): Device K seen for 100 µs on a SUSPENDED port starts resume and will set WAKE. -/
  | remoteWake (p : BitVec 9)
  /-- RESUME_SIGNAL_END (R199): After 20 ms of K the port sends the EOP and enters ENABLED. -/
  | resumeSignalEnd (p : BitVec 9)
  /-- RESUME_RECOVERY_END (R199): 30 ms after resume starts, transactions are allowed on the port. -/
  | resumeRecoveryEnd (p : BitVec 9)
  /-- VBUS_CHARGED (R183): A charging port first reaches 4.75 V, its limit rises to 7.5 mA and a waiting POWER_ON may
  start. -/
  | vbusCharged (p : BitVec 9)
  /-- VBUS_CHARGE_TIMEOUT (R334): A port that has not reached 4.75 V 10 ms after charging began turns OFF with
  OVERCURRENT. -/
  | vbusChargeTimeout (p : BitVec 9)
  /-- VBUS_FAULT (R183): A signal-VBUS overcurrent, undervoltage or overvoltage condition turns the port OFF and sets
  OVERCURRENT. -/
  | vbusFault (p : BitVec 9)
  /-- L1_ENTRY (R198): After 100 µs with no transaction ready, an L1-enabled port sends the LPM token and enters L1
  on ACK. -/
  | l1Entry (p : BitVec 9) (ack : Bool)
  /-- L1_EXIT (R198): A ready transaction or a remote wake takes the port out of L1. -/
  | l1Exit (p : BitVec 9) (byDevice : Bool)
  /-- U1_U2_ENTRY (R200): After U1_TIMEOUT or U2_TIMEOUT of inactivity, a SuperSpeed port sends its link to U1 or U2. -/
  | u1U2Entry (p : BitVec 9) (u2 : Bool)
  /-- U_EXIT_EARLY (R200): 20 µs ahead of a periodic ISSUE the port engine begins the link's exit to U0. -/
  | uExitEarly (p : BitVec 9)
  /-- PE_WATCHDOG_EXPIRE (R201): A port engine's watchdog expires, the engine restarts and its partner takes over its
  ports at a reduced cap. -/
  | peWatchdogExpire (pe : BitVec 7)
  /-- PE_SELF_CHECK_PASS (R201): A restarted port engine passes its self-check and reads RUN. -/
  | peSelfCheckPass (pe : BitVec 7)
  /-- TERMINATION_CAL (R300): Every 1 ms each port's high-speed termination is corrected by at most one step after an
  SOF. -/
  | terminationCal (p : BitVec 9) (dev : BitVec 8)
  /-- SVC_VBUS_CHANGE (R204): Host VBUS appearing or vanishing connects or disconnects the service-port pull-up. -/
  | svcVbusChange (present : Bool) (hs : Bool)
  /-- SVC_REQUEST_READ (R207): A service-port READ request reads dwords with maintenance authority and prepares a
  response. -/
  | svcRequestRead (req : List Word)
  /-- SVC_REQUEST_WRITE (R207): A service-port WRITE request writes dwords with maintenance authority and prepares a
  response. -/
  | svcRequestWrite (req : List Word)
  /-- SVC_CLEAR_HALT (R205): CLEAR_FEATURE(ENDPOINT_HALT) from the host clears a service endpoint's halt and resets
  its toggle. -/
  | svcClearHalt (ep : BitVec 8)
  /-- DMA_START_SINGLE (R219): START with CHAIN = 0 runs one transfer from the channel registers. -/
  | dmaStartSingle (src : Src) (ch : BitVec 6) (v : Word)
  /-- DMA_START_CHAIN (R219): START with CHAIN = 1 runs the descriptor chain at DMA_DESC. -/
  | dmaStartChain (src : Src) (ch : BitVec 6) (v : Word) (desc : Option (List Word))
  /-- DMA_PAUSE (R226): A write of 1 to PAUSE stops reads at the next beat boundary and enters PAUSING. -/
  | dmaPause (src : Src) (ch : BitVec 6)
  /-- DMA_RESUME (R226): A write of 0 to PAUSE resumes the channel from its registers. -/
  | dmaResume (src : Src) (ch : BitVec 6)
  /-- DMA_STOP (R226): A write of 1 to STOP while PAUSED returns the channel to IDLE. -/
  | dmaStop (src : Src) (ch : BitVec 6)
  /-- DMA_PAUSED (R226): The last staged or issued beat is written, STATE reads PAUSED, and a forced domain entry may
  begin. -/
  | dmaPaused (ch : BitVec 6) (moved : BitVec 24) (d : List Byte)
  /-- DMA_DESCRIPTOR_DONE (R220): A descriptor completes, its status is written back, events are set and the next
  descriptor starts or the channel goes IDLE. -/
  | dmaDescriptorDone (ch : BitVec 6) (d : List Byte) (next : Option (List Word)) (waits : List (BitVec 16))
  /-- DMA_BUS_ERROR (R221): A read meets a bus error, the descriptor is marked BAD_DESC or the transfer enters ERROR,
  or a planner entry fails. -/
  | dmaBusError (t : DmaTarget) (k : BusFail) (next : Option (List Word))
  /-- DMA_DESC_READ_FAIL (R221): A descriptor that cannot be read puts the channel in ERROR and sets DESC_ERR. -/
  | dmaDescReadFail (ch : BitVec 6)
  /-- DMA_BARRIER_ARRIVED (R227): The zero-length read or the bank commit confirms arrival, ending WAIT_BARRIER. -/
  | dmaBarrierArrived (ch : BitVec 6) (next : Option (List Word))
  /-- DMA_PACE_TIMER (R228): At each multiple of PERIOD µs of RCT a timer-paced channel gets a pacing event. -/
  | dmaPaceTimer (ch : BitVec 6)
  /-- SCRUB_TICK (R215): Every 2 µs the scrubber reads and checks one word group of each bank. -/
  | scrubTick (errs : List EccHit) (waits : List (BitVec 16))
  /-- REFRESH_ROW (R216): The refresh sequencer refreshes the next row of a bank at its interval. -/
  | refreshRow (bank : BitVec 3) (wait : BitVec 16)
  /-- TEMP_SAMPLE (R216): A bank sensor is sampled and the refresh interval is chosen, with TJ_HIGH above 105 °C. -/
  | tempSample (bank : BitVec 3) (tj : BitVec 8)
  /-- ARB_CLEAR (R239): A write of 1 to ARB_CLEAR.ALL clears every arbiter counter. -/
  | arbClear (src : Src)
  /-- VF_ENABLE (R242): VF Enable set with NumVFs above n makes instance n ACTIVE. -/
  | vfEnable (num : BitVec 11)
  /-- VF_REMOVAL (R251): VF Enable cleared or NumVFs lowered resets the instance, returns its ports and leaves it
  DISABLED. -/
  | vfRemoval (num : BitVec 11)
  /-- FUNCTION_LEVEL_RESET (R251): A Function Level Reset resets the instance, keeps its ports and leaves it ACTIVE. -/
  | functionLevelReset (i : BitVec 10)
  /-- INSTANCE_RESET_DONE (R251): An instance reset completes within 50 ms and RESET_DONE is set. -/
  | instanceResetDone (i : BitVec 10)
  /-- MSIX_UNMASK (R256): When a vector's masking condition ends, one message is sent for its pending bit. -/
  | msixUnmask (o : Owner) (k : MaskCond)
  /-- TENANT_IN_RELEASE (R244): The tenant writes 1 to INST_MBX_DB.IN_FULL, releasing the inbound mailbox and setting
  MBX_IN_FREE. -/
  | tenantInRelease (i : BitVec 10)
  /-- TENANT_OUT_POST (R244): The tenant writes 1 to OUT_FULL, setting TEN_MBX_PEND and MBX_OUT and sending the
  manager vector. -/
  | tenantOutPost (i : BitVec 10)
  /-- MANAGER_IN_POST (R244): The manager writes 1 to TEN_MBX_DB.IN_FULL, posting the inbound message or setting
  MBX_BUSY. -/
  | managerInPost (src : Src)
  /-- MANAGER_OUT_RELEASE (R244): The manager writes 1 to TEN_MBX_DB.OUT_FULL, releasing the outbound mailbox. -/
  | managerOutRelease (src : Src)
  /-- ENGINE_WATCHDOG_EXPIRE (R18): A list, tenant, ring or management engine's watchdog expires, resetting that
  engine and raising ENGINE_WDOG. -/
  | engineWatchdogExpire (e : Engine)
  /-- CHIP_REQUEST_P3 (R269): PWR_CHIP GO with TARGET 3 is checked and refused or starts entry to P3. -/
  | chipRequestP3 (src : Src) (force : Bool)
  /-- CHIP_REQUEST_P4 (R269): PWR_CHIP GO with TARGET 4 is checked and refused or starts entry to P4. -/
  | chipRequestP4 (src : Src) (force : Bool)
  /-- CHIP_REQUEST_P5 (R269): PWR_CHIP GO with TARGET 5 is checked and refused or starts entry to P5. -/
  | chipRequestP5 (src : Src) (force : Bool)
  /-- RECORD_COPY_DONE (R270): The records copied to the spill region are checked, and a failed check stops the
  entry. -/
  | recordCopyDone (ok : Bool)
  /-- FORCE_P5 (R273): A write of 0xC5 to AON_FORCE_P5 enters P5 from any mode and state, abandoning all work. -/
  | forceP5 (src : Src) (v : Word)
  /-- DOMAIN_RELEASE (R277): PWR_DOM_CMD GO with TARGET 0 releases a domain to follow its votes and resumes
  force-paused channels. -/
  | domainRelease (src : Src)
  /-- DOMAIN_REQUEST_P1 (R277): PWR_DOM_CMD GO with TARGET 1 puts the selected domain in P1, refused on votes unless
  forced. -/
  | domainRequestP1 (src : Src) (force : Bool)
  /-- DOMAIN_REQUEST_P2 (R277): PWR_DOM_CMD GO with TARGET 2 puts the selected domain in P2, refused on votes unless
  forced. -/
  | domainRequestP2 (src : Src) (force : Bool)
  /-- DOMAIN_P2_ENTRY_DONE (R268): A domain's entry to P2 completes with its logic supply off. -/
  | domainP2EntryDone (dom : BitVec 8)
  /-- DOMAIN_EXIT_DONE (R268): A domain's exit completes in P0 and its held accesses are served. -/
  | domainExitDone (dom : BitVec 8)
  /-- QUIET_IDLE_TIMER (R264): In QUIET a domain with no vote for 10 ms enters P2. -/
  | quietIdleTimer (dom : BitVec 8)
  /-- CLUSTER_IDLE_TIMER (R267): In QUIET, slot 36 is withdrawn from a cluster idle for 10 ms. -/
  | clusterIdleTimer (c : BitVec 6)
  /-- DETECTOR_VOTE_EXPIRE (R266): Slot 40 is withdrawn 1 ms after the last port detector event of the cluster. -/
  | detectorVoteExpire (c : BitVec 6)
  /-- ALARM_NOW (R275): A write of 1 to AON_ALARM_CTRL.NOW loads the alarm with the current RTC and arms it. -/
  | alarmNow (src : Src)
  /-- FEED_LOST_TIMER (R327): One phantom feed absent for 1 ms raises FEED_LOST. -/
  | feedLostTimer (side : Side)
  /-- EQ_ADAPT_TICK (R298): Every 10 µs the link engine updates the CTLE and DFE of each ring port. -/
  | eqAdaptTick (eastMv : BitVec 8) (westMv : BitVec 8) (eastUi : BitVec 8) (westUi : BitVec 8)
  /-- FAULT_REPORT (R287): A fault report is counted under an existing record, merged into an OPEN record of the same
  port, or opens a new record. -/
  | faultReport (loc : BitVec 64) (code : BitVec 16)
  /-- HUSH_WINDOW_END (R286): 250 µs after its first report an OPEN record becomes RAISED and sets ROOT_CAUSE, or
  RETIRED for a remote location. -/
  | hushWindowEnd (rec : BitVec 6)
  /-- FLT_RETIRE (R291): A write to FLT_RETIRE with GO retires a RAISED record. -/
  | fltRetire (src : Src) (rec : BitVec 6)
  /-- FLT_FREEZE (R323): A write of 1 to FLT_FREEZE.FREEZE freezes the log and starts a snapshot into the
  configuration store. -/
  | fltFreeze (src : Src)
  /-- FLT_THAW (R291): A write of 1 to FLT_FREEZE.THAW clears FREEZE. -/
  | fltThaw (src : Src)
  /-- SNAPSHOT_DONE (R323): The snapshot completes and sets NVM_SNAPSHOT.VALID, or fails and sets SNAPSHOT_FAIL. -/
  | snapshotDone (ok : Bool)
  /-- HEARTBEAT_CHECK (R293): Every 50 µs the funnel checks engine heartbeats and expires an engine that missed two
  checks, passing its duties on. -/
  | heartbeatCheck (missed : List Engine)
  /-- CAL_MARGIN_TIMER (R301): A ring eye below threshold for 1 ms, or a termination deviation beyond 2.25 Ω, raises
  CAL_MARGIN. -/
  | calMarginTimer (k : CalMargin)
  /-- NVM_UPD_BEGIN (R315): NVM_UPD_CTRL GO with OP BEGIN opens an update session on the register path. -/
  | nvmUpdBegin (src : Src)
  /-- NVM_UPD_VERIFY (R315): NVM_UPD_CTRL GO with OP VERIFY verifies the target image on the register path. -/
  | nvmUpdVerify (src : Src)
  /-- NVM_UPD_ACTIVATE (R315): NVM_UPD_CTRL GO with OP ACTIVATE activates the verified image on the register path. -/
  | nvmUpdActivate (src : Src)
  /-- NVM_UPD_CONFIRM (R315): NVM_UPD_CTRL GO with OP CONFIRM confirms the running trial on the register path. -/
  | nvmUpdConfirm (src : Src)
  /-- NVM_UPD_DATA (R315): A write to NVM_UPD_DATA writes one image dword at NVM_UPD_OFFSET and advances it, or is
  dropped. -/
  | nvmUpdData (src : Src) (v : Word)
  /-- KEY_REVOKE (R310): A write to NVM_MIN_SECVER.KEY_REVOKED permanently revokes ROM keys. -/
  | keyRevoke (src : Src) (keys : BitVec 4)
  /-- EXTEST (R347): The EXTEST instruction gives the boundary cells control of the balls. -/
  | extest (drive : Scan) (pins : Scan)
  /-- SAMPLE_PRELOAD (R345): The SAMPLE/PRELOAD instruction captures the balls without disturbing them. -/
  | samplePreload (preload : Scan) (pins : Scan)
  /-- EXTEST_PULSE (R347): The EXTEST_PULSE instruction runs the IEEE 1149.6 pulse test on AC-coupled pairs. -/
  | extestPulse (drive : Scan) (pins : Scan)
  /-- EXTEST_TRAIN (R347): The EXTEST_TRAIN instruction runs the IEEE 1149.6 pulse-train test on AC-coupled pairs. -/
  | extestTrain (drive : Scan) (pins : Scan)
  /-- DEBUG (R345): The DEBUG instruction gives register access with debug authority. -/
  | debug (page : BitVec 8) (off : BitVec 12) (op : Op)
  /-- BYPASS (R345): The BYPASS instruction, or any undefined value, selects the one-bit bypass register. -/
  | bypass (v : BitVec 8)
  /-- MODULE_INSERT (R339): Inserting a module mates straps, then lanes and feed, then opens the slot's shorting
  contacts. -/
  | moduleInsert (straps : BitVec 6)
  /-- SS_LINK_FAILURE (R177): A SuperSpeed link failure on an ENABLED port moves it to DISABLED and makes its device
  contexts GONE. -/
  | ssLinkFailure (p : BitVec 9)
  /-- FAR_END_TERMINATION_FOUND (R358): RxDetect on a POWERED port 0 to 63 finds far-end termination, and LINK moves
  from RXDETECT to TRAINING as SuperSpeed training starts. -/
  | farEndTerminationFound (p : BitVec 9)
  /-- ENGINE_RESTART_DONE (R293): A restarted list, tenant, ring or management engine completes its restart and reads
  RUN again, so that its duties may return. -/
  | engineRestartDone (e : Engine)
  /-- L1_EXIT_LATENCY_END (R198): After the K drive and the BESL exit latency, a port leaving L1 is back in L0 and
  transactions start again. -/
  | l1ExitLatencyEnd (p : BitVec 9)
  /-- SVC_HOST_SUSPEND (R266): The host suspends or resumes the service port, which changes SVC_STATUS.SUSPENDED and
  slot 42's vote. -/
  | svcHostSuspend (suspend : Bool)
  /-- SVC_STANDARD_REQUEST (R205): A standard control request from the host on service endpoint 0x00, such as
  SET_ADDRESS or SET_CONFIGURATION, updates SVC_STATUS and slot 42, or an unsupported one gets a protocol STALL. -/
  | svcStandardRequest (r : SvcStd)
  /-- SBD_FRAME_CRC_FAIL (R71): A sideband frame received with a bad CRC, a bad inserted bit or an unresolved
  collision is discarded and counted in SBD_CAPTURED.CRC_ERR. -/
  | sbdFrameCrcFail (captured : Bool)
  /-- MICROFRAME_BOUNDARY (R140): At each microframe boundary the planner seals and opens plans, releases ISSUE
  operations, completes late isochronous OUT UNDERRUN and ports send SOF. -/
  | microframeBoundary
  /-- MODE_TRANSITION_COMPLETE (R102): An accepted mode transition completes, MODE takes the target value and PENDING
  clears. -/
  | modeTransitionComplete
  /-- COLD_POWER_UP (R308): A phantom feed coming within range on either ring port, after both were absent, starts
  the COLD reset sequence. -/
  | coldPowerUp
  /-- IMAGE_HASH_CHECKED (R308): The hash of the selected slot completes and every engine loads its firmware from
  that slot. -/
  | imageHashChecked
  /-- BOOT_COMPLETE (R308): The engines' self-check ends, MODE reads HOLD, the boot watchdog stops, the chip watchdog
  starts and PCIe training begins. -/
  | bootComplete
  /-- BOOT_WDOG_EXPIRE (R309): MODE has not read HOLD within 50 ms of the reset release, so a chip reset with cause
  BOOT_WDOG starts and BOOT_FAILS increments. -/
  | bootWdogExpire
  /-- CHIP_WDOG_KICK (R321): Management firmware kicks the chip watchdog every 10 ms while all management duties pass
  their heartbeat checks. -/
  | chipWdogKick
  /-- CHIP_WDOG_EXPIRE (R321): No kick arrives for AON_WDOG.PERIOD, so AON sends a FAULT frame, closes the bypass and
  starts a chip reset with cause CHIP_WDOG. -/
  | chipWdogExpire
  /-- AUTO_JOIN_TIMER (R62): 2 ms after MODE first reads HOLD, or after a deep exit, a chip with AUTO_JOIN = 1 joins
  the ring and opens its bypass switches. -/
  | autoJoinTimer
  /-- ORPHAN_TIMEOUT (R66): 200 µs after a break with no TOPO from the head, the chip sets SEG_ROLE = ORPHAN and
  behaves under R67. -/
  | orphanTimeout
  /-- PLANNED_CLOSE_TIMER (R63): 2 µs after the wrap microframe, the leaving chip idles its transmit lanes and closes
  its bypass switches. -/
  | plannedCloseTimer
  /-- LOCK_LOST_TIMEOUT (R58): 64 consecutive microframes without a usable timing cell clear LOCKED and raise
  TIME_LOST. -/
  | lockLostTimeout
  /-- PCIE_LINK_TRAINED (R76): The PCIe link trains, and in HOLD with AUTO_ELECT = 1 the chip sends an ELECT frame. -/
  | pcieLinkTrained
  /-- ELECT_WINDOW_END (R76): The 2 ms window of a CANDIDATE closes with no lower ELECT or HEAD_CLAIM heard, and
  STATE becomes WON. -/
  | electWindowEnd
  /-- HEAD_CLAIM_TIMER (R77): Every 100 ms a head, including one in SEVERED, sends a HEAD_CLAIM frame. -/
  | headClaimTimer
  /-- SBD_BACKOFF_EXPIRE (R75): The back-off wait ends and the frame is tried again. -/
  | sbdBackoffExpire
  /-- SBD_FRAME_SENT (R75): A frame completes its EOF, and a software frame sets SBD_TX.DONE. -/
  | sbdFrameSent
  /-- TQ_INVAL_DONE (R116): The invalidation completes, BUSY clears, DONE sets and IN_SERVICE gives the unaffected
  entries. -/
  | tqInvalDone
  /-- SVC_EVENT_READ (R208): A host read of interrupt endpoint 0x82 returns the accumulated event record and clears
  it. -/
  | svcEventRead
  /-- SVC_RESPONSE_READ (R205): The host reads the response from endpoint 0x81 until a short packet, freeing the
  request buffer. -/
  | svcResponseRead
  /-- BYPASS_CLOSE_TIMEOUT (R270): A bypass switch not reporting closed within 10 µs stops the entry and reports
  INTERNAL. -/
  | bypassCloseTimeout
  /-- ENTRY_UNDONE (R270): A stopped deep entry finishes undoing its steps, leaving the chip in HOLD with STEP_FAIL
  set. -/
  | entryUndone
  /-- CHIP_ENTRY_DONE (R270): A deep entry completes with PSTATE 3, 4 or 5, and a held wake then starts the exit. -/
  | chipEntryDone
  /-- CHIP_EXIT_DONE (R272): A P3 or P4 exit completes in P0 and HOLD with WOKE set. -/
  | chipExitDone
  /-- AUTO_P1_DELAY (R267): The profile's automatic-P1 delay after the chip becomes idle withdraws slot 36. -/
  | autoP1Delay
  /-- RTC_TICK (R275): The RTC advances one 1/32,768 s tick and AON's RCT advances. -/
  | rtcTick
  /-- PHANTOM_FEED_LOSS (R282): Both feeds lost beyond the ride-through remove AON power, leading to a COLD reset
  with RTC_LOST. -/
  | phantomFeedLoss
  /-- DCO_STEP_DOWN (R331): Every 10 µs while one feed alone carries more than 0.97 A, every digital island's DCO
  drops one step. -/
  | dcoStepDown
  /-- DCO_STEP_UP (R331): Every 100 µs while the current is below 0.85 A or both feeds are present, the DCO rises one
  step. -/
  | dcoStepUp
  /-- LANE_HEARTBEAT_LOSS (R303): A ring lane-group island's heartbeat absent for 20 µs makes AON close the bypass
  switches. -/
  | laneHeartbeatLoss
  /-- THERMAL_SHUTDOWN (R344): A sensor at 125 °C or more for 1 ms makes AON log THERMAL, send a FAULT frame, force
  P5 and arm a 10 s alarm. -/
  | thermalShutdown
  /-- ACTIVATE_RESTART (R316): 1 ms after the ACTIVATE completion a chip reset with cause ACTIVATE starts. -/
  | activateRestart
  /-- TAP_RESET (R345): A TAP reset selects IDCODE. -/
  | tapReset
  /-- IDCODE (R345): The IDCODE instruction selects the identification register. -/
  | idcode
  /-- CLAMP (R347): The CLAMP instruction holds the preloaded values on the balls and selects BYPASS. -/
  | clamp
  /-- HIGHZ (R347): The HIGHZ instruction sets every output high-impedance and selects BYPASS. -/
  | highz
  /-- MODULE_REMOVE (R339): Removing a module closes the shorting contacts, then breaks the lanes, then the straps. -/
  | moduleRemove
  /-- RECOVERED_CLOCK_FAIL (R25): In SEVERED after MEMBER, or as ORPHAN, failure of the ring-recovered clock switches
  the PHY reference to the resonator within 1 µs. -/
  | recoveredClockFail
deriving DecidableEq, Repr

end Sys2Proof
end

