-- ==== Sys2Proof/Decode.lean ====
section
/-!
DEFINITION. The word decoder of the host's interface. The opcode table gives none of the block's commands any bits (every
row's `fields` is empty): no word spells a command (assumption 12).
-/
namespace Sys2Proof

/-- The command that a word of n bits spells by the table's bits: none, since the table gives no row bits. -/
def decodeTableWord (nbits w : Nat) : Option Instr :=
  match nbits, w with
  | _, _ => none

end Sys2Proof
end

