-- ==== Sys2Proof/Config.lean ====
section
/-!
DEFINITION. What the spec leaves to the part or leaves open, as constants without a body: nothing in Lean can evaluate one,
so a claim holds whatever they are (assumption 2).
-/
namespace Sys2Proof.Config

/-- The 64-bit die serial number (MGT_SERIAL_LO, MGT_SERIAL_HI, R59). -/
opaque dieSerial : BitVec 64

/-- The version of the ROM firmware (NVM_ROM_VER, R314). -/
opaque romVersion : Word

/-- The VERSION of the image that the part is shipped with (R310, R314). -/
opaque factoryVersion : Word

/-- The SECVER of the image that the part is shipped with (R310). -/
opaque factorySecver : BitVec 16

/-- Whether an image header's ECDSA signature is valid under the ROM key it names; the keys are not published (R310). -/
opaque sigValid : List Byte → Bool

/-- SHA-384 of some bytes, which the spec names and does not give (R310). -/
opaque sha384 : List Byte → List Byte

/-- The code that MGT_ACCESS_LAST.AUTH shows for debug authority, which has no AUTH code (R96, R101). -/
opaque debugAuth : BitVec 3

/-- The LFSR of R75, whose polynomial the spec does not give: the seed from SLOT and serial number. -/
opaque lfsrSeed : BitVec 6 → BitVec 64 → BitVec 16

/-- Lanisyn's USB vendor identifier, which the spec does not give (R204). -/
opaque vendorId : BitVec 16

/-- The LFSR of R75: its next value. -/
opaque lfsrNext : BitVec 16 → BitVec 16

/-- The operation that a DMA tag names, whose layout the spec does not give (R46): the flow of an endpoint context below 8,192,
and a software channel from there on. -/
opaque dmaTag : Word → BitVec 14

/-- The DMA tag of such an operation, as the chip's own cells carry it (R46). -/
opaque dmaTagOf : BitVec 14 → Word

/-- The payload bytes of a TOPO cell, a FAULT cell and a POST cell, whose layouts the spec does not give (R46). -/
opaque topoPay : TopoMsg → List Byte
opaque faultPay : BitVec 64 → BitVec 16 → List Byte
opaque postPay : PostMsg → List Byte

/-- The values that the spec leaves open, one for each reading of the counter `State.fresh` (assumption 2). -/
opaque freeValue : Nat → Word

end Sys2Proof.Config
end

