-- ==== Sys2Proof/Machine/Bits.lean ====
section
/-!
DEFINITION. Bit fields of 32-bit words, byte order, sparse tables in one canonical form, and the two CRCs of the spec.
-/
namespace Sys2Proof.Machine

/-- A field of a register: the register's offset in its page, the lowest bit, the width (R9, R10). -/
structure Fld where
  off : Nat
  lo : Nat
  w : Nat
deriving DecidableEq, Repr

/-- The bits of a field, as a mask on the word. -/
def fmask (f : Fld) : Word := BitVec.ofNat 32 ((2 ^ f.w - 1) * 2 ^ f.lo)

/-- The value of a field of a word. -/
def fget (x : Word) (f : Fld) : Nat := x.toNat / 2 ^ f.lo % 2 ^ f.w

/-- The word with a field replaced; a value too wide is cut to the field's width. -/
def fput (x : Word) (f : Fld) (v : Nat) : Word :=
  (x &&& ~~~ fmask f) ||| BitVec.ofNat 32 (v % 2 ^ f.w * 2 ^ f.lo)

/-- Bits [lo + w - 1 : lo] of a dword (R11). -/
def bits (x : Word) (lo w : Nat) : Nat := x.toNat / 2 ^ lo % 2 ^ w

/-- Bits [lo + w - 1 : lo] of a 64-bit quantity. -/
def bits64 (x : BitVec 64) (lo w : Nat) : Nat := x.toNat / 2 ^ lo % 2 ^ w

/-- Bit n of a word. -/
def bit (x : Word) (n : Nat) : Bool := x.toNat / 2 ^ n % 2 == 1

/-- The word that has bit n alone. -/
def bitW (n : Nat) : Word := BitVec.ofNat 32 (2 ^ n)

/-- A truth value as a field value. -/
def b2n (b : Bool) : Nat := if b then 1 else 0

/-- A 64-bit quantity from its two dwords, the low half first (R8, R11). -/
def join64 (lo hi : Word) : BitVec 64 := BitVec.ofNat 64 (lo.toNat + hi.toNat * 2 ^ 32)

/-- The low dword of a 64-bit quantity. -/
def lo32 (x : BitVec 64) : Word := BitVec.ofNat 32 x.toNat

/-- The high dword of a 64-bit quantity. -/
def hi32 (x : BitVec 64) : Word := BitVec.ofNat 32 (x.toNat / 2 ^ 32)

/-- The n low bytes of a number, the lowest first (R11). -/
def leBytes : Nat → Nat → List Byte
  | 0, _ => []
  | n + 1, v => BitVec.ofNat 8 v :: leBytes n (v / 256)

/-- The number whose bytes are given, the lowest first (R11). -/
def ofLe : List Byte → Nat
  | [] => 0
  | b :: bs => b.toNat + 256 * ofLe bs

/-- The number whose bytes are given, the highest first. -/
def ofBe (bs : List Byte) : Nat := bs.foldl (fun a b => a * 256 + b.toNat) 0

/-- The bytes of a list of dwords (R11). -/
def wordBytes (ws : List Word) : List Byte := ws.flatMap (fun w => leBytes 4 w.toNat)

/-- Dword n of an entry; a dword that is missing is 0. -/
def dw (e : List Word) (n : Nat) : Word := e.getD n 0

/-- `min` of a count and the largest value of a field of w bits: saturation (R10 tables). -/
def satTo (w v : Nat) : Nat := min v (2 ^ w - 1)

/-- `ceil (a / b)`. -/
def ceilDiv (a b : Nat) : Nat := (a + b - 1) / b

/-! ### Sparse tables -/

/-- Entries by key. The canonical form: keys strictly rising, no entry equal to what an unlisted key reads as. -/
abbrev Tab (α : Type) := List (Nat × α)

/-- The entry at a key; an unlisted key reads as the default there. -/
def tabGet {α : Type} (d : Nat → α) : Tab α → Nat → α
  | [], k => d k
  | p :: t, k => if p.1 = k then p.2 else tabGet d t k

/-- A table without a key. -/
def tabDel {α : Type} (t : Tab α) (k : Nat) : Tab α := t.filter (fun p => !(p.1 == k))

/-- A table with an entry put before the first greater key. -/
def tabIns {α : Type} (k : Nat) (v : α) : Tab α → Tab α
  | [] => [(k, v)]
  | p :: t => if k < p.1 then (k, v) :: p :: t else p :: tabIns k v t

/-- A table with the entry at a key replaced; an entry equal to the default is taken out. -/
def tabSet {α : Type} [DecidableEq α] (d : Nat → α) (t : Tab α) (k : Nat) (v : α) : Tab α :=
  if v = d k then tabDel t k else tabIns k v (tabDel t k)

/-- The keys of a table rise strictly. -/
def tabSorted {α : Type} : Tab α → Bool
  | [] => true
  | [_] => true
  | p :: q :: t => decide (p.1 < q.1) && tabSorted (q :: t)

/-- The canonical form of a table. -/
def tabWf {α : Type} [DecidableEq α] (d : Nat → α) (t : Tab α) : Bool :=
  tabSorted t && t.all (fun p => !decide (p.2 = d p.1))

/-- Every listed entry put through a function; an entry that becomes the default is taken out. -/
def tabMap {α : Type} [DecidableEq α] (d : Nat → α) (f : Nat → α → α) (t : Tab α) : Tab α :=
  t.foldl (fun acc p => tabSet d acc p.1 (f p.1 p.2)) []

/-- The least key from a start that a table does not list, among the next n. -/
def tabFree {α : Type} (t : Tab α) : Nat → Nat → Option Nat
  | 0, _ => none
  | n + 1, k => if t.any (fun p => p.1 == k) then tabFree t n (k + 1) else some k

/-! ### Byte memories (EBM of R209, the MRAM slots of R310) -/

/-- A byte of a memory; what nothing has written reads as 0 (assumption 3). -/
def memGet (m : Tab Byte) (a : Nat) : Byte := tabGet (fun _ => 0) m a

/-- A byte written. -/
def memSet (m : Tab Byte) (a : Nat) (b : Byte) : Tab Byte := tabSet (fun _ => 0) m a b

/-- n bytes from an address. -/
def memRead (m : Tab Byte) (a : Nat) : Nat → List Byte
  | 0 => []
  | n + 1 => memGet m a :: memRead m (a + 1) n

/-- Bytes written from an address. -/
def memWrite (m : Tab Byte) (a : Nat) : List Byte → Tab Byte
  | [] => m
  | b :: bs => memWrite (memSet m a b) (a + 1) bs

/-- The canonical form of a byte memory. -/
def Memory.wf (m : Tab Byte) : Bool := tabWf (fun _ => (0 : Byte)) m

/-! ### The CRCs -/

/-- One bit of the CRC of polynomial 0x1021, most significant bit first (R45, R71). -/
def crc16Bit (c : Nat) (b : Bool) : Nat :=
  let x := c * 2 % 65536
  if (c / 32768 % 2 == 1) != b then Nat.xor x 0x1021 else x

/-- One byte of it, its most significant bit first. -/
def crc16Byte (c : Nat) (b : Byte) : Nat :=
  [7, 6, 5, 4, 3, 2, 1, 0].foldl (fun c i => crc16Bit c (b.toNat / 2 ^ i % 2 == 1)) c

/-- The CRC of a cell (R45) or of a sideband frame (R71): initial value 0xFFFF. -/
def crc16 (bs : List Byte) : Nat := bs.foldl crc16Byte 0xFFFF

/-- One byte of the CRC-32 of IEEE 802.3, reflected (R92). -/
def crc32Byte (c : Nat) (b : Byte) : Nat :=
  [0, 1, 2, 3, 4, 5, 6, 7].foldl
    (fun c _ => if c % 2 == 1 then Nat.xor (c / 2) 0xEDB88320 else c / 2) (Nat.xor c b.toNat)

/-- The CRC-32 of R92: initial value and final XOR 0xFFFF_FFFF. -/
def crc32 (bs : List Byte) : Nat := Nat.xor (bs.foldl crc32Byte 0xFFFFFFFF) 0xFFFFFFFF

end Sys2Proof.Machine
end

