-- ==== Sys2Proof/Machine/Fields.lean ====
section
/-!
DEFINITION. The fields of every register of the spec, from the register tables of spec/00 to spec/11: each is the
register's offset in its page (for a register that repeats, the offset of its first copy), the lowest bit and the width.
For a window register the offset is the one in the window (R84).
-/
namespace Sys2Proof.Machine

/-- PAGE_SCRATCH, Any page, offset 0x034 (spec/00_scope.md). -/
def PAGE_SCRATCH_SCRATCH : Fld := ⟨0x034, 0, 32⟩
/-- RING_POSITION, Page 0x03, offset 0x040 (spec/02_ring_and_sideband.md). -/
def RING_POSITION_SLOT : Fld := ⟨0x040, 0, 6⟩
def RING_POSITION_POS : Fld := ⟨0x040, 8, 6⟩
def RING_POSITION_HEAD_SLOT : Fld := ⟨0x040, 16, 6⟩
def RING_POSITION_HEAD_VALID : Fld := ⟨0x040, 22, 1⟩
def RING_POSITION_DUP : Fld := ⟨0x040, 23, 1⟩
def RING_POSITION_N_LIVE : Fld := ⟨0x040, 24, 8⟩
/-- RING_CONTROL, Page 0x03, offset 0x044 (spec/02_ring_and_sideband.md). -/
def RING_CONTROL_AUTO_JOIN : Fld := ⟨0x044, 0, 1⟩
def RING_CONTROL_AUTO_HEAL : Fld := ⟨0x044, 1, 1⟩
def RING_CONTROL_BYPASS_REQ : Fld := ⟨0x044, 2, 1⟩
def RING_CONTROL_FORCE_WRAP : Fld := ⟨0x044, 3, 2⟩
def RING_CONTROL_RETRAIN : Fld := ⟨0x044, 5, 1⟩
def RING_CONTROL_JOIN : Fld := ⟨0x044, 6, 1⟩
/-- RING_STATUS, Page 0x03, offset 0x048 (spec/02_ring_and_sideband.md). -/
def RING_STATUS_EAST_LINK : Fld := ⟨0x048, 0, 2⟩
def RING_STATUS_WEST_LINK : Fld := ⟨0x048, 2, 2⟩
def RING_STATUS_EAST_WRAP : Fld := ⟨0x048, 4, 1⟩
def RING_STATUS_WEST_WRAP : Fld := ⟨0x048, 5, 1⟩
def RING_STATUS_BYPASS_CLOSED : Fld := ⟨0x048, 6, 1⟩
def RING_STATUS_SEG_ROLE : Fld := ⟨0x048, 8, 2⟩
def RING_STATUS_TRAINING_FAIL : Fld := ⟨0x048, 10, 6⟩
def RING_STATUS_EPOCH : Fld := ⟨0x048, 16, 8⟩
/-- RING_LOSS, Page 0x03, offset 0x04C (spec/02_ring_and_sideband.md). -/
def RING_LOSS_EAST_LOSS : Fld := ⟨0x04C, 0, 8⟩
def RING_LOSS_WEST_LOSS : Fld := ⟨0x04C, 8, 8⟩
def RING_LOSS_EAST_GAP : Fld := ⟨0x04C, 16, 4⟩
def RING_LOSS_WEST_GAP : Fld := ⟨0x04C, 20, 4⟩
/-- RING_DELAY, Page 0x03, offset 0x050 (spec/02_ring_and_sideband.md). -/
def RING_DELAY_EAST_DELAY : Fld := ⟨0x050, 0, 16⟩
def RING_DELAY_WEST_DELAY : Fld := ⟨0x050, 16, 16⟩
/-- RING_TIME_STATUS, Page 0x03, offset 0x054 (spec/02_ring_and_sideband.md). -/
def RING_TIME_STATUS_LOCKED : Fld := ⟨0x054, 0, 1⟩
def RING_TIME_STATUS_HOLDOVER : Fld := ⟨0x054, 1, 1⟩
def RING_TIME_STATUS_STEPPED : Fld := ⟨0x054, 2, 1⟩
def RING_TIME_STATUS_MISSED : Fld := ⟨0x054, 8, 8⟩
def RING_TIME_STATUS_OFFSET : Fld := ⟨0x054, 16, 16⟩
/-- RING_RCT_LO, Page 0x03, offset 0x058 (spec/02_ring_and_sideband.md). -/
def RING_RCT_LO_RCT_LO : Fld := ⟨0x058, 0, 32⟩
/-- RING_RCT_HI, Page 0x03, offset 0x05C (spec/02_ring_and_sideband.md). -/
def RING_RCT_HI_RCT_HI : Fld := ⟨0x05C, 0, 32⟩
/-- RING_LIVE_LO, Page 0x03, offset 0x060 (spec/02_ring_and_sideband.md). -/
def RING_LIVE_LO_LIVE : Fld := ⟨0x060, 0, 32⟩
/-- RING_LIVE_HI, Page 0x03, offset 0x064 (spec/02_ring_and_sideband.md). -/
def RING_LIVE_HI_LIVE : Fld := ⟨0x064, 0, 32⟩
/-- RING_CRD_SHARE, Page 0x03, offset 0x068 (spec/02_ring_and_sideband.md). -/
def RING_CRD_SHARE_W0 : Fld := ⟨0x068, 0, 8⟩
def RING_CRD_SHARE_W1 : Fld := ⟨0x068, 8, 8⟩
def RING_CRD_SHARE_W2 : Fld := ⟨0x068, 16, 8⟩
def RING_CRD_SHARE_W3 : Fld := ⟨0x068, 24, 8⟩
/-- RING_ERR_CNT, Page 0x03, offset 0x0A8 (spec/02_ring_and_sideband.md). -/
def RING_ERR_CNT_CRC_ERR : Fld := ⟨0x0A8, 0, 16⟩
def RING_ERR_CNT_SEQ_GAP : Fld := ⟨0x0A8, 16, 16⟩
/-- RING_DROP_CNT, Page 0x03, offset 0x0AC (spec/02_ring_and_sideband.md). -/
def RING_DROP_CNT_AUTH_DROP : Fld := ⟨0x0AC, 0, 16⟩
def RING_DROP_CNT_HOP_DROP : Fld := ⟨0x0AC, 16, 8⟩
def RING_DROP_CNT_NODST : Fld := ⟨0x0AC, 24, 8⟩
/-- SBD_CONTROL, Page 0x04, offset 0x040 (spec/02_ring_and_sideband.md). -/
def SBD_CONTROL_ENABLE : Fld := ⟨0x040, 0, 1⟩
def SBD_CONTROL_ELECT_GO : Fld := ⟨0x040, 1, 1⟩
def SBD_CONTROL_AUTO_ELECT : Fld := ⟨0x040, 2, 1⟩
/-- SBD_ELECT, Page 0x04, offset 0x044 (spec/02_ring_and_sideband.md). -/
def SBD_ELECT_STATE : Fld := ⟨0x044, 0, 2⟩
def SBD_ELECT_WINNER : Fld := ⟨0x044, 8, 6⟩
def SBD_ELECT_WINNER_VALID : Fld := ⟨0x044, 15, 1⟩
/-- SBD_TX, Page 0x04, offset 0x048 (spec/02_ring_and_sideband.md). -/
def SBD_TX_TYPE : Fld := ⟨0x048, 0, 4⟩
def SBD_TX_GO : Fld := ⟨0x048, 8, 1⟩
def SBD_TX_BUSY : Fld := ⟨0x048, 9, 1⟩
def SBD_TX_DONE : Fld := ⟨0x048, 10, 1⟩
def SBD_TX_FAILED : Fld := ⟨0x048, 11, 1⟩
/-- SBD_TX_BODY, Page 0x04, offset 0x04C (spec/02_ring_and_sideband.md). -/
def SBD_TX_BODY_BODY : Fld := ⟨0x04C, 0, 32⟩
/-- SBD_CAPTURED, Page 0x04, offset 0x060 (spec/02_ring_and_sideband.md). -/
def SBD_CAPTURED_CAPTURED : Fld := ⟨0x060, 0, 16⟩
def SBD_CAPTURED_CRC_ERR : Fld := ⟨0x060, 16, 16⟩
/-- SBD_COUNTS, Page 0x04, offset 0x064 (spec/02_ring_and_sideband.md). -/
def SBD_COUNTS_COLLIDED : Fld := ⟨0x064, 0, 16⟩
def SBD_COUNTS_TX_FAIL : Fld := ⟨0x064, 16, 16⟩
/-- PAGE_ID, Any page, offset 0x000 (spec/03_register_pages.md). -/
def PAGE_ID_TYPE : Fld := ⟨0x000, 0, 8⟩
def PAGE_ID_INSTANCE : Fld := ⟨0x000, 8, 8⟩
def PAGE_ID_LAYOUT : Fld := ⟨0x000, 16, 8⟩
/-- PAGE_CAPS, Any page, offset 0x004 (spec/03_register_pages.md). -/
def PAGE_CAPS_CAPS : Fld := ⟨0x004, 0, 29⟩
def PAGE_CAPS_LIFELINE : Fld := ⟨0x004, 29, 1⟩
def PAGE_CAPS_WAKEABLE : Fld := ⟨0x004, 30, 1⟩
def PAGE_CAPS_VOTABLE : Fld := ⟨0x004, 31, 1⟩
/-- PAGE_STATUS, Any page, offset 0x008 (spec/03_register_pages.md). -/
def PAGE_STATUS_PSTATE : Fld := ⟨0x008, 0, 3⟩
def PAGE_STATUS_CLK_ON : Fld := ⟨0x008, 3, 1⟩
def PAGE_STATUS_IN_RESET : Fld := ⟨0x008, 4, 1⟩
def PAGE_STATUS_ERR : Fld := ⟨0x008, 5, 1⟩
def PAGE_STATUS_EVT : Fld := ⟨0x008, 6, 1⟩
def PAGE_STATUS_LOCKED : Fld := ⟨0x008, 7, 1⟩
def PAGE_STATUS_CHECK_FAIL : Fld := ⟨0x008, 8, 1⟩
/-- PAGE_CONTROL, Any page, offset 0x00C (spec/03_register_pages.md). -/
def PAGE_CONTROL_ENABLE : Fld := ⟨0x00C, 0, 1⟩
def PAGE_CONTROL_SOFT_RESET : Fld := ⟨0x00C, 1, 1⟩
def PAGE_CONTROL_WAKE_ON_ACCESS : Fld := ⟨0x00C, 2, 1⟩
/-- VOTE_SET, Any page, offset 0x010 (spec/03_register_pages.md). -/
def VOTE_SET_SLOTS : Fld := ⟨0x010, 0, 32⟩
/-- VOTE_CLEAR, Any page, offset 0x014 (spec/03_register_pages.md). -/
def VOTE_CLEAR_SLOTS : Fld := ⟨0x014, 0, 32⟩
/-- VOTE_HELD, Any page, offset 0x018 (spec/03_register_pages.md). -/
def VOTE_HELD_SLOTS : Fld := ⟨0x018, 0, 32⟩
/-- PAGE_DARK, Any page, offset 0x01C (spec/03_register_pages.md). -/
def PAGE_DARK_READS : Fld := ⟨0x01C, 0, 12⟩
def PAGE_DARK_WRITES : Fld := ⟨0x01C, 12, 12⟩
def PAGE_DARK_WAKES : Fld := ⟨0x01C, 24, 8⟩
/-- ERR_STATUS, Any page, offset 0x020 (spec/03_register_pages.md). -/
def ERR_STATUS_ERR : Fld := ⟨0x020, 0, 32⟩
/-- ERR_ENABLE, Any page, offset 0x024 (spec/03_register_pages.md). -/
def ERR_ENABLE_EN : Fld := ⟨0x024, 0, 32⟩
/-- ERR_FIRST, Any page, offset 0x028 (spec/03_register_pages.md). -/
def ERR_FIRST_BIT : Fld := ⟨0x028, 0, 5⟩
def ERR_FIRST_VALID : Fld := ⟨0x028, 5, 1⟩
def ERR_FIRST_RCT : Fld := ⟨0x028, 8, 24⟩
/-- EVENT_STATUS, Any page, offset 0x02C (spec/03_register_pages.md). -/
def EVENT_STATUS_EVT : Fld := ⟨0x02C, 0, 32⟩
/-- EVENT_ENABLE, Any page, offset 0x030 (spec/03_register_pages.md). -/
def EVENT_ENABLE_EN : Fld := ⟨0x030, 0, 32⟩
/-- PAGE_LOCK, Any page, offset 0x038 (spec/03_register_pages.md). -/
def PAGE_LOCK_LOCK : Fld := ⟨0x038, 0, 1⟩
def PAGE_LOCK_BLOCKED : Fld := ⟨0x038, 16, 16⟩
/-- PAGE_CHECK, Any page, offset 0x03C (spec/03_register_pages.md). -/
def PAGE_CHECK_CHECK : Fld := ⟨0x03C, 0, 32⟩
/-- MGT_ID, Page 0x00, offset 0x040 (spec/03_register_pages.md). -/
def MGT_ID_PART : Fld := ⟨0x040, 0, 16⟩
def MGT_ID_STEP_MAJOR : Fld := ⟨0x040, 16, 4⟩
def MGT_ID_STEP_MINOR : Fld := ⟨0x040, 20, 4⟩
/-- MGT_SERIAL_LO, Page 0x00, offset 0x044 (spec/03_register_pages.md). -/
def MGT_SERIAL_LO_SERIAL_LO : Fld := ⟨0x044, 0, 32⟩
/-- MGT_SERIAL_HI, Page 0x00, offset 0x048 (spec/03_register_pages.md). -/
def MGT_SERIAL_HI_SERIAL_HI : Fld := ⟨0x048, 0, 32⟩
/-- MGT_MODE, Page 0x00, offset 0x04C (spec/03_register_pages.md). -/
def MGT_MODE_MODE : Fld := ⟨0x04C, 0, 3⟩
def MGT_MODE_PENDING : Fld := ⟨0x04C, 3, 1⟩
def MGT_MODE_TARGET : Fld := ⟨0x04C, 4, 3⟩
def MGT_MODE_PREV : Fld := ⟨0x04C, 8, 3⟩
def MGT_MODE_ROLE : Fld := ⟨0x04C, 12, 2⟩
/-- MGT_MODE_REFUSED, Page 0x00, offset 0x050 (spec/03_register_pages.md). -/
def MGT_MODE_REFUSED_REQ : Fld := ⟨0x050, 0, 3⟩
def MGT_MODE_REFUSED_FROM : Fld := ⟨0x050, 4, 3⟩
def MGT_MODE_REFUSED_REASON : Fld := ⟨0x050, 8, 4⟩
def MGT_MODE_REFUSED_COUNT : Fld := ⟨0x050, 16, 16⟩
/-- MGT_ACCESS_REFUSED, Page 0x00, offset 0x054 (spec/03_register_pages.md). -/
def MGT_ACCESS_REFUSED_COUNT : Fld := ⟨0x054, 0, 16⟩
/-- MGT_ACCESS_LAST, Page 0x00, offset 0x058 (spec/03_register_pages.md). -/
def MGT_ACCESS_LAST_OFFSET : Fld := ⟨0x058, 0, 12⟩
def MGT_ACCESS_LAST_PAGE : Fld := ⟨0x058, 12, 8⟩
def MGT_ACCESS_LAST_PORT : Fld := ⟨0x058, 20, 3⟩
def MGT_ACCESS_LAST_AUTH : Fld := ⟨0x058, 23, 3⟩
def MGT_ACCESS_LAST_WRITE : Fld := ⟨0x058, 26, 1⟩
def MGT_ACCESS_LAST_REASON : Fld := ⟨0x058, 27, 3⟩
/-- MGT_RESET, Page 0x00, offset 0x05C (spec/03_register_pages.md). -/
def MGT_RESET_GO : Fld := ⟨0x05C, 0, 1⟩
/-- INST_QPI, Instance window, offset 0x1000 (spec/04_work_queues.md). -/
def INST_QPI_INDEX : Fld := ⟨0x1000, 0, 16⟩
/-- INST_QCI, Instance window, offset 0x1004 (spec/04_work_queues.md). -/
def INST_QCI_INDEX : Fld := ⟨0x1004, 0, 16⟩
/-- INST_AQ_BASE_LO, Instance window, offset 0x100 (spec/04_work_queues.md). -/
def INST_AQ_BASE_LO_BASE_LO : Fld := ⟨0x100, 6, 26⟩
/-- INST_AQ_BASE_HI, Instance window, offset 0x104 (spec/04_work_queues.md). -/
def INST_AQ_BASE_HI_BASE_HI : Fld := ⟨0x104, 0, 32⟩
/-- INST_AQ_CFG, Instance window, offset 0x108 (spec/04_work_queues.md). -/
def INST_AQ_CFG_LOG2SIZE : Fld := ⟨0x108, 0, 5⟩
def INST_AQ_CFG_ENABLE : Fld := ⟨0x108, 8, 1⟩
/-- INST_AQ_IDX, Instance window, offset 0x10C (spec/04_work_queues.md). -/
def INST_AQ_IDX_PI : Fld := ⟨0x10C, 0, 16⟩
def INST_AQ_IDX_CI : Fld := ⟨0x10C, 16, 16⟩
/-- INST_ACQ_BASE_LO, Instance window, offset 0x110 (spec/04_work_queues.md). -/
def INST_ACQ_BASE_LO_BASE_LO : Fld := ⟨0x110, 6, 26⟩
/-- INST_ACQ_BASE_HI, Instance window, offset 0x114 (spec/04_work_queues.md). -/
def INST_ACQ_BASE_HI_BASE_HI : Fld := ⟨0x114, 0, 32⟩
/-- INST_ACQ_CFG, Instance window, offset 0x118 (spec/04_work_queues.md). -/
def INST_ACQ_CFG_LOG2SIZE : Fld := ⟨0x118, 0, 5⟩
def INST_ACQ_CFG_VECTOR : Fld := ⟨0x118, 8, 8⟩
def INST_ACQ_CFG_IRQ_EN : Fld := ⟨0x118, 16, 1⟩
/-- INST_ACQ_IDX, Instance window, offset 0x11C (spec/04_work_queues.md). -/
def INST_ACQ_IDX_PI : Fld := ⟨0x11C, 0, 16⟩
def INST_ACQ_IDX_CI : Fld := ⟨0x11C, 16, 16⟩
/-- INST_ADM_STATUS, Instance window, offset 0x120 (spec/04_work_queues.md). -/
def INST_ADM_STATUS_RUNNING : Fld := ⟨0x120, 0, 1⟩
def INST_ADM_STATUS_CFG_ERR : Fld := ⟨0x120, 1, 1⟩
def INST_ADM_STATUS_ACQ_FULL : Fld := ⟨0x120, 2, 1⟩
def INST_ADM_STATUS_QUIESCED : Fld := ⟨0x120, 3, 1⟩
def INST_ADM_STATUS_IDX_ERR : Fld := ⟨0x120, 4, 1⟩
/-- LE_STATUS, Page 0x20 + j, offset 0x040 (spec/04_work_queues.md). -/
def LE_STATUS_STATE : Fld := ⟨0x040, 0, 2⟩
def LE_STATUS_RESTARTS : Fld := ⟨0x040, 8, 8⟩
def LE_STATUS_QUEUES : Fld := ⟨0x040, 16, 16⟩
/-- LE_WDOG, Page 0x20 + j, offset 0x044 (spec/04_work_queues.md). -/
def LE_WDOG_PERIOD : Fld := ⟨0x044, 0, 16⟩
def LE_WDOG_EXPIRED : Fld := ⟨0x044, 16, 16⟩
/-- LE_FW, Page 0x20 + j, offset 0x048 (spec/04_work_queues.md). -/
def LE_FW_BUILD : Fld := ⟨0x048, 0, 16⟩
def LE_FW_MINOR : Fld := ⟨0x048, 16, 8⟩
def LE_FW_MAJOR : Fld := ⟨0x048, 24, 8⟩
/-- TQ_INVAL, Page 0x20, offset 0x080 (spec/04_work_queues.md). -/
def TQ_INVAL_TQ : Fld := ⟨0x080, 0, 12⟩
def TQ_INVAL_GO : Fld := ⟨0x080, 16, 1⟩
def TQ_INVAL_BUSY : Fld := ⟨0x080, 17, 1⟩
/-- TQ_INVAL_RANGE, Page 0x20, offset 0x084 (spec/04_work_queues.md). -/
def TQ_INVAL_RANGE_START : Fld := ⟨0x084, 0, 16⟩
def TQ_INVAL_RANGE_COUNT : Fld := ⟨0x084, 16, 16⟩
/-- TQ_INVAL_RESULT, Page 0x20, offset 0x088 (spec/04_work_queues.md). -/
def TQ_INVAL_RESULT_IN_SERVICE : Fld := ⟨0x088, 0, 16⟩
def TQ_INVAL_RESULT_DONE : Fld := ⟨0x088, 16, 1⟩
/-- PLN_PROFILE, Page 0x08, offset 0x040 (spec/05_microframe_planner.md). -/
def PLN_PROFILE_PROFILE : Fld := ⟨0x040, 0, 2⟩
def PLN_PROFILE_ACTIVE : Fld := ⟨0x040, 4, 2⟩
/-- PLN_HORIZON, Page 0x08, offset 0x044 (spec/05_microframe_planner.md). -/
def PLN_HORIZON_H : Fld := ⟨0x044, 0, 4⟩
def PLN_HORIZON_PLANNED : Fld := ⟨0x044, 4, 4⟩
/-- PLN_STATUS, Page 0x08, offset 0x048 (spec/05_microframe_planner.md). -/
def PLN_STATUS_RUNNING : Fld := ⟨0x048, 0, 1⟩
def PLN_STATUS_STARTUP : Fld := ⟨0x048, 1, 1⟩
def PLN_STATUS_BP_ACTIVE : Fld := ⟨0x048, 2, 1⟩
def PLN_STATUS_SPILLING : Fld := ⟨0x048, 3, 1⟩
/-- PLN_UFRAME, Page 0x08, offset 0x04C (spec/05_microframe_planner.md). -/
def PLN_UFRAME_UFRAME : Fld := ⟨0x04C, 0, 32⟩
/-- PLN_WHEEL_BASE_LO, Page 0x08, offset 0x050 (spec/05_microframe_planner.md). -/
def PLN_WHEEL_BASE_LO_BASE_LO : Fld := ⟨0x050, 21, 11⟩
/-- PLN_WHEEL_BASE_HI, Page 0x08, offset 0x054 (spec/05_microframe_planner.md). -/
def PLN_WHEEL_BASE_HI_BASE_HI : Fld := ⟨0x054, 0, 32⟩
/-- PLN_SHARE, Page 0x08, offset 0x058 (spec/05_microframe_planner.md). -/
def PLN_SHARE_EBM_PCT : Fld := ⟨0x058, 0, 8⟩
def PLN_SHARE_CHIP_RING_PCT : Fld := ⟨0x058, 8, 8⟩
def PLN_SHARE_LINK_RING_PCT : Fld := ⟨0x058, 16, 8⟩
/-- PLN_COHORT_CAP, Page 0x08, offset 0x05C (spec/05_microframe_planner.md). -/
def PLN_COHORT_CAP_BYTES : Fld := ⟨0x05C, 0, 24⟩
/-- PLN_BP_CNT, Page 0x08, offset 0x060 (spec/05_microframe_planner.md). -/
def PLN_BP_CNT_DEFERRED : Fld := ⟨0x060, 0, 16⟩
def PLN_BP_CNT_BP_UFRAMES : Fld := ⟨0x060, 16, 16⟩
/-- PLN_SPILL, Page 0x08, offset 0x064 (spec/05_microframe_planner.md). -/
def PLN_SPILL_CURRENT : Fld := ⟨0x064, 0, 14⟩
def PLN_SPILL_HIGH_WATER : Fld := ⟨0x064, 16, 14⟩
/-- PLN_MISS_CNT, Page 0x08, offset 0x068 (spec/05_microframe_planner.md). -/
def PLN_MISS_CNT_MISSED : Fld := ⟨0x068, 0, 16⟩
def PLN_MISS_CNT_UNDERRUN : Fld := ⟨0x068, 16, 16⟩
/-- PLN_COHORT_CNT, Page 0x08, offset 0x06C (spec/05_microframe_planner.md). -/
def PLN_COHORT_CNT_SUPPRESSED : Fld := ⟨0x06C, 0, 16⟩
def PLN_COHORT_CNT_SERVED : Fld := ⟨0x06C, 16, 16⟩
/-- PLN_WALK, Page 0x08, offset 0x070 (spec/05_microframe_planner.md). -/
def PLN_WALK_LAST : Fld := ⟨0x070, 0, 16⟩
def PLN_WALK_MAX : Fld := ⟨0x070, 16, 16⟩
/-- CLU_PE_STATUS, Page 0x30 + c, offset 0x040 (spec/06_ports_trees_and_service_port.md). -/
def CLU_PE_STATUS_STATE : Fld := ⟨0x040, 0, 2⟩
def CLU_PE_STATUS_COVERING : Fld := ⟨0x040, 2, 1⟩
def CLU_PE_STATUS_RESTARTS : Fld := ⟨0x040, 8, 8⟩
def CLU_PE_STATUS_CAP_PCT : Fld := ⟨0x040, 16, 7⟩
/-- CLU_PE_WDOG, Page 0x30 + c, offset 0x044 (spec/06_ports_trees_and_service_port.md). -/
def CLU_PE_WDOG_PERIOD : Fld := ⟨0x044, 0, 16⟩
def CLU_PE_WDOG_EXPIRED : Fld := ⟨0x044, 16, 16⟩
/-- CLU_PE_FW, Page 0x30 + c, offset 0x048 (spec/06_ports_trees_and_service_port.md). -/
def CLU_PE_FW_BUILD : Fld := ⟨0x048, 0, 16⟩
def CLU_PE_FW_MINOR : Fld := ⟨0x048, 16, 8⟩
def CLU_PE_FW_MAJOR : Fld := ⟨0x048, 24, 8⟩
/-- PRT_STATE, Page 0x30 + c, offset 0x080 (spec/06_ports_trees_and_service_port.md). -/
def PRT_STATE_STATE : Fld := ⟨0x080, 0, 3⟩
def PRT_STATE_CONNECTED : Fld := ⟨0x080, 3, 1⟩
def PRT_STATE_SPEED : Fld := ⟨0x080, 4, 3⟩
def PRT_STATE_OVERCURRENT : Fld := ⟨0x080, 7, 1⟩
def PRT_STATE_LINK : Fld := ⟨0x080, 8, 4⟩
def PRT_STATE_OWNED : Fld := ⟨0x080, 12, 1⟩
def PRT_STATE_COVERED : Fld := ⟨0x080, 13, 1⟩
def PRT_STATE_TEST : Fld := ⟨0x080, 14, 1⟩
def PRT_STATE_OWNER : Fld := ⟨0x080, 16, 10⟩
/-- PRT_LPM, Page 0x30 + c, offset 0x084 (spec/06_ports_trees_and_service_port.md). -/
def PRT_LPM_L1_EN : Fld := ⟨0x084, 0, 1⟩
def PRT_LPM_BESL : Fld := ⟨0x084, 4, 4⟩
def PRT_LPM_U1_EN : Fld := ⟨0x084, 8, 1⟩
def PRT_LPM_U2_EN : Fld := ⟨0x084, 9, 1⟩
def PRT_LPM_U1_TIMEOUT : Fld := ⟨0x084, 16, 8⟩
def PRT_LPM_U2_TIMEOUT : Fld := ⟨0x084, 24, 8⟩
/-- PRT_COUNTS, Page 0x30 + c, offset 0x088 (spec/06_ports_trees_and_service_port.md). -/
def PRT_COUNTS_RETRIES : Fld := ⟨0x088, 0, 16⟩
def PRT_COUNTS_XACT_ERR : Fld := ⟨0x088, 16, 8⟩
def PRT_COUNTS_DISCONNECTS : Fld := ⟨0x088, 24, 8⟩
/-- SVC_STATUS, Page 0x2C, offset 0x040 (spec/06_ports_trees_and_service_port.md). -/
def SVC_STATUS_VBUS : Fld := ⟨0x040, 0, 1⟩
def SVC_STATUS_ATTACHED : Fld := ⟨0x040, 1, 1⟩
def SVC_STATUS_HIGH_SPEED : Fld := ⟨0x040, 2, 1⟩
def SVC_STATUS_CONFIGURED : Fld := ⟨0x040, 3, 1⟩
def SVC_STATUS_ADDRESS : Fld := ⟨0x040, 4, 7⟩
def SVC_STATUS_OUT_BUSY : Fld := ⟨0x040, 11, 1⟩
def SVC_STATUS_IN_READY : Fld := ⟨0x040, 12, 1⟩
def SVC_STATUS_EVT_PENDING : Fld := ⟨0x040, 13, 1⟩
def SVC_STATUS_SUSPENDED : Fld := ⟨0x040, 14, 1⟩
/-- SVC_COUNTS, Page 0x2C, offset 0x044 (spec/06_ports_trees_and_service_port.md). -/
def SVC_COUNTS_STALLS : Fld := ⟨0x044, 0, 16⟩
def SVC_COUNTS_REQUESTS : Fld := ⟨0x044, 16, 16⟩
/-- EBM_FREE, Page 0x09, offset 0x040 (spec/07_data_movement.md). -/
def EBM_FREE_FREE_KIB : Fld := ⟨0x040, 0, 16⟩
def EBM_FREE_LARGEST : Fld := ⟨0x040, 16, 4⟩
/-- EBM_ECC_CNT, Page 0x09, offset 0x044 (spec/07_data_movement.md). -/
def EBM_ECC_CNT_CE : Fld := ⟨0x044, 0, 16⟩
def EBM_ECC_CNT_UE : Fld := ⟨0x044, 16, 16⟩
/-- EBM_ECC_LOG, Page 0x09, offset 0x048 (spec/07_data_movement.md). -/
def EBM_ECC_LOG_ADDR : Fld := ⟨0x048, 0, 25⟩
def EBM_ECC_LOG_UE : Fld := ⟨0x048, 25, 1⟩
def EBM_ECC_LOG_VALID : Fld := ⟨0x048, 26, 1⟩
/-- EBM_REFRESH, Page 0x09, offset 0x04C (spec/07_data_movement.md). -/
def EBM_REFRESH_INTERVAL : Fld := ⟨0x04C, 0, 2⟩
def EBM_REFRESH_HOT_BANK : Fld := ⟨0x04C, 2, 3⟩
def EBM_REFRESH_TJ : Fld := ⟨0x04C, 8, 8⟩
/-- EBM_SCRUB, Page 0x09, offset 0x050 (spec/07_data_movement.md). -/
def EBM_SCRUB_ENABLE : Fld := ⟨0x050, 0, 1⟩
def EBM_SCRUB_PASSES : Fld := ⟨0x050, 16, 16⟩
/-- DMA_SRC_LO, Page 0x10 + j, offset 0x040 (spec/07_data_movement.md). -/
def DMA_SRC_LO_SRC_LO : Fld := ⟨0x040, 0, 32⟩
/-- DMA_SRC_HI, Page 0x10 + j, offset 0x044 (spec/07_data_movement.md). -/
def DMA_SRC_HI_SRC_HI : Fld := ⟨0x044, 0, 32⟩
/-- DMA_DST_LO, Page 0x10 + j, offset 0x048 (spec/07_data_movement.md). -/
def DMA_DST_LO_DST_LO : Fld := ⟨0x048, 0, 32⟩
/-- DMA_DST_HI, Page 0x10 + j, offset 0x04C (spec/07_data_movement.md). -/
def DMA_DST_HI_DST_HI : Fld := ⟨0x04C, 0, 32⟩
/-- DMA_COUNT, Page 0x10 + j, offset 0x050 (spec/07_data_movement.md). -/
def DMA_COUNT_COUNT : Fld := ⟨0x050, 0, 24⟩
/-- DMA_CTRL, Page 0x10 + j, offset 0x054 (spec/07_data_movement.md). -/
def DMA_CTRL_START : Fld := ⟨0x054, 0, 1⟩
def DMA_CTRL_PAUSE : Fld := ⟨0x054, 1, 1⟩
def DMA_CTRL_CHAIN : Fld := ⟨0x054, 2, 1⟩
def DMA_CTRL_PRIO : Fld := ⟨0x054, 3, 2⟩
def DMA_CTRL_SRC_FIXED : Fld := ⟨0x054, 5, 1⟩
def DMA_CTRL_DST_FIXED : Fld := ⟨0x054, 6, 1⟩
def DMA_CTRL_SRC_EBM : Fld := ⟨0x054, 7, 1⟩
def DMA_CTRL_DST_EBM : Fld := ⟨0x054, 8, 1⟩
def DMA_CTRL_BARRIER : Fld := ⟨0x054, 9, 1⟩
def DMA_CTRL_IRQ : Fld := ⟨0x054, 10, 1⟩
def DMA_CTRL_STOP : Fld := ⟨0x054, 11, 1⟩
def DMA_CTRL_CND : Fld := ⟨0x054, 12, 5⟩
/-- DMA_STATUS, Page 0x10 + j, offset 0x058 (spec/07_data_movement.md). -/
def DMA_STATUS_STATE : Fld := ⟨0x058, 0, 3⟩
def DMA_STATUS_PARKED_OP : Fld := ⟨0x058, 3, 1⟩
def DMA_STATUS_STAGED : Fld := ⟨0x058, 4, 5⟩
def DMA_STATUS_PAUSE_SRC : Fld := ⟨0x058, 9, 1⟩
def DMA_STATUS_DONE : Fld := ⟨0x058, 10, 1⟩
def DMA_STATUS_ERR : Fld := ⟨0x058, 11, 1⟩
def DMA_STATUS_LAST_STATUS : Fld := ⟨0x058, 12, 4⟩
def DMA_STATUS_PACE_PENDING : Fld := ⟨0x058, 16, 8⟩
def DMA_STATUS_BAD_CNT : Fld := ⟨0x058, 24, 8⟩
/-- DMA_DESC_LO, Page 0x10 + j, offset 0x05C (spec/07_data_movement.md). -/
def DMA_DESC_LO_DESC_LO : Fld := ⟨0x05C, 5, 27⟩
/-- DMA_DESC_HI, Page 0x10 + j, offset 0x060 (spec/07_data_movement.md). -/
def DMA_DESC_HI_DESC_HI : Fld := ⟨0x060, 0, 32⟩
/-- DMA_PACE, Page 0x10 + j, offset 0x064 (spec/07_data_movement.md). -/
def DMA_PACE_SRC : Fld := ⟨0x064, 0, 2⟩
def DMA_PACE_CHAN : Fld := ⟨0x064, 8, 6⟩
def DMA_PACE_PERIOD : Fld := ⟨0x064, 16, 16⟩
/-- DMA_FLAGS_SEEN, Page 0x10 + j, offset 0x068 (spec/07_data_movement.md). -/
def DMA_FLAGS_SEEN_DESCS : Fld := ⟨0x068, 0, 16⟩
def DMA_FLAGS_SEEN_BEATS_K : Fld := ⟨0x068, 16, 16⟩
/-- CND_FMT, Page 0x2D, offset 0x040 (spec/07_data_movement.md). -/
def CND_FMT_IN_FMT : Fld := ⟨0x040, 0, 3⟩
def CND_FMT_OUT_FMT : Fld := ⟨0x040, 3, 3⟩
def CND_FMT_IN_SWAP : Fld := ⟨0x040, 6, 3⟩
def CND_FMT_OUT_SWAP : Fld := ⟨0x040, 9, 3⟩
def CND_FMT_LAYOUT : Fld := ⟨0x040, 12, 2⟩
def CND_FMT_CHANNELS : Fld := ⟨0x040, 14, 5⟩
def CND_FMT_GAIN_EN : Fld := ⟨0x040, 19, 1⟩
def CND_FMT_FTZ : Fld := ⟨0x040, 20, 1⟩
def CND_FMT_VALID : Fld := ⟨0x040, 31, 1⟩
/-- CND_GAIN, Page 0x2D, offset 0x044 (spec/07_data_movement.md). -/
def CND_GAIN_GAIN : Fld := ⟨0x044, 0, 32⟩
/-- CND_STRIDE, Page 0x2D, offset 0x048 (spec/07_data_movement.md). -/
def CND_STRIDE_STRIDE : Fld := ⟨0x048, 0, 24⟩
/-- ARB_SEL, Page 0x0A, offset 0x040 (spec/07_data_movement.md). -/
def ARB_SEL_BANK : Fld := ⟨0x040, 0, 3⟩
def ARB_SEL_REQ : Fld := ⟨0x040, 8, 8⟩
/-- ARB_GRANTS, Page 0x0A, offset 0x044 (spec/07_data_movement.md). -/
def ARB_GRANTS_GRANTS : Fld := ⟨0x044, 0, 32⟩
/-- ARB_WAITS, Page 0x0A, offset 0x048 (spec/07_data_movement.md). -/
def ARB_WAITS_WAITS : Fld := ⟨0x048, 0, 32⟩
/-- ARB_MAXWAIT, Page 0x0A, offset 0x04C (spec/07_data_movement.md). -/
def ARB_MAXWAIT_CYCLES : Fld := ⟨0x04C, 0, 16⟩
/-- ARB_CLEAR, Page 0x0A, offset 0x050 (spec/07_data_movement.md). -/
def ARB_CLEAR_ALL : Fld := ⟨0x050, 0, 1⟩
/-- INST_MBX_DB, Instance window, offset 0x080 (spec/08_virtual_instances.md). -/
def INST_MBX_DB_IN_FULL : Fld := ⟨0x080, 0, 1⟩
def INST_MBX_DB_OUT_FULL : Fld := ⟨0x080, 1, 1⟩
def INST_MBX_DB_IN_IRQ_EN : Fld := ⟨0x080, 2, 1⟩
def INST_MBX_DB_OUT_IRQ_EN : Fld := ⟨0x080, 3, 1⟩
def INST_MBX_DB_VECTOR : Fld := ⟨0x080, 8, 6⟩
/-- TEN_STATUS, Page 0x28 + j, offset 0x040 (spec/08_virtual_instances.md). -/
def TEN_STATUS_STATE : Fld := ⟨0x040, 0, 2⟩
def TEN_STATUS_RESTARTS : Fld := ⟨0x040, 8, 8⟩
def TEN_STATUS_INSTANCES : Fld := ⟨0x040, 16, 16⟩
/-- TEN_WDOG, Page 0x28 + j, offset 0x044 (spec/08_virtual_instances.md). -/
def TEN_WDOG_PERIOD : Fld := ⟨0x044, 0, 16⟩
def TEN_WDOG_EXPIRED : Fld := ⟨0x044, 16, 16⟩
/-- TEN_FW, Page 0x28 + j, offset 0x048 (spec/08_virtual_instances.md). -/
def TEN_FW_BUILD : Fld := ⟨0x048, 0, 16⟩
def TEN_FW_MINOR : Fld := ⟨0x048, 16, 8⟩
def TEN_FW_MAJOR : Fld := ⟨0x048, 24, 8⟩
/-- TEN_INST_SEL, Page 0x28, offset 0x080 (spec/08_virtual_instances.md). -/
def TEN_INST_SEL_INSTANCE : Fld := ⟨0x080, 0, 10⟩
/-- TEN_INST_STATE, Page 0x28, offset 0x084 (spec/08_virtual_instances.md). -/
def TEN_INST_STATE_STATE : Fld := ⟨0x084, 0, 3⟩
def TEN_INST_STATE_LOGGING : Fld := ⟨0x084, 3, 1⟩
def TEN_INST_STATE_DIRTY_OVF : Fld := ⟨0x084, 4, 1⟩
def TEN_INST_STATE_HELD : Fld := ⟨0x084, 5, 1⟩
def TEN_INST_STATE_UNQ_RESET : Fld := ⟨0x084, 6, 1⟩
def TEN_INST_STATE_INSTANCE : Fld := ⟨0x084, 16, 10⟩
/-- TEN_INST_QUOTA, Page 0x28, offset 0x088 (spec/08_virtual_instances.md). -/
def TEN_INST_QUOTA_QUEUES : Fld := ⟨0x088, 0, 11⟩
def TEN_INST_QUOTA_ENDPOINTS : Fld := ⟨0x088, 12, 20⟩
/-- TEN_INST_USE, Page 0x28, offset 0x08C (spec/08_virtual_instances.md). -/
def TEN_INST_USE_QUEUES : Fld := ⟨0x08C, 0, 11⟩
def TEN_INST_USE_ENDPOINTS : Fld := ⟨0x08C, 12, 20⟩
/-- TEN_MBX_DB, Page 0x28, offset 0x090 (spec/08_virtual_instances.md). -/
def TEN_MBX_DB_IN_FULL : Fld := ⟨0x090, 0, 1⟩
def TEN_MBX_DB_OUT_FULL : Fld := ⟨0x090, 1, 1⟩
/-- TEN_MBX_CFG, Page 0x28, offset 0x094 (spec/08_virtual_instances.md). -/
def TEN_MBX_CFG_VECTOR : Fld := ⟨0x094, 0, 8⟩
def TEN_MBX_CFG_EN : Fld := ⟨0x094, 8, 1⟩
/-- TEN_EVT_ROUTE, Page 0x28, offset 0x098 (spec/08_virtual_instances.md). -/
def TEN_EVT_ROUTE_VECTOR : Fld := ⟨0x098, 0, 8⟩
def TEN_EVT_ROUTE_EN : Fld := ⟨0x098, 8, 1⟩
/-- TEN_EVT_POS_LO, Page 0x28, offset 0x09C (spec/08_virtual_instances.md). -/
def TEN_EVT_POS_LO_POS : Fld := ⟨0x09C, 0, 32⟩
/-- TEN_EVT_POS_HI, Page 0x28, offset 0x0A0 (spec/08_virtual_instances.md). -/
def TEN_EVT_POS_HI_POS : Fld := ⟨0x0A0, 0, 32⟩
/-- TEN_MBX_IN, Page 0x28, offset 0x0C0 (spec/08_virtual_instances.md). -/
def TEN_MBX_IN_DATA : Fld := ⟨0x0C0, 0, 32⟩
/-- TEN_MBX_OUT, Page 0x28, offset 0x100 (spec/08_virtual_instances.md). -/
def TEN_MBX_OUT_DATA : Fld := ⟨0x100, 0, 32⟩
/-- TEN_MBX_PEND, Page 0x28, offset 0x180 (spec/08_virtual_instances.md). -/
def TEN_MBX_PEND_PEND : Fld := ⟨0x180, 0, 32⟩
/-- PWR_CHIP, Page 0x01, offset 0x040 (spec/09_power.md). -/
def PWR_CHIP_STATE : Fld := ⟨0x040, 0, 3⟩
def PWR_CHIP_ENTERING : Fld := ⟨0x040, 3, 1⟩
def PWR_CHIP_EXITING : Fld := ⟨0x040, 4, 1⟩
def PWR_CHIP_TARGET : Fld := ⟨0x040, 8, 3⟩
def PWR_CHIP_FORCE : Fld := ⟨0x040, 11, 1⟩
def PWR_CHIP_GO : Fld := ⟨0x040, 12, 1⟩
/-- PWR_DOM_SEL, Page 0x01, offset 0x044 (spec/09_power.md). -/
def PWR_DOM_SEL_DOMAIN : Fld := ⟨0x044, 0, 8⟩
/-- PWR_DOM_STATUS, Page 0x01, offset 0x048 (spec/09_power.md). -/
def PWR_DOM_STATUS_PSTATE : Fld := ⟨0x048, 0, 3⟩
def PWR_DOM_STATUS_FORCED : Fld := ⟨0x048, 3, 1⟩
def PWR_DOM_STATUS_TRANSIT : Fld := ⟨0x048, 4, 1⟩
def PWR_DOM_STATUS_DOMAIN : Fld := ⟨0x048, 8, 8⟩
/-- PWR_DOM_CMD, Page 0x01, offset 0x04C (spec/09_power.md). -/
def PWR_DOM_CMD_TARGET : Fld := ⟨0x04C, 0, 2⟩
def PWR_DOM_CMD_FORCE : Fld := ⟨0x04C, 2, 1⟩
def PWR_DOM_CMD_GO : Fld := ⟨0x04C, 3, 1⟩
/-- PWR_DOM_SW, Page 0x01, offset 0x050 (spec/09_power.md). -/
def PWR_DOM_SW_SLOTS : Fld := ⟨0x050, 0, 32⟩
/-- PWR_DOM_HW, Page 0x01, offset 0x054 (spec/09_power.md). -/
def PWR_DOM_HW_SLOTS : Fld := ⟨0x054, 0, 32⟩
/-- PWR_REFUSE_COUNT, Page 0x01, offset 0x058 (spec/09_power.md). -/
def PWR_REFUSE_COUNT_REFUSED : Fld := ⟨0x058, 0, 16⟩
def PWR_REFUSE_COUNT_ABORTED : Fld := ⟨0x058, 16, 16⟩
/-- PWR_REFUSE_WHO, Page 0x01, offset 0x05C (spec/09_power.md). -/
def PWR_REFUSE_WHO_SLOT : Fld := ⟨0x05C, 0, 6⟩
def PWR_REFUSE_WHO_CAUSE : Fld := ⟨0x05C, 6, 2⟩
def PWR_REFUSE_WHO_DOMAIN : Fld := ⟨0x05C, 8, 8⟩
def PWR_REFUSE_WHO_NAME : Fld := ⟨0x05C, 16, 16⟩
/-- PWR_SW_NAME, Page 0x01, offset 0x060 (spec/09_power.md). -/
def PWR_SW_NAME_NAME_EVEN : Fld := ⟨0x060, 0, 16⟩
def PWR_SW_NAME_NAME_ODD : Fld := ⟨0x060, 16, 16⟩
/-- PWR_CARAMEL, Page 0x01, offset 0x0A0 (spec/09_power.md). -/
def PWR_CARAMEL_LEVEL : Fld := ⟨0x0A0, 0, 5⟩
/-- AON_RTC_LO, Page 0x02, offset 0x040 (spec/09_power.md). -/
def AON_RTC_LO_RTC_LO : Fld := ⟨0x040, 0, 32⟩
/-- AON_RTC_HI, Page 0x02, offset 0x044 (spec/09_power.md). -/
def AON_RTC_HI_RTC_HI : Fld := ⟨0x044, 0, 32⟩
/-- AON_ALARM_LO, Page 0x02, offset 0x048 (spec/09_power.md). -/
def AON_ALARM_LO_ALARM_LO : Fld := ⟨0x048, 0, 32⟩
/-- AON_ALARM_HI, Page 0x02, offset 0x04C (spec/09_power.md). -/
def AON_ALARM_HI_ALARM_HI : Fld := ⟨0x04C, 0, 32⟩
/-- AON_ALARM_CTRL, Page 0x02, offset 0x050 (spec/09_power.md). -/
def AON_ALARM_CTRL_ARMED : Fld := ⟨0x050, 0, 1⟩
def AON_ALARM_CTRL_FIRED : Fld := ⟨0x050, 1, 1⟩
def AON_ALARM_CTRL_NOW : Fld := ⟨0x050, 2, 1⟩
/-- AON_WAKE, Page 0x02, offset 0x054 (spec/09_power.md). -/
def AON_WAKE_CAUSE : Fld := ⟨0x054, 0, 3⟩
def AON_WAKE_FROM : Fld := ⟨0x054, 4, 3⟩
def AON_WAKE_COUNT : Fld := ⟨0x054, 16, 16⟩
/-- AON_REFRESH, Page 0x02, offset 0x058 (spec/09_power.md). -/
def AON_REFRESH_INTERVAL : Fld := ⟨0x058, 0, 3⟩
def AON_REFRESH_AON_DRIVEN : Fld := ⟨0x058, 3, 1⟩
def AON_REFRESH_TJ : Fld := ⟨0x058, 8, 8⟩
/-- AON_FORCE_P5, Page 0x02, offset 0x05C (spec/09_power.md). -/
def AON_FORCE_P5_CONFIRM : Fld := ⟨0x05C, 0, 8⟩
/-- FLT_STATUS, Page 0x07, offset 0x040 (spec/10_faults_load_and_limits.md). -/
def FLT_STATUS_OPEN : Fld := ⟨0x040, 0, 7⟩
def FLT_STATUS_RAISED : Fld := ⟨0x040, 8, 7⟩
def FLT_STATUS_FROZEN : Fld := ⟨0x040, 15, 1⟩
def FLT_STATUS_NEWEST : Fld := ⟨0x040, 16, 6⟩
/-- FLT_FREEZE, Page 0x07, offset 0x044 (spec/10_faults_load_and_limits.md). -/
def FLT_FREEZE_FREEZE : Fld := ⟨0x044, 0, 1⟩
def FLT_FREEZE_THAW : Fld := ⟨0x044, 1, 1⟩
def FLT_FREEZE_DROPPED : Fld := ⟨0x044, 16, 16⟩
/-- FLT_RETIRE, Page 0x07, offset 0x048 (spec/10_faults_load_and_limits.md). -/
def FLT_RETIRE_INDEX : Fld := ⟨0x048, 0, 6⟩
def FLT_RETIRE_GO : Fld := ⟨0x048, 8, 1⟩
/-- FLT_COUNTS, Page 0x07, offset 0x04C (spec/10_faults_load_and_limits.md). -/
def FLT_COUNTS_SUPPRESSED : Fld := ⟨0x04C, 0, 16⟩
def FLT_COUNTS_LOST : Fld := ⟨0x04C, 16, 16⟩
/-- FLT_HB, Page 0x07, offset 0x050 (spec/10_faults_load_and_limits.md). -/
def FLT_HB_MISSES : Fld := ⟨0x050, 0, 16⟩
def FLT_HB_LAST_PAGE : Fld := ⟨0x050, 16, 8⟩
def FLT_HB_LAST_ENGINE : Fld := ⟨0x050, 24, 8⟩
/-- FLT_CAL_RING, Page 0x07, offset 0x054 (spec/10_faults_load_and_limits.md). -/
def FLT_CAL_RING_EAST_MV : Fld := ⟨0x054, 0, 8⟩
def FLT_CAL_RING_WEST_MV : Fld := ⟨0x054, 8, 8⟩
def FLT_CAL_RING_EAST_UI : Fld := ⟨0x054, 16, 8⟩
def FLT_CAL_RING_WEST_UI : Fld := ⟨0x054, 24, 8⟩
/-- FLT_CAL_TERM, Page 0x07, offset 0x058 (spec/10_faults_load_and_limits.md). -/
def FLT_CAL_TERM_PORT : Fld := ⟨0x058, 0, 9⟩
def FLT_CAL_TERM_DEV : Fld := ⟨0x058, 16, 8⟩
/-- NVM_BOOT, Page 0x06, offset 0x040 (spec/11_boot_firmware_update.md). -/
def NVM_BOOT_BOOTED : Fld := ⟨0x040, 0, 1⟩
def NVM_BOOT_TRIAL : Fld := ⟨0x040, 1, 1⟩
def NVM_BOOT_TRIAL_COUNT : Fld := ⟨0x040, 2, 2⟩
def NVM_BOOT_FALLBACK : Fld := ⟨0x040, 4, 1⟩
def NVM_BOOT_RECOVERY_CAUSE : Fld := ⟨0x040, 5, 2⟩
def NVM_BOOT_BOOT_FAILS : Fld := ⟨0x040, 8, 4⟩
/-- NVM_ROM_VER, Page 0x06, offset 0x054 (spec/11_boot_firmware_update.md). -/
def NVM_ROM_VER_BUILD : Fld := ⟨0x054, 0, 16⟩
def NVM_ROM_VER_MINOR : Fld := ⟨0x054, 16, 8⟩
def NVM_ROM_VER_MAJOR : Fld := ⟨0x054, 24, 8⟩
/-- NVM_MIN_SECVER, Page 0x06, offset 0x058 (spec/11_boot_firmware_update.md). -/
def NVM_MIN_SECVER_SECVER : Fld := ⟨0x058, 0, 16⟩
def NVM_MIN_SECVER_KEY_REVOKED : Fld := ⟨0x058, 16, 4⟩
/-- NVM_UPD_CTRL, Page 0x06, offset 0x05C (spec/11_boot_firmware_update.md). -/
def NVM_UPD_CTRL_OP : Fld := ⟨0x05C, 0, 3⟩
def NVM_UPD_CTRL_GO : Fld := ⟨0x05C, 3, 1⟩
def NVM_UPD_CTRL_BUSY : Fld := ⟨0x05C, 4, 1⟩
def NVM_UPD_CTRL_DONE : Fld := ⟨0x05C, 5, 1⟩
def NVM_UPD_CTRL_STATUS : Fld := ⟨0x05C, 8, 4⟩
def NVM_UPD_CTRL_REASON : Fld := ⟨0x05C, 12, 4⟩
/-- NVM_UPD_LEN, Page 0x06, offset 0x060 (spec/11_boot_firmware_update.md). -/
def NVM_UPD_LEN_LENGTH : Fld := ⟨0x060, 0, 23⟩
/-- NVM_UPD_OFFSET, Page 0x06, offset 0x064 (spec/11_boot_firmware_update.md). -/
def NVM_UPD_OFFSET_OFFSET : Fld := ⟨0x064, 2, 20⟩
/-- NVM_UPD_DATA, Page 0x06, offset 0x068 (spec/11_boot_firmware_update.md). -/
def NVM_UPD_DATA_DATA : Fld := ⟨0x068, 0, 32⟩
/-- NVM_SNAPSHOT, Page 0x06, offset 0x06C (spec/11_boot_firmware_update.md). -/
def NVM_SNAPSHOT_VALID : Fld := ⟨0x06C, 0, 1⟩
def NVM_SNAPSHOT_BUSY : Fld := ⟨0x06C, 1, 1⟩
/-- AON_WDOG, Page 0x02, offset 0x060 (spec/11_boot_firmware_update.md). -/
def AON_WDOG_ENABLE : Fld := ⟨0x060, 0, 1⟩
def AON_WDOG_PERIOD : Fld := ⟨0x060, 16, 16⟩
/-- AON_RESET_CAUSE, Page 0x02, offset 0x064 (spec/11_boot_firmware_update.md). -/
def AON_RESET_CAUSE_CAUSE : Fld := ⟨0x064, 0, 3⟩
def AON_RESET_CAUSE_WDOG_COUNT : Fld := ⟨0x064, 16, 16⟩
/-- NVM_SLOT_A, Page 0x06, offset 0x044 (spec/11_boot_firmware_update.md). -/
def NVM_SLOT_A_STATE : Fld := ⟨0x044, 0, 3⟩
def NVM_SLOT_A_SECVER : Fld := ⟨0x044, 16, 16⟩
/-- NVM_SLOT_B, Page 0x06, offset 0x048 (spec/11_boot_firmware_update.md). -/
def NVM_SLOT_B_STATE : Fld := ⟨0x048, 0, 3⟩
def NVM_SLOT_B_SECVER : Fld := ⟨0x048, 16, 16⟩
/-- NVM_SLOT_A_VER, Page 0x06, offset 0x04C (spec/11_boot_firmware_update.md). -/
def NVM_SLOT_A_VER_BUILD : Fld := ⟨0x04C, 0, 16⟩
def NVM_SLOT_A_VER_MINOR : Fld := ⟨0x04C, 16, 8⟩
def NVM_SLOT_A_VER_MAJOR : Fld := ⟨0x04C, 24, 8⟩
/-- NVM_SLOT_B_VER, Page 0x06, offset 0x050 (spec/11_boot_firmware_update.md). -/
def NVM_SLOT_B_VER_BUILD : Fld := ⟨0x050, 0, 16⟩
def NVM_SLOT_B_VER_MINOR : Fld := ⟨0x050, 16, 8⟩
def NVM_SLOT_B_VER_MAJOR : Fld := ⟨0x050, 24, 8⟩

end Sys2Proof.Machine
end

