-- ==== Sys2Proof/Machine/Layout.lean ====
section
/-!
DEFINITION. The layout of the register pages: the page map (R86), and for every register its reset value, its fields by
access type (R10) and its kept fields (R9), from the register tables of the spec. The masks say which bits of a write act
and which bits a read returns.
-/
namespace Sys2Proof.Machine

/-- The blocks that have register pages (R14, R86). -/
inductive Block where
  | mgt | pwr | aon | ring | sbd | pci | nvm | flt | pln | ebm | arb | dma | le | ten | svc | cnd | clu
deriving DecidableEq, Repr

/-- The block of a page, none for a reserved page (R86). -/
def blockOf (page : Nat) : Option Block :=
  if page = 0x00 then some .mgt else if page = 0x01 then some .pwr
  else if page = 0x02 then some .aon else if page = 0x03 then some .ring
  else if page = 0x04 then some .sbd else if page = 0x05 then some .pci
  else if page = 0x06 then some .nvm else if page = 0x07 then some .flt
  else if page = 0x08 then some .pln else if page = 0x09 then some .ebm
  else if page = 0x0A then some .arb
  else if 0x10 ≤ page ∧ page ≤ 0x1F then some .dma
  else if 0x20 ≤ page ∧ page ≤ 0x27 then some .le
  else if 0x28 ≤ page ∧ page ≤ 0x2B then some .ten
  else if page = 0x2C then some .svc else if page = 0x2D then some .cnd
  else if 0x30 ≤ page ∧ page ≤ 0x6F then some .clu else none

/-- PAGE_ID.TYPE of a block (R86). -/
def blockType : Block → Nat
  | .mgt => 0x01 | .pwr => 0x02 | .aon => 0x03 | .ring => 0x04 | .sbd => 0x05 | .pci => 0x06 | .nvm => 0x07
  | .flt => 0x08 | .pln => 0x09 | .ebm => 0x0A | .arb => 0x0B | .dma => 0x10 | .le => 0x11 | .ten => 0x12
  | .svc => 0x13 | .cnd => 0x14 | .clu => 0x15

/-- PAGE_ID.INSTANCE of a page (R86). -/
def pageInst (page : Nat) : Nat :=
  match blockOf page with
  | some .dma => page - 0x10
  | some .le => page - 0x20
  | some .ten => page - 0x28
  | some .clu => page - 0x30
  | _ => 0

/-- The page belongs to a votable domain (R263). -/
def votable : Block → Bool
  | .clu | .le | .ten | .ebm | .arb | .dma | .cnd | .pln | .svc => true
  | _ => false

/-- PAGE_CAPS of a page (R87, R175, R203, R263). LIFELINE reads 1 in the AON page alone; WAKEABLE is taken to be 1 where
VOTABLE is, and CAPS 0 where the block's chapter gives none (PRESUMED, assumption 5). -/
def pageCaps (page : Nat) : Nat :=
  match blockOf page with
  | none => 0
  | some b =>
    (if votable b then 2 ^ 31 + 2 ^ 30 else 0) + (if b = .aon then 2 ^ 29 else 0)
      + (if b = .pln then 0x38 else 0)
      + (if b = .clu then (if page ≤ 0x37 then 3 else 2) else 0)

/-- The bits of ERR_STATUS that a page implements. -/
def errBits (page : Nat) : Nat :=
  match blockOf page with
  | some .pwr => 0x1 | some .aon => 0x1 | some .ring => 0x1F | some .nvm => 0xF | some .flt => 0x7
  | some .pln => 0x1F | some .ebm => 0x7 | some .dma => 0xFFFF | some .le => 0x1F
  | some .ten => if page = 0x28 then 0x1F else 0x3
  | some .clu => 0x3F
  | _ => 0

/-- The bits of EVENT_STATUS that a page implements. -/
def evtBits (page : Nat) : Nat :=
  match blockOf page with
  | some .pwr => 0x1 | some .aon => 0x3 | some .flt => 0x3 | some .pln => 0x7 | some .dma => 0xFFF
  | some .le => 0x1
  | some .ten => if page = 0x28 then 0x7 else 0
  | some .clu => 0xFFFFFF
  | _ => 0

/-- A register, or a row of equal registers: the offset of the first, how many, their distance, whether only the first
page of the block has it, the reset value, and the masks of the bits that are RW, W1C, RC, readable and kept (R9, R10). -/
structure RegDesc where
  base : Nat
  count : Nat
  stride : Nat
  firstOnly : Bool
  rst : Nat
  rw : Nat
  w1c : Nat
  rc : Nat
  rd : Nat
  kept : Nat
deriving DecidableEq, Repr

/-- The header registers of R87 whose bits do not depend on the page. W1S bits that act by an operation of their own
(SOFT_RESET, VOTE_SET, LOCK) are in no mask of a plain write. -/
def headerRegs : List RegDesc :=
  [⟨0x000, 1, 0, false, 0, 0, 0, 0, 0xFFFFFF, 0⟩, ⟨0x004, 1, 0, false, 0, 0, 0, 0, 0xFFFFFFFF, 0⟩,
   ⟨0x008, 1, 0, false, 0x8, 0, 0, 0, 0x1FF, 0⟩, ⟨0x00C, 1, 0, false, 0x1, 0x5, 0, 0, 0x7, 0⟩,
   ⟨0x010, 1, 0, false, 0, 0, 0, 0, 0xFFFFFFFF, 0⟩, ⟨0x014, 1, 0, false, 0, 0, 0, 0, 0xFFFFFFFF, 0⟩,
   ⟨0x018, 1, 0, false, 0, 0, 0, 0, 0xFFFFFFFF, 0⟩, ⟨0x01C, 1, 0, false, 0, 0, 0, 0xFFFFFFFF, 0xFFFFFFFF, 0xFFFFFFFF⟩,
   ⟨0x028, 1, 0, false, 0, 0, 0, 0, 0xFFFFFF3F, 0⟩,
   ⟨0x034, 1, 0, false, 0, 0xFFFFFFFF, 0, 0, 0xFFFFFFFF, 0⟩,
   ⟨0x038, 1, 0, false, 0, 0, 0, 0xFFFF0000, 0xFFFF0001, 0⟩, ⟨0x03C, 1, 0, false, 0, 0, 0, 0, 0xFFFFFFFF, 0⟩]

/-- The registers of a MGT page in offset order: MGT_ID, MGT_SERIAL_LO, MGT_SERIAL_HI, MGT_MODE, MGT_MODE_REFUSED, MGT_ACCESS_REFUSED, MGT_ACCESS_LAST, MGT_RESET. -/
def mgtRegs : List RegDesc :=
  [⟨0x40, 1, 0x0, false, 0x120512, 0x0, 0x0, 0x0, 0xffffff, 0x0⟩,
   ⟨0x44, 1, 0x0, false, 0x0, 0x0, 0x0, 0x0, 0xffffffff, 0x0⟩,
   ⟨0x48, 1, 0x0, false, 0x0, 0x0, 0x0, 0x0, 0xffffffff, 0x0⟩,
   ⟨0x4c, 1, 0x0, false, 0x0, 0x7, 0x0, 0x0, 0x377f, 0x0⟩,
   ⟨0x50, 1, 0x0, false, 0x0, 0x0, 0x0, 0xffff0000, 0xffff0f77, 0x0⟩,
   ⟨0x54, 1, 0x0, false, 0x0, 0x0, 0x0, 0xffff, 0xffff, 0x0⟩,
   ⟨0x58, 1, 0x0, false, 0x0, 0x0, 0x0, 0x0, 0x3fffffff, 0x0⟩,
   ⟨0x5c, 1, 0x0, false, 0x0, 0x0, 0x0, 0x0, 0x1, 0x0⟩]

/-- The registers of a PWR page in offset order: PWR_CHIP, PWR_DOM_SEL, PWR_DOM_STATUS, PWR_DOM_CMD, PWR_DOM_SW, PWR_DOM_HW, PWR_REFUSE_COUNT, PWR_REFUSE_WHO, PWR_SW_NAME, PWR_CARAMEL. -/
def pwrRegs : List RegDesc :=
  [⟨0x40, 1, 0x0, false, 0x0, 0x0, 0x0, 0x0, 0x101f, 0x0⟩,
   ⟨0x44, 1, 0x0, false, 0x0, 0x0, 0x0, 0x0, 0x0, 0x0⟩,
   ⟨0x48, 1, 0x0, false, 0x0, 0x0, 0x0, 0x0, 0xff1f, 0x0⟩,
   ⟨0x4c, 1, 0x0, false, 0x0, 0x0, 0x0, 0x0, 0x8, 0x0⟩,
   ⟨0x50, 1, 0x0, false, 0x0, 0x0, 0x0, 0x0, 0xffffffff, 0x0⟩,
   ⟨0x54, 1, 0x0, false, 0x0, 0x0, 0x0, 0x0, 0xffffffff, 0x0⟩,
   ⟨0x58, 1, 0x0, false, 0x0, 0x0, 0x0, 0xffffffff, 0xffffffff, 0x0⟩,
   ⟨0x5c, 1, 0x0, false, 0x0, 0x0, 0x0, 0x0, 0xffffffff, 0x0⟩,
   ⟨0x60, 16, 0x4, false, 0x0, 0xffffffff, 0x0, 0x0, 0xffffffff, 0x0⟩,
   ⟨0xa0, 1, 0x0, false, 0xa, 0x1f, 0x0, 0x0, 0x1f, 0x0⟩]

/-- The registers of a AON page in offset order: AON_RTC_LO, AON_RTC_HI, AON_ALARM_LO, AON_ALARM_HI, AON_ALARM_CTRL, AON_WAKE, AON_REFRESH, AON_FORCE_P5, AON_WDOG, AON_RESET_CAUSE. -/
def aonRegs : List RegDesc :=
  [⟨0x40, 1, 0x0, false, 0x0, 0x0, 0x0, 0x0, 0xffffffff, 0xffffffff⟩,
   ⟨0x44, 1, 0x0, false, 0x0, 0x0, 0x0, 0x0, 0xffffffff, 0xffffffff⟩,
   ⟨0x48, 1, 0x0, false, 0x0, 0xffffffff, 0x0, 0x0, 0xffffffff, 0xffffffff⟩,
   ⟨0x4c, 1, 0x0, false, 0x0, 0xffffffff, 0x0, 0x0, 0xffffffff, 0xffffffff⟩,
   ⟨0x50, 1, 0x0, false, 0x0, 0x1, 0x2, 0x0, 0x7, 0x3⟩,
   ⟨0x54, 1, 0x0, false, 0x0, 0x0, 0x0, 0xffff0000, 0xffff0077, 0xffff0077⟩,
   ⟨0x58, 1, 0x0, false, 0x0, 0x0, 0x0, 0x0, 0xff0f, 0x0⟩,
   ⟨0x5c, 1, 0x0, false, 0x0, 0x0, 0x0, 0x0, 0x0, 0x0⟩,
   ⟨0x60, 1, 0x0, false, 0x640001, 0xffff0001, 0x0, 0x0, 0xffff0001, 0x0⟩,
   ⟨0x64, 1, 0x0, false, 0x0, 0x0, 0x0, 0xffff0000, 0xffff0007, 0xffff0007⟩]

/-- The registers of a RING page in offset order: RING_POSITION, RING_CONTROL, RING_STATUS, RING_LOSS, RING_DELAY, RING_TIME_STATUS, RING_RCT_LO, RING_RCT_HI, RING_LIVE_LO, RING_LIVE_HI, RING_CRD_SHARE, RING_ERR_CNT, RING_DROP_CNT. -/
def ringRegs : List RegDesc :=
  [⟨0x40, 1, 0x0, false, 0x1000000, 0x0, 0x0, 0x0, 0xffff3f3f, 0x0⟩,
   ⟨0x44, 1, 0x0, false, 0x3, 0x1f, 0x0, 0x0, 0x7f, 0x0⟩,
   ⟨0x48, 1, 0x0, false, 0x40, 0x0, 0x0, 0x0, 0xffff7f, 0x0⟩,
   ⟨0x4c, 1, 0x0, false, 0x0, 0x0, 0x0, 0x0, 0xffffff, 0x0⟩,
   ⟨0x50, 1, 0x0, false, 0x0, 0x0, 0x0, 0x0, 0xffffffff, 0x0⟩,
   ⟨0x54, 1, 0x0, false, 0x0, 0x0, 0x4, 0x0, 0xffffff07, 0x0⟩,
   ⟨0x58, 1, 0x0, false, 0x0, 0x0, 0x0, 0x0, 0xffffffff, 0x0⟩,
   ⟨0x5c, 1, 0x0, false, 0x0, 0x0, 0x0, 0x0, 0xffffffff, 0x0⟩,
   ⟨0x60, 1, 0x0, false, 0x0, 0x0, 0x0, 0x0, 0xffffffff, 0x0⟩,
   ⟨0x64, 1, 0x0, false, 0x0, 0x0, 0x0, 0x0, 0xffffffff, 0x0⟩,
   ⟨0x68, 16, 0x4, false, 0x1010101, 0xffffffff, 0x0, 0x0, 0xffffffff, 0x0⟩,
   ⟨0xa8, 1, 0x0, false, 0x0, 0x0, 0x0, 0xffffffff, 0xffffffff, 0x0⟩,
   ⟨0xac, 1, 0x0, false, 0x0, 0x0, 0x0, 0xffffffff, 0xffffffff, 0x0⟩]

/-- The registers of a SBD page in offset order: SBD_CONTROL, SBD_ELECT, SBD_TX, SBD_TX_BODY, SBD_CAPTURED, SBD_COUNTS. -/
def sbdRegs : List RegDesc :=
  [⟨0x40, 1, 0x0, false, 0x5, 0x5, 0x0, 0x0, 0x7, 0x0⟩,
   ⟨0x44, 1, 0x0, false, 0x0, 0x0, 0x0, 0x0, 0xbf03, 0x0⟩,
   ⟨0x48, 1, 0x0, false, 0x0, 0xf, 0xc00, 0x0, 0xf0f, 0x0⟩,
   ⟨0x4c, 4, 0x4, false, 0x0, 0xffffffff, 0x0, 0x0, 0xffffffff, 0x0⟩,
   ⟨0x60, 1, 0x0, false, 0x0, 0x0, 0x0, 0xffffffff, 0xffffffff, 0x0⟩,
   ⟨0x64, 1, 0x0, false, 0x0, 0x0, 0x0, 0xffffffff, 0xffffffff, 0x0⟩]

/-- The spec gives a PCI page no register beyond the header. -/
def pciRegs : List RegDesc := []

/-- The registers of a NVM page in offset order: NVM_BOOT, NVM_SLOT_A, NVM_SLOT_B, NVM_SLOT_A_VER, NVM_SLOT_B_VER, NVM_ROM_VER, NVM_MIN_SECVER, NVM_UPD_CTRL, NVM_UPD_LEN, NVM_UPD_OFFSET, NVM_UPD_DATA, NVM_SNAPSHOT. -/
def nvmRegs : List RegDesc :=
  [⟨0x40, 1, 0x0, false, 0x0, 0x0, 0x0, 0x0, 0xf7f, 0xf7f⟩,
   ⟨0x44, 1, 0x0, false, 0x0, 0x0, 0x0, 0x0, 0xffff0007, 0xffff0007⟩,
   ⟨0x48, 1, 0x0, false, 0x0, 0x0, 0x0, 0x0, 0xffff0007, 0xffff0007⟩,
   ⟨0x4c, 1, 0x0, false, 0x0, 0x0, 0x0, 0x0, 0xffffffff, 0xffffffff⟩,
   ⟨0x50, 1, 0x0, false, 0x0, 0x0, 0x0, 0x0, 0xffffffff, 0xffffffff⟩,
   ⟨0x54, 1, 0x0, false, 0x0, 0x0, 0x0, 0x0, 0xffffffff, 0x0⟩,
   ⟨0x58, 1, 0x0, false, 0x0, 0x0, 0x0, 0x0, 0xfffff, 0xfffff⟩,
   ⟨0x5c, 1, 0x0, false, 0x0, 0x7, 0x20, 0x0, 0xff3f, 0x0⟩,
   ⟨0x60, 1, 0x0, false, 0x0, 0x7fffff, 0x0, 0x0, 0x7fffff, 0x0⟩,
   ⟨0x64, 1, 0x0, false, 0x0, 0x3ffffc, 0x0, 0x0, 0x3ffffc, 0x0⟩,
   ⟨0x68, 1, 0x0, false, 0x0, 0x0, 0x0, 0x0, 0x0, 0x0⟩,
   ⟨0x6c, 1, 0x0, false, 0x0, 0x0, 0x0, 0x0, 0x3, 0x1⟩]

/-- The registers of a FLT page in offset order: FLT_STATUS, FLT_FREEZE, FLT_RETIRE, FLT_COUNTS, FLT_HB, FLT_CAL_RING, FLT_CAL_TERM. -/
def fltRegs : List RegDesc :=
  [⟨0x40, 1, 0x0, false, 0x0, 0x0, 0x0, 0x0, 0x3fff7f, 0x0⟩,
   ⟨0x44, 1, 0x0, false, 0x0, 0x0, 0x0, 0xffff0000, 0xffff0003, 0xffff0001⟩,
   ⟨0x48, 1, 0x0, false, 0x0, 0x0, 0x0, 0x0, 0x100, 0x0⟩,
   ⟨0x4c, 1, 0x0, false, 0x0, 0x0, 0x0, 0xffffffff, 0xffffffff, 0xffffffff⟩,
   ⟨0x50, 1, 0x0, false, 0x0, 0x0, 0x0, 0xffff, 0xffffffff, 0x0⟩,
   ⟨0x54, 1, 0x0, false, 0x0, 0x0, 0x0, 0x0, 0xffffffff, 0x0⟩,
   ⟨0x58, 1, 0x0, false, 0x0, 0x0, 0x0, 0x0, 0xff01ff, 0x0⟩]

/-- The registers of a PLN page in offset order: PLN_PROFILE, PLN_HORIZON, PLN_STATUS, PLN_UFRAME, PLN_WHEEL_BASE_LO, PLN_WHEEL_BASE_HI, PLN_SHARE, PLN_COHORT_CAP, PLN_BP_CNT, PLN_SPILL, PLN_MISS_CNT, PLN_COHORT_CNT, PLN_WALK. -/
def plnRegs : List RegDesc :=
  [⟨0x40, 1, 0x0, false, 0x0, 0x3, 0x0, 0x0, 0x33, 0x0⟩,
   ⟨0x44, 1, 0x0, false, 0x4, 0x0, 0x0, 0x0, 0xff, 0x0⟩,
   ⟨0x48, 1, 0x0, false, 0x0, 0x0, 0x0, 0x0, 0xf, 0x0⟩,
   ⟨0x4c, 1, 0x0, false, 0x0, 0x0, 0x0, 0x0, 0xffffffff, 0x0⟩,
   ⟨0x50, 1, 0x0, false, 0x0, 0xffe00000, 0x0, 0x0, 0xffe00000, 0x0⟩,
   ⟨0x54, 1, 0x0, false, 0x0, 0xffffffff, 0x0, 0x0, 0xffffffff, 0x0⟩,
   ⟨0x58, 1, 0x0, false, 0x505019, 0xffffff, 0x0, 0x0, 0xffffff, 0x0⟩,
   ⟨0x5c, 1, 0x0, false, 0x100000, 0xffffff, 0x0, 0x0, 0xffffff, 0x0⟩,
   ⟨0x60, 1, 0x0, false, 0x0, 0x0, 0x0, 0xffffffff, 0xffffffff, 0x0⟩,
   ⟨0x64, 1, 0x0, false, 0x0, 0x0, 0x0, 0x3fff0000, 0x3fff3fff, 0x0⟩,
   ⟨0x68, 1, 0x0, false, 0x0, 0x0, 0x0, 0xffffffff, 0xffffffff, 0x0⟩,
   ⟨0x6c, 1, 0x0, false, 0x0, 0x0, 0x0, 0xffffffff, 0xffffffff, 0x0⟩,
   ⟨0x70, 1, 0x0, false, 0x0, 0x0, 0x0, 0xffff0000, 0xffffffff, 0x0⟩]

/-- The registers of a EBM page in offset order: EBM_FREE, EBM_ECC_CNT, EBM_ECC_LOG, EBM_REFRESH, EBM_SCRUB. -/
def ebmRegs : List RegDesc :=
  [⟨0x40, 1, 0x0, false, 0x87f00, 0x0, 0x0, 0x0, 0xfffff, 0x0⟩,
   ⟨0x44, 1, 0x0, false, 0x0, 0x0, 0x0, 0xffffffff, 0xffffffff, 0x0⟩,
   ⟨0x48, 1, 0x0, false, 0x0, 0x0, 0x0, 0x0, 0x7ffffff, 0x0⟩,
   ⟨0x4c, 1, 0x0, false, 0x0, 0x0, 0x0, 0x0, 0xff1f, 0x0⟩,
   ⟨0x50, 1, 0x0, false, 0x1, 0x1, 0x0, 0xffff0000, 0xffff0001, 0x0⟩]

/-- The registers of a ARB page in offset order: ARB_SEL, ARB_GRANTS, ARB_WAITS, ARB_MAXWAIT, ARB_CLEAR. -/
def arbRegs : List RegDesc :=
  [⟨0x40, 1, 0x0, false, 0x0, 0xff07, 0x0, 0x0, 0xff07, 0x0⟩,
   ⟨0x44, 1, 0x0, false, 0x0, 0x0, 0x0, 0xffffffff, 0xffffffff, 0x0⟩,
   ⟨0x48, 1, 0x0, false, 0x0, 0x0, 0x0, 0xffffffff, 0xffffffff, 0x0⟩,
   ⟨0x4c, 1, 0x0, false, 0x0, 0x0, 0x0, 0xffff, 0xffff, 0x0⟩,
   ⟨0x50, 1, 0x0, false, 0x0, 0x0, 0x0, 0x0, 0x1, 0x0⟩]

/-- The registers of a DMA page in offset order: DMA_SRC_LO, DMA_SRC_HI, DMA_DST_LO, DMA_DST_HI, DMA_COUNT, DMA_CTRL, DMA_STATUS, DMA_DESC_LO, DMA_DESC_HI, DMA_PACE, DMA_FLAGS_SEEN. -/
def dmaRegs : List RegDesc :=
  [⟨0x40, 4, 0x40, false, 0x0, 0xffffffff, 0x0, 0x0, 0xffffffff, 0x0⟩,
   ⟨0x44, 4, 0x40, false, 0x0, 0xffffffff, 0x0, 0x0, 0xffffffff, 0x0⟩,
   ⟨0x48, 4, 0x40, false, 0x0, 0xffffffff, 0x0, 0x0, 0xffffffff, 0x0⟩,
   ⟨0x4c, 4, 0x40, false, 0x0, 0xffffffff, 0x0, 0x0, 0xffffffff, 0x0⟩,
   ⟨0x50, 4, 0x40, false, 0x0, 0xffffff, 0x0, 0x0, 0xffffff, 0x0⟩,
   ⟨0x54, 4, 0x40, false, 0x0, 0x1f7fe, 0x0, 0x0, 0x1ffff, 0x0⟩,
   ⟨0x58, 4, 0x40, false, 0x0, 0x0, 0xc00, 0xff000000, 0xffffffff, 0x0⟩,
   ⟨0x5c, 4, 0x40, false, 0x0, 0xffffffe0, 0x0, 0x0, 0xffffffe0, 0x0⟩,
   ⟨0x60, 4, 0x40, false, 0x0, 0xffffffff, 0x0, 0x0, 0xffffffff, 0x0⟩,
   ⟨0x64, 4, 0x40, false, 0x10000, 0xffff3f03, 0x0, 0x0, 0xffff3f03, 0x0⟩,
   ⟨0x68, 4, 0x40, false, 0x0, 0x0, 0x0, 0xffffffff, 0xffffffff, 0x0⟩]

/-- The registers of a LE page in offset order: LE_STATUS, LE_WDOG, LE_FW, TQ_INVAL, TQ_INVAL_RANGE, TQ_INVAL_RESULT. -/
def leRegs : List RegDesc :=
  [⟨0x40, 4, 0x10, false, 0x1, 0x0, 0x0, 0x0, 0xffffff03, 0x0⟩,
   ⟨0x44, 4, 0x10, false, 0x3e8, 0xffff, 0x0, 0xffff0000, 0xffffffff, 0x0⟩,
   ⟨0x48, 4, 0x10, false, 0x0, 0x0, 0x0, 0x0, 0xffffffff, 0x0⟩,
   ⟨0x80, 1, 0x0, true, 0x0, 0xfff, 0x0, 0x0, 0x30fff, 0x0⟩,
   ⟨0x84, 1, 0x0, true, 0x0, 0xffffffff, 0x0, 0x0, 0xffffffff, 0x0⟩,
   ⟨0x88, 1, 0x0, true, 0x0, 0x0, 0x10000, 0x0, 0x1ffff, 0x0⟩]

/-- The registers of a TEN page in offset order: TEN_STATUS, TEN_WDOG, TEN_FW, TEN_INST_SEL, TEN_INST_STATE, TEN_INST_QUOTA, TEN_INST_USE, TEN_MBX_DB, TEN_MBX_CFG, TEN_EVT_ROUTE, TEN_EVT_POS_LO, TEN_EVT_POS_HI, TEN_MBX_IN, TEN_MBX_OUT, TEN_MBX_PEND. -/
def tenRegs : List RegDesc :=
  [⟨0x40, 4, 0x10, false, 0x1, 0x0, 0x0, 0x0, 0xffffff03, 0x0⟩,
   ⟨0x44, 4, 0x10, false, 0x3e8, 0xffff, 0x0, 0xffff0000, 0xffffffff, 0x0⟩,
   ⟨0x48, 4, 0x10, false, 0x0, 0x0, 0x0, 0x0, 0xffffffff, 0x0⟩,
   ⟨0x80, 1, 0x0, true, 0x0, 0x0, 0x0, 0x0, 0x0, 0x0⟩,
   ⟨0x84, 1, 0x0, true, 0x0, 0x0, 0x0, 0x0, 0x3ff007f, 0x0⟩,
   ⟨0x88, 1, 0x0, true, 0x80000600, 0xfffff7ff, 0x0, 0x0, 0xfffff7ff, 0x0⟩,
   ⟨0x8c, 1, 0x0, true, 0x0, 0x0, 0x0, 0x0, 0xfffff7ff, 0x0⟩,
   ⟨0x90, 1, 0x0, true, 0x0, 0x0, 0x2, 0x0, 0x3, 0x0⟩,
   ⟨0x94, 1, 0x0, true, 0x0, 0x1ff, 0x0, 0x0, 0x1ff, 0x0⟩,
   ⟨0x98, 1, 0x0, true, 0x0, 0x1ff, 0x0, 0x0, 0x1ff, 0x0⟩,
   ⟨0x9c, 1, 0x0, true, 0x0, 0x0, 0xffffffff, 0x0, 0xffffffff, 0x0⟩,
   ⟨0xa0, 1, 0x0, true, 0x0, 0x0, 0xffffffff, 0x0, 0xffffffff, 0x0⟩,
   ⟨0xc0, 16, 0x4, true, 0x0, 0x0, 0x0, 0x0, 0x0, 0x0⟩,
   ⟨0x100, 16, 0x4, true, 0x0, 0x0, 0x0, 0x0, 0xffffffff, 0x0⟩,
   ⟨0x180, 32, 0x4, true, 0x0, 0x0, 0x0, 0x0, 0xffffffff, 0x0⟩]

/-- The registers of a SVC page in offset order: SVC_STATUS, SVC_COUNTS. -/
def svcRegs : List RegDesc :=
  [⟨0x40, 1, 0x0, false, 0x0, 0x0, 0x0, 0x0, 0x7fff, 0x0⟩,
   ⟨0x44, 1, 0x0, false, 0x0, 0x0, 0x0, 0xffffffff, 0xffffffff, 0x0⟩]

/-- The registers of a CND page in offset order: CND_FMT, CND_GAIN, CND_STRIDE, CND_FLAGS. -/
def cndRegs : List RegDesc :=
  [⟨0x40, 31, 0x10, false, 0x0, 0x801fffff, 0x0, 0x0, 0x801fffff, 0x0⟩,
   ⟨0x44, 31, 0x10, false, 0x3f800000, 0xffffffff, 0x0, 0x0, 0xffffffff, 0x0⟩,
   ⟨0x48, 31, 0x10, false, 0x0, 0xffffff, 0x0, 0x0, 0xffffff, 0x0⟩,
   ⟨0x300, 8, 0x4, false, 0x0, 0x0, 0xffffffff, 0x0, 0xffffffff, 0x0⟩]

/-- The registers of a CLU page in offset order: CLU_PE_STATUS, CLU_PE_WDOG, CLU_PE_FW, PRT_STATE, PRT_LPM, PRT_COUNTS. -/
def cluRegs : List RegDesc :=
  [⟨0x40, 2, 0x10, false, 0x640001, 0x0, 0x0, 0x0, 0x7fff07, 0x0⟩,
   ⟨0x44, 2, 0x10, false, 0x64, 0xffff, 0x0, 0xffff0000, 0xffffffff, 0x0⟩,
   ⟨0x48, 2, 0x10, false, 0x0, 0x0, 0x0, 0x0, 0xffffffff, 0x0⟩,
   ⟨0x80, 8, 0x10, false, 0x70, 0x0, 0x0, 0x0, 0x3ff7fff, 0x0⟩,
   ⟨0x84, 8, 0x10, false, 0x0, 0x0, 0x0, 0x0, 0xffff03f1, 0x0⟩,
   ⟨0x88, 8, 0x10, false, 0x0, 0x0, 0x0, 0xffffffff, 0xffffffff, 0x0⟩]

/-- The registers of a block from offset 0x040 on. -/
def blockRegs : Block → List RegDesc
  | .mgt => mgtRegs | .pwr => pwrRegs | .aon => aonRegs | .ring => ringRegs | .sbd => sbdRegs | .pci => pciRegs
  | .nvm => nvmRegs | .flt => fltRegs | .pln => plnRegs | .ebm => ebmRegs | .arb => arbRegs | .dma => dmaRegs
  | .le => leRegs | .ten => tenRegs | .svc => svcRegs | .cnd => cndRegs | .clu => cluRegs

/-- The four header registers whose masks are the page's own error and event bits (R90, R351). -/
def statusRegs (page : Nat) : List RegDesc :=
  [⟨0x020, 1, 0, false, if page = 0x02 then 1 else 0, 0, errBits page, 0, errBits page, 0⟩,
   ⟨0x024, 1, 0, false, errBits page, errBits page, 0, 0, errBits page, 0⟩,
   ⟨0x02C, 1, 0, false, 0, 0, evtBits page, 0, evtBits page, 0⟩,
   ⟨0x030, 1, 0, false, 0, evtBits page, 0, 0, evtBits page, 0⟩]

/-- The offset is one of the row's registers. -/
def RegDesc.holds (r : RegDesc) (off : Nat) : Bool :=
  if r.stride = 0 then off == r.base
  else decide (r.base ≤ off) && (off - r.base) % r.stride == 0 && decide ((off - r.base) / r.stride < r.count)

/-- The page is the first of its block (R359, the TEN registers of page 0x28). -/
def firstPage (page : Nat) : Bool := pageInst page == 0

/-- The register at an offset of a page, none for a reserved offset or page. -/
def regDesc (page off : Nat) : Option RegDesc :=
  match blockOf page with
  | none => none
  | some b =>
    if off < 0x40 then (headerRegs ++ statusRegs page).find? (fun r => r.holds off)
    else (blockRegs b).find? (fun r => r.holds off && (!r.firstOnly || firstPage page))

/-- The address of a register: page and offset (R79). -/
def adr (page off : Nat) : Nat := page * 0x1000 + off

/-- What a register holds that nothing has written since reset, by its address (R9). The header registers that are
computed (PAGE_ID, PAGE_CAPS, PAGE_STATUS, the vote registers, PAGE_CHECK) are not stored. -/
def regReset (a : Nat) : Word :=
  match regDesc (a / 0x1000) (a % 0x1000) with
  | some r => BitVec.ofNat 32 r.rst
  | none => 0

end Sys2Proof.Machine
end

