-- ==== Sys2Proof/Machine/State.lean ====
section
/-!
DEFINITION. The state of one SK512, and its state right after reset. Every register of the register tables lives in one
register file, `regs`; what the spec gives the machine beside its registers (contexts, queues, plans, sessions, timers that
an event command ends, what is in flight) lives in the structures below, one for each block.
-/
namespace Sys2Proof.Machine

/-! ### What leaves the chip -/

/-- What marks a boundary on a port (R186). -/
inductive SofKind where
  | sof | keepAlive | itp
deriving DecidableEq, Repr

/-- The split that a transaction is (R196, R197): none, a start-split (with the tag of an isochronous OUT's data), or a complete-split. -/
inductive SplitTag where
  | none | start | all | begin | mid | last | complete
deriving DecidableEq, Repr

/-- What the chip sends out, in order (assumption 4): cells, frames, host writes, messages and completions. -/
inductive Out where
  /-- A cell put on a ring in a cell slot (R49, R50, R52). -/
  | cell (ringB : Bool) (c : Cell)
  /-- A sideband frame completed (R71): its type and body, and the bits that went over the line. -/
  | frame (typ : BitVec 4) (body : List Byte) (wire : List Bool)
  /-- A write to host memory with the routing ID of its owner (R109, R241, R247); a member's goes to the head in the DATA cells after it. -/
  | hostWrite (id : BitVec 16) (o : Owner) (addr : Addr) (d : List Byte)
  /-- A read request to host memory with the routing ID of its owner (R113, R129, R147, R222, R247); a member's goes to the head in the
  READ_REQ cell after it. -/
  | hostRead (id : BitVec 16) (o : Owner) (addr : Addr) (len : Nat)
  /-- A zero-length read that flushes posted writes (R227, R248). -/
  | zeroRead (id : BitVec 16) (o : Owner)
  /-- The write that ends the read-modify-write of an aligned dword of an instance's dirty bitmap, under the physical function's routing ID:
  the bits that it sets (R253). -/
  | dirtyDword (id : BitVec 16) (addr : Addr) (set : Word)
  /-- An MSI-X message of a function (R256). -/
  | msix (id : BitVec 16) (o : Owner) (v : BitVec 8)
  /-- The completion of a register read, and whether it is an error completion (R82, R83). -/
  | readDone (src : Src) (data : Word) (err : Bool)
  /-- A refused write's error on its port (R83): AER on PCIe, ERROR on the service port, ERR on JTAG. -/
  | writeErr (src : Src)
  /-- Unsupported Request or Completer Abort, for a PCIe read (R83). -/
  | cplStatus (ur : Bool)
  /-- An admin command carried to the chip it names (R133). -/
  | adminForward (pos : BitVec 6) (o : Owner) (e : List Word)
  /-- The result of an admin command that another chip sent here (R133). -/
  | adminReply (o : Owner) (acq : List Word)
  /-- The head tells a chip of the reset of an instance, and whether it is a removal (R251; assumption 18). -/
  | instReset (pos : BitVec 6) (i : BitVec 10) (removal : Bool)
  /-- The bytes of a DATA cell at a member, for the operation that its TAG names (R46). -/
  | dataIn (src : BitVec 6) (tag : Word) (d : List Byte)
  /-- A SOF, an ITP or a keep-alive on a port at the boundary of a microframe (R186). -/
  | sof (p : Nat) (k : SofKind) (m : Nat)
  /-- A transaction started on a port for a context (R155): whether a PRE packet goes ahead of it (R195), the split that it is (R196, R197),
  and its data, if it sends any. -/
  | txn (p ctx : Nat) (pre : Bool) (split : SplitTag) (d : List Byte)
  /-- Signalling on a port: power, reset, resume, suspend (R179, R184, R199). -/
  | port (p : Nat) (what : String)
  /-- A port enters the USB 2.0 test mode that PARAM names (R179). -/
  | portTest (p mode : Nat)
  /-- The LPM extended token on a port, with BESL and the remote-wake enable (R198). -/
  | lpm (p besl : Nat) (remoteWake : Bool)
  /-- A service-port answer: a response, an event record, a STALL (R205 to R208). -/
  | svc (bytes : List Byte)
  | svcStall (ep : BitVec 8)
  /-- What the service port's descriptors say (R204): the vendor, the class triple of the one interface of its one self-powered configuration,
  the characters of the serial-number string. -/
  | svcDevice (vid : BitVec 16)
  | svcInterface (cls sub proto : Byte) (selfPowered : Bool)
  | svcSerial (digits : List Byte)
  /-- What the boundary cells put on the balls under an instruction, and what TDO shifts out (R345 to R347). -/
  | balls (ir : BitVec 8) (v : Scan)
  | tdo (v : Nat)
deriving DecidableEq, Repr

/-! ### The ring, the sideband and the ring time -/

/-- A ring port beyond its registers: the training step, the neighbour's slot and serial number of step 6 and whether it is the chip
itself, whether a wrap there belongs to a planned closing, and whether its phantom feed is present (R59, R63, R327, R355). -/
structure LinkSide where
  step : Nat
  nbSlot : BitVec 6
  nbSerial : BitVec 64
  selfLoop : Bool
  planned : Bool
  feed : Bool
deriving DecidableEq, Repr

/-- A read that the head has forwarded and that waits for its REG_CPL (R81, R82). -/
structure FwdRead where
  tag : Word
  pos : Nat
  off : Nat
  src : Src
deriving DecidableEq, Repr

/-- The cells that wait to leave by a ring port (R50), oldest first, each with whether it is in transit, and how many slots in a row of
each class have gone to transit cells while a cell of the chip's own waited. -/
structure Egress where
  cells : List (Bool × Cell)
  runs : Tab Nat
deriving DecidableEq, Repr

/-- What the RING block keeps beside its registers (R43 to R69): `mapDue` says that the next live map belongs to a release, `mapsEarly` how many
maps of breaks have come before the FAULT frame of their break (R66),
`breaks` the broken segment ends that the chip knows of (position, and whether East; R65), `half` those of them whose other end the chip has
still to hear of (R66), `whole` that the segments beyond the chip's own are UP (R68), `closing` the
planned closing (position, wrap microframe, whether it has wrapped). The credit
tables are keyed by position, class and ring, the CRC failures of the microframe by ring (R48, R285), the cells discarded since the last
good one of a sequence by its key (R48), and the cells in the ingress buffer by class and ring (R51). `eastOut` and `westOut` are the
cells that wait to leave on ring A and on ring B. -/
structure Ring where
  east : LinkSide
  west : LinkSide
  joined : Bool
  joinTimer : Bool
  leaving : Option Word
  closing : Option (BitVec 6 × Word × Bool)
  closeTimer : Bool
  releaseAt : Option Word
  topoSeen : Bool
  orphanAt : Word
  mapDue : Bool
  mapsEarly : Nat
  breaks : List (Nat × Bool)
  half : List (Nat × Bool)
  whole : Bool
  credits : Tab Nat
  owed : Tab Nat
  waitQ : List Cell
  seqTx : Tab Nat
  seqRx : Tab Nat
  lostHere : Tab Nat
  crcBurst : Tab Nat
  ingress : Tab Nat
  eastOut : Egress
  westOut : Egress
  fwd : List FwdRead
  nextTag : Word
deriving DecidableEq, Repr

/-- The time base beside RING_RCT (R57, R58, R271): the sub-nanosecond part, the slew owed, the run of good offsets, whether
a timing cell came this microframe, and the phase of the 64-tick run. -/
structure Clock where
  rct : BitVec 64
  sub : BitVec 16
  slew : Int
  lockRun : Nat
  seen : Bool
  tick : BitVec 6
  uframe : Word
  recovered : Bool
deriving DecidableEq, Repr

/-- A sideband frame waiting or on the line: its type, its body, whether SBD_TX asked for it, and the attempts made (R75). -/
structure Frame where
  typ : BitVec 4
  body : List Byte
  soft : Bool
  tries : Nat
deriving DecidableEq, Repr

/-- The sideband transmitter (R73, R75): the frames in their order, whether one is on the line or backing off, the LFSR,
whether a HEAD_CLAIM has been heard or sent since WINNER was cleared (R354), and whether the election window is open (R76). -/
structure Sbd where
  queue : List Frame
  onLine : Bool
  backoff : Bool
  lfsr : BitVec 16
  claimed : Bool
  window : Bool
deriving DecidableEq, Repr

/-! ### Queues -/

/-- A chain in progress on a TQ (R120 to R123). `dead` is the status that it has met and that ends it, `tsOn` the TS flag of
its FIRST entry, `first` its index, `carry` the bytes of an IN packet that continue into the next entry's buffer, `short` a short packet met. -/
structure Chain where
  bytes : Nat
  first : Nat
  tsOn : Bool
  ts : Option Word
  carry : List Byte
  short : Bool
  dead : Option (BitVec 4 × Option Word)
  setup : List Byte
  lastTag : BitVec 16
deriving DecidableEq, Repr

/-- A completion that waits for its POST (R124): the chain that ends at `idx`, its status, bytes and AUX; `mark` is how many entries of the
TQ had been served with it (R125), `ord` its place among the chip's completions (R250). -/
structure Post where
  idx : Nat
  status : BitVec 4
  bytes : Nat
  tag : BitVec 16
  ts : Option Word
  rc : Option Word
  ioc : Bool
  batch : Bool
  setup : List Byte
  mark : Nat
  ord : Nat
deriving DecidableEq, Repr

/-- An entry in the descriptor cache (R113): its index, its eight dwords, none when its read failed (R114). -/
structure Cached where
  idx : Nat
  e : Option (List Word)
deriving DecidableEq, Repr

/-- Why a TQ is being stopped (R135, R136): the command that asked, by its submitter and entry, or the cause. -/
inductive Stop where
  | destroy (o : Owner) (e : List Word)
  | reset (o : Owner) (e : List Word)
  | error
  | hold
  | removed
deriving DecidableEq, Repr

/-- A Transfer Queue on its home chip (R104 to R126): its indices, the next entry to serve, its cached entries, its open chain,
the completions that wait, its batch, the entries that it has served and those of them that CQ entries cover (R125), and whether a poll tick
waits for a dark block (R14, R266). -/
structure Tq where
  owner : Owner
  q : Nat
  ep : Nat
  cq : Nat
  base : Addr
  log2 : Nat
  poll : Option Nat
  weight : Nat
  pi : Nat
  sampled : Nat
  ci : Nat
  next : Nat
  error : Bool
  stop : Option Stop
  fetching : List Nat
  cache : List Cached
  chain : Option Chain
  posts : List Post
  batch : Option Post
  served : Nat
  covered : Nat
  due : Bool
  lastStart : Option Word
deriving DecidableEq, Repr

/-- A Completion Queue on its home chip (R104, R109, R110). -/
structure Cq where
  owner : Owner
  q : Nat
  base : Addr
  log2 : Nat
  mirror : Option Addr
  mirrorHold : Bool
  mirrorDue : Bool
  irqEn : Bool
  vec : BitVec 8
  pi : Nat
  ci : Nat
deriving DecidableEq, Repr

/-- A queue number's meaning in an instance window, with the head's copies of its indices (R84, R107, R108). -/
structure QRef where
  isCq : Bool
  pos : Nat
  idx : Nat
  pi : BitVec 16
  ci : BitVec 16
  log2 : Nat
deriving DecidableEq, Repr

/-- The queues of the chip, the index copies of the instance windows (keyed by owner × 2,048 + queue number), and the DESTROY_TQ and RESET_TQ
that run on other chips, with their submitter, entry and position (R137); `late` holds the POST cells that have reached the head for
instances whose completions are held (R249, R258), `posted` numbers the completions in their order (R250). -/
structure Queues where
  tqs : Tab Tq
  cqs : Tab Cq
  refs : Tab QRef
  inval : Option (Nat × Nat × Nat)
  far : List (Owner × List Word × Nat)
  late : List PostMsg
  posted : Nat
deriving DecidableEq, Repr

/-! ### Contexts, flows and plans -/

/-- A device context (R188, R191): `cause` is the root-cause reference of its loss, `fails` the consecutive chains that timed
out. -/
structure Dev where
  port : Nat
  addr : BitVec 7
  route : BitVec 20
  speed : Nat
  ttHub : Nat
  ttPort : Nat
  multi : Bool
  gone : Bool
  cause : Option Word
  fails : Nat
  owner : Owner
deriving DecidableEq, Repr

/-- A reservation (R164 to R167): bytes per service, phase, and the first and last plan that serve it. -/
structure Rsv where
  bytes : Nat
  phase : Nat
  fromN : Nat
  gone : Option Nat
deriving DecidableEq, Repr

/-- The operation of R152 that a flow comes to next or has in service; a COLLECT runs with its ISSUE on the wire, and a POST
waits in the TQ. -/
inductive OpKind where
  | stage | issue | drain
deriving DecidableEq, Repr

/-- The service of one entry by a flow (R152, R157, R361): the entry, the operation that comes next or is in service with its
channel and level, the bytes of the entry moved, the bytes of the segment in the buffer and its length, the microframe of
periodic work with the bytes its service may still move, the packets and retries, the split under way (R196, R197), a
zero-length packet owed, a late release (R161), the end of the transfer, the failure that waits for the operation to end, and
the conditioner's registers as the operation latched them (R234). -/
structure Work where
  tq : Nat
  idx : Nat
  e : List Word
  op : OpKind
  inSvc : Bool
  chan : Option Nat
  level : Nat
  moved : Nat
  seg : Nat
  segLen : Nat
  n : Option Nat
  budget : Nat
  packets : Nat
  retries : Nat
  split : Nat
  zlp : Bool
  late : Bool
  ended : Bool
  fail : Option (BitVec 4 × Option Word)
  cnd : List Word
deriving DecidableEq, Repr

/-- An endpoint context (R188) with its buffer, its reservation and its flow; `planned` lists the services that its plans hold
(microframe, entry, and the status and root cause of an entry that completes without service, R67, R149); `old` holds the reservations that
later ones have replaced, while plans that opened before still serve them (R148, R165). `peerFree` is the free space that a relay's source counts
in its sink's buffer, with the sink's position × 8,192 + context; `unreported` the freed bytes of a sink's buffer that no whole beat has
reported yet (R172); `lost` the reference of a relay cell that a sink has lost before the entry that needs it, with the bytes of its buffer that lie before the hole
(R173). -/
structure Ep where
  dev : Nat
  owner : Owner
  num : Nat
  dirIn : Bool
  typ : Nat
  mps : Nat
  burst : Nat
  mult : Nat
  log2i : Nat
  cls : Nat
  buf : Nat
  head : Nat
  fill : Nat
  halt : Bool
  toggle : Nat
  rsv : Option Rsv
  old : List Rsv
  cohort : Option Nat
  tq : Option Nat
  planned : List (Nat × Nat × Option (BitVec 4 × Option Word))
  work : Option Work
  splitFails : Nat
  peerFree : Option (Nat × Nat)
  unreported : Nat
  lost : Option (Word × Nat)
deriving DecidableEq, Repr

/-- An endpoint context on another chip as the head knows it, from the commands that have passed it (R133, R166, R168): the endpoint and its
device. -/
structure FarEp where
  ep : Ep
  dev : Dev
deriving DecidableEq, Repr

/-- The device and endpoint contexts, and the free store of EBM (R188, R210): the 16 KiB blocks that are held or split, and
the free blocks of a smaller size class by address and class. `far` holds the endpoint contexts of other chips at the head, keyed by
position × 8,192 + context. -/
structure Ctxs where
  devs : Tab Dev
  eps : Tab Ep
  far : Tab FarEp
  supers : List Nat
  free : List (Nat × Nat)
deriving DecidableEq, Repr

/-- The plan of a microframe (R139): whether it has sealed, the boundary at which it seals, the contexts with a graph in it,
whether its walk has ended, the address of the slot word or of the block that the walk reads, the profile that it was opened under (R34), and
the owners that had work held back when it opened (R248, R250). -/
structure Plan where
  n : Nat
  isSealed : Bool
  sealAt : Nat
  graphs : List Nat
  walked : Bool
  block : Nat
  prof : Nat
  still : List Nat
deriving DecidableEq, Repr

/-- A cohort (R168 to R170): its members on this chip, those of them that a RELEASE_BW takes out with the last plan that they take part in,
and the other chips that hold members. -/
structure Cohort where
  owner : Owner
  members : List Nat
  leaving : List (Nat × Nat)
  far : List Nat
  start : Nat
  last : Option Nat
deriving DecidableEq, Repr

/-- A node of the Periodic Wheel (R147): the numbers of its pool blocks, and the contexts of its PSEs in their order. -/
structure Node where
  blocks : List Nat
  eps : List Nat
deriving DecidableEq, Repr

/-- The planner beside its registers (R139 to R175); `clock` numbers the operations in the order they are placed (R156), `spill` holds the
records of the spill region, the first written first, each with its context and the list that its operation needs (R159), `wheel` the nodes
of the Periodic Wheel that hold PSEs, by 2^k + phase (R147). -/
structure Pln where
  plans : List Plan
  lastPlan : Nat
  starting : Bool
  clock : Nat
  wheel : Tab Node
  spill : List (Nat × Nat)
  deferred : List Nat
  cohorts : Tab Cohort
  cohortNow : List Nat
  bpNow : Bool
deriving DecidableEq, Repr

/-! ### Ports -/

/-- A transaction on a port's wire (R192 to R197): the context, and when it started in byte times of the port. -/
structure Wire where
  ctx : Nat
  start : Nat
deriving DecidableEq, Repr

/-- The way a port's SuperSpeed side stands (R185, R358). -/
inductive SsPhase where
  | off | detect | training | failed | up | exiting
deriving DecidableEq, Repr

/-- How a bus reset runs (R184, R185): USB 2.0 with the chirps seen, hot, or warm. -/
inductive ResetKind where
  | usb2 (devChirp hostChirp : Bool)
  | hot
  | warm
deriving DecidableEq, Repr

/-- What the detector of a dark cluster has latched (R202): `term` is far-end termination on a SuperSpeed port. -/
inductive Latched where
  | connect | term | wake | disconnect
deriving DecidableEq, Repr

/-- What a port keeps beside PRT_STATE (R177 to R202, R334). `rndKey`, `rndCnt` and `rndEnd` say where the round of R160 stands,
`usedAsync` the byte times of asynchronous work in the microframe, `termDev` the deviation of its termination (R300). -/
structure Port where
  charging : Bool
  line : Line
  debouncing : Bool
  stable : Bool
  ss : SsPhase
  reset : Option ResetKind
  resetWaits : Option Word
  suspendWaits : Bool
  resumeByDev : Bool
  allowTxn : Bool
  wire : Option Wire
  lastT : Nat
  latched : List Latched
  l1Exit : Bool
  rndKey : Nat
  rndCnt : Nat
  rndEnd : Bool
  usedAsync : Nat
  termDev : Nat
deriving DecidableEq, Repr

/-- The ports, and the ports whose POWER_ON waits, in their order of arrival (R334). -/
structure Ports where
  tab : Tab Port
  waiting : List Nat
  svcHs : Bool
deriving DecidableEq, Repr

/-! ### DMA -/

/-- The beats of an operation on a channel (R224 to R226): its owner, the addresses of the beats of host memory that it has still to read, the
beat reads that are outstanding, and the beats staged. -/
structure Beats where
  o : Owner
  todo : List Nat
  outst : Nat
  staged : Nat
deriving DecidableEq, Repr

/-- A DMA channel beside its registers (R219 to R229): whether a chain runs, the dwords of its descriptor (none while its read is not
answered) and whether its read has still to be made, the planner's operation and the one parked under it with its registers, its STATE, its age,
its setting and its beats, whether a forced power-down paused the channel, whether it was paused before a pacing event, whether its transfer has
set out, the STATUS that waits for a barrier, the beats written beyond BEATS_K, the conditioner's registers as latched (R234), the beats of its
operation, the number of its last turn in its island (R224), and the bytes that DATA cells have brought (R221). -/
structure Chan where
  chain : Bool
  desc : Option (List Word)
  unread : Bool
  flow : Option Nat
  parked : Option Nat
  saved : List Word
  parkState : Nat
  parkAge : Nat
  parkCnd : List Word
  parkBeats : Beats
  age : Nat
  powerPaused : Bool
  paceWait : Bool
  started : Bool
  barrier : Nat
  beats : Nat
  cnd : List Word
  queue : Beats
  turn : Nat
  got : List Byte
deriving DecidableEq, Repr

/-! ### Instances -/

/-- An instance, or the manager's window (R84, R242 to R256). `quiesce` is the QUIESCE_INSTANCE under way (its submitter, its entry,
RESULT0); `away` is, on a member, which has no instances of its own (R240), what the head has put the instance's work there into: 0 served, 2
quiescing, 3 quiesced (R242, R248). -/
structure Inst where
  state : BitVec 3
  away : BitVec 3
  aqBase : BitVec 64
  acqBase : BitVec 64
  aqCfg : Word
  acqCfg : Word
  aqPi : Nat
  aqCi : Nat
  acqPi : Nat
  acqCi : Nat
  cfgErr : Bool
  idxErr : Bool
  inFull : Bool
  outFull : Bool
  mbxCtl : Word
  mbxIn : List Word
  mbxOut : List Word
  quota : Word
  msixEn : Bool
  fmask : Bool
  unmasked : List (BitVec 8)
  pending : List (BitVec 8)
  dirty : Option (Addr × Nat)
  dirtyOvf : Bool
  marks : List Nat
  unqReset : Bool
  removing : Bool
  quiesce : Option (Owner × List Word × Nat)
deriving DecidableEq, Repr

/-! ### Power, faults, images, test -/

/-- A domain's transit (R268). -/
inductive Transit where
  | none | toP1 | toP2 | exit
deriving DecidableEq, Repr

/-- A votable domain (R263 to R268, R277): its state, its transit, its forced target, the target of an accepted request that came in a transit
(R264), its vote slots, its Caramel level. -/
structure Dom where
  pstate : Nat
  transit : Transit
  forced : Option Nat
  asked : Option Nat
  alloc : Word
  sw : Word
  hw : Word
  level : Nat
deriving DecidableEq, Repr

/-- A deep entry or exit under way (R270 to R276). -/
inductive DeepPhase where
  | idle | copying | closing | entering | undoing | deep | exiting
deriving DecidableEq, Repr

/-- The power controller (R260 to R282): the domains, the deep entry or exit, the wake that waits for an entry and what armed the alarm,
whether the chip is idle, the DCO step of R331, the temperatures of the bank sensors, PWR_DOM_SEL, the clusters voted off while idle,
whether the entry under way closed the bypass switches, and the Caramel level of the last deep state (R279). -/
structure Pwr where
  doms : Tab Dom
  phase : DeepPhase
  target : Nat
  wake : Option (BitVec 3)
  armedBy : BitVec 3
  idle : Bool
  dco : Nat
  tj : Tab Int
  sel : Nat
  clidle : List Nat
  reopen : Bool
  level : Nat
deriving DecidableEq, Repr

/-- A request at a bank's arbiter (R237, R238): the bank, the requester (R239), its level, the beats of its transfer, the bank cycles that it has
waited, and whether the end of its operation counts its grant. -/
structure BankReq where
  bank : Nat
  req : Nat
  lvl : Nat
  beats : Nat
  wait : Nat
  atEnd : Bool
deriving DecidableEq, Repr

/-- The arbiters of the banks (R237, R238): the requests that wait, the beats of the transfer that holds each bank, and the requesters served
last, by bank × 2 + class (0 data, 1 isochronous). -/
structure Banks where
  reqs : List BankReq
  busy : Tab Nat
  last : Tab Nat
deriving DecidableEq, Repr

/-- The refresh sequencer (R215, R216): the scrubber's ticks in the pass, each bank's next row, the interval chosen from its sensor and
the interval in use, as EBM_REFRESH codes them. -/
structure Seq where
  scrub : Nat
  rows : Tab Nat
  want : Tab Nat
  used : Tab Nat
deriving DecidableEq, Repr

/-- An access that waits for a dark domain or for a soft reset, or behind one that does (R88, R94). `page` numbers what it is for: a page of
the chip, 256 × p + page for window p of BAR0, or 0x10000 for the manager window; `slot` is the place of its cell in the ingress buffer
(R51, R53): the key of the cell's source, class and ring. -/
structure Held where
  src : Src
  page : Nat
  off : Nat
  op : Op
  slot : Option Nat
deriving DecidableEq, Repr

/-- A root-cause record (R305). `remote` marks a location on another chip (R288); `serves` is what an element at level BLOCK was serving when it
failed, the root ports by number and the endpoint contexts by 512 + context (R284); `map` the live map when the record opened (R289). -/
structure Rec where
  loc : BitVec 64
  code : BitVec 16
  state : Nat
  serial : Nat
  rct : BitVec 64
  suppressed : Nat
  affected : Nat
  moves : Nat
  remote : Bool
  serves : List Nat
  map : BitVec 64
deriving DecidableEq, Repr

/-- The fault log in AON (R286), the record opened last, and the serial of the next record. -/
structure Flt where
  recs : Tab Rec
  newest : Nat
  serial : Nat
deriving DecidableEq, Repr

/-- An image slot of the MRAM (R310, R311): its bytes, and whether it holds the image the part was shipped with, whose bytes
are not published. -/
structure Slot where
  bytes : Tab Byte
  factory : Bool
deriving DecidableEq, Repr

/-- A copy of the boot record, with its sequence number and its CRC-32 (R312). -/
structure BootRec where
  seq : Word
  crc : Word
  active : Bool
  trial : Bool
  count : Nat
  stA : Nat
  stB : Nat
deriving DecidableEq, Repr

/-- The configuration store and the update session (R311 to R323). `session` is the path that opened it (true: the register
path) and the length. -/
structure Nvm where
  a : Slot
  b : Slot
  recs : BootRec × BootRec
  session : Option (Bool × Nat)
  restart : Bool
  snapshot : List Byte
  fallback : Bool
deriving DecidableEq, Repr

/-- Where the boot stands (R308). -/
inductive Boot where
  | unpowered | inReset | hashing | checking | running
deriving DecidableEq, Repr

/-- An engine's times of watchdog expiry within the last second (RCT), its missed heartbeat checks, whether its duties have passed to
another engine, and, for a ring engine or a management core, which have no status register, whether it is restarting (R20, R201, R259,
R293). -/
structure EngRec where
  expiries : List Nat
  missed : Nat
  passed : Bool
  down : Bool
deriving DecidableEq, Repr

/-- The management block beside its registers (R18 to R20, R41, R102, R201, R293, R308). Engines are keyed by kind; `wdogAt` is RCT at
the last kick of the chip watchdog or at its start (R321), `mcFailed` the management cores that have failed since reset (R20), `stopped`
the islands that have stopped (R302, R304), `rid` the routing ID that the physical function has captured (R241). -/
structure Mgt where
  boot : Boot
  pins : BitVec 6
  pcie : Bool
  breakPend : Bool
  engines : Tab EngRec
  mcFailed : Nat
  wdogAt : Nat
  checks : Tab Word
  vfs : Nat
  stopped : List Nat
  rid : BitVec 16
deriving DecidableEq, Repr

/-- The debug island (R345 to R347): the instruction register, the boundary register, the preloaded cells. -/
structure Jtag where
  ir : BitVec 8
  bound : Scan
  preload : Scan
  sticky : Bool
deriving DecidableEq, Repr

/-- A request of the service port that runs (R206, R207): its first dword, its target position, the byte offset in the chip window, the
dwords asked for, the dwords to write, the dwords read so far, how many are done, and the first that was refused. -/
structure SvcJob where
  head : Word
  pos : Nat
  off : Nat
  count : Nat
  data : List Word
  got : List Word
  next : Nat
  bad : Option Nat
deriving DecidableEq, Repr

/-- The service port beside its registers (R205 to R208): the request that runs, the response, the event record with the SEQ of its ready
response and its count of new records, the halts, and the toggles of endpoints 0x01, 0x81 and 0x82. -/
structure Svc where
  job : Option SvcJob
  resp : Option (List Word)
  evt : Word
  seq : BitVec 16
  newRecs : Nat
  evtRct : Word
  haltOut : Bool
  haltIn : Bool
  togOut : Bool
  togIn : Bool
  togEvt : Bool
deriving DecidableEq, Repr

/-- The state of one SK512. `ebmBad` holds the numbers of the 64-bit words of EBM that hold an uncorrectable error (R213); `fresh` is the model's
own counter for free values; `out` is what the chip has sent. -/
structure State where
  pending : List Instr
  regs : Tab Word
  latch : Tab Word
  lowHeld : Tab Word
  held : List Held
  mgt : Mgt
  clk : Clock
  ring : Ring
  sbd : Sbd
  que : Queues
  ctx : Ctxs
  pln : Pln
  prt : Ports
  ebm : Tab Byte
  ebmBad : List Nat
  banks : Banks
  seq : Seq
  dma : Tab Chan
  inst : Tab Inst
  pwr : Pwr
  flt : Flt
  nvm : Nvm
  jtag : Jtag
  svc : Svc
  arb : Tab Word
  out : List Out
  fresh : Nat
deriving DecidableEq, Repr

/-- Why the machine stops with a fault. No command of the spec stops the block: the type has one constructor, which no
meaning of the model raises (safe). -/
inductive Fault where
  /-- Raised by nothing: the spec gives the block no fault that ends its run. Safe. -/
  | stopped
deriving DecidableEq, Repr

/-- Why a command is refused. -/
inductive Refusal where
  /-- Raised by Dispatch.exec alone, for a row that has no meaning yet. Safe. -/
  | notModelled (mnemonic : String)
deriving DecidableEq, Repr

/-! ### The state after reset -/

/-- A ring port after reset (R40, R59): not training, its feed present. -/
def LinkSide.init : LinkSide := ⟨0, 0, 0, false, false, true⟩

/-- A ring port's outgoing cells after reset: none. -/
def Egress.init : Egress := ⟨[], []⟩

/-- An instance after reset (R84, R127, R242): disabled, queues of 2^4 entries, its MSI-X vectors masked (assumption 6). -/
def Inst.init : Inst where
  state := 0
  away := 0
  aqBase := 0
  acqBase := 0
  aqCfg := 4
  acqCfg := 4
  aqPi := 0
  aqCi := 0
  acqPi := 0
  acqCi := 0
  cfgErr := false
  idxErr := false
  inFull := false
  outFull := false
  mbxCtl := 0
  mbxIn := List.replicate 16 0
  mbxOut := List.replicate 16 0
  quota := 0x80000600
  msixEn := false
  fmask := false
  unmasked := []
  pending := []
  dirty := none
  dirtyOvf := false
  marks := []
  unqReset := false
  removing := false
  quiesce := none

/-- A root port after reset (R177): OFF. -/
def Port.init : Port where
  charging := false
  line := .se0
  debouncing := false
  stable := false
  ss := .off
  reset := none
  resetWaits := none
  suspendWaits := false
  resumeByDev := false
  allowTxn := false
  wire := none
  lastT := 0
  latched := []
  l1Exit := false
  rndKey := 0
  rndCnt := 0
  rndEnd := true
  usedAsync := 0
  termDev := 0

/-- An operation without beats. -/
def Beats.init : Beats := ⟨.mgr, [], 0, 0⟩

/-- A DMA channel after reset (R219): idle. -/
def Chan.init : Chan where
  chain := false
  desc := none
  unread := false
  flow := none
  parked := none
  saved := []
  parkState := 0
  parkAge := 0
  parkCnd := []
  parkBeats := .init
  age := 0
  powerPaused := false
  paceWait := false
  started := false
  barrier := 0
  beats := 0
  cnd := []
  queue := .init
  turn := 0
  got := []

/-- An engine after reset. -/
def EngRec.init : EngRec := ⟨[], 0, false, false⟩

/-- A domain after reset (R262, R265): in P0, no slot allocated, no vote (slot 36 is cast when the chip stops being idle,
R267; assumption 7). -/
def Dom.init : Dom := ⟨0, .none, none, none, 0, 0, 0, 10⟩

/-- A record that has never been opened (R286). -/
def Rec.init : Rec := ⟨0, 0, 0, 0, 0, 0, 0, 0, false, [], 0⟩

/-- The configuration store of a shipped part (assumption 8): slot A ACTIVE with the factory image, slot B EMPTY; one copy of the boot record
is valid, by its CRC-32 (R312). -/
def Nvm.init : Nvm where
  a := ⟨[], true⟩
  b := ⟨[], false⟩
  recs := (⟨1, 0x7DF3B61F, false, false, 0, 4, 0⟩, ⟨0, 0, false, false, 0, 4, 0⟩)
  session := none
  restart := false
  snapshot := []
  fallback := false

/-- The state right after reset: the entry to HOLD at the end of the COLD reset sequence (R9, R28, R308), with the straps at
slot 0 (assumption 9), the bypass switches closed, both feeds present and no command waiting. Registers that a table gives a
reset value are not listed in `regs`: an unlisted register reads as its reset value. -/
def State.reset : State where
  pending := []
  regs := []
  latch := []
  lowHeld := []
  held := []
  mgt := ⟨.running, 0, false, false, [], 0, 0, [], 0, [], 0⟩
  clk := ⟨0, 0, 0, 0, false, 0, 0, false⟩
  ring := ⟨.init, .init, false, true, none, none, false, none, false, 0, false, 0, [], [], true, [], [], [], [], [], [], [], [],
    .init, .init, [], 0⟩
  sbd := ⟨[], false, false, Config.lfsrSeed 0 Config.dieSerial, false, false⟩
  que := ⟨[], [], [], none, [], [], 0⟩
  ctx := ⟨[], [], [], [], []⟩
  pln := ⟨[], 0, false, 0, [], [], [], [], [], false⟩
  prt := ⟨[], [], false⟩
  ebm := []
  ebmBad := []
  banks := ⟨[], [], []⟩
  seq := ⟨0, [], [], []⟩
  dma := []
  inst := []
  pwr := ⟨[], .idle, 0, none, 1, true, 16, [], 0, [], false, 10⟩
  flt := ⟨[], 0, 0⟩
  nvm := .init
  jtag := ⟨1, 0, 0, false⟩
  svc := ⟨none, none, 0, 0, 0, 0, false, false, false, false, false⟩
  arb := []
  out := []
  fresh := 0

end Sys2Proof.Machine
end

