-- ==== Sys2Proof/Machine/Operands.lean ====
section
/-!
DEFINITION. The operand forms of the spec: cells (R45), queue entries (R117, R124), admin entries (R130, R131, R133), DMA
descriptors (R220), Periodic Service Entries (R146), fault locations (R283), log records (R305), image headers (R310), and
the chip address of a root port or a position.
-/
namespace Sys2Proof.Machine

/-! ### Owners and keys -/

/-- An owner as a table key: an instance by its number, the manager as 1,024. -/
def ownerKey : Owner → Nat
  | .mgr => 1024
  | .inst i => i.toNat

/-- The owner of a key. -/
def ownerOf (k : Nat) : Owner := if k < 1024 then .inst (BitVec.ofNat 10 k) else .mgr

/-- The key of a queue number of an owner (R84). -/
def refKey (o : Owner) (q : Nat) : Nat := ownerKey o * 2048 + q

/-- The entry at a key of a table that lists what exists. -/
def look {α : Type} (t : Tab α) (k : Nat) : Option α := (t.find? (fun p => p.1 == k)).map (·.2)

/-- An entry put at a key. -/
def put {α : Type} (t : Tab α) (k : Nat) (v : α) : Tab α := tabIns k v (tabDel t k)

/-! ### Cells -/

/-- The header of a cell with CRC 0, as four dwords (R45). -/
def cellHead (c : Cell) : List Word :=
  [BitVec.ofNat 32 (c.dst.toNat + c.src.toNat * 2 ^ 6 + c.typ.toNat * 2 ^ 12 + c.cls.toNat * 2 ^ 16 + b2n c.ringB * 2 ^ 18
      + b2n c.wrapped * 2 ^ 19 + b2n c.bcast * 2 ^ 20 + c.auth.toNat * 2 ^ 21 + c.hops.toNat * 2 ^ 24),
   BitVec.ofNat 32 (c.crdCount.toNat + c.crdClass.toNat * 2 ^ 8 + b2n c.crdRing * 2 ^ 10 + c.seq.toNat * 2 ^ 16),
   c.tag, BitVec.ofNat 32 c.len.toNat]

/-- The CRC that the SK512 computes for a cell: header bytes 0 to 13 and the whole payload (R45). -/
def cellCrc (c : Cell) : BitVec 16 := BitVec.ofNat 16 (crc16 ((wordBytes (cellHead c)).take 14 ++ c.pay))

/-- The cell passes its CRC (R48). -/
def cellOk (c : Cell) : Bool := c.crc == cellCrc c

/-- The cell with its CRC recomputed. -/
def cellStamp (c : Cell) : Cell := { c with crc := cellCrc c }

/-- A payload of 64 bytes that begins with the bytes given. -/
def payOf (d : List Byte) : List Byte := d.take 64 ++ List.replicate (64 - d.length) 0

/-- Dword n of a payload. -/
def cellDword (c : Cell) (n : Nat) : Word := BitVec.ofNat 32 (ofLe ((c.pay.drop (4 * n)).take 4))

/-- The little-endian number in n bytes of a payload from a byte on (R55). -/
def payNum (c : Cell) (i n : Nat) : Nat := ofLe ((c.pay.drop i).take n)

/-- TIMING, TOPO, FAULT and CREDIT cells carry CLASS = TIME, and no other does (R51). -/
def timeType (t : BitVec 4) : Bool := t == 9 || t == 10 || t == 11 || t == 12

/-- The table key of a position, a class and a ring. -/
def crdKey (pos cls : Nat) (ringB : Bool) : Nat := pos * 8 + cls * 2 + b2n ringB

/-! ### Transfer Queue entries (R117, R118) -/

/-- TYPE of an entry. -/
def eType (e : List Word) : Nat := bits (dw e 0) 0 4
/-- FIRST. -/
def eFirst (e : List Word) : Bool := bit (dw e 0) 4
/-- LAST. -/
def eLast (e : List Word) : Bool := bit (dw e 0) 5
/-- BATCH. -/
def eBatch (e : List Word) : Bool := bit (dw e 0) 6
/-- IOC. -/
def eIoc (e : List Word) : Bool := bit (dw e 0) 7
/-- DIR: 1 IN. -/
def eIn (e : List Word) : Bool := bit (dw e 0) 8
/-- ZLP. -/
def eZlp (e : List Word) : Bool := bit (dw e 0) 9
/-- TS. -/
def eTs (e : List Word) : Bool := bit (dw e 0) 10
/-- TAG. -/
def eTag (e : List Word) : BitVec 16 := BitVec.ofNat 16 (bits (dw e 0) 16 16)
/-- LENGTH. -/
def eLen (e : List Word) : Nat := bits (dw e 1) 0 24
/-- CND. -/
def eCnd (e : List Word) : Nat := bits (dw e 1) 24 5
/-- ADDR. -/
def eAddr (e : List Word) : Addr := join64 (dw e 2) (dw e 3)
/-- The 8 setup bytes of a SETUP entry. -/
def eSetup (e : List Word) : List Byte := wordBytes [dw e 2, dw e 3]
/-- START_UFRAME. -/
def eStart (e : List Word) : Word := dw e 4
/-- ASAP. -/
def eAsap (e : List Word) : Bool := bit (dw e 5) 0
/-- The peer endpoint context of a RELAY entry. -/
def ePeerCtx (e : List Word) : Nat := bits (dw e 2) 0 13
/-- The peer position of a RELAY entry. -/
def ePeerPos (e : List Word) : Nat := bits (dw e 2) 13 6

/-- m is after n, as microframe numbers (R151). -/
def ufAfter (m n : Word) : Bool := decide ((m - n).toInt > 0)

/-- The distance from microframe b to microframe a (R151). -/
def ufDiff (a b : Nat) : Int := (BitVec.ofNat 32 a - BitVec.ofNat 32 b).toInt

/-- A reserved field of an entry is not 0 (R117, R119): isochronous entries alone have DW4 and DW5[0]; ADDR is reserved in
STATUS and NOP, and above bit 18 in RELAY. -/
def eReserved (isoc : Bool) (e : List Word) : Bool :=
  bits (dw e 0) 11 5 != 0 || bits (dw e 1) 29 3 != 0 || dw e 6 != 0 || dw e 7 != 0 || bits (dw e 5) 1 31 != 0
    || (!isoc && (dw e 4 != 0 || bit (dw e 5) 0))
    || ((eType e == 3 || eType e == 5) && (dw e 2 != 0 || dw e 3 != 0))
    || (eType e == 4 && (bits (dw e 2) 19 13 != 0 || dw e 3 != 0))

/-- The four dwords of a CQ entry (R124). A root-cause reference takes the place of a timestamp. -/
def cqEntry (q : Nat) (p : Post) (count : Nat) : List Word :=
  [BitVec.ofNat 32 (q % 2048 + p.status.toNat * 2 ^ 12 + p.tag.toNat * 2 ^ 16),
   BitVec.ofNat 32 (p.bytes % 2 ^ 24 + b2n (p.ts.isSome && p.rc.isNone) * 2 ^ 24 + b2n p.rc.isSome * 2 ^ 25),
   BitVec.ofNat 32 (p.idx % 2 ^ 16 + count % 2 ^ 16 * 2 ^ 16),
   match p.rc, p.ts with | some r, _ => r | none, some t => t | none, none => 0]

/-! ### Admin entries (R130 to R133) -/

/-- OPCODE. -/
def aOp (e : List Word) : Nat := bits (dw e 0) 0 8
/-- CID. -/
def aCid (e : List Word) : Nat := bits (dw e 0) 16 16
/-- TARGET. -/
def aTarget (e : List Word) : BitVec 10 := BitVec.ofNat 10 (bits (dw e 1) 0 10)
/-- ON_BEHALF. -/
def aBehalf (e : List Word) : Bool := bit (dw e 1) 10
/-- The reserved bits of the common head are not 0. -/
def aHeadReserved (e : List Word) : Bool := bits (dw e 0) 8 8 != 0 || bits (dw e 1) 11 21 != 0
/-- A dword from n on is not 0: unused dwords are reserved (R130). -/
def aTail (e : List Word) (n : Nat) : Bool := ((e.take 16).drop n).any (· != 0)
/-- The endpoint context of an EPREF dword. -/
def epCtx (w : Word) : Nat := bits w 0 13
/-- The chip position of an EPREF dword. -/
def epPos (w : Word) : Nat := bits w 13 6
/-- The reserved bits of an EPREF dword are not 0. -/
def epBad (w : Word) : Bool := bits w 19 13 != 0

/-- The four dwords of an ACQ entry (R131). -/
def acqEntry (cid op : Nat) (status detail aqCi : Nat) (r0 r1 : Word) : List Word :=
  [BitVec.ofNat 32 (cid % 65536 + op % 256 * 2 ^ 16 + status % 16 * 2 ^ 24),
   BitVec.ofNat 32 (detail % 256 + aqCi % 65536 * 2 ^ 16), r0, r1]

/-- The local port of a global port identifier (R13). -/
def gpPort (w : Word) : Nat := bits w 0 9
/-- The ring position of a global port identifier (R13). -/
def gpPos (w : Word) : Nat := bits w 9 6

/-! ### Descriptors and Periodic Service Entries -/

/-- A reserved bit of a DMA descriptor is set (R220); DONE and STATUS are ignored on read. -/
def descReserved (d : List Word) : Bool :=
  bits (dw d 4) 30 2 != 0 || bits (dw d 5) 5 19 != 0 || bits (dw d 5) 25 3 != 0 || bits (dw d 6) 0 5 != 0

/-- The PSE of an endpoint of interval 2^k and phase φ (R146, R147). -/
def pseOf (ctx k phase : Nat) : Word :=
  BitVec.ofNat 32 (ctx + (k - 11) * 2 ^ 13 + (if k ≤ 11 then 0 else phase / 2048) * 2 ^ 16)

/-- The node that holds it: log2 of the node's interval, and the node's phase (R147). -/
def nodeOf (k phase : Nat) : Nat × Nat := (min k 11, phase % 2048 % 2 ^ min k 11)

/-- Microframe n serves an endpoint of interval 2^k and phase φ (R147). -/
def serves (k phase n : Nat) : Bool := n % 2 ^ k == phase

/-! ### Fault locations (R283, R284) -/

/-- A 64-bit location from its fields. -/
def locOf (level pos cluster port tier dev elem page : Nat) : BitVec 64 :=
  BitVec.ofNat 64 (level % 16 + pos % 64 * 2 ^ 4 + cluster % 64 * 2 ^ 10 + port % 512 * 2 ^ 16 + tier % 8 * 2 ^ 25
    + dev % 2048 * 2 ^ 28 + elem % 8192 * 2 ^ 39 + page % 256 * 2 ^ 52)

/-- LEVEL. -/
def locLevel (l : BitVec 64) : Nat := bits64 l 0 4
/-- POS. -/
def locPos (l : BitVec 64) : Nat := bits64 l 4 6
/-- CLUSTER. -/
def locCluster (l : BitVec 64) : Nat := bits64 l 10 6
/-- PORT. -/
def locPort (l : BitVec 64) : Nat := bits64 l 16 9
/-- TIER. -/
def locTier (l : BitVec 64) : Nat := bits64 l 25 3
/-- DEVICE. -/
def locDev (l : BitVec 64) : Nat := bits64 l 28 11
/-- ELEMENT. -/
def locElem (l : BitVec 64) : Nat := bits64 l 39 13
/-- PAGE. -/
def locPage (l : BitVec 64) : Nat := bits64 l 52 8

/-- The dwords of a log record (R305). -/
def recWords (r : Rec) : List Word :=
  [lo32 r.loc, hi32 r.loc, BitVec.ofNat 32 (r.code.toNat + r.state % 4 * 2 ^ 16), BitVec.ofNat 32 (r.serial % 2 ^ 20),
   lo32 r.rct, hi32 r.rct, BitVec.ofNat 32 (satTo 32 r.suppressed),
   BitVec.ofNat 32 (satTo 16 r.affected + satTo 16 r.moves * 2 ^ 16)]

/-- The number of tiers of a route string, up to its first zero nibble (R195). -/
def routeTier (r : BitVec 20) : Nat :=
  let n := r.toNat
  if n % 16 == 0 then 0 else if n / 16 % 16 == 0 then 1 else if n / 256 % 16 == 0 then 2
  else if n / 4096 % 16 == 0 then 3 else if n / 65536 == 0 then 4 else 5

/-- No nibble after the first zero one is non-zero (R195). -/
def routeOk (r : BitVec 20) : Bool := r.toNat / 16 ^ routeTier r == 0

/-- A route string extends another: the other is a proper part of it from its first tier on (R191, R284). -/
def routeExtends (r p : BitVec 20) : Bool :=
  decide (routeTier p < routeTier r) && r.toNat % 16 ^ routeTier p == p.toNat % 16 ^ routeTier p

/-! ### Image headers (R310) -/

/-- The little-endian number in n bytes of an image from an offset. -/
def imgNum (m : Tab Byte) (a n : Nat) : Nat := ofLe (memRead m a n)

/-! ### Bus costs (R164, R192, R357) -/

/-- R164's cost of one packet of N bytes on a port: speeds 0 low, 1 full, 2 high, 3 and 4 SuperSpeed. Bulk and control cost
as interrupt (R192). -/
def pktCost (speed : Nat) (isoc : Bool) (n : Nat) : Nat :=
  match speed with
  | 0 => 8 * (13 + ceilDiv (7 * n) 6)
  | 1 => (if isoc then 9 else 13) + ceilDiv (7 * n) 6
  | 2 => (if isoc then 38 else 55) + ceilDiv (7 * n) 6
  | _ => 50 + n

/-- The cost of a split that carries N bytes, on the high-speed root port (R164). -/
def splitCost (n : Nat) : Nat := 76 + ceilDiv (7 * n) 6

/-- R164's budget of a port of a speed: per microframe, per frame, or per bus interval. -/
def portBudget (speed : Nat) : Nat :=
  match speed with | 0 => 1350 | 1 => 1350 | 2 => 6000 | 3 => 56250 | _ => 136363

/-- R192's test: a transaction of cost C may start at time T, in the units of the port's speed; on SuperSpeed C is N + 50. -/
def fits (speed t c : Nat) : Bool :=
  match speed with
  | 0 => decide (t + c ≤ 1494)
  | 1 => decide (t + c ≤ 1494)
  | 2 => decide (t + c ≤ 7430)
  | 3 => decide (t + c ≤ 62500)
  | _ => decide (t + c ≤ 151515)

/-- The cost of a service of B bytes in packets of M (R164): full packets, and the last one. -/
def svcCost (speed : Nat) (isoc : Bool) (b m : Nat) : Nat :=
  b / m * pktCost speed isoc m + (if b % m == 0 then 0 else pktCost speed isoc (b % m))

end Sys2Proof.Machine
end

