-- ==== Sys2Proof/Machine/Ops.lean ====
section
/-!
DEFINITION. The named operations on the state: registers and their fields, counters, what leaves the chip, modes and
positions, free values, the tables of instances, ports, channels, domains and records, and the injection of cells with their
sequence numbers and credits (R42, R45 to R54). The block has no exception entry: an error or an interrupt is an effect on
the state (Flags.lean).
-/
namespace Sys2Proof.Machine

/-! ### Pages (R86) -/

abbrev pMgt : Nat := 0x00
abbrev pPwr : Nat := 0x01
abbrev pAon : Nat := 0x02
abbrev pRing : Nat := 0x03
abbrev pSbd : Nat := 0x04
abbrev pNvm : Nat := 0x06
abbrev pFlt : Nat := 0x07
abbrev pPln : Nat := 0x08
abbrev pEbm : Nat := 0x09
abbrev pArb : Nat := 0x0A
abbrev pLe : Nat := 0x20
abbrev pTen : Nat := 0x28
abbrev pSvc : Nat := 0x2C
abbrev pCnd : Nat := 0x2D

/-- The CLU page of a port. -/
def cluPage (p : Nat) : Nat := 0x30 + p / 8
/-- The DMA page of a channel. -/
def dmaPage (ch : Nat) : Nat := 0x10 + ch / 4
/-- The LE page of a chip-local TQ index (R359). -/
def lePage (t : Nat) : Nat := 0x20 + t % 32 / 4

/-! ### Registers -/

/-- The stored word of a register (R9: what nothing has written is its reset value). -/
def rd (s : State) (a : Nat) : Word := tabGet regReset s.regs a

/-- A register's stored word replaced. -/
def wr (s : State) (a : Nat) (v : Word) : State := { s with regs := tabSet regReset s.regs a v }

/-- A field shifted to a later copy of its register. -/
def fsh (f : Fld) (d : Nat) : Fld := { f with off := f.off + d }

/-- A field of a page's register. -/
def rf (s : State) (page : Nat) (f : Fld) : Nat := fget (rd s (adr page f.off)) f

/-- A field of a page's register replaced. -/
def wf (s : State) (page : Nat) (f : Fld) (v : Nat) : State :=
  wr s (adr page f.off) (fput (rd s (adr page f.off)) f v)

/-- A one-bit field is 1. -/
def rb (s : State) (page : Nat) (f : Fld) : Bool := rf s page f == 1

/-- A one-bit field set or cleared. -/
def wb (s : State) (page : Nat) (f : Fld) (b : Bool) : State := wf s page f (b2n b)

/-- A saturating counter raised by n (R9 tables). -/
def addF (s : State) (page : Nat) (f : Fld) (n : Nat) : State := wf s page f (satTo f.w (rf s page f + n))

/-- A saturating counter raised by 1. -/
def incF (s : State) (page : Nat) (f : Fld) : State := addF s page f 1

/-- A field of a port's registers in its CLU page. -/
def pfld (p : Nat) (f : Fld) : Fld := fsh f (p % 8 * 0x10)
/-- A field of a port. -/
def prf (s : State) (p : Nat) (f : Fld) : Nat := rf s (cluPage p) (pfld p f)
/-- A field of a port replaced. -/
def pwf (s : State) (p : Nat) (f : Fld) (v : Nat) : State := wf s (cluPage p) (pfld p f) v
/-- A field of a DMA channel's registers. -/
def cfld (ch : Nat) (f : Fld) : Fld := fsh f (ch % 4 * 0x40)
/-- A field of a channel. -/
def crf (s : State) (ch : Nat) (f : Fld) : Nat := rf s (dmaPage ch) (cfld ch f)
/-- A field of a channel replaced. -/
def cwf (s : State) (ch : Nat) (f : Fld) (v : Nat) : State := wf s (dmaPage ch) (cfld ch f) v
/-- The 64-bit pair of a channel's registers at a low offset. -/
def cpair (s : State) (ch off : Nat) : BitVec 64 :=
  join64 (rd s (adr (dmaPage ch) (off + ch % 4 * 0x40))) (rd s (adr (dmaPage ch) (off + 4 + ch % 4 * 0x40)))
/-- That pair replaced. -/
def cpairW (s : State) (ch off : Nat) (v : BitVec 64) : State :=
  wr (wr s (adr (dmaPage ch) (off + ch % 4 * 0x40)) (lo32 v)) (adr (dmaPage ch) (off + 4 + ch % 4 * 0x40)) (hi32 v)

/-- PAGE_CONTROL.ENABLE of a page (R87): 0 and its block accepts no new work. -/
def pageOn (s : State) (page : Nat) : Bool := rb s page PAGE_CONTROL_ENABLE

/-! ### Emission and free values -/

/-- Something leaves the chip. -/
def emit (s : State) (o : Out) : State := { s with out := s.out ++ [o] }

/-- Several things leave the chip, in order. -/
def emits (s : State) (os : List Out) : State := { s with out := s.out ++ os }

/-- The next free value (assumption 2). -/
def freeNow (s : State) : Word := Config.freeValue s.fresh

/-- The counter of free values advanced. -/
def freeStep (s : State) : State := { s with fresh := s.fresh + 1 }

/-! ### Modes, roles, positions (R28, R42, R77) -/

/-- MGT_MODE.MODE. -/
def mode (s : State) : Nat := rf s pMgt MGT_MODE_MODE
/-- MGT_MODE.PREV. -/
def prevMode (s : State) : Nat := rf s pMgt MGT_MODE_PREV
/-- PENDING of MGT_MODE. -/
def pendingMode (s : State) : Bool := rb s pMgt MGT_MODE_PENDING
/-- TARGET of MGT_MODE. -/
def targetMode (s : State) : Nat := rf s pMgt MGT_MODE_TARGET
/-- A transition to HOLD is pending (R31, R102). -/
def toHold (s : State) : Bool := pendingMode s && targetMode s == 0
/-- HEAD, or SEVERED out of HEAD (R77). -/
def isHead (s : State) : Bool := mode s == 2 || (mode s == 4 && prevMode s == 2)
/-- MEMBER, or SEVERED out of MEMBER. -/
def isMember (s : State) : Bool := mode s == 3 || (mode s == 4 && prevMode s == 3)
/-- The PCIe endpoint is active (R6): not in MEMBER, in SEVERED out of MEMBER, or in VAULT. -/
def epActive (s : State) : Bool := !isMember s && mode s != 7
/-- The chip holds the host link for instances and schedules (R6). -/
def holdsLink (s : State) : Bool := mode s == 1 || isHead s
/-- A mode in which schedules run (R28, R32, R33). -/
def runsSchedules (s : State) : Bool := mode s == 1 || mode s == 2 || mode s == 3 || mode s == 4
/-- HOLD, LOOP or RECOVERY (R103, R175, R203, R230). -/
def quietMode (s : State) : Bool := mode s == 0 || mode s == 5 || mode s == 6
/-- The chip's own position: 0 in STANDALONE (assumption 10), RING_POSITION.POS otherwise. -/
def ownPos (s : State) : Nat := if mode s == 1 then 0 else rf s pRing RING_POSITION_POS
/-- A head is known (RING_POSITION.HEAD_VALID). -/
def headKnown (s : State) : Bool := rb s pRing RING_POSITION_HEAD_VALID
/-- SEG_ROLE is ORPHAN (R67). -/
def orphan (s : State) : Bool := rf s pRing RING_STATUS_SEG_ROLE == 2
/-- The live map (R43). -/
def liveMap (s : State) : BitVec 64 := join64 (rd s (adr pRing 0x060)) (rd s (adr pRing 0x064))
/-- A position is in the live map. -/
def live (s : State) (p : Nat) : Bool := bits64 (liveMap s) p 1 == 1
/-- A position is this chip or a live one. -/
def reachable (s : State) (p : Nat) : Bool := p == ownPos s || ((mode s == 2 || mode s == 4 || mode s == 3) && live s p)
/-- RCT as AON holds it (R23). -/
def rct (s : State) : BitVec 64 := s.clk.rct
/-- The low 32 bits of RCT. -/
def rctLo (s : State) : Word := lo32 (rct s)
/-- The chip is in P3, P4 or P5, or on its way there after the clamps (R95). -/
def chipDeep (s : State) : Bool := decide (3 ≤ rf s pPwr PWR_CHIP_STATE)

/-! ### Instances, ports, channels, domains, records -/

/-- An instance by its key (the manager is 1,024). -/
def instAt (s : State) (k : Nat) : Inst := tabGet (fun _ => Inst.init) s.inst k
/-- An instance replaced. -/
def setInst (s : State) (k : Nat) (i : Inst) : State := { s with inst := tabSet (fun _ => Inst.init) s.inst k i }
/-- What holds back an instance's work here (R242, R248, R251): 2 while it is quiesced or reset out of service, 3 once it is QUIESCED; on a
member what the head has put it into. -/
def instPhase (i : Inst) : BitVec 3 :=
  if i.state == 4 then (if i.unqReset then 2 else 3) else if i.away != 0 then i.away else i.state
/-- Nothing is written for the instance (R249). -/
def instHeld (i : Inst) : Bool := i.state == 3 || i.away == 3
/-- An instance's work is quiescing, quiesced or resetting: no plan that opens holds a graph of it (R248). -/
def ownerStill (s : State) (o : Owner) : Bool := let p := instPhase (instAt s (ownerKey o)); p == 2 || p == 3
/-- A port beside its registers. -/
def portAt (s : State) (p : Nat) : Port := tabGet (fun _ => Port.init) s.prt.tab p
/-- It replaced. -/
def setPort (s : State) (p : Nat) (x : Port) : State :=
  { s with prt := { s.prt with tab := tabSet (fun _ => Port.init) s.prt.tab p x } }
/-- A channel beside its registers. -/
def chanAt (s : State) (ch : Nat) : Chan := tabGet (fun _ => Chan.init) s.dma ch
/-- It replaced. -/
def setChan (s : State) (ch : Nat) (c : Chan) : State := { s with dma := tabSet (fun _ => Chan.init) s.dma ch c }
/-- A domain. -/
def domAt (s : State) (d : Nat) : Dom := tabGet (fun _ => Dom.init) s.pwr.doms d
/-- It replaced. -/
def setDom (s : State) (d : Nat) (x : Dom) : State :=
  { s with pwr := { s.pwr with doms := tabSet (fun _ => Dom.init) s.pwr.doms d x } }
/-- A root-cause record. -/
def recAt (s : State) (i : Nat) : Rec := tabGet (fun _ => Rec.init) s.flt.recs i
/-- It replaced. -/
def setRec (s : State) (i : Nat) (r : Rec) : State :=
  { s with flt := { s.flt with recs := tabSet (fun _ => Rec.init) s.flt.recs i r } }
/-- A TQ replaced or made. -/
def setTq (s : State) (t : Nat) (x : Tq) : State := { s with que := { s.que with tqs := put s.que.tqs t x } }
/-- A CQ replaced or made. -/
def setCq (s : State) (c : Nat) (x : Cq) : State := { s with que := { s.que with cqs := put s.que.cqs c x } }
/-- A queue reference replaced or made. -/
def setRef (s : State) (k : Nat) (x : QRef) : State := { s with que := { s.que with refs := put s.que.refs k x } }
/-- A device context replaced or made. -/
def setDev (s : State) (h : Nat) (x : Dev) : State := { s with ctx := { s.ctx with devs := put s.ctx.devs h x } }
/-- An endpoint context replaced or made. -/
def setEp (s : State) (c : Nat) (x : Ep) : State := { s with ctx := { s.ctx with eps := put s.ctx.eps c x } }
/-- A TQ. -/
def tqAt (s : State) (t : Nat) : Option Tq := look s.que.tqs t
/-- A CQ. -/
def cqAt (s : State) (c : Nat) : Option Cq := look s.que.cqs c
/-- A queue reference of an owner. -/
def refAt (s : State) (o : Owner) (q : Nat) : Option QRef := look s.que.refs (refKey o q)
/-- A device context. -/
def devAt (s : State) (h : Nat) : Option Dev := look s.ctx.devs h
/-- An endpoint context. -/
def epAt (s : State) (c : Nat) : Option Ep := look s.ctx.eps c
/-- A TQ put through a function, if it exists. -/
def updTq (s : State) (t : Nat) (f : Tq → Tq) : State := match tqAt s t with | some x => setTq s t (f x) | none => s
/-- An endpoint context put through a function, if it exists. -/
def updEp (s : State) (c : Nat) (f : Ep → Ep) : State := match epAt s c with | some x => setEp s c (f x) | none => s
/-- A function applied for each element of a list in turn. -/
def each {α : Type} (l : List α) (s : State) (f : State → α → State) : State := l.foldl f s

/-- The EBM banks that a byte range touches (R209). -/
def banksOf (a n : Nat) : List Nat :=
  if n = 0 then [] else
    (List.range (min 8 ((a % 4096 + n - 1) / 4096 + 1))).map (fun i => (a / 4096 + i) % 8)

/-! ### The engines' duties (R20, R259, R293) -/

/-- The key of an engine in Mgt.engines: kind (0 LE, 1 TE, 2 RE, 3 MC, 4 PE) and number. -/
def engKey (kind n : Nat) : Nat := kind * 256 + n
/-- What is kept of an engine beside its registers. -/
def engRec (s : State) (k : Nat) : EngRec := tabGet (fun _ => EngRec.init) s.mgt.engines k

/-- The engine that takes over an engine's duties (R20, R259, R293): the next list engine of its island, the next tenant engine, the other
ring engine of its island, MC7 for a management core. -/
def heir (kind n : Nat) : Nat :=
  match kind with | 0 => n / 4 * 4 + (n + 1) % 4 | 1 => (n + 1) % 16 | 2 => n / 2 * 2 + (n + 1) % 2 | _ => 7

/-- The engine that does an engine's duties, along the engines that have passed theirs on. -/
def doerN (s : State) (kind : Nat) : Nat → Nat → Nat
  | 0, n => n
  | k + 1, n => if (engRec s (engKey kind n)).passed then doerN s kind k (heir kind n) else n

/-- The engine that does an engine's duties (R20, R259, R293): itself, or another while its duties have passed. -/
def doer (s : State) (kind n : Nat) : Nat := doerN s kind 16 n

/-! ### MSI-X (R241, R255, R256) -/

/-- The routing ID of a function (R241), from the one that the physical function has captured: virtual function n + 1 is instance n. -/
def routingId (pf : BitVec 16) (o : Owner) : BitVec 16 :=
  match o with | .mgr => pf | .inst i => pf + BitVec.ofNat 16 (i.toNat + 1)

/-- A vector of a function is masked, or the function's messages are held (R256). -/
def msixHeld (i : Inst) (v : BitVec 8) : Bool :=
  !i.msixEn || i.fmask || !i.unmasked.contains v || i.state == 2 || i.state == 3

/-- A vector is sent as a message, or its pending bit is set (R256). -/
def msix (s : State) (o : Owner) (v : BitVec 8) : State :=
  let k := ownerKey o
  let i := instAt s k
  if msixHeld i v then setInst s k { i with pending := if i.pending.contains v then i.pending else i.pending ++ [v] }
  else emit s (.msix (routingId s.mgt.rid o) o v)

/-- Every pending vector that is no longer held is sent once (R250, R256). -/
def msixFlush (s : State) (o : Owner) : State :=
  let k := ownerKey o
  let i := instAt s k
  let go := i.pending.filter (fun v => !msixHeld i v)
  emits (setInst s k { i with pending := i.pending.filter (fun v => msixHeld i v) }) (go.map (.msix (routingId s.mgt.rid o) o ·))

/-! ### Host writes and the dirty log (R247, R252, R253) -/

/-- The 4 KiB pages that a write touches (R252). -/
def pagesOf (a : Nat) (n : Nat) : List Nat :=
  if n = 0 then [] else (List.range ((a + n - 1) / 4096 - a / 4096 + 1)).map (fun i => a / 4096 + i)

/-- The dwords of dirty bitmaps in the cache of 1,024 (R253). -/
def dirtyDwords (s : State) : Nat := s.inst.foldl (fun n p => n + (p.2.marks.map (· / 32)).eraseDups.length) 0

/-- The read-modify-writes of the dwords that hold the bits of some pages of a bitmap, under the physical function's routing ID (R247, R253). -/
def dirtyOuts (pf : BitVec 16) (base : Addr) (ps : List Nat) : List Out :=
  (ps.map (· / 32)).eraseDups.flatMap (fun d =>
    let a := base + BitVec.ofNat 64 (4 * d)
    [.hostRead pf .mgr a 4, .dirtyDword pf a ((ps.filter (fun p => p / 32 == d)).foldl (fun m p => m ||| bitW (p % 32)) 0)])

/-- A full cache writes back the oldest dwords of the instance whose write needs room (R253; which dwords leave is a DESIGN CHOICE, assumption
91). -/
def dirtyEvict (s : State) (k : Nat) : Nat → State
  | 0 => s
  | n + 1 =>
    let i := instAt s k
    match i.dirty, i.marks with
    | some (b, _), p :: _ =>
      if dirtyDwords s ≤ 1024 then s
      else dirtyEvict (emits (setInst s k { i with marks := i.marks.filter (fun q => q / 32 != p / 32) })
        (dirtyOuts s.mgt.rid b (i.marks.filter (fun q => q / 32 == p / 32)))) k n
    | _, _ => s

/-- The dirty log of a write of an instance: a bit for each page within the bitmap, DIRTY_OVF for one beyond it (R252). The
DIRTY_OVF error bit is set by the caller (Flags). -/
def dirtyLog (s : State) (o : Owner) (a : Addr) (n : Nat) : State :=
  let k := ownerKey o
  let i := instAt s k
  match o, i.dirty with
  | .inst _, some (_, len) =>
    let ps := pagesOf a.toNat n
    let inside := ps.filter (fun p => decide (p < 8 * len))
    dirtyEvict (setInst s k { i with
      marks := i.marks ++ inside.filter (fun p => !i.marks.contains p)
      dirtyOvf := i.dirtyOvf || ps.any (fun p => !decide (p < 8 * len)) }) k inside.length
  | _, _ => s

/-! ### The way of a cell (R26, R43, R65) -/

/-- The bypass switches are closed. -/
def bypassed (s : State) : Bool := rb s pRing RING_STATUS_BYPASS_CLOSED

/-- No cell leaves the chip (R40, R61): the switches are closed, or the lanes carry power only. -/
def noLanes (s : State) : Bool := bypassed s || mode s == 1 || mode s == 7

/-- The chip takes part in the ring (R28, R40, R61): it runs, its switches are open, and its lanes carry cells. -/
def onRing (s : State) : Bool := s.mgt.boot == .running && !chipDeep s && !noLanes s

/-- The wrap at the port by which a cell of a ring leaves (R65): ring A leaves by East, ring B by West (R37). -/
def wrapAt (s : State) (ringB : Bool) : Bool :=
  if ringB then rb s pRing RING_STATUS_WEST_WRAP else rb s pRing RING_STATUS_EAST_WRAP

/-- The other end of the segment that arrives at a port of a position, by the live map (R66). -/
def twinEnd (s : State) (pos : Nat) (east : Bool) : Nat × Bool :=
  let cand := (List.range 64).map (fun k => if east then (pos + k + 1) % 64 else (pos + 63 - k) % 64)
  match cand.find? (live s) with
  | some q => (q, !east)
  | none => (pos, !east)

/-- A cell that leaves a position on a ring is turned there (R65): the chip's own wrap, or an end of a break that it knows of. -/
def turned (s : State) (p : Nat) (ringB : Bool) : Bool :=
  s.ring.breaks.contains (p, !ringB) || (p == ownPos s && wrapAt s ringB)

/-- The hops of a cell that leaves a position on a ring, to another one, along the live positions; `turn` says where it goes back on the
other ring (R26, R43, R65). -/
def walkHops (map : BitVec 64) (turn : Nat → Bool → Bool) (dst : Nat) : Nat → Nat → Bool → Nat
  | 0, _, _ => 64
  | n + 1, p, ringB =>
    if turn p ringB then walkHops map turn dst n p (!ringB)
    else
      let q := if ringB then (p + 63) % 64 else (p + 1) % 64
      if q == dst then 1 else (if bits64 map q 1 == 1 then 1 else 0) + walkHops map turn dst n q ringB

/-- The hops from a position to another on a ring: none to itself. A way round the ring and back has fewer than 132 steps. -/
def hopsFrom (s : State) (p dst : Nat) (ringB : Bool) : Nat :=
  if dst == p then 0 else walkHops (liveMap s) (turned s) dst 132 p ringB

/-- The hops from the chip to a position on a ring. -/
def hopsOn (s : State) (dst : Nat) (ringB : Bool) : Nat := hopsFrom s (ownPos s) dst ringB

/-- The path choice of R26 toward a position: ring B when it has fewer hops. -/
def useB (s : State) (dst : Nat) : Bool := decide (hopsOn s dst true < hopsOn s dst false)

/-! ### Outgoing cells (R50, R65) -/

/-- A key's count in a table of counts. -/
def cnt (t : Tab Nat) (k : Nat) : Nat := tabGet (fun _ => 0) t k
/-- It replaced. -/
def setCnt (t : Tab Nat) (k v : Nat) : Tab Nat := tabSet (fun _ => 0) t k v

/-- The cells that wait to leave on a ring. -/
def egress (s : State) (ringB : Bool) : Egress := if ringB then s.ring.westOut else s.ring.eastOut
/-- They replaced. -/
def setEgress (s : State) (ringB : Bool) (e : Egress) : State :=
  if ringB then { s with ring := { s.ring with westOut := e } } else { s with ring := { s.ring with eastOut := e } }

/-- A cell joins those that leave on a ring. -/
def queueCell (s : State) (ringB transit : Bool) (c : Cell) : State :=
  setEgress s ringB { egress s ringB with cells := (egress s ringB).cells ++ [(transit, c)] }

/-- A cell turned onto the other ring (R45, R65); a transit cell that fails its CRC stays as it is (R48). -/
def turnCell (transit : Bool) (c : Cell) : Cell :=
  if !transit then { c with wrapped := true } else if cellOk c then cellStamp { c with wrapped := true } else c

/-- A cell goes to the port of a ring, or a wrap there turns it onto the other ring (R65). Between two wraps it comes back to its source,
which strips it (R49). -/
def enqueue (s : State) (ringB transit : Bool) (c : Cell) : State :=
  if !wrapAt s ringB then queueCell s ringB transit c
  else if !wrapAt s (!ringB) then queueCell s (!ringB) transit (turnCell transit c)
  else if c.bcast then s else incF s pRing RING_DROP_CNT_NODST

/-- The cells that wait at a port whose wrap has just been applied turn too (R65). -/
def turnQueue (s : State) (ringB : Bool) : State :=
  each (egress s ringB).cells (setEgress s ringB Egress.init) (fun s p => enqueue s ringB p.1 p.2)

/-- The class that a port serves in a slot (R50): the first of TIME, ISO, CTRL and DATA of which a cell waits. -/
def slotClass (e : Egress) : Option Nat := [0, 1, 2, 3].find? (fun k => e.cells.any (fun p => p.2.cls.toNat == k))

/-- The cell of a class that goes (R50): one in transit before one of the chip's own, unless eight slots in a row have gone to transit
cells while one of the chip's own waited. -/
def slotPick (e : Egress) (k : Nat) : Option (Bool × Cell) :=
  let mine := e.cells.filter (fun p => p.2.cls.toNat == k)
  match mine.find? (·.1), mine.find? (fun p => !p.1) with
  | some t, some l => some (if cnt e.runs k == 8 then l else t)
  | some t, none => some t
  | none, l => l

/-- The runs after a slot of a class: another class breaks a run below eight, which the next slot of its class ends. -/
def slotRuns (e : Egress) (k : Nat) (transit : Bool) : Tab Nat :=
  let waits := e.cells.any (fun p => p.2.cls.toNat == k && !p.1)
  setCnt (e.runs.filter (fun p => p.2 == 8)) k (if transit && waits then min 8 (cnt e.runs k + 1) else 0)

/-- The first class and ring with credits owed to a position. -/
def owedTo (s : State) (pos : Nat) : Option (Nat × Nat) := s.ring.owed.find? (fun p => p.1 / 8 == pos && decide (0 < p.2))

/-- The credits that a cell of the chip's own takes along in DW1 (R53): those of its own CRD_CLASS and CRD_RING where it names them, else
the first that are owed to its destination. -/
def creditsFor (s : State) (c : Cell) : Option (Nat × Nat) :=
  if c.bcast then none
  else if c.crdClass == 0 then owedTo s c.dst.toNat
  else
    let k := crdKey c.dst.toNat c.crdClass.toNat c.crdRing
    if cnt s.ring.owed k == 0 then none else some (k, cnt s.ring.owed k)

/-- A cell of the chip's own with credits of a key in DW1. -/
def withCredits (c : Cell) (g : Option (Nat × Nat)) : Cell :=
  match g with
  | some (k, n) => { c with
      crdCount := BitVec.ofNat 8 (min n 255), crdClass := BitVec.ofNat 2 (k % 8 / 2), crdRing := k % 2 == 1 }
  | none => { c with crdCount := 0, crdClass := 0, crdRing := false }

/-- A cell of the chip's own leaves on a ring, with credits owed to its destination and its CRC (R45, R53). -/
def leaveOwn (s : State) (ringB : Bool) (c : Cell) : State :=
  let g := creditsFor s c
  let s1 := match g with
    | some (k, n) => { s with ring := { s.ring with owed := setCnt s.ring.owed k (n - min n 255) } }
    | none => s
  emit s1 (.cell ringB (cellStamp (withCredits c g)))

/-- A cell slot of the port by which a ring leaves (R50). -/
def cellSlot (s : State) (ringB : Bool) : State :=
  if !onRing s || (if ringB then rf s pRing RING_STATUS_WEST_LINK else rf s pRing RING_STATUS_EAST_LINK) != 2 then s
  else
    let e := egress s ringB
    match (slotClass e).bind (fun k => (slotPick e k).map (fun p => (k, p))) with
    | none => s
    | some (k, p) =>
      let s1 := setEgress s ringB ⟨e.cells.erase p, slotRuns e k p.1⟩
      if p.1 then emit s1 (.cell ringB p.2) else leaveOwn s1 ringB p.2

/-- A cell slot of both ports. -/
def cellSlots (s : State) : State := cellSlot (cellSlot s false) true

/-! ### Injection (R45, R52, R63, R320) -/

/-- A cell injected: its SEQ per destination, class and ring (R45). -/
def inject (s : State) (c : Cell) : State :=
  let k := crdKey c.dst.toNat c.cls.toNat c.ringB
  let n := cnt s.ring.seqTx k
  enqueue { s with ring := { s.ring with seqTx := setCnt s.ring.seqTx k ((n + 1) % 65536) } } c.ringB false
    { c with seq := BitVec.ofNat 16 n }

/-- The cells that a chip in RECOVERY injects: REG_CPL, CREDIT, TOPO and FAULT (R320). -/
def recoveryCell (t : BitVec 4) : Bool := t == 5 || t == 9 || t == 11 || t == 12

/-- A cell waits for a credit or for the switches to open. -/
def waitCell (s : State) (c : Cell) : State := { s with ring := { s.ring with waitQ := s.ring.waitQ ++ [c] } }

/-- A cell of class TIME goes at once; any other spends a credit or waits for one behind the cells of its key (R52). In RECOVERY
the other types of R320 are not injected, a chip that leaves by a planned closing injects nothing more (R63), and one whose lanes carry no
cells (R40, R61) injects nothing: its TIME cells, which tell of the moment, go nowhere (assumption 71). -/
def submit (s : State) (c : Cell) : State :=
  let k := crdKey c.dst.toNat c.cls.toNat c.ringB
  if mode s == 6 && !recoveryCell c.typ then s
  else if noLanes s && timeType c.typ then s
  else if s.ring.closeTimer || noLanes s then waitCell s c
  else if timeType c.typ then inject s c
  else if s.ring.waitQ.any (fun w => crdKey w.dst.toNat w.cls.toNat w.ringB == k) || cnt s.ring.credits k == 0 then waitCell s c
  else inject { s with ring := { s.ring with credits := setCnt s.ring.credits k (cnt s.ring.credits k - 1) } } c

/-- A cell of the chip's own, toward a position (R26, R47: AUTH as given; the head alone gives other than NONE). -/
def mkCell (s : State) (dst typ cls auth : Nat) (tag : Word) (d : List Byte) : Cell where
  dst := BitVec.ofNat 6 dst
  src := BitVec.ofNat 6 (ownPos s)
  typ := BitVec.ofNat 4 typ
  cls := BitVec.ofNat 2 cls
  ringB := useB s dst
  wrapped := false
  bcast := false
  auth := BitVec.ofNat 3 auth
  hops := 0
  crdCount := 0
  crdClass := 0
  crdRing := false
  seq := 0
  tag := tag
  len := BitVec.ofNat 7 (min 64 d.length)
  crc := 0
  pay := payOf d

/-- A cell made and submitted. -/
def sendCell (s : State) (dst typ cls auth : Nat) (tag : Word) (d : List Byte) : State :=
  submit s (mkCell s dst typ cls auth tag d)

/-- A cell to every chip (R45), on a ring. -/
def bcastCell (s : State) (ringB : Bool) (typ auth : Nat) (d : List Byte) : Cell :=
  { mkCell s 0 typ 0 auth 0 d with bcast := true, ringB := ringB }

/-- A cell of class TIME to every chip, on both rings (R43, R55, R63). -/
def broadcast (s : State) (typ auth : Nat) (d : List Byte) : State :=
  submit (submit s (bcastCell s false typ auth d)) (bcastCell s true typ auth d)

/-- A TOPO cell to every chip, on both rings (R43, R63, R68). -/
def tellAll (s : State) (auth : Nat) (m : TopoMsg) : State := broadcast s 0xB auth (Config.topoPay m)

/-- A TOPO cell to a position (R52, R63). -/
def tellOne (s : State) (dst : Nat) (m : TopoMsg) : State := sendCell s dst 0xB 0 0 0 (Config.topoPay m)

/-- A FAULT cell toward the head (R66, R288). -/
def sendFault (s : State) (loc : BitVec 64) (code : BitVec 16) : State := sendCell s 0 0xC 0 0 0 (Config.faultPay loc code)

/-- A POST cell toward the head (R108, R257): class CTRL, the instance in TAG (assumption 17). -/
def sendPost (s : State) (p : PostMsg) : State := sendCell s 0 7 2 0 (BitVec.ofNat 32 (ownerKey p.owner % 1024)) (Config.postPay p)

/-- The cells that wait are offered again in their order, each by its path as it is now (R26, R43, R52, R54). -/
def flushCells (s : State) : State :=
  each s.ring.waitQ { s with ring := { s.ring with waitQ := [] } } (fun s c =>
    submit s { c with ringB := if c.bcast then c.ringB else useB s c.dst.toNat })

/-! ### Ingress and credits (R51, R53) -/

/-- The sum of the credits owed to a position (R53). -/
def owedSum (s : State) (pos : Nat) : Nat :=
  s.ring.owed.foldl (fun n p => if p.1 / 8 == pos then n + p.2 else n) 0

/-- A cell of the chip's own is on its way out to a position, and will carry credits owed to it (R53). -/
def leavingFor (s : State) (pos : Nat) : Bool :=
  (s.ring.eastOut.cells ++ s.ring.westOut.cells).any (fun p => !p.1 && !p.2.bcast && p.2.dst.toNat == pos)

/-- A CREDIT cell toward a position (R53): class TIME, LEN 0. -/
def sendCredit (s : State) (pos : Nat) : State := sendCell s pos 9 0 0 0 []

/-- The place of a cell in the ingress buffer (R51): its source, class and ring; class TIME takes none. -/
def ingressKey (c : Cell) : Option Nat := if c.cls == 0 then none else some (crdKey c.src.toNat c.cls.toNat c.ringB)

/-- A cell takes its place in the ingress buffer (R51). -/
def takeIngress (s : State) (c : Cell) : State :=
  match ingressKey c with
  | some k => { s with ring := { s.ring with ingress := setCnt s.ring.ingress (k % 8) (cnt s.ring.ingress (k % 8) + 1) } }
  | none => s

/-- A place is freed (R53): one credit is owed to the cell's source, and 16 owed make a CREDIT cell unless another cell leaves for it. -/
def freePlace (s : State) (k : Nat) : State :=
  let r := s.ring
  let s1 := { s with ring := { r with
    ingress := setCnt r.ingress (k % 8) (cnt r.ingress (k % 8) - 1), owed := setCnt r.owed k (cnt r.owed k + 1) } }
  if decide (16 ≤ owedSum s1 (k / 8)) && !leavingFor s1 (k / 8) then sendCredit s1 (k / 8) else s1

/-- The place of a cell is freed. -/
def freeIngress (s : State) (c : Cell) : State :=
  match ingressKey c with
  | some k => freePlace s k
  | none => s

/-- Credits that a cell's header returns (R53): restored for its source, its class and its ring, and waiting cells offered. -/
def takeCredits (s : State) (c : Cell) : State :=
  if c.crdClass == 0 then s else
    let k := crdKey c.src.toNat c.crdClass.toNat c.crdRing
    flushCells { s with ring := { s.ring with credits := setCnt s.ring.credits k (cnt s.ring.credits k + c.crdCount.toNat) } }

/-! ### 64-bit registers (R8) -/

/-- The low offsets of the register pairs that hold one 64-bit quantity (R8). TEN_EVT_POS_LO and HI are two masks, no pair. -/
def isLowHalf (page off : Nat) : Bool :=
  match blockOf page with
  | some .mgt => off == 0x044
  | some .aon => off == 0x040 || off == 0x048
  | some .ring => off == 0x058 || off == 0x060
  | some .pln => off == 0x050
  | some .dma => decide (0x40 ≤ off) && decide (off < 0x140) && (off % 0x40 == 0x00 || off % 0x40 == 0x08 || off % 0x40 == 0x1C)
  | _ => false

/-- The offset is the high half of such a pair. -/
def isHighHalf (page off : Nat) : Bool := decide (4 ≤ off) && isLowHalf page (off - 4)

end Sys2Proof.Machine
end

