-- ==== Sys2Proof/Machine/Conditioner.lean ====
section
/-!
DEFINITION. The sample conditioner (R231 to R236): swaps, formats, the gain, one exact rounding, flags, and the layouts.
-/
namespace Sys2Proof.Machine

/-! ### Settings -/

/-- A setting as an operation latches it (R234). -/
structure Cnd where
  inFmt : Nat
  outFmt : Nat
  inSwap : Nat
  outSwap : Nat
  layout : Nat
  chans : Nat
  gainEn : Bool
  ftz : Bool
  valid : Bool
  gain : Word
  stride : Nat
deriving DecidableEq, Repr

/-- The registers of setting n of the CND page: CND_FMT, CND_GAIN, CND_STRIDE; none for 0, which bypasses. -/
def cndLatch (s : State) (n : Nat) : List Word :=
  if n == 0 then [] else
    let d := 0x10 * (n - 1)
    [rd s (adr pCnd (0x040 + d)), rd s (adr pCnd (0x044 + d)), rd s (adr pCnd (0x048 + d))]

/-- The setting that those registers hold. -/
def cndOf (ws : List Word) : Cnd :=
  let g (f : Fld) : Nat := fget (dw ws 0) f
  { inFmt := g CND_FMT_IN_FMT, outFmt := g CND_FMT_OUT_FMT, inSwap := g CND_FMT_IN_SWAP, outSwap := g CND_FMT_OUT_SWAP
    layout := g CND_FMT_LAYOUT, chans := g CND_FMT_CHANNELS + 1, gainEn := g CND_FMT_GAIN_EN == 1, ftz := g CND_FMT_FTZ == 1
    valid := g CND_FMT_VALID == 1, gain := dw ws 1, stride := bits (dw ws 2) 0 24 }

/-- The bytes of a sample of a format: S16, S24, S32, F32 (R231). -/
def fmtSize (f : Nat) : Nat := if f == 0 then 2 else if f == 1 then 3 else 4

/-- R234's checks on a setting and a count of bytes on the side whose format has `side` bytes a sample; `toHost` is the side of
the planes, `drain` the direction. -/
def cndBad (c : Cnd) (drain : Bool) (count side hostSide : Nat) : Bool :=
  !c.valid || decide (3 < c.inFmt) || decide (3 < c.outFmt) || decide (4 < c.inSwap) || decide (4 < c.outSwap)
    || count % (c.chans * side) != 0
    || (c.layout != 0 && (decide (c.stride < count / side / c.chans * hostSide) || c.stride % 4 != 0))
    || c.layout == 3 || (if drain then c.layout == 1 else c.layout == 2)

/-! ### Numbers -/

/-- A sample as the gain stage sees it: (-1)^neg × m × 2^e, an infinity, or a NaN word. -/
inductive Num where
  | fin (neg : Bool) (m : Nat) (e : Int)
  | inf (neg : Bool)
  | nan (w : Word)
deriving DecidableEq, Repr

/-- The flags of R235 as bits: INEXACT 1, OVERFLOW 2, UNDERFLOW 4, INVALID 8. -/
abbrev CFlags : Type := BitVec 4

/-- Round a number right-shifted by s bits to nearest, ties to even; whether the result differs. -/
def roundShift (m s : Nat) : Nat × Bool :=
  let q := m / 2 ^ s
  let r := m % 2 ^ s
  let up := decide (2 ^ s < 2 * r) || (2 * r == 2 ^ s && q % 2 == 1 && s != 0)
  (if up then q + 1 else q, r != 0)

/-- A binary32 word decoded (R235: with FTZ a subnormal reads as a zero of its sign). -/
def decF32 (ftz : Bool) (w : Word) : Num :=
  let neg := bit w 31
  let ex := bits w 23 8
  let fr := bits w 0 23
  if ex == 255 then (if fr == 0 then .inf neg else .nan w)
  else if ex == 0 then (if ftz then .fin neg 0 0 else .fin neg fr (-149))
  else .fin neg (fr + 2 ^ 23) ((ex : Int) - 150)

/-- A NaN is signalling. -/
def isSig (n : Num) : Bool := match n with | .nan w => !bit w 22 | _ => false

/-- An integer sample of b bits decoded: n / 2^(b-1). -/
def decInt (b n : Nat) : Num :=
  if n < 2 ^ (b - 1) then .fin false n (-((b : Int) - 1)) else .fin true (2 ^ b - n) (-((b : Int) - 1))

/-- A binary32 result from an exact value (R235). -/
def encF32 (ftz neg : Bool) (m : Nat) (e : Int) : Word × CFlags :=
  let sgn : Nat := b2n neg * 2 ^ 31
  if m == 0 then (BitVec.ofNat 32 sgn, 0)
  else
    let ex : Int := e + Nat.log2 m
    if ex < -126 then
      let sh : Int := -149 - e
      let (q, ix) := if sh ≤ 0 then (m * 2 ^ (-sh).toNat, false) else roundShift m sh.toNat
      if q == 0 || (ftz && decide (q < 2 ^ 23)) then (BitVec.ofNat 32 sgn, 5)
      else (BitVec.ofNat 32 (sgn + q), if ix then (if q < 2 ^ 23 then 5 else 1) else 0)
    else
      let sh : Int := (Nat.log2 m : Int) - 23
      let (q, ix) := if sh ≤ 0 then (m * 2 ^ (-sh).toNat, false) else roundShift m sh.toNat
      let (q, ex) := if q == 2 ^ 24 then (2 ^ 23, ex + 1) else (q, ex)
      if 127 < ex then (BitVec.ofNat 32 (sgn + 0x7F800000), 3)
      else (BitVec.ofNat 32 (sgn + (ex + 127).toNat * 2 ^ 23 + (q - 2 ^ 23)), if ix then 1 else 0)

/-- An integer result of b bits from an exact value, saturated (R235). -/
def encInt (b : Nat) (neg : Bool) (m : Nat) (e : Int) : Nat × CFlags :=
  let sh : Int := -(e + (b : Int) - 1)
  let (q, ix) := if sh ≤ 0 then (m * 2 ^ (-sh).toNat, false) else roundShift m sh.toNat
  let top := 2 ^ (b - 1)
  if neg then
    if top < q then (top, 3) else ((2 ^ b - q) % 2 ^ b, if ix then 1 else 0)
  else if top ≤ q then (top - 1, 3) else (q, if ix then 1 else 0)

/-- One sample's bits through decoding, gain and encoding (R235, R236). -/
def condSample (c : Cnd) (x : Nat) : Nat × CFlags :=
  let dec (f n : Nat) : Num :=
    if f == 0 then decInt 16 n else if f == 1 then decInt 24 n else if f == 2 then decInt 32 n
    else decF32 c.ftz (BitVec.ofNat 32 n)
  let a := dec c.inFmt x
  let g := if c.gainEn then decF32 c.ftz c.gain else .fin false 1 0
  let sig : CFlags := if isSig a || isSig g then 8 else 0
  let ob := 8 * fmtSize c.outFmt
  let nanOut (w : Word) : Nat × CFlags := if c.outFmt == 3 then ((w ||| bitW 22).toNat, sig) else (0, 8)
  let infOut (neg : Bool) : Nat × CFlags :=
    if c.outFmt == 3 then (0x7F800000 + b2n neg * 2 ^ 31, 0) else (if neg then 2 ^ (ob - 1) else 2 ^ (ob - 1) - 1, 3)
  let bad : Nat × CFlags := (if c.outFmt == 3 then 0x7FC00000 else 0, 8)
  match a, g with
  | .nan w, _ => nanOut w
  | _, .nan w => nanOut w
  | .inf n1, .inf n2 => infOut (n1 != n2)
  | .inf n1, .fin n2 m _ => if m == 0 then bad else infOut (n1 != n2)
  | .fin n1 m _, .inf n2 => if m == 0 then bad else infOut (n1 != n2)
  | .fin n1 m1 e1, .fin n2 m2 e2 =>
    let neg := n1 != n2
    if c.outFmt == 3 then
      let r := encF32 c.ftz neg (m1 * m2) (e1 + e2)
      (r.1.toNat, r.2)
    else encInt ob neg (m1 * m2) (e1 + e2)

/-! ### Streams -/

/-- A stream cut into groups of n bytes, the last one shorter. -/
def groups (n : Nat) (d : List Byte) : List (List Byte) :=
  (List.range (ceilDiv d.length (max n 1))).map (fun k => (d.drop (k * n)).take n)

/-- A swap of R232 over a stream whose samples have `sz` bytes. A last group that is not whole stays as it is. -/
def swapStream (k sz : Nat) (d : List Byte) : List Byte :=
  let whole (n : Nat) (g : List Byte) (f : List Byte → List Byte) : List Byte := if g.length == n then f g else g
  match k with
  | 1 => (groups 2 d).flatMap (fun g => whole 2 g List.reverse)
  | 2 => (groups 4 d).flatMap (fun g => whole 4 g (fun g => g.drop 2 ++ g.take 2))
  | 3 => (groups 4 d).flatMap (fun g => whole 4 g List.reverse)
  | 4 => (groups sz d).flatMap (fun g => whole sz g List.reverse)
  | _ => d

/-- Samples in planes as frames: sample i of plane 0, of plane 1, and so on (R233). -/
def interleave (ch : Nat) (xs : List Nat) : List Nat :=
  let n := xs.length / max ch 1
  (List.range n).flatMap (fun i => (List.range ch).map (fun c => xs.getD (c * n + i) 0))

/-- Frames as planes (R233). -/
def deinterleave (ch : Nat) (xs : List Nat) : List Nat :=
  let n := xs.length / max ch 1
  (List.range ch).flatMap (fun c => (List.range n).map (fun i => xs.getD (i * ch + c) 0))

/-- A transfer through the conditioner (R231): bytes in (planes one after the other when the layout interleaves), bytes out
(planes one after the other when it de-interleaves), and the flags raised. The output swap comes before the layout. -/
def condition (c : Cnd) (d : List Byte) : List Byte × CFlags :=
  let isz := fmtSize c.inFmt
  let osz := fmtSize c.outFmt
  let res := ((groups isz (swapStream c.inSwap isz d)).map ofLe).map (condSample c)
  let xs := (groups osz (swapStream c.outSwap osz (res.flatMap (fun r => leBytes osz r.1)))).map ofLe
  let ys := if c.layout == 1 then interleave c.chans xs else if c.layout == 2 then deinterleave c.chans xs else xs
  (ys.flatMap (leBytes osz), res.foldl (fun f r => f ||| r.2) 0)

/-- CND_FLAGS of a channel raised (R235). -/
def cndFlags (s : State) (ch : Nat) (f : CFlags) : State :=
  let a := adr pCnd (0x300 + 4 * (ch / 8))
  wr s a (rd s a ||| BitVec.ofNat 32 (f.toNat * 2 ^ (4 * (ch % 8))))

end Sys2Proof.Machine
end

