-- ==== Sys2Proof/Machine/Flags.lean ====
section
/-!
DEFINITION. The flags: event bits and their interrupts (R257, R351), the event record of the service port (R208), the Fault
Funnel (R283 to R291), error bits (R90, R352), and the computed bits of PAGE_STATUS.
-/
namespace Sys2Proof.Machine

/-! ### Interrupts and events -/

/-- A position's page event at the head (R257): its bit of TEN_EVT_POS, and the vector of TEN_EVT_ROUTE. -/
def posEvent (s : State) (p : Nat) : State :=
  let a := adr pTen (if p < 32 then 0x09C else 0x0A0)
  let s1 := wr s a (rd s a ||| bitW (p % 32))
  if rb s1 pTen TEN_EVT_ROUTE_EN then msix s1 .mgr (BitVec.ofNat 8 (rf s1 pTen TEN_EVT_ROUTE_VECTOR)) else s1

/-- A page event's interrupt (R257, R351): a chip on a ring with another head sends an EVENT cell of class CTRL with PF and
PAGE set; any other chip sets its own bit of TEN_EVT_POS and sends the vector of TEN_EVT_ROUTE (assumption 11). In a deep state or a boot no interrupt leaves
the chip (R278, R308). -/
def pageIntr (s : State) : State :=
  if chipDeep s || s.mgt.boot != .running then s
  else if isMember s || (headKnown s && !holdsLink s) then sendCell s 0 6 2 0 (BitVec.ofNat 32 (2 ^ 10 + 2 ^ 11)) []
  else posEvent s (ownPos s)

/-- One interrupt for each bit of a mask. -/
def intrBits (s : State) (m : Word) : State :=
  each ((List.range 32).filter (fun n => bit m n)) s (fun s _ => pageIntr s)

/-- EVENT_STATUS bits set: each that is enabled and was 0 raises the interrupt (R351). -/
def evtSet (s : State) (page : Nat) (m : Nat) : State :=
  let a := adr page 0x02C
  let new := BitVec.ofNat 32 m &&& BitVec.ofNat 32 (evtBits page)
  let rise := new &&& ~~~ rd s a &&& rd s (adr page 0x030)
  intrBits (wr s a (rd s a ||| new)) rise

/-- An event bit set. -/
def evt (s : State) (page n : Nat) : State := evtSet s page (2 ^ n)

/-- EVENT_ENABLE written: a bit that makes a pair 1 raises the interrupt at once (R351). -/
def evtEnable (s : State) (page : Nat) (v : Word) : State :=
  let a := adr page 0x030
  let new := v &&& BitVec.ofNat 32 (evtBits page)
  let rise := new &&& ~~~ rd s a &&& rd s (adr page 0x02C)
  intrBits (wr s a new) rise

/-- The bits of the service port's event record (R208). -/
inductive SvcEvt where
  | ready | fault | mode | power | ring
deriving DecidableEq, Repr

/-- An event accumulates in the event record, with RCT at the latest event (R208). -/
def svcEvt (s : State) (e : SvcEvt) : State :=
  let n := match e with | .ready => 0 | .fault => 1 | .mode => 2 | .power => 3 | .ring => 4
  wb { s with svc := { s.svc with evt := s.svc.evt ||| bitW n, evtRct := rctLo s } } pSvc SVC_STATUS_EVT_PENDING true

/-! ### Error bits -/

/-- The bits of R352, whose event raises its own coded report. -/
def codedBit (page n : Nat) : Bool :=
  match blockOf page with
  | some .ring => n == 0 || n == 1 || n == 3
  | some .clu => decide (n ≤ 5)
  | some .le => n == 4
  | some .ten => n == 0 || n == 1
  | some .ebm => n == 1 || n == 2
  | some .flt => decide (n ≤ 2)
  | _ => false

/-- An ERR_STATUS bit set, with ERR_FIRST, and no report (R90, R352). -/
def errBit (s : State) (page n : Nat) : State :=
  let a := adr page 0x020
  let f := adr page 0x028
  let s1 := if rd s a == 0 then
      wr s f (BitVec.ofNat 32 (n % 32 + 2 ^ 5 + bits64 (rct s) 8 24 * 2 ^ 8)) else s
  wr s1 a (rd s1 a ||| (bitW n &&& BitVec.ofNat 32 (errBits page)))

/-! ### Locations -/

/-- The location of the chip (R283). -/
def chipLoc (s : State) : BitVec 64 := locOf 1 (ownPos s) 0 0 0 0 0 0
/-- The location of the segment arriving at a port of the chip. -/
def segLoc (s : State) (side : Side) : BitVec 64 :=
  locOf 2 (ownPos s) 0 0 0 0 0 (match side with | .east => 0 | .west => 1)
/-- The location of a block, by its page and its engine or channel number. -/
def blockLoc (s : State) (page elem : Nat) : BitVec 64 := locOf 3 (ownPos s) 0 0 0 0 elem page
/-- The location of a root port. -/
def portLoc (s : State) (p : Nat) : BitVec 64 := locOf 5 (ownPos s) (p / 8) p 0 0 0 0
/-- The location of a device context. -/
def devLoc (s : State) (h : Nat) : BitVec 64 :=
  match devAt s h with
  | some d => locOf 6 (ownPos s) (d.port / 8) d.port (routeTier d.route) h 0 0
  | none => locOf 6 (ownPos s) 0 0 0 h 0 0
/-- The location of an endpoint context. -/
def epLoc (s : State) (c : Nat) : BitVec 64 :=
  match epAt s c with
  | some e =>
    match devAt s e.dev with
    | some d => locOf 7 (ownPos s) (d.port / 8) d.port (routeTier d.route) e.dev c 0
    | none => locOf 7 (ownPos s) 0 0 0 e.dev c 0
  | none => locOf 7 (ownPos s) 0 0 0 0 c 0

/-- The route string of the device that a location names; those of other chips' devices are not known here (0, beneath which nothing lies;
assumption 101). -/
def locRoute (s : State) (l : BitVec 64) : BitVec 20 :=
  if locPos l != ownPos s then 0 else match devAt s (locDev l) with | some d => d.route | none => 0

/-! ### The Fault Funnel -/

/-- The port engine that serves a root port (R19, R201): its own, or the partner that covers it. -/
def serverOf (s : State) (p : Nat) : Nat :=
  let pe := p / 4
  if prf s p PRT_STATE_COVERED == 1 then (if pe % 2 == 0 then pe + 1 else pe - 1) else pe

/-- The endpoint contexts that an element serves: the flows of a list engine's TQs, the operations on a DMA page's channels, the flows with a
buffer in a bank. -/
def servedEps (s : State) (page elem : Nat) : List Nat :=
  let flows (f : Nat → Ep → Bool) : List Nat := (s.ctx.eps.filter (fun x => f x.1 x.2)).map (·.1)
  if page == pEbm then flows (fun _ e => e.work.isSome && (banksOf e.buf (64 * 2 ^ e.cls)).contains elem)
  else if page < 0x20 then
    flows (fun c _ => (List.range 4).any (fun k => let x := chanAt s ((page - 0x10) * 4 + k); x.flow == some c || x.parked == some c))
  else flows (fun _ e => match e.tq with | some t => doer s 0 (t % 32) == elem | none => false)

/-- What the element of a BLOCK report was serving when it failed (R284): root ports by number, endpoint contexts by 512 + context. The
failures of an engine, of a DMA block and of a bank are meant, whatever else a page reports (assumption 101). -/
def servedBy (s : State) (l : BitVec 64) (code : BitVec 16) : List Nat :=
  let page := locPage l
  let engine := code == 0x30 || code == 0x31
  if locLevel l != 3 || locPos l != ownPos s then []
  else if decide (0x30 ≤ page) && decide (page < 0x70) then
    if engine then ((List.range 8).map (· + 8 * (page - 0x30))).filter (fun p => serverOf s p == locElem l) else []
  else if decide (0x20 ≤ page) && decide (page < 0x28) && engine || decide (0x10 ≤ page) && decide (page < 0x20) || page == pEbm && code == 0x40
  then (servedEps s page (locElem l)).map (· + 512) else []

/-- A record's subtree holds a location (R284). A record at level CHIP holds every location of its chip, whatever its level: R287's 'merge
only when their location equals' is read of the records that move (assumption 102). -/
def holds (s : State) (r : Rec) (l : BitVec 64) : Bool :=
  let n := locLevel l
  r.loc == l || locLevel r.loc == 0 || (locPos r.loc == locPos l &&
    (match locLevel r.loc with
     | 1 => decide (1 ≤ n)
     | 3 => decide (5 ≤ n) && r.serves.contains (locPort l) || n == 7 && r.serves.contains (512 + locElem l)
     | 4 => decide (5 ≤ n) && locPort l / 8 == locCluster r.loc
     | 5 => decide (5 ≤ n) && locPort r.loc == locPort l
     | 6 => decide (6 ≤ n) && locPort r.loc == locPort l &&
         (locDev r.loc == locDev l || routeExtends (locRoute s l) (locRoute s r.loc))
     | _ => false))

/-- The indexes 0 to 62 and 63 of the log, with their records. -/
def recList (s : State) : List (Nat × Rec) := (List.range 64).map (fun i => (i, recAt s i))

/-- A record is deeper than another (R287): higher LEVEL, then higher TIER, then opened first. -/
def deeper (a b : Rec) : Bool :=
  decide (locLevel b.loc < locLevel a.loc) || (locLevel a.loc == locLevel b.loc &&
    (decide (locTier b.loc < locTier a.loc) || (locTier a.loc == locTier b.loc && decide (a.serial < b.serial))))

/-- The deepest OPEN or RAISED record whose subtree holds a location (R287). The overflow record, whose LEVEL is CHIP, holds nothing: the
causes that it stands for have other locations (DESIGN CHOICE, assumption 102). -/
def recHolding (s : State) (l : BitVec 64) : Option (Nat × Rec) :=
  (recList s).foldl (fun best p =>
    if (p.2.state == 1 || p.2.state == 2) && p.1 != 63 && holds s p.2 l then
      match best with
      | some b => if deeper p.2 b.2 then some p else best
      | none => some p
    else best) none

/-- The OPEN record of the same root port, for reports and records at levels PORT to ENDPOINT (R287). -/
def recSamePort (s : State) (l : BitVec 64) : Option (Nat × Rec) :=
  if locLevel l < 5 then none else
    (recList s).find? (fun p => p.2.state == 1 && decide (5 ≤ locLevel p.2.loc) && locPos p.2.loc == locPos l
      && locPort p.2.loc == locPort l)

/-- The device handles on a port. -/
def devsOn (s : State) (p : Nat) : List Nat := (s.ctx.devs.filter (fun d => d.2.port == p)).map (·.1)

/-- The port, and the device, that a location lies on (R283). -/
def atPort (l : BitVec 64) : BitVec 64 := locOf 5 (locPos l) (locCluster l) (locPort l) 0 0 0 0
def atDev (l : BitVec 64) : BitVec 64 := locOf 6 (locPos l) (locCluster l) (locPort l) (locTier l) (locDev l) 0 0

/-- The deepest common ancestor of two locations of one port (R287): the same device, the device whose route both extend, or
the port. On another chip's port, whose devices are not known here, the same device or the port (assumption 101). -/
def ancestor (s : State) (a b : BitVec 64) : BitVec 64 :=
  if locLevel a == 5 || locLevel b == 5 then atPort a
  else if locDev a == locDev b then atDev a
  else if locPos a != ownPos s then atPort a
  else
    let ra := locRoute s a
    let rb := locRoute s b
    let isOver (h : Nat) (l : BitVec 64) (r : BitVec 20) : Bool :=
      h == locDev l || (match devAt s h with | some d => routeExtends r d.route | none => false)
    let cands := (devsOn s (locPort a)).filter (fun h => isOver h a ra && isOver h b rb)
    match cands.foldl (fun best h =>
        match best with
        | some g => if locTier (devLoc s g) < locTier (devLoc s h) then some h else best
        | none => some h) none with
    | some h => devLoc s h
    | none => atPort a

/-- The root-cause reference of a record (R290). -/
def refOf (s : State) (i : Nat) : Word :=
  BitVec.ofNat 32 (i + ownPos s * 2 ^ 6 + (recAt s i).serial % 2 ^ 20 * 2 ^ 12)

/-- A new record's index (R291): the lowest FREE, else the RETIRED opened first, none when 0 to 62 hold neither. -/
def recFree (s : State) : Option Nat :=
  let l := (recList s).filter (fun p => p.1 != 63)
  match l.find? (fun p => p.2.state == 0) with
  | some p => some p.1
  | none =>
    (l.foldl (fun (best : Option (Nat × Rec)) p =>
      if p.2.state == 3 then
        match best with
        | some b => if p.2.serial < b.2.serial then some p else best
        | none => some p
      else best) none).map (·.1)

/-- ROOT_CAUSE, and a new root-cause record for the service port's event record (R208, R286). -/
def rootCause (s : State) : State :=
  svcEvt (evt { s with svc := { s.svc with newRecs := s.svc.newRecs + 1 } } pFlt 0) .fault

/-- A report counted under a record (R287): its SUPPRESSED and FLT_COUNTS.SUPPRESSED. -/
def countUnder (s : State) (i : Nat) (r : Rec) : State :=
  incF (setRec s i { r with suppressed := satTo 32 (r.suppressed + 1) }) pFlt FLT_COUNTS_SUPPRESSED

/-- A head beside this chip keeps the ring's log (R288). -/
def headElse (s : State) : Bool := headKnown s && mode s != 1 && !isHead s

/-- The record is kept for a location on another chip (R286, R288); the head logs the CHIP and SEGMENT locations of every chip. -/
def remoteLoc (s : State) (l : BitVec 64) : Bool :=
  headKnown s && mode s != 1 && locPos l != ownPos s && (!isHead s || decide (3 ≤ locLevel l))

/-- The first report of a new cause goes to the head in a FAULT cell (R66, R288): for a location on another chip, and at the levels RING, CHIP
and SEGMENT, which the head logs. -/
def tellHead (s : State) (l : BitVec 64) (code : BitVec 16) : State :=
  if headElse s && (locPos l != ownPos s || decide (locLevel l < 3)) then sendFault s l code else s

/-- A FAULT frame queued on the sideband (R66, R72, R303): 16 bytes of location, code and RCT. None while the page's ENABLE is 0 (R87). -/
def sbdFault (s : State) (l : BitVec 64) (code : BitVec 16) : State :=
  let body := leBytes 8 l.toNat ++ leBytes 2 code.toNat ++ [0, 0] ++ leBytes 4 (rctLo s).toNat
  if !pageOn s pSbd then s else { s with sbd := { s.sbd with queue := s.sbd.queue ++ [⟨1, body, false, 0⟩] } }

/-- A record opened (R286, R288, R291). -/
def openRec (s : State) (i : Nat) (l : BitVec 64) (code : BitVec 16) : State :=
  let r : Rec := ⟨l, code, 1, s.flt.serial, rct s, 0, 0, 0, remoteLoc s l, servedBy s l code, liveMap s⟩
  let s1 := setRec s i r
  { s1 with flt := { s1.flt with serial := s1.flt.serial + 1, newest := i } }

/-- The chip between two segment breaks that makes them one lost chip (R289), the earlier record first: the segment East of a chip below it and
the segment West of a chip above it, which in a ring of two is the same one. No live chip but the lost one lies between them on the map in
force at the later break; where that map holds none, the lost chip is the one that the earlier record's map holds there, or the only
position there is (DEDUCED, assumption 102). -/
def lostBetween (a b : Rec) : Option Nat :=
  let between (lo hi : Nat) : Option Nat :=
    let d := (hi + 64 - lo) % 64
    let ps := (List.range ((if d == 0 then 64 else d) - 1)).map (fun k => (lo + k + 1) % 64)
    let on (m : BitVec 64) : List Nat := ps.filter (fun p => bits64 m p 1 == 1)
    match on b.map, on a.map, ps with
    | [p], _, _ => some p
    | [], [p], _ => some p
    | [], _, [p] => some p
    | _, _, _ => none
  let ea := locPage a.loc % 2 == 0
  let eb := locPage b.loc % 2 == 0
  if ea && !eb then between (locPos a.loc) (locPos b.loc)
  else if !ea && eb then between (locPos b.loc) (locPos a.loc) else none

/-- R289 on the head after a RING_BREAK record has opened at an index: two become one CHIP_LOST record. -/
def chipLost (s : State) (i : Nat) : State :=
  let r := recAt s i
  if !isHead s || r.code != 0x50 then s else
    match (recList s).find? (fun p => p.1 != i && (p.2.state == 1 || p.2.state == 2) && p.2.code == 0x50
        && decide (r.rct.toNat - p.2.rct.toNat ≤ 250000) && (lostBetween p.2 r).isSome) with
    | some (j, q) =>
      match lostBetween q r with
      | some p =>
        let l := locOf 1 p 0 0 0 0 0 0
        sbdFault (setRec (setRec s j { q with loc := l, code := 0x51, suppressed := satTo 32 (q.suppressed + 1) }) i Rec.init) l 0x51
      | none => s
    | none => s

/-- A cause folded into the overflow record (R291). The LOG_FULL bit raises no report of its own (R352). -/
def overflowRec (s : State) : State :=
  let r := recAt s 63
  let first := r.state != 2
  let s1 := incF (setRec s 63 { r with
      loc := chipLoc s, code := 0x7F, state := 2, suppressed := satTo 32 (r.suppressed + 1)
      rct := if first then rct s else r.rct }) pFlt FLT_COUNTS_LOST
  let s2 := errBit s1 pFlt 0
  if first then rootCause s2 else s2

/-- The record that a report is counted under, and the state after it (R287, R288, R291); `tell` is false for what the head's log is told
otherwise. A report that no record holds goes to the head even where the log has no room for it or is frozen (assumption 102). -/
def funnelWith (s : State) (l : BitVec 64) (code : BitVec 16) (tell : Bool) : Nat × State :=
  let told (s : State) : State := if tell then tellHead s l code else s
  match recHolding s l with
  | some (i, r) =>
    if rb s pFlt FLT_FREEZE_FREEZE then (63, incF s pFlt FLT_FREEZE_DROPPED)
    else (i, countUnder s i { r with code := if r.loc == l && r.code == 0x12 then code else r.code })
  | none =>
    if rb s pFlt FLT_FREEZE_FREEZE then (63, told (incF s pFlt FLT_FREEZE_DROPPED))
    else
      match recSamePort s l with
      | some (i, r) =>
        let a := ancestor s r.loc l
        (i, countUnder s i { r with loc := a, code := if a == l then code else 0x12, moves := satTo 16 (r.moves + 1) })
      | none =>
        match recFree s with
        | some i => (i, chipLost (told (openRec s i l code)) i)
        | none => (63, told (overflowRec s))

/-- A report's record, with the FAULT cell of R288. -/
def funnel (s : State) (l : BitVec 64) (code : BitVec 16) : Nat × State := funnelWith s l code true

/-- A fault report (R287). -/
def report (s : State) (l : BitVec 64) (code : BitVec 16) : State := (funnel s l code).2

/-- A fault report and its root-cause reference, as an affected entry carries it: AFFECTED rises (R290, R291). -/
def reportRef (s : State) (l : BitVec 64) (code : BitVec 16) : State × Word :=
  let pr := funnel s l code
  let i := pr.1
  let s1 := pr.2
  (s1, refOf s1 i)

/-- An entry completes with a reference (R290): the AFFECTED of the record that it names, by its SERIAL too, rises unless the log is frozen. -/
def affect (s : State) (ref : Word) : State :=
  let i := bits ref 0 6
  if rb s pFlt FLT_FREEZE_FREEZE || bits ref 6 6 != ownPos s % 64 || (recAt s i).serial % 2 ^ 20 != bits ref 12 20
    || (recAt s i).state == 0 then s
  else setRec s i { recAt s i with affected := satTo 16 ((recAt s i).affected + 1) }

/-- An entry completes because of a reported fault, if one was reported: AFFECTED of its record (R290). -/
def blame (s : State) (ref : Option Word) : State := match ref with | some r => affect s r | none => s

/-- The reference of the record that holds a location now, for an entry that a known cause affects (R191, R290): record 63's while the log
is frozen (R291). -/
def causeRef (s : State) (l : BitVec 64) : Option Word :=
  if rb s pFlt FLT_FREEZE_FREEZE then some (refOf s 63) else (recHolding s l).map (fun p => refOf s p.1)

/-! ### Errors and host accesses -/

/-- An error (R90): its bit, and a report with code 0x8000 + 32 × page + bit when it is enabled and R352 does not list it. -/
def err (s : State) (page n : Nat) : State :=
  let s1 := errBit s page n
  if !codedBit page n && bit (rd s (adr page 0x024)) n then
    report s1 (blockLoc s page 0) (BitVec.ofNat 16 (0x8000 + 32 * page + n))
  else s1

/-- W1C on ERR_STATUS: ERR_FIRST.VALID clears when every bit is clear (R90). -/
def errClear (s : State) (page : Nat) (v : Word) : State :=
  let a := adr page 0x020
  let left := rd s a &&& ~~~ v
  let s1 := wr s a left
  if left == 0 then wb s1 page ERR_FIRST_VALID false else s1

/-- A list of bytes in the beats of 64 that cells carry (R45, R46). -/
def beatsOf : Nat → List Byte → List (List Byte)
  | 0, _ => []
  | n + 1, d => d.take 64 :: beatsOf n (d.drop 64)

/-- On a member, the bytes of a host write go to the head in DATA cells, of class ISO for an isochronous endpoint (R46, R52). -/
def sendData (s : State) (iso : Bool) (tag : Word) (d : List Byte) : State :=
  if isMember s then each (beatsOf (ceilDiv d.length 64) d) s (fun s b => sendCell s 0 1 (if iso then 1 else 3) 0 tag b) else s

/-- A write of an owner touches a page beyond its instance's bitmap (R252). -/
def dirtyPast (s : State) (o : Owner) (a : Addr) (n : Nat) : Bool :=
  match o, (instAt s (ownerKey o)).dirty with
  | .inst _, some (_, len) => (pagesOf a.toNat n).any (fun p => !decide (p < 8 * len))
  | _, _ => false

/-- A write to host memory for an owner reaches it, with the dirty log of its instance: DIRTY_OVF in page 0x28 (R252). -/
def hostStore (s : State) (o : Owner) (a : Addr) (d : List Byte) : State :=
  let s1 := dirtyLog s o a d.length
  let s2 := if dirtyPast s o a d.length then err s1 pTen 3 else s1
  emit s2 (.hostWrite (routingId s.mgt.rid o) o a d)

/-- A write to host memory under a DMA tag; a member's travels in DATA cells. -/
def hostWriteAs (s : State) (iso : Bool) (tag : Word) (o : Owner) (a : Addr) (d : List Byte) : State :=
  sendData (hostStore s o a d) iso tag d

/-- A write to host memory that no endpoint's data makes: a member's DMA tag for it is open (assumption 17). -/
def hostWrite (s : State) (o : Owner) (a : Addr) (d : List Byte) : State :=
  if isMember s then hostWriteAs (freeStep s) false (freeNow s) o a d else hostWriteAs s false 0 o a d

/-- A member's read of host memory goes to the head in a READ_REQ cell of class CTRL, with the address and the length (R46, R52;
assumption 17). -/
def sendReadReq (s : State) (tag : Word) (a : Addr) (n : Nat) : State :=
  if isMember s then sendCell s 0 2 2 0 tag (leBytes 8 a.toNat ++ leBytes 4 n) else s

/-- A read of host memory for an owner, under a DMA tag. -/
def hostReadAs (s : State) (tag : Word) (o : Owner) (a : Addr) (n : Nat) : State := sendReadReq (emit s (.hostRead (routingId s.mgt.rid o) o a n)) tag a n

/-- A read of host memory whose DMA tag on a member is open (assumption 17). -/
def hostRead (s : State) (o : Owner) (a : Addr) (n : Nat) : State :=
  if isMember s then hostReadAs (freeStep s) (freeNow s) o a n else hostReadAs s 0 o a n

/-- A zero-length read, which flushes posted writes (R227, R248). -/
def zeroRead (s : State) (o : Owner) : State :=
  let s1 := emit s (.zeroRead (routingId s.mgt.rid o) o)
  if isMember s then sendReadReq (freeStep s1) (freeNow s) 0 0 else s1

end Sys2Proof.Machine
end

