-- ==== Sys2Proof/Machine/ReadyOps.lean ====
section
/-!
DEFINITION. What a flow waits for: its endpoint and its port, its segments, its reservation and its next packet (R147 to R153, R188, R196), the
ready lists (R154, R158, R159), and the room that a completion waits for (R111).
-/
namespace Sys2Proof.Machine

/-- S of a queue. -/
def qSize (log2 : Nat) : Nat := 2 ^ log2

/-- A CQ has room (R105, R111). -/
def cqRoom (c : Cq) : Bool := (c.pi + 1) % qSize c.log2 != c.ci % qSize c.log2

/-- A completion may be written now: CQ room, and the owner not QUIESCED, and the chip not ORPHAN (R67, R111, R249), and its POST not in the
spill region (R159). -/
def mayPost (s : State) (x : Tq) : Bool :=
  (match cqAt s x.cq with | some c => cqRoom c | none => false)
    && !instHeld (instAt s (ownerKey x.owner)) && !orphan s && !s.pln.spill.contains (x.ep, 2)

/-- The stage of an entry is IN: DIR on a control endpoint, the endpoint's direction elsewhere (R117). -/
def stageIn (e : Ep) (en : List Word) : Bool := if e.typ == 0 then eIn en else e.dirIn

/-- Bytes of a size class. -/
def clsSize (c : Nat) : Nat := 64 * 2 ^ c

/-- The address of the byte at a distance from the head of a buffer. -/
def bufAddr (e : Ep) (k : Nat) : Nat := e.buf + (e.head - e.buf + k) % clsSize e.cls

/-- The first n bytes that a buffer holds. -/
def bufPeek (s : State) (e : Ep) (n : Nat) : List Byte := (List.range n).map (fun k => memGet s.ebm (bufAddr e k))

/-- The device of an endpoint. -/
def epDev (s : State) (e : Ep) : Option Dev := devAt s e.dev

/-- The root port of an endpoint. -/
def epPort (s : State) (e : Ep) : Nat := match devAt s e.dev with | some d => d.port | none => 0

/-- SPEED of a port. -/
def speedOf (s : State) (p : Nat) : Nat := prf s p PRT_STATE_SPEED

/-- A control endpoint. -/
def isCtl (e : Ep) : Bool := e.typ == 0

/-- An isochronous endpoint. -/
def isIsoc (e : Ep) : Bool := e.typ == 1

/-- An interrupt endpoint. -/
def isIntr (e : Ep) : Bool := e.typ == 3

/-- An isochronous or interrupt endpoint. -/
def isPer (e : Ep) : Bool := isIsoc e || isIntr e

/-- The device of an endpoint lies behind a transaction translator (R188, R195). -/
def viaTt (s : State) (e : Ep) : Bool := match epDev s e with | some d => d.ttHub != 0 | none => false

/-- The root port carries frames, not microframes (R192). -/
def frames (s : State) (p : Nat) : Bool := decide (speedOf s p < 2)

/-- Free bytes of an endpoint's buffer. -/
def bufRoom (e : Ep) : Nat := clsSize e.cls - e.fill

/-- The length of a segment that begins with some bytes of its entry to come (R153). -/
def segOf (e : Ep) (room left : Nat) : Nat :=
  if isIsoc e then left else min left (max 1 (room / max e.mps 1) * e.mps)

/-- A reservation serves in a microframe's plan: its phase, and not before its first plan nor after its last (R147, R148). -/
def rsvServes (e : Ep) (n : Nat) (r : Rsv) : Bool :=
  serves e.log2i r.phase n && decide (0 ≤ ufDiff n r.fromN) && (match r.gone with | some g => decide (ufDiff n g ≤ 0) | none => true)

/-- The reservation that serves an endpoint in a microframe's plan: its own, or one that it has replaced while the plan was open (R148). -/
def rsvFor (e : Ep) (n : Nat) : Option Rsv := (e.rsv.toList ++ e.old).find? (rsvServes e n)

/-- The bytes reserved for an endpoint's service in a microframe (R150, R196). -/
def svcBytes (e : Ep) (n : Nat) : Nat := match rsvFor e n with | some r => r.bytes | none => 0

/-- The operations of the segments of some bytes of an entry (R152, R153), by the list that each needs: 0 the port engine's for ISSUE and
COLLECT, 1 the DMA level's for STAGE or DRAIN. -/
def segOps (e : Ep) (inS : Bool) (n : Nat) : List Nat :=
  let size := segOf e (clsSize e.cls) n
  (List.range (ceilDiv n (max 1 size))).flatMap (fun k =>
    let pk := List.replicate (2 * max 1 (ceilDiv (min size (n - k * size)) (max e.mps 1))) 0
    if inS then pk ++ [1] else 1 :: pk)

/-- The operations that the graph of an asynchronous flow still holds from where it stands (R152), by the list that each needs: 0 and 1 as
above, 2 the POST list. -/
def graphOps (e : Ep) (w : Work) : List Nat :=
  let data := eType w.e == 1 || eType w.e == 4
  let inS := stageIn e w.e
  let pk (n : Nat) : List Nat := List.replicate (2 * max 1 (ceilDiv n (max e.mps 1))) 0
  let left := eLen w.e - w.moved
  let ops :=
    if !data || w.zlp || eLen w.e == 0 then (if w.op == .drain then [1] else [0, 0])
    else if inS then (if w.op == .drain then 1 :: segOps e true left else segOps e true left)
    else if w.op == .stage then 1 :: pk w.segLen ++ segOps e false (left - w.segLen)
    else pk w.seg ++ segOps e false (left - w.seg)
  ops ++ (if eLast w.e then [2] else [])

/-- The records of a flow in the spill region. -/
def spilled (s : State) (c : Nat) : Nat := (s.pln.spill.filter (·.1 == c)).length

/-- The operation of a flow that comes next is in its list again (R157, R159): the records that are left are those of later operations. -/
def recordBack (s : State) (c : Nat) (w : Work) : Bool :=
  spilled s c == 0 || (match epAt s c with
    | some e => decide (spilled s c + (if w.op == .issue then 2 else 1) ≤ (graphOps e w).length)
    | none => false)

/-- A flow's next operation may join its ready list (R154, R158, R159): none of the flow is in service, its graph is accepted, and its queue
does not stop (R135). -/
def waits (s : State) (c : Nat) (w : Work) : Bool :=
  !w.inSvc && !s.pln.deferred.contains c && (match tqAt s w.tq with | some x => x.stop.isNone | none => true) && recordBack s c w

/-- A work's next transaction is an IN: data or STATUS toward the chip (R117). -/
def inTxn (e : Ep) (w : Work) : Bool := eType w.e != 2 && stageIn e w.e

/-- The first packet of a work's interrupt service is to come (R150). -/
def firstOf (e : Ep) (w : Work) : Bool := match w.n with | some n => w.budget == svcBytes e n | none => false

/-- The bytes of the next packet of a flow's ISSUE; an interrupt service never moves more than its reserved bytes (R150). -/
def nextPacket (s : State) (e : Ep) (w : Work) : List Byte :=
  if eType w.e == 2 then eSetup w.e
  else if eType w.e == 3 || stageIn e w.e || w.zlp then []
  else
    let cap := if viaTt s e && isIsoc e then min 188 e.mps else if isIntr e && firstOf e w then min e.mps w.budget else e.mps
    bufPeek s e (min cap w.seg)

/-- The next packet of an interrupt service stays within the reserved bytes that are left to it (R150); an IN packet is as long as the device
makes it, and the first of a service is asked for in any case, and taken if the reserved bytes hold it (DESIGN CHOICE, assumption 84). -/
def svcRoom (s : State) (e : Ep) (w : Work) : Bool :=
  decide (0 < w.budget) && (firstOf e w || decide ((if inTxn e w then e.mps else (nextPacket s e w).length) ≤ w.budget))

/-- The microframe in which a periodic service's next transaction is due (R196). -/
def dueAt (s : State) (e : Ep) (w : Work) (n : Nat) : Nat :=
  if !viaTt s e || w.split == 0 then n
  else if isIsoc e && !e.dirIn then (n + w.split) % 2 ^ 32 else (n + 1 + w.split) % 2 ^ 32

/-- A periodic service's microframe is the one on the wire: the frame on a frame port, the split's own behind a TT. -/
def isDue (s : State) (e : Ep) (w : Work) : Bool :=
  match w.n with
  | none => false
  | some n =>
    let m := s.clk.uframe.toNat
    if viaTt s e then dueAt s e w n == m
    else if frames s (epPort s e) then decide (0 ≤ ufDiff m n) && decide (ufDiff m n < 8) else n == m

/-- The condition of R154 for a flow's next operation: the microframe of an ISSUE has begun, an interrupt one's in each service (R150), and a
STAGE has room for its segment, or its data from a relay's peer (R172). -/
def joined (s : State) (e : Ep) (w : Work) : Bool :=
  match w.op with
  | .issue =>
    if isIntr e then isDue s e w && svcRoom s e w
    else (match w.n with | some n => decide (0 ≤ ufDiff s.clk.uframe.toNat n) | none => !isPer e)
  | .stage => if eType w.e == 4 then decide (w.segLen ≤ e.fill) else decide (w.segLen ≤ bufRoom e)
  | .drain => true

/-- An operation of a flow is in service or in a ready list (R154, R162). -/
def opReady (s : State) (c : Nat) (e : Ep) : Bool :=
  match e.work with
  | some w => w.inSvc || (waits s c w && joined s e w)
  | none => false

end Sys2Proof.Machine
end

