-- ==== Sys2Proof/Machine/PowerOps.lean ====
section
/-!
DEFINITION. Domains, vote slots and refusals (R89, R93 to R95, R260 to R268, R277, R281), as operations that other blocks use.
-/
namespace Sys2Proof.Machine

/-- A domain code of R263; every other code is reserved. -/
def domOk (d : Nat) : Bool :=
  decide (d ≤ 0x4B) || (decide (0x50 ≤ d) && decide (d ≤ 0x5D))

/-- Every votable domain (R263). -/
def allDoms : List Nat := (List.range 0x4C) ++ (List.range 0x0E).map (· + 0x50)

/-- The domains that a page belongs to (R263); none for a page that is not votable. -/
def domsOf (page : Nat) : List Nat :=
  match blockOf page with
  | some .clu => [page - 0x30]
  | some .le => [0x40 + (page - 0x20)]
  | some .ten => [0x48 + (page - 0x28)]
  | some .ebm | some .arb => (List.range 8).map (· + 0x50)
  | some .dma => [0x58 + (page - 0x10) / 4]
  | some .cnd => (List.range 4).map (· + 0x58)
  | some .pln => [0x5C]
  | some .svc => [0x5D]
  | _ => []

/-- A domain is out of P0 or on its way (R268): it takes no new work, a forced one that waits for its channels included (R277). -/
def domClosed (s : State) (d : Nat) : Bool := (domAt s d).pstate != 0 || (domAt s d).transit != .none

/-! ### What a channel holds (R209, R226, R277) -/

/-- The banks that a channel's current source and destination touch. -/
def chanBanks (s : State) (ch : Nat) : List Nat :=
  let n := crf s ch DMA_COUNT_COUNT
  let side (ebm fixed : Fld) (a : Nat) : List Nat :=
    if crf s ch ebm == 1 then banksOf a (if crf s ch fixed == 1 then min 64 n else n) else []
  side DMA_CTRL_SRC_EBM DMA_CTRL_SRC_FIXED (cpair s ch 0x40).toNat ++ side DMA_CTRL_DST_EBM DMA_CTRL_DST_FIXED (cpair s ch 0x48).toNat

/-- A channel moves data: RUNNING, PAUSING or WAIT_BARRIER, or holds a parked operation. -/
def chanMoves (s : State) (ch : Nat) : Bool :=
  let st := crf s ch DMA_STATUS_STATE
  st == 1 || st == 2 || st == 5 || crf s ch DMA_STATUS_PARKED_OP == 1

/-- A channel's implicit vote lies on a domain (R277). -/
def chanUses (s : State) (ch d : Nat) : Bool :=
  (chanMoves s ch || crf s ch DMA_STATUS_STATE == 4) && d == 0x58 + ch / 16
    || (chanMoves s ch && decide (0x50 ≤ d) && decide (d < 0x58) && (chanBanks s ch).contains (d - 0x50))

/-- A forced entry may begin: no channel that uses the domain still moves (R226, R277). A PAUSED channel that holds a parked operation
has written its staged beats too. -/
def drained (s : State) (d : Nat) : Bool :=
  !(List.range 64).any (fun ch => chanUses s ch d && (crf s ch DMA_STATUS_STATE != 3 && crf s ch DMA_STATUS_STATE != 0 && crf s ch DMA_STATUS_STATE != 7
    || (chanAt s ch).parkBeats.outst + (chanAt s ch).parkBeats.staged != 0))

/-- A forced domain's entry has not begun, while channels pause (R277). -/
def entryWaits (s : State) (d : Nat) : Bool :=
  let x := domAt s d
  x.forced.isSome && x.pstate == 0 && (x.transit == .toP1 || x.transit == .toP2) && !drained s d

/-- A domain's block is dark (R93, R268): out of P0, or its clocks gated for an entry, or not yet back. -/
def domDark (s : State) (d : Nat) : Bool := domClosed s d && !entryWaits s d

/-- The islands of a page's block (R14, R21). -/
def islandsOf (page : Nat) : List Nat :=
  match blockOf page with
  | some .mgt | some .flt => [93]
  | some .pwr | some .nvm => [94]
  | some .aon | some .sbd => [95]
  | some .ring => [76, 77, 78, 79]
  | some .pci => [80]
  | some .pln => [98]
  | some .ebm | some .arb => (List.range 8).map (· + 81)
  | some .dma => [89 + (page - 0x10) / 4]
  | some .cnd => (List.range 4).map (· + 89)
  | some .le => [64 + (page - 0x20)]
  | some .ten => [72 + (page - 0x28)]
  | some .svc => [96]
  | some .clu => [page - 0x30]
  | none => []

/-- An island of a page's block has stopped (R302, R304): what it holds does not answer. -/
def pageStopped (s : State) (page : Nat) : Bool := (islandsOf page).any (s.mgt.stopped.contains ·)

/-- A page's block is dark (R93, R95, R263, R304). -/
def pageDark (s : State) (page : Nat) : Bool :=
  (chipDeep s && page != pAon) || (domsOf page).any (domDark s) || (page != pAon && pageStopped s page)

/-- PSTATE of a page (R87, R95, R263): the deepest of its domains, or the chip's deep state, which is not the AON page's. -/
def pagePstate (s : State) (page : Nat) : Nat :=
  if page == pAon then 0 else if chipDeep s then rf s pPwr PWR_CHIP_STATE else (domsOf page).foldl (fun m d => max m (domAt s d).pstate) 0

/-- The chip state of R262. -/
def chipState (s : State) : Nat :=
  if chipDeep s then rf s pPwr PWR_CHIP_STATE
  else if allDoms.any (fun d => (domAt s d).pstate == 0) then 0
  else if allDoms.any (fun d => (domAt s d).pstate == 1) then 1 else 2

/-- A domain holds a vote (R264). -/
def voted (d : Dom) : Bool := d.sw != 0 || d.hw != 0

/-- A domain follows its votes (R264, R268): its last vote withdrawn gates its clocks, a vote on a domain in P1 or P2 starts
its exit, and a forced domain or one in transit stays as it is (R276, R277). -/
def settled (d : Dom) : Dom :=
  if d.forced.isSome || d.transit != .none then d
  else if voted d then (if d.pstate == 0 then d else { d with transit := .exit })
  else if d.pstate == 0 then { d with pstate := 1 } else d

/-- A domain settles. -/
def settle (s : State) (d : Nat) : State := setDom s d (settled (domAt s d))

/-- A hardware slot's vote cast on a domain (R266). -/
def castHw (s : State) (slot d : Nat) : State :=
  let x := domAt s d
  setDom s d (settled { x with hw := x.hw ||| bitW (slot - 32) })

/-- A hardware slot's vote withdrawn. -/
def dropHw (s : State) (slot d : Nat) : State :=
  let x := domAt s d
  setDom s d (settled { x with hw := x.hw &&& ~~~ bitW (slot - 32) })

/-- A hardware slot's vote that follows a condition; a vote that does not change leaves the domain alone. -/
def voteHw (s : State) (slot d : Nat) (on : Bool) : State :=
  if bit (domAt s d).hw (slot - 32) == on then s else if on then castHw s slot d else dropHw s slot d

/-- Software votes cast in the allocated slots of a domain (R89, R265). -/
def castSw (s : State) (d : Nat) (m : Word) : State :=
  let x := domAt s d
  setDom s d (settled { x with sw := x.sw ||| (m &&& x.alloc) })

/-- Software votes withdrawn, without freeing their slots (R89, R265). -/
def dropSw (s : State) (d : Nat) (m : Word) : State :=
  let x := domAt s d
  setDom s d (settled { x with sw := x.sw &&& ~~~ (m &&& x.alloc) })

/-- VOTE_HELD of a page: the OR of its domains' software votes (R89). -/
def voteHeld (s : State) (page : Nat) : Word := (domsOf page).foldl (fun m d => m ||| (domAt s d).sw) 0

/-! ### Idleness and slots 36, 40, 41 (R162, R266, R267) -/

/-- A port is ENABLED, RESETTING or RESUMING. -/
def portActive (s : State) (p : Nat) : Bool :=
  let st := prf s p PRT_STATE_STATE
  st == 3 || st == 5 || st == 6

/-- The eight ports of a cluster. -/
def clPorts (c : Nat) : List Nat := (List.range 8).map (· + 8 * c)

/-- A cluster is idle (R162). -/
def clIdle (s : State) (c : Nat) : Bool := !(clPorts c).any (portActive s)

/-- No domain of a page is out of P0 or on its way (R14). -/
def pageLit (s : State) (page : Nat) : Bool := !(domsOf page).any (domClosed s)

/-- The DMA block works (R14): one of its islands at least (DESIGN CHOICE, assumption 79). -/
def dmaLit (s : State) : Bool := [0x58, 0x59, 0x5A, 0x5B].any (fun d => !domClosed s d)

/-- The EBM works (R14): one of its banks at least (DESIGN CHOICE, assumption 79). -/
def ebmLit (s : State) : Bool := (List.range 8).any (fun b => !domClosed s (0x50 + b))

/-- A TQ has a FETCH in service or in its list, or a POST in its list (R154, R162). -/
def tqBusy (s : State) (x : Tq) : Bool := !x.fetching.isEmpty || x.due || (!x.posts.isEmpty && mayPost s x)

/-- The chip is idle (R162): no port is active, no operation is in service or in a ready list, and no periodic graph is planned. -/
def chipIdle (s : State) : Bool :=
  s.ctx.eps.all (fun e => !opReady s e.1 e.2) && s.pln.plans.all (fun p => p.graphs.isEmpty) && s.que.tqs.all (fun t => !tqBusy s t.2)
    && (List.range 64).all (clIdle s)

/-- Slot 36 follows the chip's and the clusters' idleness when they stop being idle (R267). -/
def noteBusy (s : State) : State :=
  let s1 := { s with pwr := { s.pwr with clidle := s.pwr.clidle.filter (clIdle s) } }
  if !chipIdle s1 && s1.pwr.idle then
    each (allDoms.filter (fun d => !s1.pwr.clidle.contains d)) { s1 with pwr := { s1.pwr with idle := false } }
      (fun s d => voteHw s 36 d true)
  else if chipIdle s1 && !s1.pwr.idle then { s1 with pwr := { s1.pwr with idle := true } }
  else if s.pwr.clidle == s1.pwr.clidle then s1
  else each (s.pwr.clidle.filter (fun c => !clIdle s c)) s1 (fun s d => voteHw s 36 d true)

/-- Slot 41 of a port's cluster, and slot 36, after a change of the port (R266, R267). -/
def portVotes (s : State) (p : Nat) : State := noteBusy (voteHw s 41 (p / 8) (!clIdle s (p / 8)))

/-- Slot 40 cast by a port detector (R202, R266). -/
def detect (s : State) (p : Nat) : State := castHw s 40 (p / 8)

/-! ### DMA islands: slots 32 to 35 (R266, R277) -/

/-- A domain that waits for its channels to pause enters P1 as soon as they have (R268, R277). -/
def forceP1 (s : State) (d : Nat) : State :=
  let x := domAt s d
  if x.forced == some 1 && x.transit == .toP1 && drained s d then setDom s d { x with pstate := 1, transit := .none } else s

/-- The votes of a DMA island follow its channels. Its vote lines are clamped to 0 in P2 (R278), so that it holds none on a bank then; what
its channels hold on their own domain is recorded (R277; assumption 96). -/
def dmaVotes (s : State) (j : Nat) : State :=
  let chs := (List.range 16).map (· + 16 * j)
  let own := chs.any (fun ch => chanMoves s ch || crf s ch DMA_STATUS_STATE == 4)
  let banks := if (domAt s (0x58 + j)).pstate == 2 then [] else (chs.filter (chanMoves s)).flatMap (chanBanks s)
  let s1 := each (List.range 8) (voteHw s (32 + j) (0x58 + j) own) (fun s b => voteHw s (32 + j) (0x50 + b) (banks.contains b))
  each ((0x58 + j) :: (List.range 8).map (· + 0x50)) s1 forceP1

/-- The vote lines of a domain that enters or leaves P2 (R278): those of a DMA island reach other domains. -/
def islandVotes (s : State) (d : Nat) : State := if 0x58 ≤ d ∧ d ≤ 0x5B then dmaVotes s (d - 0x58) else s

/-- PWR_CARAMEL.LEVEL: above 20 it is read as 20. -/
def caramel (s : State) : Nat := min 20 (rf s pPwr PWR_CARAMEL_LEVEL)

/-! ### Other clients -/

/-- Slot 37 of a list-engine island: a poll tick, a fetch, a walk or an invalidation runs (R266). -/
def leVotes (s : State) : State :=
  each (List.range 8) s (fun s k =>
    voteHw s 37 (0x40 + k)
      (s.que.tqs.any (fun t => doer s 0 (t.1 % 32) / 4 == k && (!t.2.fetching.isEmpty || t.2.due))
        || s.pln.plans.any (fun p => !p.walked && doer s 0 (p.n % 2) / 4 == k)
        || s.que.inval.any (fun x => doer s 0 (x.1 % 32) / 4 == k)))

/-- A client whose work is done within the command casts its vote and withdraws it (R266). -/
def pulse (s : State) (slot d : Nat) : State := voteHw (voteHw s slot d true) slot d false

/-- Slot 42 of the service-port domain (R266). -/
def svcVotes (s : State) : State :=
  voteHw s 42 0x5D (rb s pSvc SVC_STATUS_CONFIGURED && !rb s pSvc SVC_STATUS_SUSPENDED)

/-! ### Refusals (R281) -/

/-- A refused or aborted request: the event, and PWR_REFUSE_WHO. -/
def powerWho (s : State) (slot cause dom name : Nat) : State :=
  evt (wr s (adr pPwr 0x05C) (BitVec.ofNat 32 (slot % 64 + cause % 4 * 2 ^ 6 + dom % 256 * 2 ^ 8 + name % 65536 * 2 ^ 16))) pPwr 0

/-- A refused request. -/
def powerRefuse (s : State) (slot cause dom name : Nat) : State :=
  powerWho (incF s pPwr PWR_REFUSE_COUNT_REFUSED) slot cause dom name

/-- The name code of a slot (R266, R281). -/
def slotName (s : State) (slot : Nat) : Nat :=
  if slot < 32 then
    bits (rd s (adr pPwr (0x060 + 4 * (slot / 2)))) (16 * (slot % 2)) 16
  else 0x8020 + (slot - 32)

/-- The lowest slot that holds a vote on a domain; slot 63 is left out of a chip request's check (R269). -/
def lowestVote (d : Dom) (but63 : Bool) : Option Nat :=
  (List.range (if but63 then 63 else 64)).find? (fun n => if n < 32 then bit d.sw n else bit d.hw (n - 32))

/-- A refusal by the lowest vote of the lowest domain that holds one (R281). -/
def refuseByVote (s : State) (doms : List Nat) (but63 : Bool) : State :=
  match doms.find? (fun d => (lowestVote (domAt s d) but63).isSome) with
  | some d =>
    match lowestVote (domAt s d) but63 with
    | some n => powerRefuse s n 0 d (slotName s n)
    | none => s
  | none => s

end Sys2Proof.Machine
end

