-- ==== Sys2Proof/Machine/QueueOps.lean ====
section
/-!
DEFINITION. Operations on the queues: completion entries and their order (R109 to R111, R124 to R127), CI (R362), prefetch
(R113), chains (R120 to R123), aborts (R135, R136), and the admin completion queue (R129, R131).
-/
namespace Sys2Proof.Machine

/-- Entries from an index up to another, modulo S (R105). -/
def span (log2 a b : Nat) : Nat := (b + qSize log2 - a % qSize log2) % qSize log2

/-- An index lies from `a` up to, not including, `b`. -/
def inSpan (log2 a b i : Nat) : Bool := decide (span log2 a i < span log2 a b)

/-! ### Posting -/

/-- The head's copy of a queue's index is set (R107, R108). -/
def copyPi (s : State) (o : Owner) (q pi : Nat) : State :=
  match refAt s o q with
  | some r => setRef s (refKey o q) { r with pi := BitVec.ofNat 16 pi }
  | none => s

/-- The head's copy of a TQ's CI is set, or the change is sent to the head (R108), in a POST cell of its own. -/
def copyCi (s : State) (o : Owner) (q ci : Nat) : State :=
  if isMember s then
    let p : PostMsg := ⟨o, 0, 0, [], 0, none, none, some (BitVec.ofNat 11 q, BitVec.ofNat 16 ci)⟩
    sendPost s p
  else match refAt s o q with
    | some r => setRef s (refKey o q) { r with ci := BitVec.ofNat 16 ci }
    | none => s

/-- The PI mirror of a CQ after a PI change (R110): written at once, or after the 1 µs of the last write. -/
def mirror (s : State) (k : Nat) : State :=
  match cqAt s k with
  | some c =>
    match c.mirror with
    | some a =>
      if c.mirrorHold then setCq s k { c with mirrorDue := true }
      else hostWrite (setCq s k { c with mirrorHold := true }) c.owner a (leBytes 4 (c.pi % 65536))
    | none => s
  | none => s

/-- A CQ entry written, in the order of R109: the entry, the PI, the mirror, the vector. On a member it travels to the head
as a POST cell with the flag that asks for the vector (R257). -/
def writeCq (s : State) (k : Nat) (dws : List Word) (irq : Bool) : State :=
  match cqAt s k with
  | none => s
  | some c =>
    let a := c.base + BitVec.ofNat 64 (16 * (c.pi % qSize c.log2))
    let pi := (c.pi + 1) % qSize c.log2
    let s1 := setCq s k { c with pi := pi }
    if isMember s then
      let due := c.mirror.isSome && !c.mirrorHold
      let p : PostMsg := ⟨c.owner, BitVec.ofNat 11 c.q, a, dws, BitVec.ofNat 16 pi, if due then c.mirror else none,
        if irq && c.irqEn then some c.vec else none, none⟩
      let s2 := setCq s1 k { c with pi := pi, mirrorHold := c.mirror.isSome, mirrorDue := c.mirror.isSome && c.mirrorHold }
      sendPost s2 p
    else
      let s2 := copyPi (hostWrite s1 c.owner a (wordBytes dws)) c.owner c.q pi
      let s3 := mirror s2 k
      if irq && c.irqEn then msix s3 c.owner c.vec else s3

/-- A POST cell takes effect at the head (R108 to R110, R257): the CQ entry, the PI, the mirror, the vector, in this order; or a change of a
CI. -/
def writePost (s : State) (p : PostMsg) : State :=
  let s1 := if p.dws.isEmpty then s else hostWrite s p.owner p.addr (wordBytes p.dws)
  let s2 := if p.dws.isEmpty && p.mirror.isNone then s1 else copyPi s1 p.owner p.q.toNat p.pi.toNat
  let s3 := match p.mirror with | some a => hostWrite s2 p.owner a (leBytes 4 p.pi.toNat) | none => s2
  let s4 := match p.vec with | some v => msix s3 p.owner v | none => s3
  match p.ci with
  | some (q, ci) => copyCi s4 p.owner q.toNat ci.toNat
  | none => s4

/-- The entries that a CQ entry covers, by the entries served when its chain ended (R125). -/
def covers (x : Tq) (mark : Nat) : Nat := mark - x.covered

/-- A TQ stalls at its POST for a CQ without room (R111): completions wait, or a stop waits to close its batch or to write its ABORTED entry. -/
def stalls (x : Tq) : Bool := !x.posts.isEmpty || x.stop.isSome && (x.batch.isSome || decide (x.covered < x.served))

/-- A CQ that an entry has just filled leaves TQs stalled (R111): CQ_FULL in LE page 0x20 (R359). -/
def cqFilled (s : State) (k : Nat) : State :=
  if (match cqAt s k with | some c => !cqRoom c | none => false) && s.que.tqs.any (fun t => t.2.cq == k && stalls t.2) then evt s pLe 0 else s

/-- A CQ entry of a TQ for a completion: it covers every entry since the last one, and the batch is closed (R125, R126). -/
def postEntry (s : State) (t : Nat) (x : Tq) (p : Post) : State :=
  let s1 := writeCq s x.cq (cqEntry x.q p (covers x p.mark)) (p.ioc || p.status != 0)
  cqFilled (setTq s1 t { x with covered := p.mark, batch := none }) x.cq

/-- The open batch is closed: its entry describes the last batched chain (R126). -/
def closeBatch (s : State) (t : Nat) : State :=
  match tqAt s t with
  | some x => match x.batch with | some b => postEntry s t x b | none => s
  | none => s

/-- CI passes an entry (R362): the cache drops it, and the head's copy follows (R108, R113). -/
def advanceCi (s : State) (t : Nat) (ci : Nat) : State :=
  match tqAt s t with
  | some x =>
    let keep (i : Nat) : Bool := !inSpan x.log2 x.ci ci i
    copyCi (setTq s t { x with ci := ci % qSize x.log2, cache := x.cache.filter (fun c => keep c.idx) }) x.owner x.q (ci % qSize x.log2)
  | none => s

/-- SET_ADDRESS and CLEAR_FEATURE(ENDPOINT_HALT) of a successful control chain on endpoint 0 (R190). -/
def snoop (s : State) (ep : Nat) (setup : List Byte) : State :=
  match epAt s ep with
  | none => s
  | some e =>
    if e.num != 0 || setup.length != 8 then s else
      let b (n : Nat) : Nat := (setup.getD n 0).toNat
      let wValue := b 2 + 256 * b 3
      let wIndex := b 4 + 256 * b 5
      if b 0 == 0x00 && b 1 == 5 then
        match devAt s e.dev with
        | some d => setDev s e.dev { d with addr := BitVec.ofNat 7 wValue }
        | none => s
      else if b 0 == 0x02 && b 1 == 1 && wValue == 0 then
        let hit (p : Nat × Ep) : Bool := p.2.dev == e.dev && p.2.num == wIndex % 16
          && (p.2.typ == 0 || p.2.dirIn == (wIndex / 128 % 2 == 1))
        { s with ctx := { s.ctx with eps := s.ctx.eps.map (fun p =>
            if hit p then (p.1, { p.2 with halt := false, toggle := 0 }) else p) } }
      else s

/-- COUNT would exceed 65,535 with a completion (R126): the batch is closed before it. -/
def batchFull (x : Tq) (p : Post) : Bool := x.batch.isSome && decide (65535 < covers x p.mark)

/-- The POST of a TQ's first waiting completion (R109, R126, R362): a batch that is full is closed first, in a CQ slot of its own; the batch
is extended, or the CQ entry written; CI passes the chain; a STALL or BABBLE halts the flow, and the entries behind it are planned anew
(R157, R194); a successful setup is read (R190). -/
def doPost (s : State) (t : Nat) : State :=
  match tqAt s t with
  | none => s
  | some x =>
    match x.posts with
    | [] => s
    | p :: rest =>
      if batchFull x p then closeBatch s t
      else
        let s1 := setTq s t { x with posts := rest }
        let s2 := if p.batch && p.status == 0 then updTq s1 t (fun x => { x with batch := some p })
          else postEntry s1 t { x with posts := rest } p
        let s3 := blame s2 p.rc
        let s4 := advanceCi s3 t (p.idx + 1)
        let s5 := if p.status == 0 then snoop s4 x.ep p.setup else s4
        updEp s5 x.ep (fun e => if p.status == 2 || p.status == 3 then { e with halt := true, planned := [] } else e)

/-- A TQ stalls at its POST (R111): while its CQ is full, CQ_FULL is set in LE page 0x20 (R359). -/
def noteFull (s : State) (t : Nat) : State :=
  match tqAt s t with
  | some x => if stalls x && (match cqAt s x.cq with | some c => !cqRoom c | none => false) then evt s pLe 0 else s
  | none => s

/-- Every waiting completion of a TQ that may be written is written, in order; CQ_FULL when one must wait (R111). -/
def drainPosts (s : State) (t : Nat) : State :=
  match tqAt s t with
  | none => s
  | some x => noteFull (each (List.range (x.posts.length + 1)) s (fun s _ =>
      match tqAt s t with
      | some y => if mayPost s y && !y.posts.isEmpty then doPost s t else s
      | none => s)) t

/-- A completion joins a TQ's waiting list (R111), with its place among the chip's completions (R250). -/
def queuePost (s : State) (t : Nat) (p : Post) : State :=
  let s1 := { s with que := { s.que with posted := s.que.posted + 1 } }
  noteFull (updTq s1 t (fun x => { x with posts := x.posts ++ [{ p with ord := s.que.posted }] })) t

/-- A chain ends at an entry with a status (R123, R124): its completion waits for its POST, and the chain is closed. -/
def endChain (s : State) (t : Nat) (idx : Nat) (e : List Word) (status : BitVec 4) (rc : Option Word) : State :=
  match tqAt s t with
  | none => s
  | some x =>
    let c := x.chain
    let p : Post := {
      idx := idx, status := status, bytes := (c.map (·.bytes)).getD 0, tag := eTag e
      ts := c.bind (·.ts), rc := rc, ioc := eIoc e && eLast e, batch := eBatch e && eLast e
      setup := (c.map (·.setup)).getD [], mark := x.served, ord := 0 }
    queuePost (setTq s t { x with chain := none }) t p

/-- A completion of one entry outside a chain in service (R114, R119, R121): its own chain. -/
def endAlone (s : State) (t : Nat) (idx : Nat) (e : List Word) (status : BitVec 4) (rc : Option Word) : State :=
  endChain (updTq s t (fun x => { x with chain := none })) t idx e status rc

/-! ### Prefetch (R113) -/

/-- The window's entries that are before the sampled PI and neither cached nor being read. -/
def wanted (x : Tq) : List Nat :=
  (List.range (min 16 (span x.log2 x.ci x.sampled))).map (fun k => (x.ci + k) % qSize x.log2)
    |>.filter (fun i => !x.cache.any (fun c => c.idx == i) && !x.fetching.contains i && inSpan x.log2 x.next x.sampled i)

/-- The contiguous runs of a list of indices, as a start and a length. -/
def runs : List Nat → List (Nat × Nat)
  | [] => []
  | i :: l =>
    match runs l with
    | (j, n) :: r => if j == i + 1 then (i, n + 1) :: r else (i, 1) :: (j, n) :: r
    | [] => [(i, 1)]

/-- The list engine issues FETCH for the entries that it wants (R113): one read for each contiguous run. Nothing is fetched
for a stopped or ERROR queue, a quiesced instance, an ORPHAN chip, outside the service modes, on the way to HOLD, or under back-pressure
for an asynchronous queue (R31, R67, R115, R135, R158, R248); a FETCH waits while the list engine's island or the DMA is dark (R14). -/
def fetch (s : State) (t : Nat) : State :=
  match tqAt s t with
  | none => s
  | some x =>
    let async := match epAt s x.ep with | some e => e.typ == 0 || e.typ == 2 | none => true
    if x.error || x.stop.isSome || ownerStill s x.owner || orphan s || !runsSchedules s
        || (rb s pPln PLN_STATUS_BP_ACTIVE && async) || toHold s || !pageOn s (lePage t) then s
    else
      let w := wanted x
      if w.isEmpty then s
      else if !pageLit s (lePage t) || !dmaLit s then noteBusy (setTq s t { x with due := true })
      else each (runs w) (noteBusy (setTq s t { x with fetching := x.fetching ++ w }))
        (fun s p => hostRead s x.owner (x.base + BitVec.ofNat 64 (32 * p.1)) (32 * p.2))

/-! ### Flows that end (R135, R175) -/

/-- PLN_SPILL and PLN_STATUS.SPILLING follow the spill region. -/
def noteSpill (s : State) : State :=
  let n := s.pln.spill.length
  wb (wf (wf s pPln PLN_SPILL_CURRENT n) pPln PLN_SPILL_HIGH_WATER (max n (rf s pPln PLN_SPILL_HIGH_WATER)))
    pPln PLN_STATUS_SPILLING (decide (0 < n))

/-- A flow leaves the spill region and the deferred graphs; the record of a POST that waits stays where `post` says so. -/
def leaveLists (s : State) (c : Nat) (post : Bool) : State :=
  noteSpill { s with pln := { s.pln with
    spill := s.pln.spill.filter (fun r => r.1 != c || (post && r.2 == 2)), deferred := s.pln.deferred.filter (· != c) } }

/-- The bytes that a flow's work has moved for its entry (R121): data of an IN segment that is still in the buffer does not count. -/
def workBytes (e : Ep) (w : Work) : Nat :=
  if eType w.e == 1 || eType w.e == 4 then (if stageIn e w.e then w.moved - w.seg else w.moved) else 0

/-- The operations of a flow that are not in service are dropped, planned ones too (R135); what its entry has moved stays moved. -/
def dropWork (s : State) (t c : Nat) : State :=
  match epAt s c with
  | none => s
  | some e =>
    match e.work with
    | none => setEp s c { e with planned := [] }
    | some w =>
      if w.inSvc then setEp s c { e with planned := e.planned.filter (fun p => p.2.1 == w.idx) }
      else leaveLists (updTq (setEp s c { e with work := none, planned := [] }) t (fun x =>
        { x with chain := x.chain.map (fun k => { k with bytes := k.bytes + workBytes e w }) })) c false

/-! ### Aborts (R135, R136) -/

/-- The flow of a TQ has an operation in service (R361). -/
def inService (s : State) (x : Tq) : Bool :=
  match epAt s x.ep with | some e => (match e.work with | some w => w.inSvc | none => false) | none => false

/-- The entries that PI covers and that have not been served; a PI moved back behind them leaves none (R115). -/
def unserved (x : Tq) : Nat := span x.log2 x.ci x.pi - span x.log2 x.ci x.next

/-- The entries still outstanding: those that PI covers and no CQ entry does. -/
def outstanding (x : Tq) : Nat := x.served + unserved x - x.covered

/-- The open chain reaches PI (R124): as fetched, no entry up to there begins another chain or follows its LAST; the chain's own FIRST entry may
be the one that was in service. -/
def chainReaches (x : Tq) : Bool :=
  x.chain.isSome && decide (unserved x ≤ 16) && (List.range (unserved x)).all (fun k =>
    match x.cache.find? (fun c => c.idx == (x.next + k) % qSize x.log2) with
    | some ⟨_, some e⟩ => (!eFirst e || k == 0 && x.chain.any (fun c => c.first == x.next)) && (!eLast e || k + 1 == unserved x)
    | _ => false)

/-- The ABORTED completion of step 4 (R135): INDEX is PI − 1, TAG that of the entry there when it was fetched, and BYTES those of the
open chain, with its timestamp, if it ends there (R124). -/
def abortPost (x : Tq) : Post :=
  let i := (x.pi + qSize x.log2 - 1) % qSize x.log2
  let tag := match x.cache.find? (fun c => c.idx == i) with
    | some c => (match c.e with | some e => eTag e | none => 0)
    | none => (match x.chain with | some c => if x.next == x.pi % qSize x.log2 then c.lastTag else 0 | none => 0)
  let own := if chainReaches x then x.chain else none
  ⟨i, 10, (own.map (·.bytes)).getD 0, tag, own.bind (·.ts), none, false, false, [], x.served + unserved x, 0⟩

/-- Steps 1 and 2 of R135: fetching stops, and the operations that are not in service are dropped. -/
def beginStop (s : State) (t : Nat) (why : Stop) : State :=
  match tqAt s t with
  | none => s
  | some x => dropWork (setTq s t { x with stop := some why, fetching := [], due := false }) t x.ep

/-- Steps 3 and 4 of R135: the batch is closed, then one ABORTED entry covers what remains; each waits for room in the CQ (R106, R111). -/
def writeAbort (s : State) (t : Nat) : State :=
  match tqAt s t with
  | none => s
  | some x =>
    let s1 := if x.batch.isSome && mayPost s x then closeBatch s t else s
    match tqAt s1 t with
    | none => s1
    | some y => if y.batch.isSome || outstanding y == 0 || !mayPost s1 y then noteFull s1 t else postEntry s1 t y (abortPost y)

/-- Steps 3 and 4 are done. -/
def aborted (x : Tq) : Bool := x.posts.isEmpty && x.batch.isNone && outstanding x == 0

/-- The entries that an ABORTED entry will cover. -/
def abortCount (x : Tq) : Nat := outstanding { x with covered := match x.batch with | some b => b.mark | none => x.covered }

/-- The queue after its abort: nothing cached, CI = PI, no chain and no batch. -/
def emptied (x : Tq) : Tq :=
  { x with ci := x.pi, next := x.pi, sampled := x.pi, cache := [], fetching := [], chain := none,
           batch := none, posts := [], covered := x.served, due := false, stop := none }

/-- A queue number freed in the instance window. -/
def dropRef (s : State) (o : Owner) (q : Nat) : State :=
  { s with que := { s.que with refs := tabDel s.que.refs (refKey o q) } }

/-- Step 5 of R135 and the queue's state after R136. -/
def endStop (s : State) (t : Nat) (why : Stop) : State :=
  match tqAt s t with
  | none => s
  | some x =>
    let s0 := leaveLists (updEp s x.ep (fun e => { e with work := none, planned := [], head := e.buf, fill := 0 })) x.ep false
    match why with
    | .destroy _ _ | .removed =>
      dropRef { s0 with que := { s0.que with tqs := tabDel s0.que.tqs t } } x.owner x.q
        |> fun s => updEp s x.ep (fun e => { e with tq := none })
    | .reset _ _ =>
      copyCi (copyPi (setTq s0 t { emptied x with pi := 0, ci := 0, next := 0, sampled := 0, error := false })
        x.owner x.q 0) x.owner x.q 0
    | .error => copyCi (setTq s0 t { emptied x with error := true }) x.owner x.q x.pi
    | .hold => copyCi (setTq s0 t (emptied x)) x.owner x.q x.pi

/-! ### The admin completion queue (R129, R131) -/

/-- S of an instance's AQ and ACQ. -/
def aqSize (i : Inst) : Nat := 2 ^ bits i.aqCfg 0 5
def acqSize (i : Inst) : Nat := 2 ^ bits i.acqCfg 0 5
/-- The AQ is enabled. -/
def aqOn (i : Inst) : Bool := bit i.aqCfg 8
/-- The ACQ is full. -/
def acqFull (i : Inst) : Bool := (i.acqPi + 1) % acqSize i == i.acqCi % acqSize i

/-- A command of a submitter's AQ is in execution: a queue stop or a quiesce that has not completed (R129, R135, R248). -/
def admBusy (s : State) (o : Owner) : Bool :=
  s.que.tqs.any (fun t => match t.2.stop with
    | some (.destroy p _) => decide (p = o)
    | some (.reset p _) => decide (p = o)
    | _ => false)
    || s.inst.any (fun i => match i.2.quiesce with | some (p, _, _) => decide (p = o) | none => false)
    || s.que.far.any (fun f => decide (f.1 = o))

/-- The tenant engine that serves an owner in its usual order (R17, R259): TE(i mod 16), TE15 for the manager. -/
def tenantOf (o : Owner) : Nat := match o with | .inst i => i.toNat % 16 | .mgr => 15

/-- The page of the tenant engine that serves an owner (R17, R86, R259). -/
def tePage (s : State) (o : Owner) : Nat := pTen + doer s 1 (tenantOf o) / 4

/-- A command comes from the head over the ring: on a member every one; in HOLD, LOOP and RECOVERY one of the manager's on a chip that
knows its head and whose own manager AQ is not enabled (R319; assumption 116). -/
def carried (s : State) (o : Owner) : Bool :=
  isMember s || (quietMode s && headKnown s && o == .mgr && !aqOn (instAt s (ownerKey .mgr)))

/-- A command of an AQ may run (R129): the AQ is served (an instance's in STANDALONE and HEAD alone, R6, R240, and not in QUIESCED, R242, R249), holds an entry, its ACQ has room, no command of
it is in execution, and its tenant engine's page is enabled (R87) and its island not forced down (R277). On a member, the head has
already seen to that. -/
def admReady (s : State) (o : Owner) : Bool :=
  let i := instAt s (ownerKey o)
  carried s o || (aqOn i && pageOn s (tePage s o) && !(domsOf (tePage s o)).any (fun d => domClosed s d && (domAt s d).forced.isSome)
    && (o == .mgr || holdsLink s && (i.state == 1 || i.state == 2))
    && i.aqCi % aqSize i != i.aqPi % aqSize i && !acqFull i && !admBusy s o)

/-- An ACQ entry written for a command, AQ CI past it, and the vector when it is enabled (R127, R129, R131). -/
def acqWrite (s : State) (o : Owner) (cid op status detail : Nat) (r0 r1 : Word) : State :=
  let k := ownerKey o
  let i := instAt s k
  let ci := (i.aqCi + 1) % aqSize i
  let dws := acqEntry cid op status detail ci r0 r1
  if carried s o then emit s (.adminReply o dws)
  else
    let a := i.acqBase + BitVec.ofNat 64 (16 * i.acqPi)
    let s1 := hostWrite s o a (wordBytes dws)
    let i1 := instAt s1 k
    let s2 := setInst s1 k { i1 with aqCi := ci, acqPi := (i1.acqPi + 1) % acqSize i1 }
    if bit i.acqCfg 16 then msix s2 o (BitVec.ofNat 8 (bits i.acqCfg 8 8)) else s2

/-- The completion of an admin command (R131). -/
def done (s : State) (o : Owner) (e : List Word) (status detail : Nat) (r0 r1 : Word) : State :=
  acqWrite s o (aCid e) (aOp e) status detail r0 r1

/-- BAD_DESC with a detail. -/
def bad (s : State) (o : Owner) (e : List Word) (detail : Nat) : State := done s o e 8 detail 0 0

/-- A TQ's stop goes on when its operation in service has ended (R135): the flow's later operations are dropped, the completions that
wait are written, then the ABORTED entry, then the queue is released or emptied and the command completes. It waits for CQ room. -/
def finishStop (s : State) (t : Nat) : State :=
  match tqAt s t with
  | none => s
  | some x =>
    match x.stop with
    | none => s
    | some why =>
      if inService s x then s else
        let s1 := drainPosts (dropWork s t x.ep) t
        match tqAt s1 t with
        | none => s1
        | some y =>
          if !y.posts.isEmpty then s1 else
            let s2 := writeAbort s1 t
            match tqAt s2 t with
            | none => s2
            | some z =>
              if !aborted z then s2 else
                let s3 := endStop s2 t why
                match why with
                | .destroy o e | .reset o e => done s3 o e 0 0 (BitVec.ofNat 32 (abortCount y % 65536)) 0
                | _ => s3

/-- An operation of a flow has ended (R135): a stop of its TQ goes on. -/
def stopOn (s : State) (c : Nat) : State := match (epAt s c).bind (·.tq) with | some t => finishStop s t | none => s

/-- A TQ is stopped for a cause (R135, R136). -/
def stopTq (s : State) (t : Nat) (why : Stop) : State := finishStop (beginStop s t why) t

/-- Every TQ on the chip. -/
def allTqs (s : State) : List Nat := s.que.tqs.map (·.1)

/-- An instance's TQs here. -/
def tqsOf (s : State) (o : Owner) : List Nat := (s.que.tqs.filter (fun t => decide (t.2.owner = o))).map (·.1)

end Sys2Proof.Machine
end

