-- ==== Sys2Proof/Machine/RingOps.lean ====
section
/-!
DEFINITION. Operations on the ring and the sideband: links, wraps and breaks (R59 to R69, R356), epochs and the live map (R42 to
R44, R52, R54), the bypass switches (R61 to R63), ring time (R55 to R58), sideband frames and the election (R71 to R78, R353,
R354).
-/
namespace Sys2Proof.Machine

/-! ### Ring ports -/

/-- The LINK field of a ring port. -/
def linkFld : Side → Fld
  | .east => RING_STATUS_EAST_LINK
  | .west => RING_STATUS_WEST_LINK
/-- The WRAP field of a ring port. -/
def wrapFld : Side → Fld
  | .east => RING_STATUS_EAST_WRAP
  | .west => RING_STATUS_WEST_WRAP
/-- LINK of a ring port: 0 DOWN, 1 TRAINING, 2 UP, 3 POWER_ONLY. -/
def linkOf (s : State) (d : Side) : Nat := rf s pRing (linkFld d)
/-- LINK set. -/
def setLink (s : State) (d : Side) (v : Nat) : State := wf s pRing (linkFld d) v
/-- A ring port beside its registers. -/
def sideOf (s : State) : Side → LinkSide
  | .east => s.ring.east
  | .west => s.ring.west
/-- It replaced. -/
def setSide (s : State) (d : Side) (x : LinkSide) : State :=
  match d with
  | .east => { s with ring := { s.ring with east := x } }
  | .west => { s with ring := { s.ring with west := x } }
/-- The wrap at a port applied or released (R65): the cells that wait there are turned. -/
def setWrap (s : State) (d : Side) (b : Bool) : State :=
  let s1 := wb s pRing (wrapFld d) b
  if b then turnQueue s1 (d == .west) else s1
/-- The wrap at a port is forced (RING_CONTROL.FORCE_WRAP). -/
def forcedAt (s : State) (d : Side) : Bool :=
  let v := rf s pRing RING_CONTROL_FORCE_WRAP
  match d with | .east => v % 2 == 1 | .west => decide (2 ≤ v)
/-- Every segment is UP (R29, R68): both of the chip's own, with no wrap forced there, and those beyond, as the ring's training TOPO cells
have last told (assumption 14). -/
def ringWhole (s : State) : Bool :=
  linkOf s .east == 2 && linkOf s .west == 2 && !forcedAt s .east && !forcedAt s .west && s.ring.whole
/-- A ring partner is trained on a port; a self-loop is none (R29, R355). -/
def partnerTrained (s : State) : Bool :=
  (linkOf s .east == 2 && !s.ring.east.selfLoop) || (linkOf s .west == 2 && !s.ring.west.selfLoop)
/-- The slot of the chip. -/
def ownSlot (s : State) : Nat := rf s pRing RING_POSITION_SLOT

/-- A port starts training at step 1, unless its lanes carry power only, the switches are closed or the budget check keeps the
segment down (R40, R59, R61, R64). -/
def startTrain (s : State) (d : Side) : State :=
  if noLanes s then s
  else setLink (setSide s d { sideOf s d with step := 1, selfLoop := false }) d 1

/-! ### Epochs, positions, the live map -/

/-- The number of positions in a map. -/
def mapCount (m : BitVec 64) : Nat := ((List.range 64).filter (fun p => bits64 m p 1 == 1)).length
/-- A map with a position. -/
def mapWith (m : BitVec 64) (p : Nat) : BitVec 64 := m ||| BitVec.ofNat 64 (2 ^ p)
/-- A map without a position. -/
def mapWithout (m : BitVec 64) (p : Nat) : BitVec 64 := m &&& ~~~ BitVec.ofNat 64 (2 ^ p)

/-- The head's slot becomes known, and with it the chip's position (R42). -/
def knowHead (s : State) (headSlot : Nat) : State :=
  wf (wf (wb s pRing RING_POSITION_HEAD_VALID true) pRing RING_POSITION_HEAD_SLOT headSlot) pRing RING_POSITION_POS
    ((ownSlot s + 64 - headSlot % 64) % 64)

/-- R52's weight of a source position in RING_CRD_SHARE. -/
def crdWeight (s : State) (p : Nat) : Nat := bits (rd s (adr pRing (0x068 + 4 * (p / 4)))) (8 * (p % 4)) 8

/-- The grant of the chip to a live source (R52): ISO, CTRL and DATA credits. -/
def grantTo (s : State) (p : Nat) : Nat × Nat × Nat :=
  let others := (List.range 64).filter (fun q => live s q && q != ownPos s)
  let w := others.foldl (fun n q => n + crdWeight s q) 0
  let share (pool : Nat) : Nat := if w == 0 then 0 else pool * crdWeight s p / w
  (share 1024, 512 / others.length, share 2560)

/-- Every other live source is granted its credits for the epoch (R52), in a TOPO cell (R54). -/
def sendGrants (s : State) : State :=
  each ((List.range 64).filter (fun q => live s q && q != ownPos s)) s (fun s q =>
    let g := grantTo s q
    tellOne s q (.grant (BitVec.ofNat 8 (rf s pRing RING_STATUS_EPOCH)) (BitVec.ofNat 16 g.1) (BitVec.ofNat 16 g.2.1) (BitVec.ofNat 16 g.2.2)))

/-- The live map loaded (R43): the registers and N_LIVE. -/
def loadMap (s : State) (map : BitVec 64) : State :=
  let s1 := wr (wr s (adr pRing 0x060) (lo32 map)) (adr pRing 0x064) (hi32 map)
  wf s1 pRing RING_POSITION_N_LIVE (mapCount map)

/-- A new epoch (R54): no credit is left from the epoch before. -/
def dropCredits (s : State) : State := { s with ring := { s.ring with credits := [] } }

/-- DUP of the chip's position (R44): set with DUP_SLOT, or cleared; R44 does not say when DUP clears (DESIGN CHOICE, assumption 74). -/
def setDup (s : State) (d : Bool) : State :=
  if d && !rb s pRing RING_POSITION_DUP then err (wb s pRing RING_POSITION_DUP true) pRing 2
  else if d then s else wb s pRing RING_POSITION_DUP false

/-- The head starts an epoch (R43, R54): EPOCH advances, the TOPO cell leaves round ring A, and the credits are discarded. -/
def advanceEpoch (s : State) : State :=
  let e := (rf s pRing RING_STATUS_EPOCH + 1) % 256
  let s1 := wf s pRing RING_STATUS_EPOCH e
  let m : TopoMsg := .round (BitVec.ofNat 64 (2 ^ ownPos s)) 0 (BitVec.ofNat 8 e) (BitVec.ofNat 6 (rf s pRing RING_POSITION_SLOT))
  svcEvt (submit (dropCredits s1) (bcastCell s1 false 0xB 0 (Config.topoPay m))) .ring

/-! ### Breaks and SEVERED -/


/-- A ring break during a pending transition to HEAD or MEMBER (R102): it ends in SEVERED. -/
def breakPending (s : State) : State :=
  if pendingMode s && mode s == 0 && (targetMode s == 2 || targetMode s == 3) then { s with mgt := { s.mgt with breakPend := true } } else s

/-- A ring break reaches the mode (R29, R66, R102): HEAD and MEMBER enter SEVERED with a segment role; a pending transition to
HOLD ends in HOLD, and one to HEAD or MEMBER ends in SEVERED. -/
def enterSevered (s : State) (role : Nat) : State :=
  let s1 := wf s pRing RING_STATUS_SEG_ROLE role
  if pendingMode s1 then breakPending s1
  else if mode s1 == 2 || mode s1 == 3 then
    svcEvt (wf (wf s1 pMgt MGT_MODE_PREV (mode s1)) pMgt MGT_MODE_MODE 4) .mode
  else s1

/-- The chip knows of a break at a segment end (R65): both ends of the segment turn cells, and a release that was under way is off, as is the map that was
due from one (R69). A rejoin that waited for it is off too: PENDING clears and MODE stays SEVERED (assumption 72). -/
def knowBreak (s : State) (pos : Nat) (east : Bool) : State :=
  let t := twinEnd s pos east
  let add (l : List (Nat × Bool)) (e : Nat × Bool) : List (Nat × Bool) := if l.contains e then l else l ++ [e]
  let off := s.ring.releaseAt.isSome && mode s == 4 && pendingMode s && targetMode s == prevMode s
  let s1 := { s with ring := { s.ring with
    breaks := add (add s.ring.breaks (pos, east)) t, whole := false, releaseAt := none, mapDue := false } }
  if off then wb s1 pMgt MGT_MODE_PENDING false else s1

/-- The head hears of a break at a segment end (R43, R66, R69): the first report of a break advances the epoch and severs the
ring; the report of the other end of the same segment adds nothing. An end that reports again tells of a new break. The two segments that one
unplanned closing breaks are two breaks, with an epoch each, where both reports come before the new map (DESIGN CHOICE, assumption 106). -/
def headBreak (s : State) (pos : Nat) (east : Bool) : State :=
  let t := twinEnd s pos east
  if s.ring.half.contains t then { s with ring := { s.ring with half := s.ring.half.erase t } }
  else
    let s1 := knowBreak s pos east
    enterSevered (advanceEpoch { s1 with ring := { s1.ring with
      half := s1.ring.half.filter (fun e => e != (pos, east)) ++ [(pos, east)], mapDue := false } }) 1

/-- A chip other than the head learns of a break at a segment end, from its own port or from a FAULT frame: whether the other end of the same
segment has not told of it yet, and the state with the ends that have told (R66). -/
def newBreak (s : State) (pos : Nat) (east : Bool) : Bool × State :=
  let t := twinEnd s pos east
  if s.ring.half.contains t then (false, { s with ring := { s.ring with half := s.ring.half.erase t } })
  else (true, { s with ring := { s.ring with half := s.ring.half.filter (fun e => e != (pos, east)) ++ [(pos, east)] } })

/-- The chip reports a break of the segment at a port (R66, R352, R356): BREAK and its RING_BREAK report; once a head is known
the FAULT cell and the sideband FAULT frame, whatever the log makes of the report, and on the head the new epoch. -/
def reportBreak (s : State) (d : Side) : State :=
  let loc := segLoc s d
  let s1 := svcEvt (funnelWith (errBit s pRing 0) loc 0x50 false).2 .ring
  if !headKnown s then breakPending s1
  else
    let s2 := sbdFault { s1 with ring := { s1.ring with topoSeen := false } } loc 0x50
    if isHead s2 then headBreak s2 (ownPos s2) (d == .east)
    else sendFault (knowBreak (newBreak s2 (ownPos s2) (d == .east)).2 (ownPos s2) (d == .east)) loc 0x50

/-- A ring port's receive lanes are down, or a wrap is forced there: the chip wraps and reports the break (R65, R66). -/
def breakAt (s : State) (d : Side) : State := reportBreak (setWrap s d true) d

/-- A wrap that no head will release is released by the chip when its port is UP again (R356). -/
def selfRelease (s : State) (d : Side) : State :=
  if !headKnown s && linkOf s d == 2 && !forcedAt s d then setWrap s d false else s

/-- The release of wraps begins (R68): the release microframe lies two microframes later; the head names it in a TOPO cell. -/
def startRelease (s : State) : State :=
  let w := s.clk.uframe + 2
  if s.ring.releaseAt.isSome then s
  else tellAll { s with ring := { s.ring with releaseAt := some w } } 1 (.release w)

/-- A chip holds a wrap. -/
def anyWrap (s : State) : Bool := rb s pRing RING_STATUS_EAST_WRAP || rb s pRing RING_STATUS_WEST_WRAP

/-- The rejoin write is accepted (R29, R68, R102): PENDING and TARGET until the release microframe, which the head names. -/
def rejoinStart (s : State) : State :=
  let s1 := wf (wb s pMgt MGT_MODE_PENDING true) pMgt MGT_MODE_TARGET (prevMode s)
  if isHead s1 then startRelease s1 else s1

/-- With AUTO_HEAL on the head, its firmware releases the wraps when the ring is whole (R68). -/
def autoHeal (s : State) : State :=
  if isHead s && ringWhole s && rb s pRing RING_CONTROL_AUTO_HEAL && !pendingMode s && !bypassed s then
    if mode s == 4 then rejoinStart s else if anyWrap s then startRelease s else s
  else s

/-- The release microframe (R68): the wraps are released, the chip returns to the mode it held before SEVERED, and the head
starts the epoch of the release (R43). -/
def releaseNow (s : State) : State :=
  let s1 := { s with ring := { s.ring with
    releaseAt := none, breaks := [], half := [], closing := none, mapDue := true, mapsEarly := 0
    east := { s.ring.east with planned := false }, west := { s.ring.west with planned := false } } }
  let s2 := setWrap (setWrap s1 .east (forcedAt s1 .east)) .west (forcedAt s1 .west)
  let s3 := wf s2 pRing RING_STATUS_SEG_ROLE 0
  let s4 := if mode s3 == 4 then
      svcEvt (wb (wf { s3 with clk := { s3.clk with recovered := prevMode s3 == 3 } } pMgt MGT_MODE_MODE (prevMode s3))
        pMgt MGT_MODE_PENDING false) .mode else s3
  svcEvt (if isHead s4 then advanceEpoch s4 else s4) .ring

/-! ### The bypass switches -/

/-- The switches close at once (R62): both ports fall, unless their lanes carry power only (R40), the cells that wait there are lost, and the
chip's own segments break. -/
def closeNow (s : State) : State :=
  let link := if mode s == 1 then 3 else 0
  let s0 := { s with ring := { s.ring with eastOut := .init, westOut := .init } }
  let s1 := wb (setLink (setLink s0 .east link) .west link) pRing RING_STATUS_BYPASS_CLOSED true
  let s2 := setSide (setSide s1 .east { s1.ring.east with step := 0, planned := false }) .west
    { s1.ring.west with step := 0, planned := false }
  enterSevered (svcEvt { s2 with ring := { s2.ring with leaving := none, closeTimer := false } } .ring)
    (if mode s == 2 || mode s == 3 then 1 else rf s pRing RING_STATUS_SEG_ROLE)

/-- A deep entry past its closing step, a deep state or an exit keeps the switches closed (R61, R62, R270). -/
def heldClosed (s : State) : Bool :=
  s.pwr.phase == .closing || s.pwr.phase == .entering || s.pwr.phase == .deep || s.pwr.phase == .exiting

/-- The switches open (R62): both ports start training. -/
def openNow (s : State) : State :=
  if bypassed s && !heldClosed s then
    svcEvt (startTrain (startTrain (wb s pRing RING_STATUS_BYPASS_CLOSED false) .east) .west) .ring
  else s

/-- The chip joins the ring (R62): the switches open while BYPASS_REQ reads 0. -/
def joinRing (s : State) : State :=
  let s1 := { s with ring := { s.ring with joined := true, joinTimer := false } }
  if rb s1 pRing RING_CONTROL_BYPASS_REQ then s1 else openNow s1

/-- The side of the chip toward which a position lies next in the live map (R63). -/
def sidesToward (s : State) (p : Nat) : List Side :=
  let own := ownPos s
  (if (twinEnd s own true).1 == p then [.east] else []) ++ (if (twinEnd s own false).1 == p then [.west] else [])

/-! ### Ring time -/

/-- RCT and its fraction in units of 2^-16 ns. -/
def rctUnits (s : State) : Int := (s.clk.rct.toNat : Int) * 65536 + s.clk.sub.toNat

/-- RCT set from units of 2^-16 ns; RING_RCT shows the whole nanoseconds. -/
def setRctUnits (s : State) (u : Int) : State :=
  let n := (u % (2 ^ 80 : Int)).toNat
  { s with clk := { s.clk with rct := BitVec.ofNat 64 (n / 65536), sub := BitVec.ofNat 16 (n % 65536) } }

/-- LOCKED clears and TIME_LOST is raised (R58, R352). -/
def timeLost (s : State) : State :=
  report (errBit (wb s pRing RING_TIME_STATUS_LOCKED false) pRing 3) (chipLoc s) 0x53

/-! ### Sideband frames and the election -/

/-- A frame joins the frames that wait (R73), unless the page's ENABLE is 0 (R87; assumption 53). -/
def queueFrame (s : State) (typ : Nat) (body : List Byte) (soft : Bool) : State :=
  if !pageOn s pSbd then s else { s with sbd := { s.sbd with queue := s.sbd.queue ++ [⟨BitVec.ofNat 4 typ, body, soft, 0⟩] } }

/-- A HEAD_CLAIM is queued (R77): the head's slot and the epoch as it stands then (assumption 73). -/
def queueClaim (s : State) : State :=
  queueFrame s 2 [BitVec.ofNat 8 (ownSlot s), BitVec.ofNat 8 (rf s pRing RING_STATUS_EPOCH)] false

/-- An ELECT is queued (R76): the sender's slot and whether its PCIe link is trained. -/
def queueElect (s : State) : State :=
  queueFrame s 3 [BitVec.ofNat 8 (ownSlot s), BitVec.ofNat 8 (b2n s.mgt.pcie)] false

/-- SBD_ELECT.STATE. -/
def electState (s : State) : Nat := rf s pSbd SBD_ELECT_STATE

/-- An ELECT sent or heard: WINNER is the lowest slot until a HEAD_CLAIM (R354). -/
def noteElect (s : State) (slot : Nat) : State :=
  if s.sbd.claimed then s
  else if rb s pSbd SBD_ELECT_WINNER_VALID && decide (rf s pSbd SBD_ELECT_WINNER ≤ slot) then s
  else wb (wf s pSbd SBD_ELECT_WINNER slot) pSbd SBD_ELECT_WINNER_VALID true

/-- A HEAD_CLAIM sent or heard: WINNER is its head slot (R354). -/
def noteClaim (s : State) (slot : Nat) : State :=
  wb (wf { s with sbd := { s.sbd with claimed := true } } pSbd SBD_ELECT_WINNER slot) pSbd SBD_ELECT_WINNER_VALID true

/-- The chip goes to LOST: an ELECT that waits is not sent (R76, R77). -/
def electLost (s : State) : State :=
  let keep (i : Nat) (f : Frame) : Bool := f.typ != 3 || (i == 0 && s.sbd.onLine)
  wf { s with sbd := { s.sbd with
    window := false, queue := (s.sbd.queue.zipIdx.filter (fun p => keep p.2 p.1)).map (·.1) } } pSbd SBD_ELECT_STATE 3

/-- SBD_TX.BUSY follows the software frames that wait or are on the line. -/
def softBusy (s : State) : State := wb s pSbd SBD_TX_BUSY (s.sbd.queue.any (·.soft))

/-- The LFSR of the back-off advances at each attempt (R75). -/
def lfsrStep (s : State) : State := { s with sbd := { s.sbd with lfsr := Config.lfsrNext s.sbd.lfsr } }

/-- A frame whose receiver dropped a weaker one for it counts a capture (R74). -/
def capture (s : State) (captured : Bool) : State := if captured then incF s pSbd SBD_CAPTURED_CAPTURED else s

end Sys2Proof.Machine
end

