-- ==== Sys2Proof/Machine/Access.lean ====
section
/-!
DEFINITION. Register access: authority and mode (R7, R82, R96 to R99), what a refused access leaves (R83, R101), dark blocks and
the register-access vote (R93 to R95), accesses that wait (R88, R94), and the write of plain fields with its lock (R10, R91).
-/
namespace Sys2Proof.Machine

/-! ### The port of arrival -/

/-- MGT_ACCESS_LAST.PORT of a port of arrival. -/
def srcPort : Src → Nat
  | .pf => 0
  | .vf _ => 1
  | .ring _ _ _ => 2
  | .svc => 3
  | .jtag => 4

/-- MGT_ACCESS_LAST.AUTH of a port of arrival (R96); debug authority has no code (assumption 2). -/
def srcAuth : Src → Nat
  | .pf => 1
  | .vf _ => 2
  | .ring a _ _ => a.toNat
  | .svc => 3
  | .jtag => Config.debugAuth.toNat

/-- Manager authority (R96, R97): the physical function, or a cell that the head stamped MANAGER. -/
def isManager : Src → Bool
  | .pf => true
  | .ring a p _ => a == 1 && p == 0
  | _ => false

/-- The header registers that the AON island answers (R87). -/
def aonHeader (off : Nat) : Bool := decide (off ≤ 0x01F) || off == 0x038

/-- The registers that the AON island holds (R87, R304): a soft reset of their page does not hold an access to them. -/
def aonReg (page off : Nat) : Bool :=
  aonHeader off || page == pAon || (page == pFlt && (off == 0x044 || off == 0x04C || decide (0x800 ≤ off)))

/-- The registers of the lifeline and the update (R97): the AON page, the NVM page, FLT_FREEZE. -/
def lifeline (page off : Nat) : Bool := page == pAon || page == pNvm || (page == pFlt && off == 0x044)

/-! ### The gate -/

/-- What becomes of an access on its way to its register. -/
inductive Gate where
  /-- It takes effect. -/
  | ok
  /-- It is refused with a reason of MGT_ACCESS_LAST (R101); `ur` marks an unpopulated one (R83). -/
  | refuse (reason : Nat) (ur : Bool)
  /-- A member discards its cell (R47, R98). -/
  | drop
  /-- The block is dark and does not wake (R93, R95). -/
  | dark
  /-- The block is dark and wakes (R94). -/
  | wake
  /-- It waits behind another, or for a soft reset (R88, R94). -/
  | hold
  /-- Nothing answers: the chip is unpowered or in chip reset, where AON alone answers (R61, R87, R308), or the PCIe endpoint is
  inactive (R6). -/
  | absent
deriving DecidableEq, Repr

/-- A soft reset of a page runs (R88). -/
def inSoftReset (s : State) (page : Nat) : Bool := rb s page PAGE_CONTROL_SOFT_RESET

/-- Authority (R97, R98). -/
def authorised (src : Src) (page off : Nat) (isWrite : Bool) : Bool :=
  match src with
  | .pf | .jtag => true
  | .vf _ => false
  | .ring a _ _ => a == 1 || (a == 3 && (!isWrite || lifeline page off))
  | .svc => !isWrite || lifeline page off

/-- The mode allows the access (R97, R99). -/
def modeAllows (s : State) (src : Src) (page off : Nat) (isWrite : Bool) : Bool :=
  (src != .jtag || quietMode s)
    && (mode s != 6 || !isWrite || lifeline page off || (page == pMgt && off == 0x05C) || aonHeader off)
    && (mode s != 7 || (page == pAon && (!isWrite || off == 0x05C)))

/-- The register is dark (R87, R93, R95). Of what AON holds (R304), the log window is so in a deep state, since its way needs P0 to P2 (R302). -/
def darkReg (s : State) (page off : Nat) : Bool :=
  if aonReg page off then page == pFlt && decide (0x800 ≤ off) && chipDeep s else pageDark s page

/-- A dark access wakes the page's block (R94, R95), unless a domain of the page is forced down (R282). -/
def wakes (s : State) (page : Nat) : Bool :=
  rb s page PAGE_CONTROL_WAKE_ON_ACCESS && bit (BitVec.ofNat 32 (pageCaps page)) 30 && !chipDeep s && !pageStopped s page
    && !(domsOf page).any (fun d => domDark s d && (domAt s d).forced.isSome)

/-- The access comes over PCIe. -/
def overPcie : Src → Bool
  | .pf | .vf _ => true
  | _ => false

/-- Nothing but what AON holds answers before the boot has ended (R87, R302, R308), and nothing behind an inactive PCIe endpoint (R6). -/
def unanswered (s : State) (src : Src) (page off : Nat) : Bool :=
  s.mgt.boot == .unpowered || (s.mgt.boot != .running && !aonReg page off) || (overPcie src && !epActive s)

/-- What the checks of an access refuse, whatever waits (R7, R47, R82, R97 to R99): a member discards a cell for its authority. An offset from
0x1000 on stands for an access of another size at the offset below it. -/
def refusedBy (s : State) (src : Src) (page off : Nat) (isWrite : Bool) : Option Gate :=
  if (match src with | .ring a p _ => a != 0 && p != 0 || !(a == 1 || a == 3) | _ => false) then some .drop
  else if off % 4 != 0 || decide (0x1000 ≤ off) then some (.refuse 5 false)
  else if (blockOf page).isNone then some (.refuse 3 true)
  else if !authorised src page off isWrite then some (if srcPort src == 2 then .drop else .refuse 1 false)
  else if !modeAllows s src page off isWrite then some (.refuse 2 false)
  else none

/-! ### Accesses that wait (R81, R88, R94, R100) -/

/-- An access of the port waits for a wake, and holds every later one of the port behind it (R94). -/
def wakePending (s : State) (src : Src) : Bool :=
  s.held.any (fun h => srcPort h.src == srcPort src && decide (h.off < 0x1000) && darkReg s h.page h.off && wakes s h.page)

/-- An access of the ring waits: the next one stays in its order (R81). -/
def ringWaits (s : State) : Bool := s.held.any (fun h => srcPort h.src == 2)

/-- An access waits behind another (R81, R94, R100): behind one of its port that waits for a wake, behind one to its page, and on the ring
behind any. During a soft reset of its page, the header registers that AON answers go ahead of the last two (R88). -/
def mustWait (s : State) (src : Src) (page off : Nat) : Bool :=
  wakePending s src
    || (!(aonHeader off && inSoftReset s page) && (s.held.any (fun h => h.page == page) || (srcPort src == 2 && ringWaits s)))

/-- The way of an access to its register (R6, R7, R81, R82, R88, R93 to R100; the order of the checks is assumption 15): a cell that is
discarded waits for nothing, and what is refused is refused in its order. -/
def gate (s : State) (src : Src) (page off : Nat) (isWrite : Bool) : Gate :=
  if unanswered s src page (off % 0x1000) then .absent
  else
    let r := refusedBy s src page off isWrite
    if r == some .drop then .drop
    else if mustWait s src page (off % 0x1000) then .hold
    else match r with
      | some g => g
      | none =>
        if darkReg s page off then (if wakes s page then .wake else .dark)
        else if !aonReg page off && inSoftReset s page then .hold else .ok

/-! ### Answers -/

/-- A dword of the service port's request ends (R207): with its value, or refused. -/
def svcGot (s : State) (v : Option Word) : State :=
  match s.svc.job with
  | none => s
  | some j =>
    { s with svc := { s.svc with job := some { j with
      got := j.got ++ [v.getD 0xFFFFFFFF], next := j.next + 1
      bad := if v.isNone && j.bad.isNone then some j.next else j.bad } } }

/-- A read answered (R83): on the ring by a REG_CPL cell, in a request of the service port by its dword, elsewhere by a completion. -/
def answer (s : State) (src : Src) (v : Word) : State :=
  match src with
  | .ring _ p tag => sendCell s p.toNat 5 2 0 tag (leBytes 4 v.toNat)
  | .svc => if s.svc.job.isSome then svcGot s (some v) else emit s (.readDone src v false)
  | _ => emit s (.readDone src v false)

/-- An error completion (R83): 0xFFFF_FFFF for a read, and for a write the error of its port. -/
def errorAnswer (s : State) (src : Src) (isWrite ur : Bool) : State :=
  match src with
  | .ring _ p tag => if isWrite then s else sendCell s p.toNat 5 2 0 tag []
  | .jtag =>
    let s1 := { s with jtag := { s.jtag with sticky := true } }
    if isWrite then emit s1 (.writeErr src) else emit s1 (.readDone src 0xFFFFFFFF true)
  | .svc =>
    if s.svc.job.isSome then svcGot s none
    else if isWrite then emit s (.writeErr src) else emit s (.readDone src 0xFFFFFFFF true)
  | _ => if isWrite then emit s (.writeErr src) else emits s [.readDone src 0xFFFFFFFF true, .cplStatus ur]

/-- MGT_ACCESS_REFUSED counts a refused access, and MGT_ACCESS_LAST shows it (R101). -/
def noteRefused (s : State) (src : Src) (page off : Nat) (isWrite : Bool) (reason : Nat) : State :=
  wr (incF s pMgt MGT_ACCESS_REFUSED_COUNT) (adr pMgt 0x058)
    (BitVec.ofNat 32 (off % 4096 + page % 256 * 2 ^ 12 + srcPort src * 2 ^ 20 + srcAuth src * 2 ^ 23 + b2n isWrite * 2 ^ 26
      + reason * 2 ^ 27))

/-- An access refused (R83, R101). -/
def refuseAccess (s : State) (src : Src) (page off : Nat) (isWrite : Bool) (reason : Nat) (ur : Bool) : State :=
  errorAnswer (noteRefused s src page off isWrite reason) src isWrite ur

/-- A cell discarded for its authority (R47, R98): AUTH_DROP and AUTH_VIOL. -/
def authDrop (s : State) : State := err (incF s pRing RING_DROP_CNT_AUTH_DROP) pRing 4

/-- A dark access that does not wake its block (R93). -/
def darkRefuse (s : State) (src : Src) (page : Nat) (isWrite : Bool) : State :=
  let f := if isWrite then PAGE_DARK_WRITES else PAGE_DARK_READS
  errorAnswer (incF s page f) src isWrite false

/-- An access that wakes its block and waits (R94). -/
def wakeHold (s : State) (src : Src) (page off : Nat) (op : Op) : State :=
  let s1 := each (domsOf page) (incF s page PAGE_DARK_WAKES) (fun s d => castHw s 63 d)
  { s1 with held := s1.held ++ [⟨src, page, off, op, none⟩] }

/-- An access through the gate to its effect (R96 to R101). -/
def gated (s : State) (src : Src) (page off : Nat) (op : Op) (eff : State → State) : State :=
  let isWrite := match op with | .read => false | .write _ => true
  match gate s src page off isWrite with
  | .ok => eff s
  | .refuse r ur => refuseAccess s src page off isWrite r ur
  | .drop => authDrop s
  | .dark => darkRefuse s src page isWrite
  | .wake => wakeHold s src page off op
  | .hold => { s with held := s.held ++ [⟨src, page, off, op, none⟩] }
  | .absent => s

/-- A write through the gate. -/
def gatedW (s : State) (src : Src) (page off : Nat) (v : Word) (eff : State → State) : State :=
  gated s src page off (.write v) eff

/-- A refusal that a rule of the register states for a write, as R103 does (REASON MODE). -/
def refuseMode (s : State) (src : Src) (page off : Nat) : State := refuseAccess s src page off true 2 false

/-! ### Plain fields and the lock -/

/-- The page is locked (R91). -/
def locked (s : State) (page : Nat) : Bool := rb s page PAGE_LOCK_LOCK

/-- The covered bits of a register (R91): its RW bits from offset 0x040 on, ENABLE and WAKE_ON_ACCESS of PAGE_CONTROL;
MGT_MODE is never covered. -/
def covered (page off : Nat) : Nat :=
  if page = pMgt ∧ off = 0x04C then 0
  else if off = 0x00C then 0x5
  else if off < 0x040 then 0
  else match regDesc page off with
    | some r => r.rw
    | none => 0

/-- A write of the plain fields of a register (R10, R91): RW bits take the value unless they are covered and the page is
locked, W1C bits written 1 clear. BLOCKED counts a write that would have changed a covered bit of a locked page. -/
def writeFields (s : State) (page off : Nat) (v : Word) : State :=
  match regDesc page off with
  | none => s
  | some r =>
    let a := adr page off
    let old := rd s a
    let lock := if locked s page then BitVec.ofNat 32 (covered page off) else 0
    let m := BitVec.ofNat 32 r.rw &&& ~~~ lock
    let new := ((old &&& ~~~ m) ||| (v &&& m)) &&& ~~~ (v &&& BitVec.ofNat 32 r.w1c)
    let s1 := if (old &&& lock) != (v &&& lock) then incF s page PAGE_LOCK_BLOCKED else s
    wr s1 a new

/-- A covered field of a locked page keeps its value (R91). -/
def lockKeeps (s : State) (page : Nat) : Bool := locked s page

/-! ### Page checks (R92) -/

/-- The offsets of a page that hold a covered field, in increasing order, with their covered bits. -/
def coveredRegs (page : Nat) : List (Nat × Nat) :=
  ((List.range 1024).map (fun k => (4 * k, covered page (4 * k)))).filter (fun p => p.2 != 0)

/-- What a register with covered fields holds; TEN_INST_QUOTA shows the instance that TEN_INST_SEL selects. -/
def coveredVal (s : State) (page off : Nat) : Word :=
  if page == pTen && off == 0x088 then (instAt s (bits (rd s (adr pTen 0x080)) 0 10)).quota else rd s (adr page off)

/-- PAGE_CHECK (R92). -/
def pageCheck (s : State) (page : Nat) : Word :=
  BitVec.ofNat 32 (crc32 ((coveredRegs page).flatMap (fun p =>
    leBytes 4 (coveredVal s page p.1 &&& BitVec.ofNat 32 p.2).toNat)))

end Sys2Proof.Machine
end

