-- ==== Sys2Proof/Machine/ModeOps.lean ====
section
/-!
DEFINITION. Mode writes: the transitions of R29 with their causes and conditions, the refusals of R30, R44 and R102, and the
start of an accepted transition (R31, R102).
-/
namespace Sys2Proof.Machine

/-- Why a mode write is refused, as MGT_MODE_REFUSED.REASON codes it. -/
inductive ModeAns where
  | accept
  | rejoin
  | refuse (reason : Nat)
deriving DecidableEq, Repr

/-- The transition from a mode to another is in the table of R29, for a write. -/
def modeRow (frm v prev : Nat) : Bool :=
  (frm == 0 && (v == 1 || v == 2 || v == 3 || v == 5 || v == 6))
    || ((frm == 1 || frm == 2 || frm == 3 || frm == 4 || frm == 5) && v == 0)
    || (frm == 4 && v == prev)

/-- The cause that R29 names for the write: the manager; the head by ring for 3 in HOLD; JTAG too for 5 and 6. -/
def modeCause (frm v : Nat) (src : Src) : Bool :=
  if frm == 0 && v == 3 then (match src with | .ring a p _ => a == 1 && p == 0 | _ => false)
  else if v == 5 || v == 6 then isManager src || src == .jtag
  else isManager src

/-- The condition of R29 for the transition. -/
def modeCond (s : State) (v : Nat) : Bool :=
  if mode s == 4 && v != 0 then ringWhole s
  else if v == 1 then s.mgt.pcie && !partnerTrained s
  else if v == 2 then s.mgt.pcie && electState s == 2
  else if v == 3 then electState s == 3 || !s.mgt.pcie
  else true

/-- The answer to a mode write (R29, R30, R44, R102; the order of the checks is assumption 16). -/
def modeAnswer (s : State) (src : Src) (v : Nat) : ModeAns :=
  if v == 7 then .refuse 4
  else if pendingMode s then .refuse 5
  else if !modeRow (mode s) v (prevMode s) then .refuse 1
  else if !modeCause (mode s) v src then .refuse 3
  else if rb s pRing RING_POSITION_DUP && v != 0 then .refuse 2
  else if !modeCond s v then .refuse 2
  else if mode s == 4 && v != 0 then .rejoin
  else .accept

/-- A refused mode write is recorded (R29): MODE is unchanged. -/
def modeRefuse (s : State) (v reason : Nat) : State :=
  let c := rf s pMgt MGT_MODE_REFUSED_COUNT
  wr s (adr pMgt 0x050) (BitVec.ofNat 32 (v % 8 + mode s * 2 ^ 4 + reason * 2 ^ 8 + satTo 16 (c + 1) * 2 ^ 16))

/-- An accepted mode write sets PENDING and TARGET (R102); toward HOLD the aborts of R31 begin, toward a mode that runs schedules the
start-up (R32). -/
def modeAccept (s : State) (v : Nat) : State :=
  let s1 := wf (wb s pMgt MGT_MODE_PENDING true) pMgt MGT_MODE_TARGET v
  if v == 0 then each (allTqs s1) s1 (fun s t => stopTq s t .hold)
  else if v == 1 || v == 2 || v == 3 then wb s1 pPln PLN_STATUS_STARTUP true else s1

/-- A write of a mode to MGT_MODE (R29, R30, R102). -/
def modeWrite (s : State) (src : Src) (v : Nat) : State :=
  match modeAnswer s src v with
  | .accept => modeAccept s v
  | .rejoin => rejoinStart s
  | .refuse r => modeRefuse s v r

end Sys2Proof.Machine
end

