-- ==== Sys2Proof/Machine/BufOps.lean ====
section
/-!
DEFINITION. EBM: the buddy allocator of the endpoint buffers (R209, R210), the ECC and the arbiter counters (R214, R239), and the
bytes of an endpoint buffer (R211).
-/
namespace Sys2Proof.Machine

/-! ### The allocator -/

/-- The lowest address among free blocks of a class below 16 KiB. -/
def lowestFree (x : Ctxs) (c : Nat) : Option Nat :=
  (x.free.filter (fun p => p.2 == c)).foldl (fun m p =>
    match m with | some a => some (min a p.1) | none => some p.1) none

/-- The lowest 16 KiB block that is free and whole. -/
def lowestSuper (x : Ctxs) : Option Nat := (List.range 2032).find? (fun i => !x.supers.contains i)

/-- The halves left free when a block of class c at an address is split down to a class. -/
def upperHalves (a c target : Nat) : List (Nat × Nat) :=
  ((List.range (c - target)).map (· + target)).map (fun j => (a + clsSize j, j))

/-- A buffer of a class (R210): its address and the store left, none when no aligned block is free. -/
def allocBuf (x : Ctxs) (c : Nat) : Option (Nat × Ctxs) :=
  match ((List.range (8 - c)).map (· + c)).find? (fun j => (lowestFree x j).isSome) with
  | some j =>
    match lowestFree x j with
    | some a => some (a, { x with free := x.free.filter (fun p => !(p == (a, j))) ++ upperHalves a j c })
    | none => none
  | none =>
    match lowestSuper x with
    | some i => some (i * 16384, { x with supers := x.supers ++ [i], free := x.free ++ upperHalves (i * 16384) 8 c })
    | none => none

/-- A block returned and merged with its free neighbour of equal size, class after class (R210). -/
def freeBuf (x : Ctxs) (a c : Nat) : Nat → Ctxs
  | 0 => x
  | k + 1 =>
    if 8 ≤ c then { x with supers := x.supers.filter (fun i => !(i == a / 16384)) }
    else
      let buddy := if a / clsSize c % 2 == 0 then a + clsSize c else a - clsSize c
      if x.free.contains (buddy, c) then
        freeBuf { x with free := x.free.filter (fun p => !(p == (buddy, c))) } (min a buddy) (c + 1) k
      else { x with free := x.free ++ [(a, c)] }

/-- Bytes that endpoint buffers hold. -/
def heldBytes (x : Ctxs) : Nat := x.supers.length * 16384 - x.free.foldl (fun n p => n + clsSize p.2) 0

/-- The class of the largest free aligned block, 15 when none. -/
def largestFree (x : Ctxs) : Nat :=
  if x.supers.length < 2032 then 8
  else match [7, 6, 5, 4, 3, 2, 1, 0].find? (fun c => x.free.any (fun p => p.2 == c)) with
    | some c => c
    | none => 15

/-- EBM_FREE follows the store. -/
def noteFree (s : State) : State :=
  wf (wf s pEbm EBM_FREE_FREE_KIB ((32512 * 1024 - heldBytes s.ctx) / 1024)) pEbm EBM_FREE_LARGEST (largestFree s.ctx)

/-- An endpoint's buffer returned. -/
def releaseBuf (s : State) (e : Ep) : State := noteFree { s with ctx := freeBuf s.ctx e.buf e.cls 10 }

/-! ### ECC (R213, R214) -/

/-- A word of EBM holds an uncorrectable error from now (R213). -/
def markBad (s : State) (addr : Nat) : State :=
  let w := addr % 2 ^ 25 / 8
  if s.ebmBad.contains w then s else { s with ebmBad := s.ebmBad ++ [w] }

/-- EBM_ECC_LOG as an ECC error leaves it, with the error counted; the word of an uncorrectable one stays bad. -/
def eccCount (s : State) (addr : Nat) (ue : Bool) : State :=
  incF (wr (if ue then markBad s addr else s) (adr pEbm 0x048)
    (BitVec.ofNat 32 (addr % 2 ^ 25 / 8 * 8 + b2n ue * 2 ^ 25 + 2 ^ 26))) pEbm
    (if ue then EBM_ECC_CNT_UE else EBM_ECC_CNT_CE)

/-- The EBM_UE report of an uncorrectable error, with its reference. -/
def eccReport (s : State) (addr : Nat) : State × Word :=
  reportRef (errBit (eccCount s addr true) pEbm 1) (blockLoc s pEbm (addr / 4096 % 8)) 0x40

/-- An ECC error logged and counted: CE, or UE with its EBM_UE report. -/
def eccLog (s : State) (addr : Nat) (ue : Bool) : State :=
  if ue then (eccReport s addr).1 else err (eccCount s addr false) pEbm 0

/-- A correctable error met by a read, if one was. -/
def eccCe (s : State) (ce : Option (BitVec 25)) : State :=
  match ce with | some a => eccLog s a.toNat false | none => s

/-- The bad words of a byte range of EBM. -/
def badWords (s : State) (a n : Nat) : List Nat :=
  s.ebmBad.filter (fun w => decide (0 < n) && decide (a / 8 ≤ w) && decide (w ≤ (a + n - 1) / 8))

/-- The address of the first bad word that a read of some ranges meets (R213, R214). -/
def firstBad (s : State) (rs : List (Nat × Nat)) : Option Nat :=
  (rs.findSome? (fun r => (badWords s r.1 r.2).head?)).map (· * 8)

/-- A range of EBM has been written (R213): a word written whole is good again; a write of a part of a bad one reads it and meets its error. -/
def ebmWrote (s : State) (a n : Nat) : State :=
  let ws := badWords s a n
  let whole (w : Nat) : Bool := decide (a ≤ 8 * w) && decide (8 * w + 8 ≤ a + n)
  each (ws.filter (fun w => !whole w)) { s with ebmBad := s.ebmBad.filter (fun w => !(ws.contains w && whole w)) }
    (fun s w => eccLog s (8 * w) true)

/-! ### The bytes that a buffer takes and gives -/

/-- The ranges of EBM of n bytes of a buffer from an address of it. -/
def bufRanges (e : Ep) (a n : Nat) : List (Nat × Nat) :=
  let n1 := min n (e.buf + clsSize e.cls - a)
  [(a, n1), (e.buf, n - n1)].filter (fun r => r.2 != 0)

/-- Bytes placed in a buffer after those it holds. -/
def bufPut (s : State) (c : Nat) (d : List Byte) : State :=
  match epAt s c with
  | none => s
  | some e =>
    let m := (d.zipIdx).foldl (fun m p => memSet m (bufAddr e (e.fill + p.2)) p.1) s.ebm
    let s1 := setEp { s with ebm := m } c { e with fill := min (clsSize e.cls) (e.fill + d.length) }
    each (bufRanges e (bufAddr e e.fill) d.length) s1 (fun s r => ebmWrote s r.1 r.2)

/-- The first n bytes of a buffer freed; a hole in a sink's data comes nearer (R173). -/
def bufDrop (s : State) (c n : Nat) : State :=
  updEp s c (fun e => { e with
    head := bufAddr e (min n e.fill), fill := e.fill - min n e.fill, lost := e.lost.map (fun p => (p.1, p.2 - n)) })

/-- A buffer emptied. -/
def bufClear (s : State) (c : Nat) : State := updEp s c (fun e => { e with head := e.buf, fill := 0 })

/-! ### The arbiters (R237 to R239) -/

/-- The key of a counter of the arbiters: bank, requester, and which of grants, waits and the longest wait. -/
def arbKey (bank req k : Nat) : Nat := (bank % 8 * 256 + req % 256) * 4 + k

/-- A grant of a bank to a requester that waited some bank cycles (R239). -/
def arbGrant (s : State) (bank req wait : Nat) : State :=
  let g (t : Tab Word) (k : Nat) : Nat := (tabGet (fun _ => (0 : Word)) t k).toNat
  let p (t : Tab Word) (k v : Nat) : Tab Word := tabSet (fun _ => (0 : Word)) t k (BitVec.ofNat 32 v)
  let t0 := p s.arb (arbKey bank req 0) (satTo 32 (g s.arb (arbKey bank req 0) + 1))
  let t1 := if wait == 0 then t0 else p t0 (arbKey bank req 1) (satTo 32 (g t0 (arbKey bank req 1) + 1))
  { s with arb := p t1 (arbKey bank req 2) (satTo 16 (max (g t1 (arbKey bank req 2)) wait)) }

/-- The requester number of the DMA island of a channel. -/
def dmaReq (ch : Nat) : Nat := ch / 16

/-- The rank of a request in the data class: its level, or 3 when it has waited 256 cycles (R237). -/
def reqRank (r : BankReq) : Nat := if 256 ≤ r.wait then 3 else r.lvl

/-- A request of the isochronous class (R238). -/
def isoReq (r : BankReq) : Bool := decide (128 ≤ r.req) && decide (r.req < 192)

/-- The request of a list whose turn it is after the requester served last (R237, R238). -/
def inTurn (last : Nat) (l : List BankReq) : Option BankReq :=
  let low (l : List BankReq) : Option BankReq := l.foldl (fun b r => match b with
    | some x => if r.req < x.req then some r else some x
    | none => some r) none
  (low (l.filter (fun r => decide (last < r.req)))).or (low l)

/-- The request that a bank goes to at the end of a transfer (R238): a refresh row, the isochronous winner, the data-class winner, which is one
of the highest rank (R237), the scrubber. -/
def bankNext (s : State) (b : Nat) : Option BankReq :=
  let l := s.banks.reqs.filter (fun r => r.bank == b)
  let last (k : Nat) : Nat := tabGet (fun _ => 256) s.banks.last (2 * b + k)
  let data := l.filter (fun r => decide (r.req < 128))
  let top := data.foldl (fun m r => max m (reqRank r)) 0
  ((l.find? (fun r => r.req == 254)).or (inTurn (last 1) (l.filter isoReq))).or
    ((inTurn (last 0) (data.filter (fun r => reqRank r == top))).or (l.find? (fun r => r.req == 255)))

/-- A bank is granted to a request (R237 to R239). -/
def bankGrant (s : State) (r : BankReq) : State :=
  let k := s.banks
  let last := if r.req < 192 then tabSet (fun _ => 256) k.last (2 * r.bank + b2n (isoReq r)) r.req else k.last
  let s1 := { s with banks := { reqs := k.reqs.erase r, busy := tabSet (fun _ => 0) k.busy r.bank r.beats, last := last } }
  if r.atEnd then s1 else arbGrant s1 r.bank r.req r.wait

/-- A request reaches a bank's arbiter (R237): an idle bank takes it at once. -/
def bankAsk (s : State) (r : BankReq) : State :=
  if tabGet (fun _ => 0) s.banks.busy r.bank == 0 then bankGrant s r
  else { s with banks := { s.banks with reqs := s.banks.reqs ++ [r] } }

/-- The transfer that holds a bank ends (R238): those that wait have waited its beats, and the bank goes to the next request. -/
def bankSlot (s : State) (b : Nat) : State :=
  let k := tabGet (fun _ => 0) s.banks.busy b
  if k == 0 then s
  else
    let s1 := { s with banks := { s.banks with
      busy := tabSet (fun _ => 0) s.banks.busy b 0
      reqs := s.banks.reqs.map (fun r => if r.bank == b then { r with wait := r.wait + k } else r) } }
    match bankNext s1 b with | some r => bankGrant s1 r | none => s1

/-- The transfers of all banks end. -/
def bankSlots (s : State) : State := each (List.range 8) s bankSlot

/-- The transfers that a range of EBM takes (R209, R237): the beats of each 4 KiB stripe in its bank, 1 to 16 of them each. -/
def bankParts (a n : Nat) : List (Nat × Nat) :=
  if n == 0 then []
  else
    let first := a / 64
    let last := (a + n - 1) / 64
    (List.range (last / 64 - first / 64 + 1)).flatMap (fun i =>
      let stripe := first / 64 + i
      let lo := max first (64 * stripe)
      let k := min last (64 * stripe + 63) + 1 - lo
      (List.range (ceilDiv k 16)).map (fun j => (stripe % 8, min 16 (k - 16 * j))))

/-- The requests of an operation at the banks of its ranges (R237): one for each transfer, and one cycle more for a write of a part of a word
(R213). -/
def bankAsks (s : State) (req lvl : Nat) (atEnd write : Bool) (rs : List (Nat × Nat)) : State :=
  each rs s (fun s r => each (bankParts r.1 r.2) s (fun s p =>
    let part := write && (r.1 % 8 != 0 || r.2 % 8 != 0)
    bankAsk s ⟨p.1, req, lvl, p.2 + b2n part, 0, atEnd⟩))

/-- The requests of a requester at some banks have been granted by now. -/
def bankDone (s : State) (req : Nat) (bs : List Nat) : State :=
  { s with banks := { s.banks with reqs := s.banks.reqs.filter (fun r => !(r.req == req && r.atEnd && bs.contains r.bank)) } }

/-- The grants of an operation (R237, R239): one for each transfer that its ranges take, with the waits that were measured. -/
def arbGrants (s : State) (req : Nat) (rs : List (Nat × Nat)) (waits : List (BitVec 16)) : State :=
  each ((rs.flatMap (fun r => bankParts r.1 r.2)).zipIdx) s (fun s p => arbGrant s p.1.1 req (waits.getD p.2 0).toNat)

end Sys2Proof.Machine
end

