-- ==== Sys2Proof/Machine/FlowOps.lean ====
section
/-!
DEFINITION. Flows: how the entries of a Transfer Queue become operations and completions (R117 to R123, R149 to R157, R171 to
R173, R191 to R197), on which lists they wait (R154, R158, R159), which planner channel moves them (R156, R225), and which
transaction a port starts (R155, R160, R192, R357).
-/
namespace Sys2Proof.Machine

/-! ### Endpoints, devices, ports -/

/-- The packets of a service (R188). -/
def epBurst (e : Ep) : Nat := (e.burst + 1) * (e.mult + 1)

/-- Packets that a service in a microframe may take (R164). -/
def svcPackets (e : Ep) (n : Nat) : Nat := match rsvFor e n with | some r => ceilDiv r.bytes (max e.mps 1) | none => epBurst e
/-- A retired or later sequence number or toggle (R188, R193). -/
def nextToggle (s : State) (e : Ep) : Nat :=
  if 3 ≤ speedOf s (epPort s e) then (e.toggle + 1) % 32 else 1 - e.toggle % 2

/-! ### Loads, back-pressure, spill (R154, R158, R159) -/

/-- The level of an operation of a flow as it stands now (R161). -/
def opLevel (s : State) (e : Ep) (op : OpKind) (n : Option Nat) : Nat :=
  let prof := rf s pPln PLN_PROFILE_ACTIVE
  if isIsoc e then
    (if op == .drain || prof == 1 then 3
     else match n with | some n => if ufDiff n s.clk.uframe.toNat ≤ 1 then 3 else 2 | none => 2)
  else if e.typ == 2 then (if prof == 2 then 2 else 1) else 2

/-- Operations in a port engine's list. -/
def peLoad (s : State) (pe : Nat) : Nat :=
  (s.ctx.eps.filter (fun p => match p.2.work with
    | some w => w.op == .issue && waits s p.1 w && joined s p.2 w && epPort s p.2 / 4 == pe
    | none => false)).length

/-- Operations in the list of a DMA level. -/
def dmaLoad (s : State) (lvl : Nat) : Nat :=
  (s.ctx.eps.filter (fun p => match p.2.work with
    | some w => w.op != .issue && waits s p.1 w && joined s p.2 w && opLevel s p.2 w.op w.n == lvl
    | none => false)).length

/-- FETCH operations in the list of a list engine: those that wait for a dark block (R14). -/
def fetchLoad (s : State) (le : Nat) : Nat :=
  s.que.tqs.foldl (fun n t => if t.1 % 32 == le && t.2.due then n + (runs (wanted t.2)).length else n) 0

/-- Operations in the POST list: those whose CQ has room (R111, R154). -/
def postLoad (s : State) : Nat := s.que.tqs.foldl (fun n t => if mayPost s t.2 then n + t.2.posts.length else n) 0

/-- A list of a flow with its places: 0 that of its port engine, 1 that of its DMA level, 2 the POST list, 3 that of its list engine. -/
def listOf (s : State) (e : Ep) (k : Nat) : Nat × Nat :=
  match k with
  | 0 => (peLoad s (epPort s e / 4), 64)
  | 1 => (dmaLoad s (opLevel s e .drain none), 512)
  | 2 => (postLoad s, 1024)
  | _ => (fetchLoad s (e.tq.getD 0 % 32), 64)

/-- The lists that a flow's graph uses (R152). -/
def graphLists (s : State) (c : Nat) : List (Nat × Nat) :=
  match epAt s c with
  | some e =>
    (match e.work with
     | some w =>
       let data := eType w.e == 1 || eType w.e == 4
       listOf s e 0 :: ((if data && eLen w.e != 0 then [listOf s e 1] else []) ++ (if eLast w.e then [listOf s e 2] else []))
     | none => [])
  | none => []

/-- A list is 7/8 full. -/
def listFull (p : Nat × Nat) : Bool := decide (7 * p.2 ≤ 8 * p.1)
/-- A list is below 3/4 full. -/
def listLow (p : Nat × Nat) : Bool := decide (4 * p.1 < 3 * p.2)
/-- A list that the graph uses is 7/8 full. -/
def graphFull (s : State) (c : Nat) : Bool := (graphLists s c).any listFull
/-- Every list that the graph uses is below 3/4 full. -/
def graphLow (s : State) (c : Nat) : Bool := (graphLists s c).all listLow

/-- Start-up, LOOP and RECOVERY: a graph that meets a full list goes to the spill region (R159). -/
def spillMode (s : State) : Bool := rb s pPln PLN_STATUS_STARTUP || mode s == 5 || mode s == 6

/-- The spill region is full: it holds 8,192 records, or a graph has found no room in it and is deferred (R159). -/
def spillFull (s : State) : Bool := decide (8192 ≤ s.pln.spill.length) || (spillMode s && !s.pln.deferred.isEmpty)

/-- A list that an asynchronous graph uses is 7/8 full where R158 applies: outside start-up, LOOP and RECOVERY, or with the spill region full. -/
def bpNeeded (s : State) : Bool :=
  (!spillMode s || spillFull s)
    && s.ctx.eps.any (fun p => !isPer p.2 && p.2.tq.isSome && [0, 1, 2, 3].any (fun k => listFull (listOf s p.2 k)))

/-- BP_ACTIVE follows the lists (R158), with the BP event when it rises (R175). -/
def noteBp (s : State) : State :=
  let full := bpNeeded s
  let was := rb s pPln PLN_STATUS_BP_ACTIVE
  let s1 := wb s pPln PLN_STATUS_BP_ACTIVE full
  if full && !was then evt { s1 with pln := { s1.pln with bpNow := true } } pPln 0 else s1

/-- A graph is deferred (R158). -/
def deferGraph (s : State) (c : Nat) : State :=
  incF { s with pln := { s.pln with deferred := s.pln.deferred ++ [c] } } pPln PLN_BP_CNT_DEFERRED

/-- A graph of a flow is accepted, spilled or deferred (R158, R159). Periodic graphs are always accepted. SPILL_FULL is set when the region
has no record left, and when a graph needs more than are left. -/
def acceptGraph (s : State) (c : Nat) : State :=
  match epAt s c with
  | none => s
  | some e =>
    if isPer e || !graphFull s c then noteBp s
    else if spillMode s then
      match e.work with
      | none => s
      | some w =>
        let ops := graphOps e w
        let n := s.pln.spill.length + ops.length
        if n ≤ 8192 then
          let s1 := noteSpill { s with pln := { s.pln with spill := s.pln.spill ++ ops.map (fun k => (c, k)) } }
          noteBp (if n == 8192 then err s1 pPln 3 else s1)
        else noteBp (deferGraph (err s pPln 3) c)
    else noteBp (deferGraph s c)

/-! ### Planner channels (R156, R217, R225) -/

/-- The registers of a channel that hold an operation. -/
def opRegs (ch : Nat) : List Nat := [0x40, 0x44, 0x48, 0x4C, 0x50, 0x54].map (fun o => adr (dmaPage ch) (o + ch % 4 * 0x40))

/-- A planner channel is free: idle, without a flow, its page enabled and its island in P0 (R14, R87, R277). -/
def chanFree (s : State) (ch : Nat) : Bool :=
  crf s ch DMA_STATUS_STATE == 0 && (chanAt s ch).flow.isNone && !domClosed s (0x58 + ch / 16) && pageOn s (dmaPage ch)

/-- The operation of a channel moves: it runs, or pauses at its last beat (R226). -/
def chanGoes (s : State) (ch : Nat) : Bool := crf s ch DMA_STATUS_STATE == 1 || crf s ch DMA_STATUS_STATE == 2

/-- A domain is forced down (R277). -/
def forcedDown (s : State) (d : Nat) : Bool := (domAt s d).forced.isSome

/-- A range of an endpoint buffer needs a bank that is out of P0, forced down or not (R14, R277). -/
def bankClosed (s : State) (e : Ep) (a n : Nat) : Bool :=
  (bufRanges e a n).any (fun r => (banksOf r.1 r.2).any (fun b => domClosed s (0x50 + b)))

/-- The level of the operation that a planner channel runs. -/
def chanLevel (s : State) (ch : Nat) : Nat :=
  match (chanAt s ch).flow with
  | some c => (match epAt s c with
      | some e => (match e.work with | some w => w.level | none => 3)
      | none => 3)
  | none => 3

/-- The channel that a level-3 operation pre-empts: the lowest level, then the oldest; one that parks already is left alone. One that waits for a
barrier is pre-empted too (R229). -/
def chanVictim (s : State) : Option Nat :=
  ((List.range 48).filter (fun ch => (chanAt s ch).flow.isSome && (chanAt s ch).parked.isNone && !domClosed s (0x58 + ch / 16)
      && decide (chanLevel s ch < 3) && (crf s ch DMA_STATUS_STATE == 1 || crf s ch DMA_STATUS_STATE == 5))).foldl (fun best ch =>
    match best with
    | some b =>
      if chanLevel s ch < chanLevel s b || (chanLevel s ch == chanLevel s b && decide ((chanAt s ch).age < (chanAt s b).age))
      then some ch else best
    | none => some ch) none

/-- A channel shows an operation (R217). -/
def showOp (s : State) (ch : Nat) (src dst : Addr) (n lvl cnd : Nat) (srcEbm dstEbm : Bool) : State :=
  let s1 := cpairW (cpairW s ch 0x40 src) ch 0x48 dst
  let s2 := cwf s1 ch DMA_COUNT_COUNT n
  let s3 := wr s2 (adr (dmaPage ch) (0x54 + ch % 4 * 0x40))
    (BitVec.ofNat 32 (lvl * 2 ^ 3 + b2n srcEbm * 2 ^ 7 + b2n dstEbm * 2 ^ 8 + cnd * 2 ^ 12))
  dmaVotes (cwf s3 ch DMA_STATUS_STATE 1) (ch / 16)

/-- The level of a software channel's transfer (R224): PRIO, of which 3 is read as 2. -/
def softLevel (s : State) (ch : Nat) : Nat := min 2 (crf s ch DMA_CTRL_PRIO)

/-- The DMA tag of a flow, and of a software channel (R46). -/
def flowTag (c : Nat) : Word := Config.dmaTagOf (BitVec.ofNat 14 (c % 8192))
def chanTag (ch : Nat) : Word := Config.dmaTagOf (BitVec.ofNat 14 (8192 + ch))

/-! ### The beats of an operation (R222, R224) -/

/-- The beats of some ranges, each rounded outward (R222). -/
def beatAddrs (rs : List (Nat × Nat)) : List Nat :=
  rs.flatMap (fun r => if r.2 == 0 then [] else
    (List.range (ceilDiv (r.1 + r.2) 64 - r.1 / 64)).map (fun k => (r.1 / 64 + k) * 64))

/-- The beats of a channel replaced; STAGED shows those that are staged. -/
def setBeats (s : State) (ch : Nat) (b : Beats) : State :=
  cwf (setChan s ch { chanAt s ch with queue := b }) ch DMA_STATUS_STAGED b.staged

/-- The read of a beat: one of host memory leaves under the tag of its operation. -/
def readBeat (s : State) (ch : Nat) (o : Owner) (a : Nat) : State :=
  if crf s ch DMA_CTRL_SRC_EBM == 1 then s
  else hostReadAs s (match (chanAt s ch).flow with | some c => flowTag c | none => chanTag ch) o (BitVec.ofNat 64 a) 64

/-- A channel reads on (R224): its next beat, while fewer than four reads are outstanding and no more than 16 beats are staged or on their
way. -/
def readOn (s : State) (ch : Nat) : State :=
  let b := (chanAt s ch).queue
  match b.todo with
  | [] => s
  | a :: rest =>
    if 4 ≤ b.outst || 16 ≤ b.outst + b.staged then s
    else readBeat (setBeats s ch { b with todo := rest, outst := b.outst + 1 }) ch b.o a

/-- An operation begins to read the beats of its source. -/
def startBeats (s : State) (ch : Nat) (o : Owner) (todo : List Nat) : State := readOn (setBeats s ch ⟨o, todo, 0, 0⟩) ch

/-- Every beat of a channel's operation has been read and written: the reads that were still to leave leave now. -/
def endBeats (s : State) (ch : Nat) : State :=
  let b := (chanAt s ch).queue
  each b.todo (setBeats s ch .init) (fun s a => readBeat s ch b.o a)

/-- The level of a channel's operation (R224). -/
def lvlOf (s : State) (ch : Nat) : Nat := if (chanAt s ch).flow.isSome then chanLevel s ch else softLevel s ch

/-- The channel of an island that moves a beat (R224): one of the highest level that has a staged beat, the one whose last turn is the oldest. -/
def beatTurn (s : State) (j : Nat) : Option Nat :=
  ((List.range 16).map (· + 16 * j)).foldl (fun best ch =>
    if !chanGoes s ch || (chanAt s ch).queue.staged == 0 then best
    else match best with
      | none => some ch
      | some b =>
        if lvlOf s b < lvlOf s ch || (lvlOf s b == lvlOf s ch && decide ((chanAt s ch).turn < (chanAt s b).turn)) then some ch else some b) none

/-- A cycle of a DMA island (R224): one staged beat is written, a read of each channel lands, and each running channel reads its next beat. -/
def islandSlot (s : State) (j : Nat) : State :=
  if domClosed s (0x58 + j) then s
  else
    let chs := (List.range 16).map (· + 16 * j)
    let busy := chs.filter (fun ch => chanGoes s ch && (chanAt s ch).queue != .init)
    let s1 := match beatTurn s j with
      | some ch =>
        let k := chanAt s ch
        let last := chs.foldl (fun m c => max m (chanAt s c).turn) 0
        setBeats (setChan s ch { k with turn := last + 1 }) ch { k.queue with staged := k.queue.staged - 1 }
      | none => s
    each busy s1 (fun s ch =>
      let b := (chanAt s ch).queue
      let s2 := if 0 < b.outst then setBeats s ch { b with outst := b.outst - 1, staged := b.staged + 1 } else s
      if crf s2 ch DMA_STATUS_STATE == 1 then readOn s2 ch else s2)

/-- A cycle of every DMA island. -/
def dmaSlots (s : State) : State := each (List.range 4) s islandSlot

/-- What passes while no command waits: a cell slot of both ring ports (R50), a transfer of each bank (R238) and a beat of each DMA island
(R224; assumptions 13 and 90). -/
def idleSlot (s : State) : State := dmaSlots (bankSlots (cellSlots s))

/-! ### Channels taken and left (R156, R225) -/

/-- The channel for an operation of a level: a free one, or for level 3 one whose operation is parked (R156, R225), with its registers, its
state, its setting, its reads and its staged beats. -/
def takeChan (s : State) (lvl : Nat) : Option (Nat × State) :=
  let age (s : State) (ch : Nat) (k : Chan) : State :=
    { setChan s ch { k with age := s.pln.clock } with pln := { s.pln with clock := s.pln.clock + 1 } }
  match (List.range 48).find? (chanFree s) with
  | some ch => some (ch, age s ch (chanAt s ch))
  | none =>
    if lvl != 3 then none
    else match chanVictim s with
      | some ch =>
        let k := chanAt s ch
        let s1 := age s ch { k with
          parked := k.flow, saved := (opRegs ch).map (rd s), parkState := crf s ch DMA_STATUS_STATE, parkAge := k.age, parkCnd := k.cnd
          parkBeats := k.queue }
        some (ch, cwf (setBeats s1 ch .init) ch DMA_STATUS_PARKED_OP 1)
      | none => none

/-- An operation leaves its channel: the parked one resumes where it stopped, or the channel goes idle (R225). -/
def dropChan (s : State) (ch : Nat) : State :=
  let k := chanAt s ch
  match k.parked with
  | some c =>
    let s1 := ((opRegs ch).zip k.saved).foldl (fun s p => wr s p.1 p.2) s
    let s2 := cwf (cwf (setChan s1 ch { k with
      flow := some c, parked := none, saved := [], age := k.parkAge, cnd := k.parkCnd, parkCnd := [], parkBeats := .init })
      ch DMA_STATUS_PARKED_OP 0) ch DMA_STATUS_STATE k.parkState
    let s3 := setBeats s2 ch k.parkBeats
    dmaVotes (if k.parkState == 1 then readOn s3 ch else s3) (ch / 16)
  | none => dmaVotes (cwf (setBeats (setChan s ch { k with flow := none, cnd := [] }) ch .init) ch DMA_STATUS_STATE 0) (ch / 16)

/-- A flow's operation leaves its channel, running or parked. -/
def freeOp (s : State) (c : Nat) (w : Work) : State :=
  match w.chan with
  | none => s
  | some ch =>
    let k := chanAt s ch
    if k.parked == some c then
      cwf (setChan s ch { k with parked := none, saved := [], parkCnd := [], parkBeats := .init }) ch DMA_STATUS_PARKED_OP 0
    else if k.flow == some c then dropChan s ch else s

/-! ### Checks of an entry (R119, R171, R191) -/

/-- The key of a RELAY entry's peer on another chip. -/
def peerKey (en : List Word) : Nat := ePeerPos en * 8192 + ePeerCtx en

/-- A RELAY entry is malformed (R171). The head knows the endpoints of other chips; a member is told of a peer there by no command, and
whether that peer is fit is a free value (assumption 82). -/
def relayBad (s : State) (x : Tq) (e : Ep) (en : List Word) : Bool :=
  let pos := ePeerPos en
  let unfit (p : Ep) : Bool := isCtl p || p.dirIn == e.dirIn || (decide (p.owner ≠ e.owner) && decide (x.owner ≠ .mgr))
  (!e.dirIn && eCnd en != 0) ||
    (if pos == ownPos s then (match epAt s (ePeerCtx en) with | some p => unfit p | none => true)
     else if !live s pos then true
     else if isMember s then bit (freeNow s) 0
     else (match look s.ctx.far (peerKey en) with | some p => unfit p.ep | none => true))

/-- What an entry completes with before any service of it, none when it is good: DEV_GONE, BAD_DESC or NO_BW. -/
def entryFault (s : State) (x : Tq) (e : Ep) (en : List Word) : Option (BitVec 4 × Option Word) :=
  let gone := match epDev s e with | some d => d.gone | none => true
  let ty := eType en
  if gone then some (9, (epDev s e).bind (·.cause))
  else if ty == 0 || decide (5 < ty) || eReserved (isIsoc e) en || (!isCtl e && eIn en != e.dirIn)
      || ((ty == 2 || ty == 3) && !isCtl e) || (ty == 2 && eLen en != 8) || (ty == 3 && eLen en != 0)
      || (match e.rsv with | some r => isIsoc e && decide (r.bytes < eLen en) | none => false)
      || (ty == 4 && (isCtl e || relayBad s x e en)) then some (8, none)
  else if isPer e && e.rsv.isNone then some (0xB, none)
  else none

/-! ### The end of an entry (R121 to R123, R362) -/

/-- The open chain of a TQ put through a function. -/
def updChain (s : State) (t : Nat) (f : Chain → Chain) : State :=
  updTq s t (fun x => { x with chain := x.chain.map f })

/-- A completion's counters: MISSED, UNDERRUN, and the port's XACT_ERR. -/
def noteStatus (s : State) (c : Nat) (st : BitVec 4) : State :=
  if st == 5 then incF s pPln PLN_MISS_CNT_MISSED
  else if st == 7 then incF s pPln PLN_MISS_CNT_UNDERRUN
  else if st == 4 then
    match epAt s c with
    | some e => let p := epPort s e; incF s (cluPage p) (pfld p PRT_COUNTS_XACT_ERR)
    | none => s
  else s

/-- The chain ends at its LAST entry. -/
def completeAt (s : State) (t c idx : Nat) (en : List Word) (st : BitVec 4) (rc : Option Word) : State :=
  noteStatus (endChain s t idx en st rc) c st

/-- The open chain ends at the entry before the next one, without its LAST entry (R121, R123). -/
def endOpen (s : State) (t : Nat) (st : BitVec 4) (rc : Option Word) : State :=
  match tqAt s t with
  | none => s
  | some x =>
    match x.chain with
    | none => s
    | some c =>
      let p : Post := { idx := (x.next + qSize x.log2 - 1) % qSize x.log2, status := st, bytes := c.bytes, tag := c.lastTag,
                        ts := c.ts, rc := rc, ioc := false, batch := false, setup := c.setup, mark := x.served, ord := 0 }
      noteStatus (queuePost (setTq s t { x with chain := none }) t p) x.ep st

/-- START_UFRAME of a cached entry (R149). -/
def startOf (x : Tq) (idx : Nat) : Option Word :=
  match x.cache.find? (fun c => c.idx == idx) with
  | some ⟨_, some en⟩ => if eAsap en then none else some (eStart en)
  | _ => none

/-- The next entry to serve moves past an index: one more is served, and no plan serves it. -/
def setNext (s : State) (t idx : Nat) (tag : BitVec 16) : State :=
  match tqAt s t with
  | none => s
  | some x =>
    let s1 := updEp s x.ep (fun e => { e with planned := e.planned.filter (fun p => p.2.1 != idx) })
    updChain (setTq s1 t { x with
      next := (idx + 1) % qSize x.log2, served := x.served + 1, lastStart := (startOf x idx).or x.lastStart }) t
      (fun c => { c with lastTag := tag })

/-- A chain begins at an entry with FIRST (R117: isochronous chains are always timestamped). -/
def openChain (s : State) (t : Nat) (e : Ep) (en : List Word) : State :=
  if eFirst en then
    updTq s t (fun x => { x with chain := some ⟨0, x.next, eTs en || isIsoc e, none, [], false, none, [], eTag en⟩ })
  else s

/-- An entry of a chain fails: the chain completes there, or skips its rest (R123). -/
def failEntry (s : State) (t c idx : Nat) (en : List Word) (st : BitVec 4) (rc : Option Word) : State :=
  let s1 := setNext s t idx (eTag en)
  if eLast en then completeAt s1 t c idx en st rc else updChain s1 t (fun k => { k with dead := some (st, rc) })

/-- The flow of an endpoint has no entry in service; its list places are free. -/
def clearWork (s : State) (c : Nat) : State :=
  leaveLists (updEp s c (fun e => match e.work with
    | some w => { e with work := none, planned := e.planned.filter (fun p => p.2.1 != w.idx) }
    | none => e)) c true

/-- An entry in service fails (R123): its bytes stay moved, its unsent OUT data is discarded, a sink's data stays (R173). -/
def failWork (s : State) (c : Nat) (st : BitVec 4) (rc : Option Word) : State :=
  match epAt s c with
  | none => s
  | some e =>
    match e.work with
    | none => s
    | some w =>
      let s1 := clearWork (freeOp s c w) c
      let s2 := if eType w.e == 4 && !e.dirIn then s1 else bufClear s1 c
      let s3 := updChain s2 w.tq (fun k => { k with bytes := k.bytes + workBytes e w, carry := [] })
      failEntry s3 w.tq c w.idx w.e st rc

/-- An entry's graph has completed (R122, R152, R362). A failure that waited for its operation, as a quiesce's does (R248), ends the
chain unless the entry ends it. A short packet that ends the transfer makes the chain SHORT, or leaves the
rest of it to be skipped. -/
def finishWork (s : State) (c : Nat) : State :=
  match epAt s c with
  | none => s
  | some e =>
    match e.work with
    | none => s
    | some w =>
      let s1 := clearWork (freeOp s c w) c
      let got := if eType w.e == 1 || eType w.e == 4 then w.moved else 0
      let s2 := setNext (updChain s1 w.tq (fun k => { k with bytes := k.bytes + got })) w.tq w.idx (eTag w.e)
      let short := w.ended && decide (w.moved < eLen w.e) && !isIsoc e
      if eLast w.e then completeAt s2 w.tq c w.idx w.e (if short then 1 else 0) none
      else
        let s3 := advanceCi s2 w.tq (w.idx + 1)
        if w.fail.isSome then updChain s3 w.tq (fun k => { k with dead := w.fail })
        else if short then updChain s3 w.tq (fun k => { k with dead := some (1, none) })
        else if w.ended && !isIsoc e then updChain s3 w.tq (fun k => { k with dead := some (0, none) })
        else s3

/-! ### The next entry of a TQ (R114, R119 to R123, R149, R157) -/

/-- A TQ may begin its next entry: its flow is free and its last completion posted (R111, R157); outside an ORPHAN chip, a quiesce
(R248) and a stop (R135), while the planner's island is in P0 (R14, R87). -/
def mayServe (s : State) (x : Tq) (e : Ep) : Bool :=
  let ist := instPhase (instAt s (ownerKey x.owner))
  runsSchedules s && pageOn s pPln && !domClosed s 0x5C && !orphan s && x.stop.isNone && !x.error && x.posts.isEmpty && e.work.isNone
    && (ist != 2 || isPer e || (match x.chain with | some c => c.dead.isSome | none => false)) && ist != 3

/-- The first work of an entry: STAGE for OUT data, ISSUE for the rest; IN data carried from the entry before fills it first
(R122, R152). -/
def firstWork (s : State) (e : Ep) (idx : Nat) (en : List Word) (n : Option Nat) (k : List Byte) (short : Bool) : Work :=
  let data := eType en == 1 || eType en == 4
  let inS := stageIn e en
  let m := if data && inS then min k.length (eLen en) else 0
  let left := decide (m < k.length)
  let full := data && inS && (decide (0 < m) && m == eLen en || (short && decide (0 < m) && !left))
  let op : OpKind := if data && !inS && decide (0 < eLen en) then .stage else if full then .drain else .issue
  { tq := 0, idx := idx, e := en, op := op, inSvc := false, chan := none, level := opLevel s e op n
    moved := m, seg := m
    segLen := if data && !inS then segOf e (bufRoom e) (eLen en) else 0
    n := n, budget := 0, packets := 0, retries := 0, split := 0
    -- late isochronous OUT data (R161): its microframe has begun already
    zlp := false, late := op == .stage && n.any (fun n => decide (0 ≤ ufDiff s.clk.uframe.toNat n)), ended := short && !left && decide (0 < k.length)
    fail := if (data && inS && left && eLast en && !isIsoc e) || (eType en == 3 && decide (0 < k.length)) then some (3, none)
      else none
    cnd := [] }

/-- A relay's sink holds the bytes of its segment (R172): its STAGE is complete, and its packets may be issued. -/
def sinkFill (s : State) (c : Nat) : State :=
  match (epAt s c) with
  | some e =>
    (match e.work with
     | some w =>
       if w.op == .stage && eType w.e == 4 && waits s c w && decide (w.segLen ≤ e.fill) && !orphan s then
         updEp s c (fun e => { e with work := e.work.map (fun w => { w with op := .issue, seg := w.segLen }) })
       else s
     | none => s)
  | none => s

/-- Data that a sink's entry needs has been lost on the ring (R173): the hole lies behind fewer bytes of its buffer than the entry has still
to send. -/
def needsLost (e : Ep) (left : Nat) : Option Word := (e.lost.filter (fun p => decide (p.2 < left))).map (·.1)

/-- A flow begins an entry (R152); a sink entry whose data was lost on the ring completes XACT_ERR (R173). -/
def startWork (s : State) (t : Nat) (x : Tq) (e : Ep) (idx : Nat) (en : List Word) (n : Option Nat) : State :=
  let k := (x.chain.map (·.carry)).getD []
  let short := (x.chain.map (·.short)).getD false
  let w := { firstWork s e idx en n k short with tq := t }
  let used := if (eType en == 1 || eType en == 4) && stageIn e en then min k.length (eLen en) else 0
  let s1 := updChain s t (fun c => { c with carry := c.carry.drop used })
  let s2 := if used == 0 then s1 else bufPut s1 x.ep (k.take used)
  let s3 := updEp s2 x.ep (fun e => { e with
    work := some w, halt := if eType en == 2 && eFirst en then false else e.halt })
  if w.fail.isSome && w.op != .drain then failWork s3 x.ep 3 none
  else if eType en == 4 && !stageIn e en && (needsLost e (eLen en)).isSome then
    failWork (updEp s3 x.ep (fun e => { e with lost := none })) x.ep 4 (needsLost e (eLen en))
  else sinkFill (acceptGraph s3 x.ep) x.ep

/-- The answer to whether a peer on another chip is fit has been taken (R171). -/
def askedPeer (s : State) (en : List Word) : State :=
  if eType en == 4 && ePeerPos en != ownPos s && isMember s then freeStep s else s

/-- A good entry at the front of its TQ begins (R149, R150). -/
def takeEntry (s0 : State) (t : Nat) (x : Tq) (e : Ep) (idx : Nat) (en : List Word) : Option State :=
  let fault := entryFault s0 x e en
  let s := askedPeer s0 en
  match fault with
  | some (st, rc) => some (failEntry (openChain s t e en) t x.ep idx en st rc)
  | none =>
    let go (n : Option Nat) : Option State :=
      let s1 := openChain s t e en
      match tqAt s1 t with
      | some y =>
        -- data that an IN packet carries past the entries with room is BABBLE at LAST; an entry without room is passed (R122)
        let past := !((y.chain.map (·.carry)).getD []).isEmpty
        if eType en == 5 || (past && (eType en == 1 || eType en == 4) && eLen en == 0) then
          some (if eLast en then completeAt (setNext s1 t idx (eTag en)) t x.ep idx en (if past then 3 else 0) none
                else advanceCi (setNext s1 t idx (eTag en)) t (idx + 1))
        else some (startWork s1 t y e idx en n)
      | none => none
    if isIsoc e then
      match e.planned with
      | (n, i, st) :: _ =>
        if i != idx then none
        else match st with
          | some (st, rc) => some (failEntry (openChain s t e en) t x.ep idx en st rc)
          | none => go (some n)
      | [] => none
    else go none

/-- A halted flow serves nothing (R157, R194), but for a SETUP that begins a chain of a control endpoint, and the entries of a device that is
gone (R191). -/
def haltHolds (s : State) (x : Tq) (e : Ep) : Bool :=
  e.halt && !(epDev s e).all (·.gone) && !(isCtl e && (match x.cache.find? (fun c => c.idx == x.next) with
    | some ⟨_, some en⟩ => eType en == 2 && eFirst en
    | _ => false))

/-- One entry of a TQ is met: it begins, is skipped, fails, or ends an open chain; none when the TQ waits. -/
def serve1 (s : State) (t : Nat) : Option State :=
  match tqAt s t with
  | none => none
  | some x =>
    match epAt s x.ep with
    | none => none
    | some e =>
      if !mayServe s x e || haltHolds s x e then none
      else match x.cache.find? (fun c => c.idx == x.next) with
        | none => none
        | some ⟨idx, none⟩ =>
          match x.chain with
          | some c =>
            some (updChain (setNext s t idx 0) t (fun k => { k with
              dead := some (match c.dead with | some d => (if d.1 == 0 then (1, none) else d) | none => (8, none)) }))
          | none => some (endAlone (setNext s t idx 0) t idx [0] 8 none)
        | some ⟨idx, some en⟩ =>
          match x.chain with
          | none =>
            if eFirst en then takeEntry s t x e idx en
            else
              let st : BitVec 4 × Option Word := if (epDev s e).all (·.gone) then (9, (epDev s e).bind (·.cause)) else (14, none)
              some (endAlone (setNext s t idx (eTag en)) t idx en st.1 st.2)
          | some c =>
            if eFirst en then
              some (match c.dead with
                | some d => endOpen s t (if d.1 == 0 then 14 else d.1) d.2
                | none => endOpen s t 14 none)
            else match c.dead with
              | none => takeEntry s t x e idx en
              | some d =>
                if d.1 == 0 && isCtl e && eType en == 3 then
                  takeEntry (updChain s t (fun k => { k with dead := none, short := false })) t
                    { x with chain := some { c with dead := none, short := false } } e idx en
                else
                  let d := if d.1 == 0 && (eType en == 1 || eType en == 4) && eLen en != 0 then (1, d.2) else d
                  let s1 := updChain (setNext s t idx (eTag en)) t (fun k => { k with dead := some d })
                  some (if eLast en then completeAt s1 t x.ep idx en d.1 d.2 else s1)

/-- The entries of a TQ are met in their order until one is in service or the TQ waits. -/
def serveN : Nat → State → Nat → State
  | 0, s, _ => s
  | k + 1, s, t => match serve1 s t with | some s' => serveN k s' t | none => s

/-- The TQ of a flow goes on. A window of 16 cached entries needs at most two turns an entry. -/
def serve (s : State) (t : Nat) : State := serveN 40 s t

/-- BP_ACTIVE and the chip's idleness follow the lists (R158, R162, R267). -/
def noteLists (s : State) : State := noteBusy (noteBp s)

/-- The flow of an endpoint goes on, and the list engine refills its window (R113). -/
def goOn (s : State) (c : Nat) : State :=
  match epAt s c with
  | some e => (match e.tq with | some t => noteLists (serve s t) | none => s)
  | none => s

/-- An operation of a flow has ended: a stop of its TQ goes on (R135), and the lists have changed. -/
def flowOn (s : State) (c : Nat) : State := noteLists (stopOn s c)

/-! ### Host access and the conditioner in STAGE and DRAIN (R218, R222, R231 to R234) -/

/-- Host reads under a DMA tag, each rounded outward to beats (R222). -/
def readBeats (s : State) (tag : Word) (o : Owner) (rs : List (Nat × Nat)) : State :=
  each (rs.filter (fun r => r.2 != 0)) s (fun s r =>
    hostReadAs s tag o (BitVec.ofNat 64 (r.1 / 64 * 64)) (ceilDiv (r.1 + r.2) 64 * 64 - r.1 / 64 * 64))

/-- Bytes on the host side for some bytes of the buffer (R231). -/
def hostBytes (ws : List Word) (toHost : Bool) (n : Nat) : Nat :=
  if ws.isEmpty then n else
    let c := cndOf ws
    if toHost then n * fmtSize c.outFmt / fmtSize c.inFmt else n * fmtSize c.inFmt / fmtSize c.outFmt

/-- The ranges of host memory of an operation of n buffer bytes that begins at byte `off` of its entry: one range, or one for each
plane (R233). -/
def hostRanges (ws : List Word) (toHost : Bool) (addr off n : Nat) : List (Nat × Nat) :=
  let c := cndOf ws
  let h := hostBytes ws toHost n
  let o := hostBytes ws toHost off
  if ws.isEmpty || c.layout == 0 then [(addr + o, h)]
  else (List.range c.chans).map (fun k => (addr + k * c.stride + o / c.chans, h / c.chans))

/-- R234 refuses the setting for an operation of n buffer bytes. -/
def opCndBad (ws : List Word) (toHost : Bool) (n : Nat) : Bool :=
  if ws.isEmpty then false
  else
    let c := cndOf ws
    if toHost then cndBad c true n (fmtSize c.inFmt) (fmtSize c.outFmt)
    else cndBad c false n (fmtSize c.outFmt) (fmtSize c.inFmt)

/-- Bytes through the conditioner; none of it for setting 0. -/
def throughCnd (ws : List Word) (d : List Byte) : List Byte × CFlags := if ws.isEmpty then (d, 0) else condition (cndOf ws) d

/-- Bytes stored in ranges of host memory, in their order. -/
def writeRanges (s : State) (o : Owner) : List (Nat × Nat) → List Byte → State
  | [], _ => s
  | r :: rs, d => writeRanges (hostStore s o (BitVec.ofNat 64 r.1) (d.take r.2)) o rs (d.drop r.2)

/-! ### STAGE and DRAIN (R152, R156, R172) -/

/-- The work of a flow put through a function. -/
def updWork (s : State) (c : Nat) (f : Work → Work) : State := updEp s c (fun e => { e with work := e.work.map f })

/-- The peer of a relay is on this chip. -/
def peerHere (s : State) (w : Work) : Bool := ePeerPos w.e == ownPos s

/-- Room for a relay's DRAIN in its peer's buffer (R172). A source that has no report yet counts the whole buffer; its size on
another chip is a value that the spec leaves open (assumption 2). -/
def peerRoom (s : State) (e : Ep) (w : Work) : Nat :=
  if peerHere s w then (match epAt s (ePeerCtx w.e) with | some p => bufRoom p | none => 0)
  else
    let whole := match look s.ctx.far (peerKey w.e) with | some p => p.ep.cls | none => (freeNow s).toNat % 9
    match e.peerFree with
    | some (k, n) => if k == peerKey w.e then n else clsSize whole
    | none => clsSize whole

/-- The bytes of a relay's segment that may move now: as many as the sink's free space takes, whole frames behind the conditioner
(R172, R233). -/
def relayFits (s : State) (e : Ep) (w : Work) (ws : List Word) : Nat :=
  let c := cndOf ws
  min w.seg (if ws.isEmpty then peerRoom s e w
    else peerRoom s e w / (c.chans * fmtSize c.outFmt) * (c.chans * fmtSize c.inFmt))

/-- Bytes that a source has read for its sink leave (R172): into the buffer of a sink on this chip, or in RELAY cells, for which the source counts
the sink's free space down. -/
def relayGive (s : State) (c : Nat) (e : Ep) (w : Work) (d : List Byte) : State :=
  if peerHere s w then sinkFill (bufPut s (ePeerCtx w.e) d) (ePeerCtx w.e)
  else
    let known := match e.peerFree with | some (k, _) => k == peerKey w.e | none => false
    let s1 := updEp (if known then s else freeStep s) c (fun e => { e with peerFree := some (peerKey w.e, peerRoom s e w - d.length) })
    each (groups 64 d) s1 (fun s g =>
      sendCell s (ePeerPos w.e) 8 (if isIsoc e then 1 else 3) 0 (BitVec.ofNat 32 (ePeerCtx w.e)) g)

/-- An operation reads an uncorrectable word of EBM (R214): its entry completes INTERNAL with the reference of the report. -/
def eccFail (s : State) (c a : Nat) : State :=
  let r := eccReport s a
  goOn (failWork r.1 c 0xF (some r.2)) c

/-- A source's DRAIN moves what its sink's free space takes (R172); the rest goes when the sink has sent. Each part is read, and goes through the
conditioner, by itself (DESIGN CHOICE, assumption 118). -/
def relayMove (s : State) (c : Nat) : State :=
  match epAt s c with
  | none => s
  | some e =>
    match e.work with
    | none => s
    | some w =>
      match w.chan with
      | none => s
      | some ch =>
        let n := relayFits s e w w.cnd
        if w.op != .drain || eType w.e != 4 || n == 0 || (chanAt s ch).flow != some c || crf s ch DMA_STATUS_STATE != 1 || orphan s then s
        else match firstBad s (bufRanges e e.head n) with
          | some a => flowOn (eccFail s c a) c
          | none =>
            let (d, f) := throughCnd w.cnd (bufPeek s e n)
            let s1 := updWork (bufDrop (cndFlags s ch f) c n) c (fun w => { w with seg := w.seg - n })
            relayGive s1 c e w d

/-- A sink has freed space of its buffer (R172): the DRAIN of its source on this chip goes on. -/
def sourceOn (s : State) (sink : Nat) (w : Work) : State :=
  match (epAt s (ePeerCtx w.e)).bind (·.work) with
  | some v => if eType v.e == 4 && peerHere s v && ePeerCtx v.e == sink then relayMove s (ePeerCtx w.e) else s
  | none => s

/-- The bytes of a member's DRAIN that lie before the first uncorrectable word (R214): those of the beats before it. -/
def cleanBytes (s : State) (e : Ep) (n : Nat) : Nat :=
  ((List.range n).find? (fun k => !(badWords s (bufAddr e k) 1).isEmpty)).elim n (fun k => k - min k (bufAddr e k % 64))

/-- A STAGE or DRAIN starts on a planner channel (R156), completes its entry BAD_DESC under R234, or waits while its blocks are not in P0 (R14,
R277). The DRAIN of a relay waits until its sink has room for some of it (R172). -/
def startMove (s : State) (c : Nat) (e : Ep) (w : Work) : State :=
  match tqAt s w.tq with
  | none => s
  | some x =>
    let stage := w.op == .stage
    let relay := eType w.e == 4
    let lvl := opLevel s e w.op w.n
    let ws := cndLatch s (eCnd w.e)
    if orphan s || !pageOn s pPln || domClosed s 0x5C then s
    else if stage && relay then sinkFill s c
    else if stage && decide (bufRoom e < w.segLen) then s
    else if !stage && relay && !opCndBad ws true w.seg && relayFits s e w ws == 0 then s
    else
      let n := if stage then w.segLen else w.seg
      let off := if stage then w.moved else w.moved - w.seg
      let sink := if relay && peerHere s w then epAt s (ePeerCtx w.e) else none
      let wait := bankClosed s e (if stage then bufAddr e e.fill else e.head) n
        || (match sink with | some p => bankClosed s p p.buf (clsSize p.cls) | none => false)
      if opCndBad ws (!stage) n then goOn (failWork s c 8 none) c
      else if wait then s
      else
        match takeChan s lvl with
        | none => s
        | some (ch, s1) =>
          let host := (eAddr w.e).toNat
          let rs := if relay then [] else hostRanges ws (!stage) host off n
          let ha := BitVec.ofNat 64 (match rs with | r :: _ => r.1 | [] => 0)
          let ba := BitVec.ofNat 64 (if stage then bufAddr e e.fill else e.head)
          let peer := match sink with | some p => bufAddr p p.fill | none => 0
          let s2 := setChan s1 ch { chanAt s1 ch with flow := some c, cnd := ws, got := [] }
          let s3 := if stage then showOp s2 ch ha ba n lvl (eCnd w.e) false true
            else showOp s2 ch ba (if relay then BitVec.ofNat 64 peer else ha) n lvl (eCnd w.e) true sink.isSome
          let asks (s : State) (e : Ep) (a n : Nat) (write : Bool) : State := bankAsks s (dmaReq ch) lvl true write (bufRanges e a n)
          let s4 := if stage then asks s3 e (bufAddr e e.fill) n true else asks s3 e e.head n false
          let s5 := updWork (match sink with
            | some p => asks s4 p (bufAddr p p.fill) (min n (bufRoom p)) true
            | none => s4) c (fun w => { w with inSvc := true, chan := some ch, cnd := ws, level := lvl })
          let s6 := startBeats s5 ch x.owner (beatAddrs (if stage then rs else bufRanges e e.head n))
          if stage then s6
          else if relay then relayMove s6 c
          else
            let k := cleanBytes s6 e n
            sendData s6 (isIsoc e) (flowTag c) (if k == n then (throughCnd ws (bufPeek s6 e n)).1 else (throughCnd ws (bufPeek s6 e k)).1)

/-- The cells of a flow's DRAIN still wait for credits (R52, R173): a relay's, or the data of a member. -/
def cellsWait (s : State) (c : Nat) (w : Work) : Bool :=
  s.ring.waitQ.any (fun k =>
    if eType w.e == 4 then k.typ == 8 && k.dst.toNat == ePeerPos w.e && k.tag.toNat % 8192 == ePeerCtx w.e && k.len != 0
    else k.typ == 1 && k.tag == flowTag c)

/-- Where an entry stands when an IN segment is in its destination: more to receive, or the end of the entry. -/
def afterDrain (s : State) (c : Nat) : State :=
  match epAt s c with
  | none => s
  | some e =>
    match e.work with
    | none => s
    | some w =>
      match w.fail with
      | some (st, rc) =>
        if st == 0xD && (w.ended || decide (eLen w.e ≤ w.moved)) then goOn (finishWork s c) c else goOn (failWork s c st rc) c
      | none =>
        if w.ended || eLen w.e ≤ w.moved then goOn (finishWork s c) c
        else updWork s c (fun w => { w with op := .issue })

/-- A DRAIN is done (R152): its data is in host memory, or has gone to the peer. -/
def drainEnd (s : State) (c : Nat) (e : Ep) (w : Work) : State :=
  match tqAt s w.tq with
  | none => s
  | some x =>
    let (d, f) := throughCnd w.cnd (bufPeek s e w.seg)
    let s0 := match w.chan with | some ch => endBeats s ch | none => s
    let s1 := match w.chan with | some ch => cndFlags s0 ch f | none => s0
    let s2 := if eType w.e == 4 then s1 else writeRanges s1 x.owner (hostRanges w.cnd true (eAddr w.e).toNat (w.moved - w.seg) w.seg) d
    let s3 := bufDrop (freeOp s2 c w) c w.seg
    afterDrain (updWork s3 c (fun w => { w with inSvc := false, chan := none, seg := 0, packets := 0 })) c

/-- A STAGE is done (R153): the segment is in the buffer, and its packets may be issued. -/
def stageEnd (s : State) (c : Nat) (w : Work) (d : List Byte) : State :=
  let (b, f) := throughCnd w.cnd d
  let s0 := match w.chan with | some ch => endBeats s ch | none => s
  let s1 := match w.chan with | some ch => cndFlags s0 ch f | none => s0
  let s2 := bufPut (freeOp s1 c w) c b
  match w.fail with
  | some (st, rc) => goOn (failWork s2 c st rc) c
  | none => updWork s2 c (fun w => { w with inSvc := false, chan := none, op := .issue, seg := w.segLen })

/-! ### The wire (R155, R160, R192, R357) -/

/-- R357's first moment of a microframe or frame, in byte times of a port of a speed: 0.40 µs, 4.0 µs, 400 ns, a part of a byte time counted as a
whole one (DESIGN CHOICE, assumption 119). -/
def firstToken (speed : Nat) : Nat :=
  match speed with | 0 => 6 | 1 => 6 | 2 => 24 | 3 => 200 | _ => 485

/-- How long a transaction holds the bus (R357), in byte times of the port's frame, full-speed ones at low speed, where each byte takes
eight; `timeout` names R193's, 18 bit times at full and low speed. A SuperSpeed one is counted as R164. A part of a byte time counts as a whole
one (DESIGN CHOICE, assumption 119). -/
def holdTime (speed : Nat) (isoc timeout inS : Bool) (n : Nat) : Nat :=
  let hs := decide (speed = 2)
  let slow := decide (speed = 0)
  let own (k : Nat) : Nat := if slow then 8 * k else k
  if 3 ≤ speed then n + 50
  else if timeout then own ((if inS then 0 else n) + (if hs then 43 else 13)) + (if hs then 102 else if slow then 18 else 3)
  else own (n + (if isoc then (if hs then 35 else 9) else (if hs then 43 else 13)))

/-- The cost C of a flow's next transaction (R164, R192). -/
def nextCost (s : State) (e : Ep) (w : Work) : Nat :=
  let p := epPort s e
  let n := if inTxn e w then e.mps else (nextPacket s e w).length
  if viaTt s e then splitCost (if (stageIn e w.e && w.split == 0) || (!stageIn e w.e && decide (0 < w.split) && !isIsoc e) then 0
    else if isIsoc e then min 188 n else n)
  else match epDev s e with
    | some d => if 3 ≤ speedOf s p then n + 50 else pktCost (min d.speed (speedOf s p)) (isIsoc e) n
    | none => 0

/-- The TT of a device: its hub, and its port when it has several. -/
def ttOf (d : Dev) : Nat × Nat × Nat := (d.port, d.ttHub, if d.multi then d.ttPort else 0)

/-- At most two non-periodic splits are outstanding on one TT (R197). -/
def ttRoom (s : State) (e : Ep) (w : Work) : Bool :=
  match epDev s e with
  | none => false
  | some d =>
    d.ttHub == 0 || decide (0 < w.split) ||
      decide ((s.ctx.eps.filter (fun p => !isPer p.2 && (match epDev s p.2, p.2.work with
        | some g, some v => ttOf g == ttOf d && decide (0 < v.split)
        | _, _ => false))).length < 2)

/-- A flow's ISSUE waits for its port: it has joined its list and its own condition holds (R154). -/
def issueReady (s : State) (c : Nat) (e : Ep) : Bool :=
  match e.work with
  | none => false
  | some w =>
    w.op == .issue && waits s c w && (w.fail.isNone || isIsoc e) &&
      (if isIsoc e then isDue s e w else if isIntr e then isDue s e w && svcRoom s e w else ttRoom s e w)

/-- The port engine that serves a port stands in RUN, its own or its partner (R201). -/
def peState (s : State) (pe : Nat) : Nat := rf s (0x30 + pe / 2) (fsh CLU_PE_STATUS_STATE (pe % 2 * 0x10))
/-- The engine that serves a port, if one does. -/
def peOf (s : State) (p : Nat) : Option Nat :=
  let pe := p / 4
  if prf s p PRT_STATE_COVERED == 1 then (let q := if pe % 2 == 0 then pe + 1 else pe - 1; if peState s q == 1 then some q else none)
  else if peState s pe == 1 then some pe else none
/-- CAP_PCT of the engine that serves a port. -/
def capPct (s : State) (p : Nat) : Nat :=
  match peOf s p with
  | some pe => rf s (0x30 + pe / 2) (fsh CLU_PE_STATUS_CAP_PCT (pe % 2 * 0x10))
  | none => 0

/-- A port may start a transaction: ENABLED with its link up, transactions allowed, its bus free, an engine that serves it, its
cluster powered, and the chip's schedules running (R67, R177, R184, R201). -/
def portRuns (s : State) (p : Nat) : Bool :=
  let x := portAt s p
  runsSchedules s && rb s pPln PLN_STATUS_RUNNING && (!orphan s || s.ring.orphanAt == s.clk.uframe)
    && prf s p PRT_STATE_STATE == 3 && prf s p PRT_STATE_LINK == 1 && x.allowTxn && x.wire.isNone
    && (peOf s p).isSome && !domClosed s (p / 8) && pageOn s (cluPage p) && !domClosed s 0x5C && ebmLit s

/-- The periodic flows that are ready on a port, in the order of R155: cohort members, isochronous, interrupt, each by context. -/
def perReady (s : State) (p : Nat) : List Nat :=
  let on (f : Nat → Ep → Bool) : List Nat :=
    (s.ctx.eps.filter (fun q => epPort s q.2 == p && isPer q.2 && issueReady s q.1 q.2 && f q.1 q.2)).map (·.1)
  let co (c : Nat) : Bool := s.pln.cohortNow.contains c
  on (fun c _ => co c) ++ on (fun c e => !co c && isIsoc e) ++ on (fun _ e => isIntr e)

/-- A flow's next transaction can end within its microframe or frame (R192); under takeover, within the covering engine's share
of it (R201). -/
def fitsNow (s : State) (e : Ep) (t : Nat) : Bool :=
  match e.work with
  | none => false
  | some w =>
    let p := epPort s e
    let cap := capPct s p
    let c := nextCost s e w
    fits (speedOf s p) t c && (cap == 100 || fits (speedOf s p) (t * 100 / max cap 1) (c * 100 / max cap 1))

/-- The order of a round of R160: the control TQs, then the bulk TQs, by chip-local index. -/
def asyncKeys (s : State) (p : Nat) : List (Nat × Nat) :=
  let of (typ : Nat) : List (Nat × Nat) :=
    s.que.tqs.filterMap (fun t => match epAt s t.2.ep with
      | some e => if e.typ == typ && epPort s e == p && issueReady s t.2.ep e then some ((if typ == 0 then 0 else 4096) + t.1, t.2.ep)
          else none
      | none => none)
  of 0 ++ of 2

/-- The transactions that a visit of a TQ may start: WEIGHT × Q (R160, R161). -/
def quota (s : State) (key : Nat) : Nat :=
  let prof := rf s pPln PLN_PROFILE_ACTIVE
  let q := if key < 4096 then 1 else if prof == 0 then 2 else if prof == 2 then 8 else 1
  match tqAt s (key % 4096) with | some x => max x.weight 1 * q | none => q

/-- The TQ whose turn it is on a port, and its flow (R160). -/
def turnOf (s : State) (p : Nat) : Option (Nat × Nat) :=
  let ks := asyncKeys s p
  let x := portAt s p
  match ks.find? (fun k => k.1 == x.rndKey) with
  | some k =>
    if !x.rndEnd && decide (x.rndCnt < quota s x.rndKey) then some k
    else match ks.find? (fun k => decide (x.rndKey < k.1)) with | some k => some k | none => ks.head?
  | none => match ks.find? (fun k => decide (x.rndKey < k.1)) with | some k => some k | none => ks.head?

/-- A reservation as admission sees it: the endpoint, its bytes per service and its phase. -/
structure Want where
  e : Ep
  bytes : Nat
  phase : Nat
deriving DecidableEq, Repr

/-- Bytes of split k of a service of N bytes (R196). -/
def splitBytes (n k : Nat) : Nat := min 188 (n - 188 * k)

/-- The kind of service that R164 charges on a root port: high speed behind a TT, else the device's speed, and on SuperSpeed the rate
of the port's link while it has one. -/
def portKind (s : State) (e : Ep) : Nat :=
  let own := match epDev s e with | some d => d.speed | none => 2
  let sp := speedOf s (epPort s e)
  if viaTt s e then 2 else if own ≤ 2 then own else if sp == 3 || sp == 4 then sp else own

/-- The charges of a service to its root port, by the microframe after its service microframe (R164, R196). -/
def portCharges (s : State) (w : Want) : List (Nat × Nat) :=
  if viaTt s w.e then
    if isIsoc w.e then
      (List.range (ceilDiv w.bytes 188)).map (fun k => ((if w.e.dirIn then 2 + k else k), splitCost (splitBytes w.bytes k)))
    else [(if w.e.dirIn then 2 else 0, splitCost w.bytes)]
  else [(0, svcCost (portKind s w.e) (isIsoc w.e) w.bytes (max w.e.mps 1))]

/-- What a want charges to its root port in a microframe. -/
def portChargeAt (s : State) (w : Want) (n : Nat) : Nat :=
  (portCharges s w).foldl (fun m p => if serves w.e.log2i w.phase (n + 2 ^ w.e.log2i * p.1 - p.1) then m + p.2 else m) 0

/-- The admitted periodic cost of a port in a microframe, or in the frame that holds it (R164). -/
def admittedOn (s : State) (p n : Nat) : Nat :=
  let n := if frames s p then n / 8 * 8 else n
  s.ctx.eps.foldl (fun m q => match q.2.rsv with
    | some r => if epPort s q.2 == p then m + portChargeAt s ⟨q.2, r.bytes, r.phase⟩ n else m
    | none => m) 0

/-- The profile's asynchronous cap lets a flow's transaction start (R160, R161): in ISO-FIRST, 60 % of the microframe, and no
admitted periodic time. On a full- or low-speed port the microframe of the cap is the frame of 1 ms that its transactions are placed in (DESIGN
CHOICE, assumption 120). -/
def asyncCap (s : State) (p : Nat) (c : Nat) : Bool :=
  if rf s pPln PLN_PROFILE_ACTIVE != 1 then true
  else
    let whole := match speedOf s p with | 0 => 1500 | 1 => 1500 | 2 => 7500 | 3 => 62500 | _ => 151515
    let used := (portAt s p).usedAsync
    decide ((used + c) * 100 ≤ 60 * whole) && decide (used + c + admittedOn s p s.clk.uframe.toNat ≤ whole)

/-- The flow that a port starts next at a time, if any (R155, R160, R192). Periodic work goes first, on a covering engine on all
of its ports (R201). -/
def portNext (s : State) (p t : Nat) : Option Nat :=
  let can (c : Nat) : Bool := match epAt s c with | some e => fitsNow s e t | none => false
  if !portRuns s p || t < max (portAt s p).lastT (firstToken (speedOf s p)) then none
  else match (perReady s p).find? can with
    | some c => some c
    | none =>
      let other := (List.range 8).any (fun k => let q := p / 8 * 8 + k
        q != p && peOf s q == peOf s p && capPct s p != 100 && portRuns s q && !(perReady s q).isEmpty)
      if other then none
      else match turnOf s p with
        | some (_, c) =>
          (match epAt s c with
           | some e => (match e.work with
              | some w => if can c && asyncCap s p (nextCost s e w) then some c else none
              | none => none)
           | none => none)
        | none => none

/-- RCT at a time of the microframe or frame of a port, from byte times of its speed. -/
def rctAt (s : State) (p t : Nat) : Word :=
  let r := (rct s).toNat
  BitVec.ofNat 32 (match speedOf s p with
    | 0 => r / 1000000 * 1000000 + t * 1000000 / 1500
    | 1 => r / 1000000 * 1000000 + t * 1000000 / 1500
    | 2 => r / 125000 * 125000 + t * 125000 / 7500
    | 3 => r / 125000 * 125000 + t * 125000 / 62500
    | _ => r / 125000 * 125000 + t * 125000 / 151515)

/-- A low-speed device behind a full-speed hub on a full-speed root port is reached with a PRE packet (R195). -/
def preNeeded (s : State) (e : Ep) : Bool :=
  match epDev s e with | some d => d.speed == 0 && d.route != 0 && speedOf s d.port == 1 | none => false

/-- The split that a flow's next transaction is, with the tag of an isochronous OUT's data (R196, R197). -/
def splitTag (s : State) (e : Ep) (w : Work) : SplitTag :=
  if !viaTt s e then .none
  else if isIsoc e && !e.dirIn then
    (if w.split == 0 then (if w.seg ≤ 188 then .all else .begin) else if w.seg ≤ 188 then .last else .mid)
  else if w.split == 0 then .start else .complete

/-- A flow's next transaction as it leaves on a port. -/
def txnOut (s : State) (p c : Nat) (e : Ep) (w : Work) : Out := .txn p c (preNeeded s e) (splitTag s e w) (nextPacket s e w)

/-- The requester of a cluster's accesses for an endpoint (R237 to R239): the isochronous class has its own. -/
def cluReq (s : State) (e : Ep) : Nat := (if isIsoc e then 128 else 64) + epPort s e / 8

/-- The ISSUE of an OUT packet reads its bytes from the buffer (R214, R238): one that meets an uncorrectable word is ended with a bit-stuff
error, so that the device discards it. -/
def issueRead (s : State) (p : Nat) (e : Ep) (w : Work) : State :=
  let n := if eType w.e == 1 || eType w.e == 4 then (nextPacket s e w).length else 0
  let rs := bufRanges e e.head n
  let s1 := bankAsks s (cluReq s e) 2 false false rs
  match firstBad s1 rs with
  | some a => emit (eccLog s1 a true) (.port p "bit-stuff error")
  | none => s1

/-- The COLLECT of an IN packet writes its bytes to the buffer (R238). -/
def collectPut (s : State) (c : Nat) (e : Ep) (d : List Byte) : State :=
  bufPut (bankAsks s (cluReq s e) 2 false true (bufRanges e (bufAddr e e.fill) d.length)) c d

/-- A transaction starts on a port (R155): the packet leaves, the bus is held, the first token of a chain is timed (R117), and the
visit of an asynchronous TQ counts it (R160). -/
def startTxn (s : State) (p t c : Nat) : State :=
  match epAt s c with
  | none => s
  | some e =>
    match e.work with
    | none => s
    | some w =>
      let x := portAt s p
      let cost := nextCost s e w
      let x1 := if isPer e then x else
          let key := match turnOf s p with | some k => k.1 | none => x.rndKey
          let same := key == x.rndKey && !x.rndEnd && decide (x.rndCnt < quota s key)
          { x with rndKey := key, rndCnt := if same then x.rndCnt + 1 else 1, rndEnd := false, usedAsync := x.usedAsync + cost }
      let s1 := setPort s p { x1 with wire := some ⟨c, t⟩ }
      let s2 := updChain s1 w.tq (fun k => { k with ts := if k.tsOn && k.ts.isNone then some (rctAt s p t) else k.ts })
      issueRead (emit (updWork s2 c (fun w => { w with inSvc := true })) (txnOut s p c e w)) p e w

/-! ### The end of a transaction (R122, R157, R193 to R197) -/

/-- A fault report on an endpoint whose chain fails after its retries (R193, R196). -/
def xactErr (s : State) (c : Nat) : State × Word := reportRef s (epLoc s c) 0x20

/-- The data toggle or sequence number of a flow steps on, and its device has answered (R191, R193). -/
def stepToggle (s : State) (c : Nat) : State :=
  match epAt s c with
  | some e =>
    let s1 := setEp s c { e with toggle := if isIsoc e then e.toggle else nextToggle s e, splitFails := 0 }
    (match epDev s e with | some d => setDev s1 e.dev { d with fails := 0 } | none => s1)
  | none => s

/-- A flow's entry fails, after the data that its buffer still holds for it has been drained (R123, R248). -/
def failLater (s : State) (c : Nat) (st : BitVec 4) (rc : Option Word) : State :=
  match epAt s c with
  | none => s
  | some e =>
    match e.work with
    | none => s
    | some w =>
      if stageIn e w.e && decide (0 < w.seg) && (eType w.e == 1 || eType w.e == 4) then
        updWork s c (fun w => { w with fail := some (st, rc), op := .drain, level := opLevel s e .drain w.n })
      else goOn (failWork s c st rc) c

/-- A transaction has ended whose entry was to end with it (R248, R361): the entry fails, its IN data drained first. -/
def endHeld (s : State) (c : Nat) : State :=
  match epAt s c with
  | none => s
  | some e =>
    match e.work with
    | none => s
    | some w =>
      match w.fail with
      | some (st, rc) => if w.op != .drain && !w.inSvc && !isIsoc e then failLater s c st rc else s
      | none => s

/-- Freed space of a sink's buffer lets a source on this chip go on, and is reported to one on another chip in beats (R172), in the class of the
sink's own type; the bytes short of a whole beat go into the next report (DESIGN CHOICE, assumption 83). -/
def roomReport (s : State) (c : Nat) (w : Work) (n : Nat) : State :=
  if eType w.e == 4 && !peerHere s w && decide (0 < n) then
    match epAt s c with
    | some e =>
      let k := e.unreported + n
      sendCell (setEp s c { e with unreported := k % 64 }) (ePeerPos w.e) 8 (if isIsoc e then 1 else 3) 0
        (BitVec.ofNat 32 (ePeerCtx w.e + k / 64 * 2 ^ 16)) []
    | none => s
  else if eType w.e == 4 && decide (0 < n) then sourceOn s c w
  else s

/-- An OUT packet has been sent (and acknowledged, where it gets a handshake): its bytes leave the buffer (R152, R172). -/
def outSent (s : State) (c : Nat) (e : Ep) (w : Work) : State :=
  let n := (nextPacket s e w).length
  let s1 := bufDrop s c n
  let moved := w.moved + n
  let total := (match tqAt s w.tq with | some x => (x.chain.map (·.bytes)).getD 0 | none => 0) + moved
  let owes := eZlp w.e && eLast w.e && !w.zlp && decide (0 < total) && total % max e.mps 1 == 0 && eType w.e != 2
  let s2 := updWork s1 c (fun w => { w with
    moved := moved, seg := w.seg - n, budget := w.budget - n, packets := w.packets + 1, retries := 0, split := 0 })
  let s3 := if w.seg - n != 0 then s2
    else if moved < eLen w.e then
      sinkFill (updWork s2 c (fun v => { v with
        op := .stage, level := opLevel s e .stage w.n, inSvc := false
        segLen := segOf e (clsSize e.cls - (e.fill - n)) (eLen w.e - moved) })) c
    else if owes then updWork s2 c (fun w => { w with zlp := true })
    else goOn (finishWork s2 c) c
  roomReport s3 c w n

/-- An IN packet has arrived (R122): its bytes fill the entry, go over into the next one, or are BABBLE or OVERRUN past the end. -/
def inArrived (s : State) (c : Nat) (e : Ep) (w : Work) (d : List Byte) : State :=
  let room := eLen w.e - w.moved
  let take := d.take room
  let rest := d.drop room
  let short := decide (d.length < e.mps)
  let s1 := collectPut s c e take
  let past := !rest.isEmpty && (eLast w.e || isIsoc e)
  let s2 := if rest.isEmpty || past then s1 else updChain s1 w.tq (fun k => { k with carry := rest, short := short })
  let moved := w.moved + take.length
  let packets := w.packets + 1
  let ended := (short && rest.isEmpty) || (isIsoc e && (short || svcPackets e (w.n.getD 0) ≤ packets))
  let full := isIsoc e && ended || !isIsoc e && (ended || eLen w.e ≤ moved)
  let segDone := full || (!isIsoc e && decide (bufRoom e < take.length + e.mps))
  let fail : Option (BitVec 4 × Option Word) := match w.fail with
    | some f => some f
    | none => if past then (if isIsoc e then some (6, none) else some (3, none)) else none
  let s3 := updWork s2 c (fun w => { w with
    moved := moved, seg := w.seg + take.length, packets := packets, retries := 0, split := 0, ended := w.ended || ended
    budget := w.budget - d.length, fail := fail })
  let drain := segDone || (past && !isIsoc e)
  if !drain then s3
  else if w.seg + take.length == 0 then afterDrain s3 c
  else updWork s3 c (fun w => { w with op := .drain, level := opLevel s e .drain w.n })

/-- A visit ends: the device answers NAK or NYET, or a split waits for the next round (R160, R197). -/
def endVisit (s : State) (p : Nat) (e : Ep) : State :=
  if isPer e then s else setPort s p { portAt s p with rndEnd := true }

/-- A visit ends when its TQ has no further transaction ready (R160). -/
def closeVisit (s : State) (p c : Nat) : State :=
  match epAt s c with | some e => if issueReady s c e then s else endVisit s p e | none => s

/-- A service of interrupt work ends (R150). -/
def endService (s : State) (c : Nat) : State := updWork s c (fun w => { w with budget := 0, split := 0 })

/-- A chain that completes XACT_ERR counts toward the loss of its device (R191): one more in a row through timeouts, or none; the kind of the
last failed attempt decides (DESIGN CHOICE, assumption 85). Whether the device has now lost two in a row is answered. -/
def countTimeout (s : State) (e : Ep) (timeout : Bool) : State × Bool :=
  match epDev s e with
  | some d =>
    let n := if timeout then d.fails + 1 else 0
    (setDev s e.dev { d with fails := n }, decide (2 ≤ n))
  | none => (s, false)

/-- A chain fails XACT_ERR with the reference of its report (R193), and counts toward the loss of its device. -/
def retriesGone (s : State) (c : Nat) (timeout : Bool) : State × Bool :=
  match epAt s c with
  | none => (s, false)
  | some e =>
    let pr := xactErr s c
    let s1 := pr.1
    let r := pr.2
    let pr2 := countTimeout s1 e timeout
    let s2 := pr2.1
    let lost := pr2.2
    (failLater s2 c 4 (some r), lost)

/-- A periodic service behind a TT fails (R196): an isochronous one XACT_ERR, an interrupt entry after three in a row. -/
def splitFail (s : State) (c : Nat) (e : Ep) (timeout : Bool) : State × Bool :=
  if isIsoc e then retriesGone s c timeout
  else if 2 ≤ e.splitFails then retriesGone (updEp s c (fun e => { e with splitFails := 0 })) c timeout
  else (endService (updEp s c (fun e => { e with splitFails := e.splitFails + 1 })) c, false)

/-- What an isochronous service that cannot end within its microframe completes with (R155, R161, R193): XACT_ERR with the reference of its report
when a packet of it has failed, UNDERRUN when its data came late, MISSED otherwise. -/
def lateEnd (w : Work) : BitVec 4 × Option Word :=
  match w.fail with
  | some f => f
  | none => (if w.late then 7 else 5, none)

/-- The last complete-split of a periodic service in a microframe (R196). -/
def lastSplit (e : Ep) (n : Nat) : Nat := if isIsoc e then min (1 + ceilDiv (svcBytes e n) 188) 6 else 3

/-- A handshake or data packet ends a transaction that is no split, or a split's last part. -/
def txnDone (s : State) (p c : Nat) (e : Ep) (w : Work) (r : Reply) : State :=
  let ty := eType w.e
  let inS := stageIn e w.e
  let okSetup (s : State) : State :=
    goOn (finishWork (updChain (updEp (stepToggle s c) c (fun e => { e with toggle := 1 })) w.tq
      (fun k => { k with setup := eSetup w.e })) c) c
  match r with
  | .ack =>
    if ty == 2 then okSetup s
    else if ty == 3 then (if inS then s else goOn (finishWork (stepToggle s c) c) c)
    else if inS then s else outSent (stepToggle s c) c e w
  | .nyet => if ty == 1 || ty == 4 then (if inS then s else endVisit (outSent (stepToggle s c) c e w) p e)
             else if ty == 3 && !inS then endVisit (goOn (finishWork (stepToggle s c) c) c) p e else endVisit s p e
  | .nak =>
    let s1 := updWork (updEp s c (fun e => { e with splitFails := 0 })) c (fun w => { w with split := 0, retries := 0 })
    if isIntr e then endService s1 c else endVisit s1 p e
  | .stall => failLater s c 2 none
  | .sent => if isIsoc e && !inS then outSent s c e w else s
  | .data d =>
    if !inS || ty == 2 then s
    else if ty == 3 then (if d.isEmpty then goOn (finishWork (stepToggle s c) c) c else failLater s c 3 none)
    -- an interrupt service moves at most its reserved bytes (R150; DESIGN CHOICE, assumption 84)
    else if e.mps < d.length || (isIntr e && decide (w.budget < d.length)) then failLater s c 3 none
    else inArrived (stepToggle s c) c e w d
  | .babble _ => failLater s c 3 none
  | .splitErr => s

/-- The part of a split that has ended (R196, R197). -/
def splitPart (s : State) (p c : Nat) (e : Ep) (w : Work) (r : Reply) : State :=
  let inS := stageIn e w.e
  let last := lastSplit e (w.n.getD 0)
  let next (s : State) : State := updWork s c (fun w => { w with split := w.split + 1, retries := 0 })
  if isIsoc e && !inS then
    -- start-splits alone carry the data
    let n := (nextPacket s e w).length
    let left := w.seg - n
    if r == .sent then
      let s1 := updWork (bufDrop s c n) c (fun w => { w with
        moved := w.moved + n, seg := left, split := w.split + 1, retries := 0 })
      roomReport (if left == 0 then goOn (finishWork s1 c) c else s1) c w n
    else s
  else if isPer e then
    if w.split == 0 then (if r == .sent then next s else s)
    else match r with
      | .nyet => if last ≤ w.split then (splitFail s c e false).1 else next s
      | .splitErr => (splitFail s c e false).1
      | .data d =>
        if isIsoc e && decide (d.length = 188) && decide (w.split < last) then
          let take := d.take (eLen w.e - w.moved)
          next (updWork (collectPut s c e take) c (fun w => { w with moved := w.moved + take.length, seg := w.seg + take.length }))
        else txnDone s p c e w r
      | _ => txnDone s p c e w r
  else
    if w.split == 0 then
      match r with
      | .ack => endVisit (next s) p e
      | .sent => endVisit (next s) p e
      | .nak => endVisit (updWork s c (fun w => { w with retries := 0 })) p e
      | _ => s
    else match r with
      | .nyet => endVisit (updWork s c (fun w => { w with retries := 0 })) p e
      | _ => txnDone s p c e w r

/-- A packet of an isochronous service fails (R193): the service goes on to its end and completes XACT_ERR, with one report for all its failed
packets. -/
def isocErr (s : State) (c : Nat) (e : Ep) (k : Work) (timeout : Bool) : State × Bool :=
  let first := !(match k.fail with | some (st, _) => st == 4 | none => false)
  let pr := if first then xactErr s c else (s, 0)
  let s1 := pr.1
  let r := pr.2
  let pr2 := if first then countTimeout s1 e timeout else (s1, false)
  let s2 := pr2.1
  let lost := pr2.2
  let f : Option (BitVec 4 × Option Word) := if first then some (4, some r) else k.fail
  let s3 := updWork s2 c (fun w => { w with fail := f, packets := w.packets + 1 })
  if !stageIn e k.e then (goOn (failWork s3 c 4 (f.bind (·.2))) c, lost)
  else if svcPackets e (k.n.getD 0) ≤ k.packets + 1 then
    (if k.seg == 0 then afterDrain s3 c else updWork s3 c (fun w => { w with op := .drain, level := 3 }), lost)
  else (s3, lost)

/-- A transaction on a port's wire times out or errs (R193): it is retried at once if it fits, else at the next chance; after the
third retry its chain fails. A device that loses two chains in a row through timeouts is answered. -/
def txnErr (s : State) (p : Nat) (timeout : Bool) (t : Nat) : State × Option Nat :=
  match (portAt s p).wire with
  | none => (s, none)
  | some w =>
    match epAt s w.ctx with
    | none => (setPort s p { portAt s p with wire := none }, none)
    | some e =>
      match e.work with
      | none => (setPort s p { portAt s p with wire := none }, none)
      | some k =>
        let c := w.ctx
        let hold := holdTime (speedOf s p) (isIsoc e) timeout (inTxn e k) (nextPacket s e k).length
        let free := max t (w.start + hold)
        let s1 := setPort s p { portAt s p with wire := none, lastT := free }
        let s2 := updWork s1 c (fun w => { w with inSvc := false })
        let ends (pr : State × Bool) : State × Option Nat := (pr.1, if pr.2 then some e.dev else none)
        if viaTt s e && isPer e then ends (splitFail s2 c e timeout)
        else if isIsoc e then ends (isocErr s2 c e k timeout)
        else if 3 ≤ k.retries then ends (retriesGone s2 c timeout)
        else
          let s3 := updWork (incF s2 (cluPage p) (pfld p PRT_COUNTS_RETRIES)) c (fun w => { w with retries := w.retries + 1 })
          match epAt s3 c with
            | some e3 =>
              if fitsNow s3 e3 free && portRuns s3 p then
                (issueRead (emit (updWork (setPort s3 p { portAt s3 p with wire := some ⟨c, free⟩ }) c (fun w => { w with inSvc := true }))
                  (txnOut s p c e k)) p e k, none)
              else (endVisit (if isIntr e then endService s3 c else s3) p e, none)
            | none => (s3, none)

/-! ### Loss of a device (R187, R191, R202) -/

/-- The entry in service of a flow ends with a status: at once, or when the DMA operation in service has ended. -/
def cutWork (s : State) (c : Nat) (st : BitVec 4) (rc : Option Word) : State :=
  match epAt s c with
  | none => s
  | some e =>
    match e.work with
    | none => s
    | some w =>
      if w.inSvc && w.op != .issue then updWork s c (fun w => { w with fail := some (st, rc) }) else failWork s c st rc

/-- The entry in service of a flow ends XACT_ERR or BABBLE of its own when its data has been drained (R193, R194). -/
def keepsFail (s : State) (c : Nat) : Bool :=
  match (epAt s c).bind (·.work) with
  | some w => (match w.fail with | some (st, _) => st == 3 || st == 4 | none => false)
  | none => false

/-- A device context becomes GONE with a root cause (R191): entries in service and completions not yet posted are DEV_GONE, but for
chains that ended XACT_ERR or BABBLE of their own (R187, R193, R194). -/
def goneDev (s : State) (h : Nat) (ref : Option Word) : State :=
  match devAt s h with
  | none => s
  | some d =>
    if d.gone then s
    else
      let s1 := setDev s h { d with gone := true, cause := ref }
      let cs := (s1.ctx.eps.filter (fun p => p.2.dev == h)).map (·.1)
      each cs s1 (fun s c =>
        let s1 := if keepsFail s c then s else cutWork s c 9 ref
        let s2 := match epAt s1 c with
          | some e => (match e.tq with
              | some t => updTq s1 t (fun x => { x with posts := x.posts.map (fun p =>
                  if p.status == 3 || p.status == 4 then p else { p with status := 9, rc := ref }) })
              | none => s1)
          | none => s1
        goOn s2 c)

/-- Devices become GONE, each with a reference. -/
def goneDevs (s : State) (hs : List Nat) (ref : Option Word) : State := each hs s (fun s h => goneDev s h ref)

/-- The device contexts beneath one (R191). -/
def beneath (s : State) (h : Nat) : List Nat :=
  match devAt s h with
  | none => []
  | some d => (s.ctx.devs.filter (fun p => p.2.port == d.port && routeExtends p.2.route d.route && p.1 != h)).map (·.1)

/-- A device is lost through timeouts (R191): DEVICE_GONE, or HUB_GONE with the contexts beneath it, each counted under the
record of its ancestor (R290). -/
def loseDev (s : State) (h : Nat) : State :=
  let bs := (beneath s h).filter (fun b => (devAt s b).any (fun d => !d.gone))
  let pr := reportRef s (devLoc s h) (if (beneath s h).isEmpty then 0x10 else 0x11)
  let s1 := pr.1
  let r := pr.2
  each bs (goneDev s1 h (some r)) (fun s b =>
    let pr2 := reportRef s (devLoc s b) (if (beneath s b).isEmpty then 0x10 else 0x11)
    let s2 := pr2.1
    let r2 := pr2.2
    goneDev s2 b (some r2))

/-- The transaction on a port's wire is cut: its entry completes XACT_ERR (R187, R202). -/
def cutWire (s : State) (p : Nat) (ref : Option Word) : State :=
  match (portAt s p).wire with
  | none => s
  | some w =>
    let s1 := setPort s p { portAt s p with wire := none }
    flowOn (goOn (failWork s1 w.ctx 4 ref) w.ctx) w.ctx

end Sys2Proof.Machine
end

