-- ==== Sys2Proof/Machine/PortOps.lean ====
section
/-!
DEFINITION. Operations on root ports: their states and LINK (R176 to R178, R358), signal-VBUS (R183, R334), connect, reset and
resume (R184 to R187, R198 to R202), and the port engines' takeover (R201).
-/
namespace Sys2Proof.Machine

/-! ### States -/

/-- STATE of a port. -/
def portState (s : State) (p : Nat) : Nat := prf s p PRT_STATE_STATE

/-- The port is on its SuperSpeed path (R358): ports 0 to 63 until SuperSpeed training has failed. -/
def ssPath (s : State) (p : Nat) : Bool := decide (p < 64) && (portAt s p).ss != .failed

/-- LINK in a state (R358). -/
def linkIn (s : State) (p st : Nat) : Nat :=
  match st with
  | 1 => if ssPath s p then (if (portAt s p).ss == .training then 6 else 7) else 0
  | 2 => if prf s p PRT_STATE_TEST == 1 then 8 else 0
  | 3 => 1
  | 4 => 5
  | 5 => if ssPath s p then 6 else 0
  | 6 => 5
  | _ => 0

/-- LINK follows the state. -/
def noteLink (s : State) (p : Nat) : State := pwf s p PRT_STATE_LINK (linkIn s p (portState s p))

/-- A port takes a state (R177): LINK follows, STATE_CHG is set, and the votes of its cluster follow. -/
def takeState (s : State) (p st : Nat) : State :=
  let s1 := if st == 1 then setPort s p { portAt s p with ss := if p < 64 then .detect else .off } else s
  portVotes (evt (noteLink (pwf s1 p PRT_STATE_STATE st) p) (cluPage p) (8 + p % 8)) p

/-- A port takes a state; one that reaches ENABLED while the chip is in HOLD is suspended at once (R178). -/
def setPortState (s : State) (p st : Nat) : State :=
  let s1 := takeState s p st
  if st == 3 && mode s == 0 then takeState (emit s1 (.port p "suspend")) p 4 else s1

/-- CONNECTED changes, with CONNECT_CHG. -/
def setConnected (s : State) (p : Nat) (b : Bool) : State :=
  if (prf s p PRT_STATE_CONNECTED == 1) == b then s
  else evt (pwf s p PRT_STATE_CONNECTED (b2n b)) (cluPage p) (p % 8)

/-- Every device context on a port becomes GONE (R191). -/
def gonePort (s : State) (p : Nat) (ref : Option Word) : State := goneDevs s (devsOn s p) ref

/-- The port's wire, reset and resume are over. -/
def quietPort (s : State) (p : Nat) : State :=
  setPort s p { portAt s p with
    wire := none, reset := none, resetWaits := none, suspendWaits := false, resumeByDev := false, allowTxn := false,
    l1Exit := false, debouncing := false, stable := false }

/-! ### Signal-VBUS (R183, R334) -/

/-- Ports that charge. -/
def charging (s : State) : List Nat := (s.prt.tab.filter (fun p => p.2.charging)).map (·.1)

/-- A port starts to charge. -/
def startCharge (s : State) (p : Nat) : State :=
  emit (setPort s p { portAt s p with charging := true }) (.port p "vbus on")

/-- The port that has waited longest starts to charge when fewer than 16 do (R334). -/
def nextCharge (s : State) : State :=
  match s.prt.waiting with
  | [] => s
  | p :: rest => if (charging s).length < 16 then startCharge { s with prt := { s.prt with waiting := rest } } p else s

/-- POWER_ON (R179): OVERCURRENT clears, and the port charges or waits for its turn. -/
def powerOn (s : State) (p : Nat) : State :=
  let s1 := pwf s p PRT_STATE_OVERCURRENT 0
  if (portAt s1 p).charging || s1.prt.waiting.contains p then s1
  else if (charging s1).length < 16 then startCharge s1 p
  else { s1 with prt := { s1.prt with waiting := s1.prt.waiting ++ [p] } }

/-- A port turns OFF (R177): its devices are GONE with the root cause, if there is one, and its turn to charge passes on. -/
def portOff (s : State) (p : Nat) (ref : Option Word) : State :=
  let s0 := { s with prt := { s.prt with waiting := s.prt.waiting.filter (· != p) } }
  let was := portState s0 p
  let s1 := setPort s0 p { portAt s0 p with wire := none }
  let s2 := gonePort s1 p ref
  let s3 := setConnected (pwf (pwf (setPort s2 p { Port.init with termDev := (portAt s2 p).termDev }) p PRT_STATE_TEST 0) p PRT_STATE_SPEED 7) p false
  let s4 := emit (if was == 0 then noteLink s3 p else takeState s3 p 0) (.port p "vbus off")
  nextCharge s4

/-- A signal-VBUS fault (R183, R266): the cluster's detector votes, and the port is OFF with OVERCURRENT in PRT_STATE and in ERR_STATUS and
the PORT_OVERCURRENT report. The report lines of a cluster in P2 are clamped to 0 (R278): its port turns OFF without either (assumption 122). -/
def vbusDown (s : State) (p : Nat) : State :=
  let s0 := detect s p
  if (domAt s (p / 8)).pstate == 2 then pwf (portOff s0 p none) p PRT_STATE_OVERCURRENT 1
  else
    let s1 := errBit s0 (cluPage p) 0
    let pr := reportRef s1 (portLoc s1 p) 0x02
    let s2 := pr.1
    let r := pr.2
    pwf (portOff s2 p (some r)) p PRT_STATE_OVERCURRENT 1

/-! ### Connect and reset -/

/-- The port enters DISABLED with CONNECTED (R184): the connect has been stable for 100 ms on the USB 2.0 path. -/
def connectUsb2 (s : State) (p : Nat) : State :=
  let sp := match (portAt s p).line with | .dMinus => 0 | _ => 1
  setConnected (takeState (pwf s p PRT_STATE_SPEED sp) p 2) p true

/-- LINK_FAIL (R177): DISABLED, the bit, the PORT_LINK_FAIL report, and the devices GONE. -/
def linkFail (s : State) (p : Nat) : State :=
  let s1 := errBit (quietPort s p) (cluPage p) 5
  let pr := reportRef s1 (portLoc s1 p) 0x03
  let s2 := pr.1
  let r := pr.2
  takeState (gonePort s2 p (some r)) p 2

/-- A bus reset starts (R184, R185, R191): the transaction on the wire is cut, device contexts behind hubs are GONE, and the device
at the root has address 0 and every toggle 0. -/
def startReset (s : State) (p : Nat) (warm : Bool) : State :=
  let s1 := cutWire s p none
  let far := (devsOn s1 p).filter (fun h => (devAt s1 h).any (fun d => d.route != 0))
  let root := (devsOn s1 p).filter (fun h => (devAt s1 h).any (fun d => d.route == 0))
  let s2 := goneDevs s1 far none
  let s3 := each root s2 (fun s h => match devAt s h with | some d => setDev s h { d with addr := 0 } | none => s)
  let s4 := { s3 with ctx := { s3.ctx with eps := s3.ctx.eps.map (fun e =>
    if root.contains e.2.dev then (e.1, { e.2 with toggle := 0 }) else e) } }
  let ss := ssPath s4 p && (portAt s4 p).ss != .off
  let k : ResetKind := if ss then (if warm then .warm else .hot) else .usb2 false false
  let s5 := setPort s4 p { portAt s4 p with reset := some k, resetWaits := none, allowTxn := false, l1Exit := false }
  emit (takeState s5 p 5) (.port p (if ss then (if warm then "warm reset" else "hot reset") else "reset"))

/-- A port is suspended (R199): SOF stops; a transaction on the wire ends first (R202); an exit from U1 or U2 gives way to U3. -/
def suspendPort (s : State) (p : Nat) : State :=
  if (portAt s p).wire.isSome then setPort s p { portAt s p with suspendWaits := true }
  else
    let x := portAt s p
    let x1 := { x with suspendWaits := false, allowTxn := false, l1Exit := false, ss := if x.ss == .exiting then .up else x.ss }
    emit (takeState (setPort s p x1) p 4) (.port p "suspend")

/-- Resume signalling starts (R199). -/
def startResume (s : State) (p : Nat) (byDev : Bool) : State :=
  emit (takeState (setPort s p { portAt s p with resumeByDev := byDev }) p 6) (.port p "resume")

/-- The WAKE event of a port (R199). -/
def wakeEvt (s : State) (p : Nat) : State := if (portAt s p).resumeByDev then evt s (cluPage p) (16 + p % 8) else s

/-- A reset that came while the port was RESUMING starts when the resume has completed (R202); in HOLD, where the port is suspended at once
(R178), none starts. -/
def resetAfter (s : State) (p : Nat) : State :=
  match (portAt s p).resetWaits with
  | some w => if portState s p == 3 then startReset s p (bit w 0) else setPort s p { portAt s p with resetWaits := none }
  | none => s

/-- A disconnect (R187): POWERED, CONNECT_CHG, the transaction on the wire XACT_ERR, the devices GONE, one report for the port. -/
def doDisconnect (s : State) (p : Nat) : State :=
  let pr := reportRef s (portLoc s p) 0x01
  let s1 := pr.1
  let r := pr.2
  let s2 := quietPort (gonePort (cutWire s1 p (some r)) p (some r)) p
  let s3 := incF (setPort s2 p { portAt s2 p with line := .se0 }) (cluPage p) (pfld p PRT_COUNTS_DISCONNECTS)
  setConnected (takeState (pwf s3 p PRT_STATE_SPEED 7) p 1) p false

/-- A port becomes DISABLED from ENABLED (R177, R191): its devices are GONE. -/
def disablePort (s : State) (p : Nat) (ref : Option Word) : State :=
  takeState (quietPort (gonePort (cutWire s p ref) p ref) p) p 2

/-- Babble past the end-of-frame point disables the port (R194): BABBLE_PORT and its report. -/
def babblePort (s : State) (p : Nat) : State :=
  let s1 := errBit s (cluPage p) 1
  let pr := reportRef s1 (portLoc s1 p) 0x04
  let s2 := pr.1
  let r := pr.2
  disablePort s2 p (some r)

/-! ### Detectors of a dark cluster (R202) -/

/-- The cluster of a port is out of P0. -/
def portDark (s : State) (p : Nat) : Bool := domClosed s (p / 8)
/-- It is forced down. -/
def portForced (s : State) (p : Nat) : Bool := (domAt s (p / 8)).forced.isSome

/-- The detector latches an event and casts its vote. -/
def latchEvent (s : State) (p : Nat) (k : Latched) : State :=
  let x := portAt s p
  detect (setPort s p { x with latched := if x.latched.contains k then x.latched else x.latched ++ [k] }) p

/-- A disconnect in a dark cluster is latched, and the lines are at SE0 until a device is attached again. -/
def latchGone (s : State) (p : Nat) : State := latchEvent (setPort s p { portAt s p with line := .se0 }) p .disconnect

/-- A disconnect has been latched and has still to be declared: the detector goes on with what is attached after it. -/
def goneLatched (s : State) (p : Nat) : Bool := portDark s p && (portAt s p).latched.contains .disconnect

/-- The ports of a cluster back in P0 act on what their detectors have latched (R202): a disconnect at once, a remote wake as a
resume, a connect from now on the lines as they are found, far-end termination as training. -/
def wakeCluster (s : State) (c : Nat) : State :=
  each (clPorts c) s (fun s p =>
    let l := (portAt s p).latched
    let s1 := setPort s p { portAt s p with latched := [] }
    let gone := l.contains .disconnect && decide (2 ≤ portState s1 p) && prf s1 p PRT_STATE_TEST == 0
    let s2 := if gone then (let t := doDisconnect s1 p; setPort t p { portAt t p with line := (portAt s1 p).line }) else s1
    if !gone && l.contains .wake && portState s2 p == 4 then startResume s2 p true
    else if portState s2 p == 1 then
      let x := portAt s2 p
      let s3 := if gone || l.contains .connect then setPort s2 p { x with debouncing := x.line != .se0, stable := false } else s2
      if l.contains .term && x.ss == .detect then noteLink (setPort s3 p { portAt s3 p with ss := .training }) p else s3
    else s2)

/-! ### Port engines (R201) -/

/-- The partner of a port engine. -/
def peMate (pe : Nat) : Nat := if pe % 2 == 0 then pe + 1 else pe - 1
/-- The page of a port engine. -/
def pePage (pe : Nat) : Nat := 0x30 + pe / 2
/-- A field of a port engine. -/
def peFld (pe : Nat) (f : Fld) : Fld := fsh f (pe % 2 * 0x10)
/-- A field of a port engine set. -/
def peSet (s : State) (pe : Nat) (f : Fld) (v : Nat) : State := wf s (pePage pe) (peFld pe f) v
/-- The four ports of a port engine. -/
def pePorts (pe : Nat) : List Nat := (List.range 4).map (· + 4 * pe)

/-- An expiry recorded for an engine: the expiries of the last second, this one among them. -/
def noteExpiry (s : State) (key : Nat) : State × Nat :=
  let r := tabGet (fun _ => EngRec.init) s.mgt.engines key
  let now := (rct s).toNat
  let l := (r.expiries.filter (fun t => decide (now - t < 1000000000))) ++ [now]
  ({ s with mgt := { s.mgt with engines := tabSet (fun _ => EngRec.init) s.mgt.engines key { r with expiries := l, missed := 0 } } },
    l.length)

/-- The partner of a failed engine takes its ports (R19, R201). -/
def takeOver (s : State) (pe : Nat) : State :=
  let q := peMate pe
  if peState s q != 1 then s
  else
    let s1 := peSet (peSet s q CLU_PE_STATUS_COVERING 1) q CLU_PE_STATUS_CAP_PCT 60
    let s2 := each (pePorts pe) s1 (fun s p => pwf s p PRT_STATE_COVERED 1)
    err s2 (pePage pe) 3

/-- The survivor hands the ports back (R201). -/
def handBack (s : State) (pe : Nat) : State :=
  let q := peMate pe
  let s1 := each (pePorts pe) s (fun s p => pwf s p PRT_STATE_COVERED 0)
  if rf s1 (pePage q) (peFld q CLU_PE_STATUS_COVERING) == 1 then
    peSet (peSet s1 q CLU_PE_STATUS_COVERING 0) q CLU_PE_STATUS_CAP_PCT 100 else s1

/-- At a boundary the survivors hand back the ports of engines that run again, once no transaction is on their wires (R201). -/
def handBacks (s : State) : State :=
  each (List.range 128) s (fun s pe =>
    if peState s pe == 1 && (pePorts pe).any (fun p => prf s p PRT_STATE_COVERED == 1)
        && !(pePorts pe).any (fun p => (portAt s p).wire.isSome) then handBack s pe else s)

/-- A port engine's watchdog expires (R19, R201, R352; the third expiry in a second raises both reports: assumption 100): it restarts, or is FAILED at the third expiry in a second, its partner takes
its ports, and the transactions on their wires, and on those that it was covering, complete XACT_ERR with the reference of the report (R19). -/
def peExpire (s : State) (pe : Nat) : State :=
  let pr := noteExpiry s (engKey 4 pe)
  let s1 := pr.1
  let n := pr.2
  let s2 := incF (incF s1 (pePage pe) (peFld pe CLU_PE_STATUS_RESTARTS)) (pePage pe) (peFld pe CLU_PE_WDOG_EXPIRED)
  let loc := blockLoc s2 (pePage pe) pe
  let pr2 := reportRef (errBit s2 (pePage pe) 2) loc 0x30
  let s3 := pr2.1
  let ref := pr2.2
  let s4 := if 3 ≤ n then report (errBit (peSet s3 pe CLU_PE_STATUS_STATE 3) (pePage pe) 4) loc 0x31
    else peSet s3 pe CLU_PE_STATUS_STATE 2
  -- what the failed engine covered falls back to no engine until one of the two runs again
  let covered := if rf s (pePage pe) (peFld pe CLU_PE_STATUS_COVERING) == 1 then pePorts (peMate pe) else []
  let s5 := peSet (peSet s4 pe CLU_PE_STATUS_COVERING 0) pe CLU_PE_STATUS_CAP_PCT 100
  each (pePorts pe ++ covered) (takeOver s5 pe) (fun s p => cutWire s p (some ref))

end Sys2Proof.Machine
end

