-- ==== Sys2Proof/Machine/WheelOps.lean ====
section
/-!
DEFINITION. The Periodic Wheel in host memory (R143 to R147): its nodes and their blocks, and the words that the chip writes in its
region.
-/
namespace Sys2Proof.Machine

/-- The base of the wheel region (R143). -/
def wheelBase (s : State) : Nat :=
  (join64 (rd s (adr pPln 0x050)) (rd s (adr pPln 0x054))).toNat / 2 ^ 21 * 2 ^ 21

/-- An address lies in the block pool and starts a block (R144, R145). -/
def inPool (s : State) (a : Nat) : Bool :=
  decide (wheelBase s + 0x10000 ≤ a) && decide (a < wheelBase s + 0x2000000) && a % 4096 == 0

/-! ### Nodes (R147) -/

/-- The number of the node of interval 2^k and phase φ. -/
def nodeKey (n : Nat × Nat) : Nat := 2 ^ n.1 + n.2
/-- The node of a number: log2 of its interval, and its phase. -/
def nodeAt (x : Nat) : Nat × Nat := (Nat.log2 x, x - 2 ^ Nat.log2 x)

/-- The non-empty nodes of intervals below 2^k in the chain of a slot, the longest interval first (R147). -/
def chainBelow (w : Tab Node) (slot k : Nat) : List Node :=
  (List.range k).reverse.filterMap (fun j => look w (2 ^ j + slot % 2 ^ j))

/-- The address of a pool block. -/
def blockAddr (s : State) (b : Nat) : Nat := wheelBase s + 0x10000 + 4096 * b

/-- The address of the first block of a chain of nodes, 0 when it is empty. -/
def firstBlock (s : State) (l : List Node) : Nat :=
  match l.head?.bind (·.blocks.head?) with | some b => blockAddr s b | none => 0

/-- The slot word of a slot (R145, R147). -/
def slotWord (s : State) (w : Tab Node) (slot : Nat) : Nat := firstBlock s (chainBelow w slot 12)

/-- The PSE of a context (R146, R147). -/
def pseHere (s : State) (c : Nat) : Word :=
  match epAt s c with
  | some e => pseOf c e.log2i ((e.rsv.map (·.phase)).getD 0)
  | none => 0

/-- The dwords of block j of a node (R145): NEXT, COUNT, LOG2_I, PHASE, and its PSEs. -/
def blockWords (s : State) (w : Tab Node) (x : Nat) (nd : Node) (j : Nat) : List Word :=
  let p := nodeAt x
  let cs := (nd.eps.drop (1020 * j)).take 1020
  let next := match nd.blocks[j + 1]? with
    | some b => blockAddr s b
    | none => firstBlock s (chainBelow w p.2 p.1)
  [BitVec.ofNat 32 next, BitVec.ofNat 32 (next / 2 ^ 32), BitVec.ofNat 32 (cs.length + p.1 * 2 ^ 16 + p.2 * 2 ^ 20), 0]
    ++ cs.map (pseHere s)

/-- Every block in use, with its dwords. -/
def wheelBlocks (s : State) (w : Tab Node) : List (Nat × List Word) :=
  w.flatMap (fun n => n.2.blocks.zipIdx.map (fun b => (b.1, blockWords s w n.1 n.2 b.2)))

/-! ### Writes of the region (R143, R147, R148) -/

/-- A write in the wheel region; a chip whose base is 0 has no wheel. -/
def wheelPut (s : State) (a : Nat) (d : List Byte) : State :=
  if wheelBase s == 0 then s else hostWrite s .mgr (BitVec.ofNat 64 a) d

/-- The region is written whole (R143): the slot words, and every block in use. -/
def rewriteWheel (s : State) : State :=
  let w := s.pln.wheel
  let s1 := wheelPut s (wheelBase s) ((List.range 2048).flatMap (fun n => leBytes 8 (slotWord s w n)))
  each (wheelBlocks s w) s1 (fun s b => wheelPut s (blockAddr s b.1) (wordBytes b.2))

/-- The words of the region that a change of the nodes changes are written: blocks before the words that lead to them. -/
def writeChanges (old s : State) : State :=
  let was := wheelBlocks old old.pln.wheel
  let s1 := each ((wheelBlocks s s.pln.wheel).filter (fun b => !was.contains b)) s
    (fun s b => wheelPut s (blockAddr s b.1) (wordBytes b.2))
  each ((List.range 2048).filter (fun n => slotWord s s.pln.wheel n != slotWord old old.pln.wheel n)) s1
    (fun s n => wheelPut s (wheelBase s + 8 * n) (leBytes 8 (slotWord s s.pln.wheel n)))

/-- The pool blocks that no node holds. -/
def unusedBlocks (s : State) : List Nat := (List.range 8176).filter (fun b => !s.pln.wheel.any (fun n => n.2.blocks.contains b))

/-- A node with a PSE more (R147): the SK512 may put it anywhere in the node and use any free block of the pool, which are free values
(assumption 2). -/
def withPse (s : State) (nd : Node) (c : Nat) : State × Node :=
  let at_ := (freeNow s).toNat % (nd.eps.length + 1)
  let eps := nd.eps.take at_ ++ c :: nd.eps.drop at_
  let s1 := freeStep s
  if ceilDiv eps.length 1020 ≤ nd.blocks.length then (s1, { nd with eps := eps })
  else
    let l := unusedBlocks s
    (freeStep s1, ⟨nd.blocks ++ [l.getD ((freeNow s1).toNat % l.length) 0], eps⟩)

/-- A reservation's PSE put in its node (R147, R148). -/
def addPse (s : State) (c : Nat) (e : Ep) (phase : Nat) : State :=
  let x := nodeKey (nodeOf e.log2i phase)
  let p := withPse s ((look s.pln.wheel x).getD ⟨[], []⟩) c
  writeChanges s { p.1 with pln := { p.1.pln with wheel := put p.1.pln.wheel x p.2 } }

/-- A reservation's PSE taken out of its node, which keeps the order of the others (R147, R148). -/
def dropPse (s : State) (c : Nat) (e : Ep) (phase : Nat) : State :=
  let x := nodeKey (nodeOf e.log2i phase)
  match look s.pln.wheel x with
  | none => s
  | some nd =>
    let eps := nd.eps.erase c
    let w := if eps.isEmpty then tabDel s.pln.wheel x else put s.pln.wheel x ⟨nd.blocks.take (ceilDiv eps.length 1020), eps⟩
    writeChanges s { s with pln := { s.pln with wheel := w } }

end Sys2Proof.Machine
end

