-- ==== Sys2Proof/Machine/PlanOps.lean ====
section
/-!
DEFINITION. The planner: plans and the horizon (R139 to R142, R163), the walk of the wheel (R143 to R148), the choice of periodic
entries (R149, R150), the release of a microframe (R140, R155), and the cohorts' check (R169).
-/
namespace Sys2Proof.Machine

/-- H of a profile (R161). -/
def horizonOf (prof : Nat) : Nat := match prof with | 0 => 4 | 1 => 8 | 2 => 2 | _ => 1

/-- The default poll interval of a profile, in µs (R161). -/
def pollOf (prof : Nat) : Nat := match prof with | 0 => 125 | 1 => 125 | 2 => 8 | _ => 1000

/-- A microframe some way after another, as a number of 32 bits (R151). -/
def ufAdd (n k : Nat) : Nat := (n + k) % 2 ^ 32

/-- The plan of a microframe. -/
def planOf (s : State) (n : Nat) : Option Plan := s.pln.plans.find? (fun p => p.n == n)

/-- A plan put through a function. -/
def updPlan (s : State) (n : Nat) (f : Plan → Plan) : State :=
  { s with pln := { s.pln with plans := s.pln.plans.map (fun p => if p.n == n then f p else p) } }

/-- PLN_HORIZON follows the profile and the plans. -/
def noteHorizon (s : State) : State :=
  let m := s.clk.uframe.toNat
  wf (wf s pPln PLN_HORIZON_H (horizonOf (rf s pPln PLN_PROFILE_PROFILE))) pPln PLN_HORIZON_PLANNED
    (s.pln.plans.filter (fun p => decide (0 < ufDiff p.n m))).length

/-! ### The wheel (R143 to R148) -/

/-- An endpoint is served in a microframe's plan (R147, R148). -/
def rsvIn (e : Ep) (n : Nat) : Bool := (rsvFor e n).isSome

/-- A walk has ended (R148). -/
def endWalk (s : State) (n : Nat) : State := leVotes (updPlan s n (fun p => { p with walked := true }))

/-- The island of LE0 and LE1, which walk the wheel (R17), and the DMA are in P0 (R14). -/
def walkLit (s : State) : Bool := pageLit s pLe && dmaLit s

/-- The address of the slot word of a microframe (R144). -/
def slotAddr (s : State) (n : Nat) : Nat := wheelBase s + 8 * (n % 2048)

/-- The walk of a plan begins (R139): the list engine reads the slot word. An ORPHAN chip fetches nothing (R67). -/
def beginWalk (s : State) (p : Plan) : State :=
  if p.walked || p.block != 0 || orphan s || !walkLit s then s
  else hostRead (updPlan s p.n (fun q => { q with block := slotAddr s p.n })) .mgr (BitVec.ofNat 64 (slotAddr s p.n)) 8

/-- The walk of a plan goes on to a block (R145, R148): 0 ends it, and so does an address outside the block pool, with WHEEL_BAD; a slot word is
held to the pool as a NEXT is (DESIGN CHOICE, assumption 86). `fin` is the end of the walk. -/
def walkTo (s : State) (n a : Nat) (fin : State → State) : State :=
  if a == 0 then fin s
  else if !inPool s a then fin (err s pPln 1)
  else hostRead (updPlan s n (fun p => { p with block := a })) .mgr (BitVec.ofNat 64 a) 4096

/-- The walks that wait for a dark island begin. -/
def beginWalks (s : State) : State := each s.pln.plans s beginWalk

/-- A plan opens and its walk begins (R139); a chip without a wheel has none (R143). -/
def openPlan (s : State) (n : Nat) : State :=
  let p : Plan := ⟨n, false, ufAdd s.clk.uframe.toNat 1, [], wheelBase s == 0, 0, rf s pPln PLN_PROFILE_PROFILE,
    (s.inst.map (·.1)).filter (fun k => ownerStill s (ownerOf k))⟩
  leVotes (beginWalk { s with pln := { s.pln with plans := s.pln.plans ++ [p], lastPlan := n } } p)

/-- The planner works (R14, R87): its page is enabled, its island is in P0, and so is one at least of the islands of each block that it depends
on (DESIGN CHOICE, assumption 79). -/
def plnWorks (s : State) : Bool :=
  pageOn s pPln && !domClosed s 0x5C && (List.range 8).any (fun k => !domClosed s (0x40 + k)) && dmaLit s && ebmLit s
    && (List.range 64).any (fun c => !domClosed s c)

/-- The plans up to a microframe that are not yet open open together (R141, R163); a planner that does not work opens none. -/
def openTo (s : State) (n : Nat) : State :=
  let k := ufDiff n s.pln.lastPlan
  let j := min k.toNat 8
  if k ≤ 0 then s
  else if !plnWorks s then { s with pln := { s.pln with lastPlan := n } }
  else each (List.range j) s (fun s i => openPlan s (ufAdd n (2 ^ 32 + 1 + i - j)))

/-! ### Periodic entries (R149, R150) -/

/-- The first entry of an isochronous endpoint that is fetched and not yet planned. -/
def nextPlanned (s : State) (e : Ep) : Option (Nat × Nat × List Word) :=
  match e.tq with
  | none => none
  | some t =>
    match tqAt s t with
    | none => none
    | some x =>
      let i := match e.planned.getLast? with
        | some p => (p.2.1 + 1) % qSize x.log2
        | none => (match e.work with | some w => (w.idx + 1) % qSize x.log2 | none => x.next)
      match x.cache.find? (fun c => c.idx == i) with
      | some ⟨_, some en⟩ => some (t, i, en)
      | _ => none

/-- An entry is planned for a microframe, or for completion with a status. -/
def planEntry (s : State) (c n i : Nat) (st : Option (BitVec 4 × Option Word)) : State :=
  updEp s c (fun e => { e with planned := e.planned ++ [(n, i, st)] })

/-- START_UFRAME of the entry before the next one to plan (R149): the last planned one that has it, else the last served one. -/
def prevStart (s : State) (e : Ep) (t : Nat) : Option Word :=
  match tqAt s t with
  | some x => (e.planned.reverse.findSome? (fun p => startOf x p.2.1)).or x.lastStart
  | none => none

/-- The outcome of an entry at the opening of a plan (R149). -/
inductive Pick where
  | serve
  | wait
  | ends (st : BitVec 4)
deriving DecidableEq, Repr

/-- A service microframe of an endpoint (R147): by the phase of its reservation, or by that of one that it has replaced, up to the last plan that
it serves (R148). -/
def svcMicroframe (e : Ep) (n : Nat) : Bool :=
  e.rsv.any (fun r => serves e.log2i r.phase n)
    || e.old.any (fun r => serves e.log2i r.phase n && r.gone.all (fun g => decide (ufDiff n g ≤ 0)))

/-- R149's table for an entry of an endpoint and the plan of n. -/
def pickFor (e : Ep) (prev : Option Word) (n : Nat) (en : List Word) : Pick :=
  let st := eStart en
  let w := BitVec.ofNat 32 n
  if eAsap en then .serve
  else if !svcMicroframe e st.toNat || (match prev with | some q => !ufAfter st q | none => false) then .ends 8
  else if st == w then .serve
  else if ufAfter st w then .wait
  else .ends 5

/-- The planner takes an isochronous endpoint's entry for a plan (R149); a halted flow's entries stay in their TQ (R194). An entry that is
served is `served`, or completes with that status. -/
def planIsoc (s : State) (c : Nat) (e : Ep) (n : Nat) (served : Option (BitVec 4 × Option Word)) : State :=
  match nextPlanned s e with
  | none => s
  | some (t, i, en) =>
    if e.halt then s
    else match pickFor e (prevStart s e t) n en with
      | .serve => planEntry s c n i served
      | .wait => s
      | .ends st => planEntry s c n i (some (st, none))

/-- A graph is built for a context in a plan, and its FETCH is issued (R139, R140, R149, R150, R152); the chip is idle no longer (R162, R267). -/
def buildGraph (s : State) (n c : Nat) : State :=
  match epAt s c with
  | none => s
  | some e =>
    let s1 := noteBusy (updPlan s n (fun p => { p with graphs := p.graphs ++ [c] }))
    let s2 := match e.tq with | some t => fetch s1 t | none => s1
    if isIsoc e then goOn (planIsoc s2 c e n none) c else s2

/-- One PSE of a block (R148): validated, and built into the plan when it serves there. -/
def takePse (s : State) (n k ph : Nat) (pse : Word) : State :=
  let c := bits pse 0 13
  match epAt s c with
  | none => err s pPln 1
  | some e =>
    let agrees (r : Rsv) : Bool := bits pse 0 20 == bits (pseOf c e.log2i r.phase) 0 20 && nodeOf e.log2i r.phase == (k, ph)
    match (e.rsv.toList ++ e.old).filter agrees with
    | [] => err s pPln 1
    | rs =>
      match planOf s n with
      | some p =>
        if rs.any (rsvServes e n) && !p.isSealed && !p.graphs.contains c && !p.still.contains (ownerKey e.owner) then buildGraph s n c else s
      | none => s

/-- A service of a sealed plan that the walk did not reach: the entry that would have been served completes MISSED (R142). -/
def missService (s : State) (n c : Nat) (e : Ep) : State :=
  if isIsoc e then goOn (planIsoc s c e n (some (5, none))) c else s

/-- A plan seals (R139, R142). A walk that ends late counts in PLN_WALK as 1,000 units at least, a microframe, which is when its plan sealed
(DESIGN CHOICE, assumption 87). An ORPHAN chip walks nothing, and keeps the entries that it owes (R67). -/
def sealPlan (s : State) (n : Nat) : State :=
  match planOf s n with
  | none => s
  | some p =>
    let s1 := updPlan s n (fun p => { p with isSealed := true })
    if orphan s then endWalk s1 n else
    let s2 := if p.walked then s1 else
      wf (err s1 pPln 0) pPln PLN_WALK_MAX (max 1000 (rf s1 pPln PLN_WALK_MAX))
    let late := s2.ctx.eps.filter (fun e => rsvIn e.2 n && !p.graphs.contains e.1 && !p.still.contains (ownerKey e.2.owner))
    each late s2 (fun s e => match epAt s e.1 with | some x => missService s n e.1 x | none => s)

/-! ### The release of a microframe (R140, R155, R161) -/

/-- The microframe after the last one in which a service may move data (R192, R196). -/
def windowEnd (s : State) (e : Ep) (n : Nat) : Nat :=
  if viaTt s e then ufAdd n (if isIsoc e && !e.dirIn then max 1 (ceilDiv (svcBytes e n) 188) else 2 + lastSplit e n)
  else if frames s (epPort s e) then ufAdd n 8 else ufAdd n 1

/-- The planned services of a flow when some microframes have passed: an entry that has not begun completes MISSED, with a root cause
if there is one (R67, R155). -/
def lapsed (e : Ep) (passed : Nat → Bool) (rc : Option Word) : List (Nat × Nat × Option (BitVec 4 × Option Word)) :=
  e.planned.map (fun q =>
    if q.2.2.isNone && (match e.work with | some w => w.idx != q.2.1 | none => true) && passed q.1 then (q.1, q.2.1, some (5, rc)) else q)

/-- An entry has data to STAGE (R152). -/
def needsStage (x : Tq) (e : Ep) (idx : Nat) : Bool :=
  !e.dirIn && (match x.cache.find? (fun c => c.idx == idx) with
    | some ⟨_, some en⟩ => (eType en == 1 || eType en == 4) && eLen en != 0
    | _ => false)

/-- The planned services of a flow at the boundary of m whose work has not begun: OUT data not staged is UNDERRUN at its microframe, or at its end
in ISO-FIRST (R140, R161); a service whose flow stalls at its POST is MISSED when it is due (R111), and another when its microframe has passed
(R155). -/
def lapsedAt (s : State) (e : Ep) (m : Nat) : List (Nat × Nat × Option (BitVec 4 × Option Word)) :=
  match e.tq.bind (tqAt s) with
  | none => e.planned
  | some x =>
    let iso := rf s pPln PLN_PROFILE_ACTIVE == 1
    e.planned.map (fun q =>
      let due := decide (0 ≤ ufDiff m q.1)
      let passed := decide (0 ≤ ufDiff m (windowEnd s e q.1))
      if q.2.2.isSome || (match e.work with | some w => w.idx == q.2.1 | none => false) then q
      else if !x.posts.isEmpty then (if due then (q.1, q.2.1, some (5, none)) else q)
      else if needsStage x e q.2.1 then (if (if iso then passed else due) then (q.1, q.2.1, some (7, none)) else q)
      else if passed then (q.1, q.2.1, some (5, none)) else q)

/-- The level of an isochronous STAGE rises in the microframe before its ISSUE, in service too (R161): PRIO of its channel shows it. -/
def raiseLevel (s : State) (c : Nat) : State :=
  match epAt s c with
  | some e =>
    (match e.work with
     | some w =>
       if w.op == .stage && w.level != opLevel s e .stage w.n then
         let lvl := opLevel s e .stage w.n
         let s1 := updWork s c (fun w => { w with level := lvl })
         (match w.chan with
          | some ch => if (chanAt s1 ch).flow == some c then cwf s1 ch DMA_CTRL_PRIO lvl else s1
          | none => s1)
       else s
     | none => s)
  | none => s

/-- An isochronous flow at the boundary of m: OUT data not staged is UNDERRUN at its microframe, or at its end in ISO-FIRST; work
whose microframe has passed is MISSED (R140, R155, R157, R161, R174). An ORPHAN chip keeps the entries it owes (R67). -/
def isocBoundary (s : State) (c m : Nat) : State :=
  match epAt s c with
  | none => s
  | some e =>
    let passed (n : Nat) : Bool := decide (0 ≤ ufDiff m (windowEnd s e n))
    let iso := rf s pPln PLN_PROFILE_ACTIVE == 1
    if orphan s then s else
    let s1 := raiseLevel (setEp s c { e with planned := lapsedAt s e m }) c
    match e.work with
    | none => goOn s1 c
    | some w =>
      match w.n with
      | none => s1
      | some n =>
        let filled := eType w.e == 4 && !e.dirIn && decide (w.segLen ≤ e.fill)
        if w.op == .stage && filled then sinkFill s1 c
        else if w.op == .stage && (if iso then passed n else decide (0 ≤ ufDiff m n)) then goOn (cutWork s1 c 7 none) c
        else if w.op == .stage && n == m then updWork s1 c (fun w => { w with late := true })
        else if w.op == .issue && !w.inSvc && passed n then
          failLater s1 c (lateEnd w).1 (lateEnd w).2
        else s1

/-- A complete-split of an interrupt service that was not started in its microframe (R196): the next one in the table is due, and past the last
one the service ends without a failure (DESIGN CHOICE, assumption 121). -/
def splitPassed (s : State) (c m : Nat) : State :=
  match epAt s c with
  | some e =>
    (match e.work with
     | some w =>
       (match w.n with
        | some n =>
          if !viaTt s e || w.split == 0 || w.inSvc || ufDiff m (dueAt s e w n) ≤ 0 then s
          else if lastSplit e n ≤ w.split then endService s c
          else updWork s c (fun w => { w with split := w.split + 1 })
        | none => s)
     | none => s)
  | none => s

/-- An interrupt flow at the boundary of m: a graph in the plan of m gives its entry a service of the reserved bytes (R150). -/
def intrBoundary (s0 : State) (c m : Nat) : State :=
  let s := splitPassed s0 c m
  match epAt s c, planOf s m with
  | some e, some p =>
    if p.graphs.contains c && !(viaTt s e && (match e.work with | some w => decide (0 < w.split) | none => false)) then
      updWork s c (fun w => { w with n := some m, budget := svcBytes e m, split := 0 })
    else s
  | _, _ => s

/-- SOF, ITP or keep-alive on an ENABLED port at the boundary of m (R186), while an engine of a powered cluster serves it. -/
def sofDue (s : State) (p m : Nat) : Bool :=
  portState s p == 3 && (m % 8 == 0 || decide (2 ≤ speedOf s p)) && (peOf s p).isSome && !domClosed s (p / 8)

/-- What a port sends at a boundary, by its speed (R186). -/
def sofKind (s : State) (p : Nat) : SofKind := match speedOf s p with | 0 => .keepAlive | 1 => .sof | 2 => .sof | _ => .itp

/-- The ports at the boundary of m: the start of the microframe or frame, and its SOF (R186). -/
def portBoundary (s : State) (p m : Nat) : State :=
  let x := portAt s p
  let fresh := m % 8 == 0 || decide (2 ≤ speedOf s p)
  let s1 := if fresh then setPort s p { x with lastT := 0, usedAsync := if frames s p then 0 else x.usedAsync } else s
  let s2 := if frames s1 p then s1 else setPort s1 p { portAt s1 p with usedAsync := 0 }
  if sofDue s2 p m then emit s2 (.sof p (sofKind s2 p) m) else s2

/-- Schedules end: on the way to HOLD, LOOP or RECOVERY every plan and spilled record is gone (R31, R175). -/
def dropPlans (s : State) : State :=
  noteHorizon (noteSpill { s with
    ctx := { s.ctx with eps := s.ctx.eps.map (fun p => (p.1, { p.2 with planned := [] })) }
    pln := { s.pln with plans := [], spill := [], deferred := [], cohortNow := [] } })

/-- A last plan has passed at the boundary of m. -/
def planPast (m : Nat) (g : Option Nat) : Bool := match g with | some g => decide (0 < ufDiff m g) | none => false

/-- The reservations of an endpoint whose last plan has not passed (R148). -/
def keepRsvs (m : Nat) (e : Ep) : Ep :=
  { e with rsv := e.rsv.filter (fun r => !planPast m r.gone), old := e.old.filter (fun r => !planPast m r.gone) }

/-- An interrupt entry that has begun on an endpoint without a reservation left completes NO_BW (R119). -/
def endUnserved (s : State) (c : Nat) : State :=
  match epAt s c with
  | some e => if isIntr e && e.work.isSome && e.rsv.isNone && e.old.isEmpty && !keepsFail s c then goOn (cutWork s c 0xB none) c else s
  | none => s

/-- A released reservation is gone once the plan of its last service has passed, and so are a dissolved cohort and a member that has left
(R148, R170). -/
def dropReleased (s : State) (m : Nat) : State :=
  let left (k : Cohort) : Cohort :=
    { k with members := k.members.filter (fun c => !k.leaving.any (fun l => l.1 == c && planPast m (some l.2)))
             leaving := k.leaving.filter (fun l => !planPast m (some l.2)) }
  let s1 := { s with
    ctx := { s.ctx with eps := s.ctx.eps.map (fun p => (p.1, keepRsvs m p.2)) }
    pln := { s.pln with cohorts := (s.pln.cohorts.filter (fun k => !planPast m k.2.last)).map (fun k => (k.1, left k.2)) } }
  each (s1.ctx.eps.map (·.1)) s1 endUnserved

/-- A profile applies (R34, R163): PROFILE_APPLIED when it is another. -/
def takeProfile (s : State) (prof : Nat) : State :=
  if prof == rf s pPln PLN_PROFILE_ACTIVE then s else evt (wf s pPln PLN_PROFILE_ACTIVE prof) pPln 2

/-- The plans at the boundary of m: the plan of m is released, those due seal, and those within the horizon open (R139 to R141,
R163). -/
def planBoundary (s : State) (m : Nat) : State :=
  let h := horizonOf (rf s pPln PLN_PROFILE_PROFILE)
  if s.pln.starting then
    let s1 := wb (wb { s with pln := { s.pln with starting := false, plans := [], lastPlan := m } } pPln PLN_STATUS_RUNNING true)
      pPln PLN_STATUS_STARTUP true
    noteHorizon (openTo (takeProfile s1 (rf s1 pPln PLN_PROFILE_PROFILE)) (ufAdd m h))
  else
    let due := (s.pln.plans.filter (fun p => !p.isSealed && decide (0 ≤ ufDiff m p.sealAt))).map (·.n)
    let s1 := wb (each due s sealPlan) pPln PLN_STATUS_STARTUP false
    let s2 := match planOf s1 m with
      | some p => takeProfile s1 p.prof
      | none => s1
    let s3 := openTo s2 (ufAdd m h)
    let keep := s3.pln.plans.filter (fun p => decide (0 ≤ ufDiff p.n m) || !p.walked)
    noteHorizon { s3 with pln := { s3.pln with plans := keep } }

/-- The root ports at the boundary of m, in every mode (R186). -/
def portsBoundary (s : State) (m : Nat) : State :=
  each (List.range 512) s (fun s p => if portState s p == 0 then s else portBoundary s p m)

/-- A boundary of the planner (R140): plans, then the ports, then the periodic flows of m, then every TQ goes on. -/
def plannerBoundary (s : State) (m : Nat) : State :=
  if !runsSchedules s then portsBoundary s m
  else
    let bp := s.pln.bpNow || rb s pPln PLN_STATUS_BP_ACTIVE
    let s0 := if bp then incF s pPln PLN_BP_CNT_BP_UFRAMES else s
    let s1 := { s0 with pln := { s0.pln with bpNow := false } }
    let s2 := planBoundary (dropReleased (wf s1 pPln PLN_UFRAME_UFRAME m) m) m
    let s3 := portsBoundary s2 m
    let s4 := each (s3.ctx.eps.filter (fun e => isIsoc e.2)) s3 (fun s e => isocBoundary s e.1 m)
    let s5 := each (s4.ctx.eps.filter (fun e => isIntr e.2)) s4 (fun s e => intrBoundary s e.1 m)
    noteLists (each (allTqs s5) s5 serve)

/-! ### Cohorts (R169) -/

/-- An isochronous endpoint has an entry planned for n, none of it completed without service. -/
def hasGraph (e : Ep) (n : Nat) : Bool := e.planned.any (fun p => p.1 == n && p.2.2.isNone)

/-- The OUT data of an endpoint's service of n is in its buffer: its STAGE has completed, a relay's when the buffer holds it (R172). -/
def staged (e : Ep) (n : Nat) : Bool :=
  e.dirIn || (match e.work with
    | some w => w.n == some n && (w.op == .issue || (w.op == .stage && eType w.e == 4 && decide (w.segLen ≤ e.fill)))
    | none => false)

/-- A member takes part in n: it has not left (R170). -/
def memberIn (k : Cohort) (n c : Nat) : Bool := !k.leaving.any (fun l => l.1 == c && decide (0 < ufDiff n l.2))

/-- The cohort is due in n (R168, R169, R170). -/
def cohortDue (s : State) (k : Cohort) (n : Nat) : Bool :=
  decide (0 ≤ ufDiff n k.start) && (match k.last with | some l => decide (ufDiff n l ≤ 0) | none => true)
    && k.members.any (fun c => memberIn k n c && (match epAt s c with | some e => rsvIn e n | none => false))

/-- RCT is locked, which the head treats as always true (R169). -/
def timeLocked (s : State) : Bool := rb s pRing RING_TIME_STATUS_LOCKED || isHead s

/-- An entry of a member is withheld (R169): it completes SUPPRESSED. -/
def suppress (s : State) (n c : Nat) : State :=
  match epAt s c with
  | none => s
  | some e =>
    if (match e.work with | some w => w.n == some n | none => false) then goOn (cutWork s c 0xC none) c
    else
      let s1 := setEp s c { e with planned := e.planned.map (fun p =>
        if p.1 == n && p.2.2.isNone then (p.1, p.2.1, some (0xC, none)) else p) }
      goOn s1 c

/-- A cohort's check for n on this chip (R169). -/
def checkCohort (s : State) (n : Nat) (k : Cohort) : State :=
  let ms := (k.members.filterMap (fun c => (epAt s c).map (fun e => (c, e)))).filter (fun p => memberIn k n p.1 && rsvIn p.2 n)
  if ms.isEmpty then s
  else if timeLocked s && ms.all (fun p => hasGraph p.2 n && staged p.2 n) then
    incF { s with pln := { s.pln with cohortNow := s.pln.cohortNow ++ ms.map (·.1) } } pPln PLN_COHORT_CNT_SERVED
  else evt (incF (each (ms.map (·.1)) s (fun s c => suppress s n c)) pPln PLN_COHORT_CNT_SUPPRESSED) pPln 1

end Sys2Proof.Machine
end

