-- ==== Sys2Proof/Machine/ListOps.lean ====
section
/-!
DEFINITION. The queue index registers (R105, R107, R108, R359, R360), the list engines' ticks and reads (R112 to R116, R121), the
PI mirror (R110) and the admin queue's enable (R128).
-/
namespace Sys2Proof.Machine

/-- The TQ of an owner's queue number that has its home here. -/
def tqOf (s : State) (o : Owner) (q : Nat) : Option (Nat × Tq) := s.que.tqs.find? (fun t => decide (t.2.owner = o) && t.2.q == q)
/-- The CQ of an owner's queue number that has its home here. -/
def cqOf (s : State) (o : Owner) (q : Nat) : Option (Nat × Cq) := s.que.cqs.find? (fun c => decide (c.2.owner = o) && c.2.q == q)

/-- An owner's window is decoded (R6, R84, R240, R242): the endpoint is active, the boot done and no deep state held; an instance's, only
in STANDALONE, HEAD and SEVERED out of HEAD. -/
def windowOpen (s : State) (o : Owner) : Bool :=
  s.mgt.boot == .running && !chipDeep s && epActive s &&
  match o with | .mgr => true | .inst _ => holdsLink s && (instAt s (ownerKey o)).state != 0

/-- The mode allows an access to a window (R99, R320): in RECOVERY reads, and writes of the admin queue's registers; in VAULT none. -/
def windowMode (s : State) (off : Nat) (isWrite : Bool) : Bool :=
  mode s != 7 && (mode s != 6 || !isWrite || (decide (0x100 ≤ off) && decide (off < 0x180)))

/-- An index write leaves for the queue's home chip as a REG_WR cell (R27, R98; its offset is assumption 17). -/
def forwardIdx (s : State) (pos : Nat) (o : Owner) (off : Nat) (v : Word) : State :=
  let auth := match o with | .mgr => 1 | .inst _ => 2
  let base := match o with | .mgr => 0x80000000 | .inst _ => 0
  sendCell s pos 3 2 auth (BitVec.ofNat 32 (match o with | .mgr => 0 | .inst i => i.toNat)) (leBytes 4 (base + off) ++ leBytes 4 v.toNat)

/-- The head's copy of an index that a write sets: the value last written, unless it is out of range (R108). -/
def copyIdx (s : State) (o : Owner) (q : Nat) (r : QRef) (isPi : Bool) (v : Nat) : State :=
  if v < 2 ^ r.log2 then
    setRef s (refKey o q) (if isPi then { r with pi := BitVec.ofNat 16 v } else { r with ci := BitVec.ofNat 16 v })
  else s

/-- A PI at its queue's home chip, or on the way there (R85, R108, R137). -/
def setPi (s : State) (o : Owner) (q : Nat) (w : Word) : State :=
  let v := bits w 0 16
  match tqOf s o q with
    | some (t, x) =>
      if qSize x.log2 ≤ v then err s (lePage t) 2
      else if x.stop.isSome then s
      else copyPi (setTq s t { x with pi := v }) o q v
    | none =>
      match refAt s o q with
      | some r => if r.isCq || r.pos == ownPos s then s else forwardIdx (copyIdx s o q r true v) r.pos o (0x1000 + 8 * q) w
      | none => s

/-- Queues whose POSTs a CQ has held back go on with a stop that waited for its room (R111, R135). -/
def cqFreed (s : State) (k : Nat) : State :=
  each ((s.que.tqs.filter (fun t => t.2.cq == k && t.2.stop.isSome)).map (·.1)) s finishStop

/-- A CI at its queue's home chip, or on the way there (R85, R108). -/
def setCi (s : State) (o : Owner) (q : Nat) (w : Word) : State :=
  let v := bits w 0 16
  match cqOf s o q with
    | some (k, c) =>
      if qSize c.log2 ≤ v then err s pLe 2
      else if span c.log2 c.ci c.pi < span c.log2 c.ci v then err s pLe 3
      else
        let s1 := setCq s k { c with ci := v }
        let s2 := match refAt s1 o q with | some r => copyIdx s1 o q r false v | none => s1
        cqFreed s2 k
    | none =>
      match refAt s o q with
      | some r => if !r.isCq || r.pos == ownPos s then s else forwardIdx (copyIdx s o q r false v) r.pos o (0x1004 + 8 * q) w
      | none => s

/-! ### The admin queue (R128, R129, R360) -/

/-- An index write of the AQ or ACQ dropped (R360). -/
def idxErr (s : State) (k : Nat) : State := setInst s k { instAt s k with idxErr := true }

/-- INST_AQ_IDX.PI written (R360). -/
def writeAqPi (s : State) (o : Owner) (v : Nat) : State :=
  let k := ownerKey o
  if aqSize (instAt s k) ≤ v then idxErr s k else setInst s k { instAt s k with aqPi := v }

/-- INST_ACQ_IDX.CI written (R360). -/
def writeAcqCi (s : State) (o : Owner) (v : Nat) : State :=
  let k := ownerKey o
  let i := instAt s k
  let n := acqSize i
  if n ≤ v || decide ((i.acqPi + n - i.acqCi) % n < (v + n - i.acqCi) % n) then idxErr s k else setInst s k { i with acqCi := v }

/-- ENABLE set (R128): both queues start at 0, or CFG_ERR. -/
def enableAq (s : State) (o : Owner) : State :=
  let k := ownerKey o
  let i := instAt s k
  let ok (c : Word) : Bool := decide (4 ≤ bits c 0 5) && decide (bits c 0 5 ≤ 16)
  if aqOn i then s
  else if !ok i.aqCfg || !ok i.acqCfg || i.aqBase == 0 || i.acqBase == 0 then setInst s k { i with cfgErr := true }
  else setInst s k { i with aqCfg := i.aqCfg ||| bitW 8, aqPi := 0, aqCi := 0, acqPi := 0, acqCi := 0 }

/-- ENABLE cleared (R128). -/
def disableAq (s : State) (o : Owner) : State :=
  let k := ownerKey o
  setInst s k { instAt s k with aqCfg := (instAt s k).aqCfg &&& ~~~ bitW 8 }

/-! ### The list engines -/

/-- The sampled PI covers every entry that is in the descriptor cache or being read into it (R115). -/
def piCovers (x : Tq) : Bool :=
  x.cache.all (fun c => inSpan x.log2 x.ci x.pi c.idx) && x.fetching.all (inSpan x.log2 x.ci x.pi)

/-- A poll tick of a TQ (R112, R113, R115, R126); in a dark list-engine island it waits for the exit that its vote starts (R14, R266). -/
def pollTq (s : State) (t : Nat) : State :=
  match tqAt s t with
  | none => s
  | some x =>
    if x.error || x.stop.isSome || !runsSchedules s || !pageOn s (lePage t) then s
    else if !pageLit s (lePage t) then leVotes (setTq s t { x with due := true })
    else if !piCovers x then err (stopTq (setTq s t { x with sampled := x.pi }) t .error) (lePage t) 0
    else
      let s1 := setTq s t { x with sampled := x.pi, due := false }
      let idle := x.pi == x.ci % qSize x.log2 && x.batch.isSome && x.posts.isEmpty
      let s2 := if idle && mayPost s1 x then closeBatch s1 t else s1
      leVotes (fetch s2 t)

/-- The poll ticks and the walks that have waited run once their island is back in P0 (R14). -/
def dueTicks (s : State) : State := noteBp (beginWalks (each ((s.que.tqs.filter (fun t => t.2.due)).map (·.1)) s pollTq))

/-- A read of n entries from an index ends: with its dwords for one entry, or failed for them all (R113, R114). -/
def fetched (s : State) (t : Nat) (idx n : Nat) (e : Option (List Word)) : State :=
  match tqAt s t with
  | none => s
  | some x =>
    let is := ((List.range n).map (fun k => (idx + k) % qSize x.log2)).filter (x.fetching.contains ·)
    if is.isEmpty then s
    else
      let s1 := setTq s t { x with
        fetching := x.fetching.filter (fun i => !is.contains i), cache := x.cache ++ is.map (fun i => ⟨i, e⟩) }
      let s2 := if e.isNone then err s1 (lePage t) 1 else s1
      noteBp (serve (leVotes s2) t)

/-- 8 ms have passed since the last entry of an open chain was fetched, and the next one is not covered by PI (R121, R123). An
operation in service ends first. -/
def chainLate (s : State) (t : Nat) : State :=
  match tqAt s t with
  | none => s
  | some x =>
    match x.chain with
    | none => s
    | some c =>
      let w := (epAt s x.ep).bind (·.work)
      let next := match w with | some w => (w.idx + 1) % qSize x.log2 | none => x.next
      if next != x.pi || x.stop.isSome then s
      else match w with
        | some w =>
          if eLast w.e || w.inSvc then s
          else
            let st := w.fail.getD (14, none)
            let s1 := failWork s x.ep st.1 st.2
            goOn (endOpen s1 t st.1 st.2) x.ep
        | none =>
          let st := match c.dead with | some d => (if d.1 == 0 then (14, none) else d) | none => (14, none)
          goOn (endOpen s t st.1 st.2) x.ep

/-- The microsecond after a mirror write has passed (R110): a PI change within it is written now, or once its instance is resumed (R249). -/
def mirrorTick (s : State) (k : Nat) : State :=
  match cqAt s k with
  | none => s
  | some c =>
    match c.mirror with
    | none => s
    | some a =>
      if !c.mirrorHold || instHeld (instAt s (ownerKey c.owner)) && c.mirrorDue then s
      else if c.mirrorDue then
        let s1 := setCq s k { c with mirrorDue := false }
        if isMember s1 then
          sendPost s1 ⟨c.owner, BitVec.ofNat 11 c.q, 0, [], BitVec.ofNat 16 c.pi, some a, none, none⟩
        else hostWrite s1 c.owner a (leBytes 4 (c.pi % 65536))
      else setCq s k { c with mirrorHold := false }

/-! ### Invalidation (R116) -/

/-- The service of an entry has begun: it is behind the next entry to serve, or in the work of the flow. -/
def begun (s : State) (x : Tq) (i : Nat) : Bool :=
  inSpan x.log2 x.ci x.next i || (match (epAt s x.ep).bind (·.work) with | some w => w.idx == i | none => false)

/-- An invalidation of a range is in bounds. -/
def invalOk (x : Tq) (start count : Nat) : Bool :=
  decide (start < qSize x.log2) && decide ((if count = 0 then 65536 else count) ≤ qSize x.log2)

/-- The cached entries of a range whose service has not begun are discarded, and fetched again; those that have begun are counted
(R113, R116). -/
def invalidate (s : State) (t start count : Nat) : State × Nat :=
  match tqAt s t with
  | none => (s, 0)
  | some x =>
    let n := if count = 0 then 65536 else count
    let hit (i : Nat) : Bool := decide ((i + qSize x.log2 - start) % qSize x.log2 < n)
    let old := x.cache.filter (fun c => hit c.idx && begun s x c.idx)
    let s1 := setTq s t { x with
      cache := x.cache.filter (fun c => !hit c.idx || begun s x c.idx)
      fetching := x.fetching.filter (fun i => !hit i) }
    (fetch s1 t, old.length)

/-- TQ_INVAL written with GO (R116): the invalidation of TQ_INVAL_RANGE begins, unless one runs. -/
def invalGo (s : State) (v : Word) : State :=
  let s1 := writeFields s pLe 0x080 v
  if !bit v 16 || s1.que.inval.isSome then s1
  else
    let r := rd s1 (adr pLe 0x084)
    leVotes (wb { s1 with que := { s1.que with inval := some (bits (rd s1 (adr pLe 0x080)) 0 12, bits r 0 16, bits r 16 16) } }
      pLe TQ_INVAL_BUSY true)

/-- DESTROY_TQ has reached the queue (R137): to an invalidation it is gone. -/
def destroying (x : Tq) : Bool := match x.stop with | some (.destroy _ _) => true | _ => false

/-- The invalidation completes (R116, R137, R359). -/
def invalEnd (s : State) : State :=
  match s.que.inval with
  | none => s
  | some (t, a, n) =>
    let s1 := wb { s with que := { s.que with inval := none } } pLe TQ_INVAL_BUSY false
    let (s2, k) := match tqAt s1 t with
      | some x => if destroying x then (s1, 0) else if invalOk x a n then invalidate s1 t a n else (err s1 (lePage t) 2, 0)
      | none => (s1, 0)
    leVotes (wb (wf s2 pLe TQ_INVAL_RESULT_IN_SERVICE k) pLe TQ_INVAL_RESULT_DONE true)

end Sys2Proof.Machine
end

