-- ==== Sys2Proof/Machine/AdminOps.lean ====
section
/-!
DEFINITION. What every admin command shares: its checks, the owner that it acts for, commands for other chips (R129 to R133, R246,
R248), and the use of an instance's quotas (R246).
-/
namespace Sys2Proof.Machine

/-- The details of R132. -/
abbrev dOpcode : Nat := 1
abbrev dField : Nat := 2
abbrev dAuthority : Nat := 3
abbrev dNotFound : Nat := 4
abbrev dNotOwner : Nat := 5
abbrev dInUse : Nat := 6
abbrev dNoResource : Nat := 7
abbrev dState : Nat := 8
abbrev dPortBudget : Nat := 9
abbrev dTtBudget : Nat := 10
abbrev dChipShare : Nat := 11
abbrev dUnreachable : Nat := 12
abbrev dCqHome : Nat := 13

/-- SUCCESS with two results. -/
def good (s : State) (o : Owner) (e : List Word) (r0 r1 : Nat) : State := done s o e 0 0 (BitVec.ofNat 32 r0) (BitVec.ofNat 32 r1)

/-- NO_BW with a detail. -/
def noBw (s : State) (o : Owner) (e : List Word) (detail : Nat) : State := done s o e 0xB detail 0 0

/-- The instance or manager that a command acts for (R130). -/
def acting (o : Owner) (e : List Word) : Owner := if aBehalf e then .inst (aTarget e) else o

/-- The checks that every admin command passes before its own (R130, R133, R248): its queue serves it, its submitter is not quiesced,
its authority, the few commands of RECOVERY (R320), its reserved fields from dword n on. -/
def adm (s : State) (o : Owner) (e : List Word) (mgrOnly : Bool) (n : Nat) (f : State → State) : State :=
  let st := (instAt s (ownerKey o)).state
  if !admReady s o then s
  else if o != .mgr && (st == 2 || st == 3) then done s o e 0xD 0 0 0
  else if o != .mgr && (mgrOnly || aBehalf e) then bad s o e dAuthority
  else if mode s == 6 && !(decide (0x60 ≤ aOp e) && decide (aOp e ≤ 0x64)) then bad s o e dState
  else if aHeadReserved e || aTail e n then bad s o e dField
  else f s

/-- The answer of another chip to a command (R131, R133; assumption 18): a status and its detail, which are free values, and on SUCCESS
RESULT0 as the command shapes it and what the head records. -/
def farAnswer (s : State) (o : Owner) (e : List Word) (res : Word → Word) (f : State → Word → State) : State :=
  let st := bits (freeNow s) 0 4
  let d := bits (freeNow s) 4 8
  let s1 := freeStep s
  let r0 := if st == 0 then res (freeNow s1) else freeNow s1
  let s2 := freeStep s1
  let r1 := freeNow s2
  let s3 := freeStep s2
  done (if st == 0 then f s3 r0 else s3) o e st (if st == 0 then 0 else d) r0 r1

/-- A command carried to the chip that it names (R133). -/
def forwardCmd (s : State) (pos : Nat) (o : Owner) (e : List Word) : State := emit s (.adminForward (BitVec.ofNat 6 pos) o e)

/-- A command that runs on another chip until it answers (R137, R319). -/
def waitFar (s : State) (o : Owner) (e : List Word) (pos : Nat) : State :=
  if !reachable s pos then bad s o e dUnreachable
  else { forwardCmd s pos o e with que := { (forwardCmd s pos o e).que with far := s.que.far ++ [(o, e, pos)] } }

/-- A command that names an object of another chip (R133): UNREACHABLE, or carried there and answered. -/
def elsewhere (s : State) (o : Owner) (e : List Word) (pos : Nat) (res : Word → Word) (f : State → Word → State) : State :=
  if !reachable s pos then bad s o e dUnreachable else farAnswer (forwardCmd s pos o e) o e res f

/-- A command for an object at a position: here, or elsewhere. -/
def atPos (s : State) (o : Owner) (e : List Word) (pos : Nat) (here : State → State) : State :=
  if pos == ownPos s then here s else elsewhere s o e pos id (fun s _ => s)

/-! ### Endpoint contexts of other chips, at the head -/

/-- The key of an endpoint context of another chip. -/
def farKey (w : Word) : Nat := epPos w * 8192 + epCtx w
/-- An endpoint context of another chip. -/
def farAt (s : State) (w : Word) : Option FarEp := look s.ctx.far (farKey w)
/-- It replaced or made. -/
def setFar (s : State) (k : Nat) (x : FarEp) : State := { s with ctx := { s.ctx with far := put s.ctx.far k x } }
/-- An endpoint context of another chip put through a function. -/
def updFar (s : State) (w : Word) (f : Ep → Ep) : State :=
  match farAt s w with | some x => setFar s (farKey w) { x with ep := f x.ep } | none => s

/-- A command on an endpoint that EPREF names (R130, R133, R246). -/
def onEp (s : State) (o : Owner) (e : List Word) (w : Word) (f : State → Nat → Ep → State) : State :=
  if epBad w then bad s o e dField
  else atPos s o e (epPos w) (fun s =>
    match epAt s (epCtx w) with
    | none => bad s o e dNotFound
    | some x => if acting o e != .mgr && acting o e != x.owner then bad s o e dNotOwner else f s (epCtx w) x)

/-- A command of the head's on an endpoint of another chip that EPREF names (R130, R133, R246): the head knows what is bound there. -/
def onFar (s : State) (o : Owner) (e : List Word) (w : Word) (f : State → FarEp → State) : State :=
  if !reachable s (epPos w) then bad s o e dUnreachable
  else match farAt s w with
    | none => bad s o e dNotFound
    | some x => if acting o e != .mgr && acting o e != x.ep.owner then bad s o e dNotOwner else f s x

/-- An EPREF names an endpoint of another chip. -/
def isFar (s : State) (w : Word) : Bool := !epBad w && epPos w != ownPos s

/-- The owner of a root port (R245). -/
def portOwner (s : State) (p : Nat) : Owner :=
  if prf s p PRT_STATE_OWNED == 1 then .inst (BitVec.ofNat 10 (prf s p PRT_STATE_OWNER)) else .mgr

/-- A tenant, or a command for one, acts on a port that it owns; the manager on any (R246). -/
def mayPort (s : State) (o : Owner) (e : List Word) (p : Nat) : Bool := acting o e == .mgr || acting o e == portOwner s p

/-! ### Use and quota (R246) -/

/-- TQs and CQs that an owner holds: on a member, those here. -/
def queuesHeld (s : State) (o : Owner) : Nat :=
  if isMember s then (s.que.tqs.filter (fun t => decide (t.2.owner = o))).length + (s.que.cqs.filter (fun c => decide (c.2.owner = o))).length
  else (s.que.refs.filter (fun r => r.1 / 2048 == ownerKey o)).length

/-- Endpoint contexts that an owner holds. -/
def epsHeld (s : State) (o : Owner) : Nat :=
  (s.ctx.eps.filter (fun p => decide (p.2.owner = o))).length + (s.ctx.far.filter (fun p => decide (p.2.ep.owner = o))).length

/-- Queues allowed: above 1,536 is read as 1,536; the manager has the whole number space (R84, R104). -/
def queueQuota (s : State) (o : Owner) : Nat :=
  match o with | .mgr => 1536 | .inst _ => min 1536 (bits (instAt s (ownerKey o)).quota 0 11)

/-- Endpoint contexts allowed. -/
def epQuota (s : State) (o : Owner) : Nat :=
  match o with | .mgr => 524288 | .inst _ => bits (instAt s (ownerKey o)).quota 12 20

/-- The lowest free queue number of an owner (R84, R104). A member is given it by the head, which knows the owner's numbers on every
chip: a free value among the numbers that the owner has not in use here (assumption 18). -/
def freeQueue (s : State) (o : Owner) : Option Nat :=
  let first := if isMember s then bits (freeNow s) 0 11 else 0
  ((List.range 1536).map (fun k => (first + k) % 1536)).find? (fun q => (refAt s o q).isNone)

/-- A member that was given a queue number takes its next free value for the next one. -/
def drawn (s : State) : State := if isMember s then freeStep s else s

end Sys2Proof.Machine
end

