-- ==== Sys2Proof/Machine/Admission.lean ====
section
/-!
DEFINITION. Admission (R164 to R166, R196): the costs of a reservation, the loads that the admitted ones make, and the grant of
RESERVE_BW.
-/
namespace Sys2Proof.Machine

/-- The charge of a service to its TT (R164): as on a root port of the device's speed. -/
def ttCharge (s : State) (w : Want) : Nat :=
  match epDev s w.e with
  | some d => svcCost d.speed (isIsoc w.e) w.bytes (max w.e.mps 1)
  | none => 0

/-- The reservations in force beside an endpoint's own. -/
def admitted (s : State) (but : Nat) : List Want :=
  s.ctx.eps.filterMap (fun p => match p.2.rsv with
    | some r => if p.1 != but && r.gone.isNone then some ⟨p.2, r.bytes, r.phase⟩ else none
    | none => none)

/-- Two endpoints share a TT (R164). -/
def sameTt (s : State) (a b : Ep) : Bool :=
  match epDev s a, epDev s b with
  | some x, some y => x.ttHub != 0 && y.ttHub != 0 && ttOf x == ttOf y
  | _, _ => false

/-- The service microframes of a want over one period of everything admitted, 2^15 at most (R146). -/
def services (w : Want) (ws : List Want) : List Nat :=
  let k := (w :: ws).foldl (fun m x => max m x.e.log2i) 0
  (List.range (2 ^ (k - w.e.log2i))).map (fun j => w.phase + j * 2 ^ w.e.log2i)

/-- The load on a want's root port at the microframes that it charges, itself among them (R164). -/
def portLoads (s : State) (w : Want) (ws : List Want) : List Nat :=
  let on := ws.filter (fun x => epPort s x.e == epPort s w.e)
  (services w on).flatMap (fun n => (portCharges s w).map (fun p =>
    (w :: on).foldl (fun m x => m + portChargeAt s x (n + p.1)) 0))

/-- The load on a want's TT in the frames of its services. -/
def ttLoads (s : State) (w : Want) (ws : List Want) : List Nat :=
  let on := ws.filter (fun x => sameTt s x.e w.e)
  (services w on).map (fun n =>
    (w :: on).foldl (fun m x => if serves x.e.log2i x.phase n then m + ttCharge s x else m) 0)

/-- The sum over the chip in a want's service microframes of a cost by bytes (R166). -/
def chipLoads (cost : Nat → Nat) (w : Want) (ws : List Want) : List Nat :=
  (services w ws).map (fun n =>
    (w :: ws).foldl (fun m x => if serves x.e.log2i x.phase n then m + cost x.bytes else m) 0)

/-- Every load is within a limit. -/
def within (l : List Nat) (lim : Nat) : Bool := l.all (fun x => decide (x ≤ lim))

/-- A share of PLN_SHARE in percent: above 100 it is read as 100. -/
def share (s : State) (f : Fld) : Nat := min 100 (rf s pPln f)

/-- The links by which a cell goes from a position to another, each by the position that it leaves and its ring (R26, R65). -/
def walkLinks (turn : Nat → Bool → Bool) (dst : Nat) : Nat → Nat → Bool → List (Nat × Bool)
  | 0, _, _ => []
  | n + 1, p, ringB =>
    if turn p ringB then walkLinks turn dst n p (!ringB)
    else
      let q := if ringB then (p + 63) % 64 else (p + 1) % 64
      if q == dst then [(p, ringB)] else (p, ringB) :: walkLinks turn dst n q ringB

/-- The links of the path from a position to the head that R26 chooses. -/
def linksToHead (s : State) (p : Nat) : List (Nat × Bool) :=
  walkLinks (turned s) 0 132 p (decide (hopsFrom s p 0 true < hopsFrom s p 0 false))

/-- The reservations of other chips but one, with their positions (R166). -/
def farWants (s : State) (but : Nat) : List (Nat × Want) :=
  s.ctx.far.filterMap (fun p => match p.2.ep.rsv with
    | some r => if p.1 != but then some (p.1 / 8192, ⟨p.2.ep, r.bytes, r.phase⟩) else none
    | none => none)

/-- R166's check of the head: with a want of a position, the cells of every link of its path stay within LINK_RING_PCT. -/
def linksHold (s : State) (key pos : Nat) (w : Want) : Bool :=
  let ws := (farWants s key).map (fun p => (linksToHead s p.1, p.2))
  (linksToHead s pos).all (fun l =>
    let on := (ws.filter (fun p => p.1.contains l)).map (·.2)
    within (chipLoads (fun b => 100 * ceilDiv b 64) w on) (share s PLN_SHARE_LINK_RING_PCT * 21306))

/-- The first check of R164 and R166 that a want fails, by its detail; the head checks the links of the ring (linksHold). -/
def refusal (s : State) (w : Want) (ws : List Want) : Option Nat :=
  if !within (portLoads s w ws) (portBudget (portKind s w.e)) then some dPortBudget
  else if viaTt s w.e && !within (ttLoads s w ws) 1350 then some dTtBudget
  else if !within (chipLoads (fun b => 100 * (128 * ceilDiv b 64)) w ws) (share s PLN_SHARE_EBM_PCT * 64000000) then some dChipShare
  else if isMember s && !within (chipLoads (fun b => 100 * ceilDiv b 64) w ws) (share s PLN_SHARE_CHIP_RING_PCT * 21306) then
    some dChipShare
  else none

/-- The worst load on the port of a want. -/
def worstLoad (s : State) (w : Want) (ws : List Want) : Nat := (portLoads s w ws).foldl max 0

/-- A full- or low-speed device: its services begin with a frame (R164). -/
def slowDev (s : State) (e : Ep) : Bool := match epDev s e with | some d => decide (d.speed < 2) | none => false

/-- The phases that a request with 0xFFFF tries, best first (R165). -/
def ranked (s : State) (e : Ep) (bytes : Nat) (ws : List Want) : List Nat :=
  let step := if slowDev s e then 8 else 1
  let ps := (List.range (2 ^ e.log2i / step)).map (fun j => (j * step, worstLoad s ⟨e, bytes, j * step⟩ ws))
  (ps.mergeSort (fun a b => decide (a.2 ≤ b.2))).map (·.1)

/-- The grant of a request (R165): a phase, or the detail of its refusal. -/
def grant (s : State) (e : Ep) (bytes phase : Nat) (ws : List Want) : Except Nat Nat :=
  if phase = 0xFFFF then
    let ps := ranked s e bytes ws
    match ps.find? (fun p => (refusal s ⟨e, bytes, p⟩ ws).isNone) with
    | some p => .ok p
    | none =>
      match ps with
      | p :: _ => .error ((refusal s ⟨e, bytes, p⟩ ws).getD dPortBudget)
      | [] => .error dPortBudget
  else match refusal s ⟨e, bytes, phase⟩ ws with
    | some d => .error d
    | none => .ok phase

/-- The fields of RESERVE_BW (R164, R165, R212); `slow` says that the device runs at full or low speed. -/
def reserveBad (slow : Bool) (e : Ep) (bytes phase : Nat) : Bool :=
  bytes == 0 || decide (e.mps * (e.burst + 1) * (e.mult + 1) < bytes) || decide (clsSize e.cls < bytes) || !isPer e
    || (phase != 0xFFFF && decide (2 ^ e.log2i ≤ phase))
    || (slow && (decide (e.log2i < 3) || (phase != 0xFFFF && phase % 8 != 0)))

/-- The number of the last plan that has opened, or of the current microframe when none has (R148). -/
def lastOpen (s : State) : Nat :=
  if s.pln.plans.isEmpty then s.clk.uframe.toNat else s.pln.lastPlan

/-- An endpoint leaves its cohort with the last plan that is open (R170). -/
def leaveCohort (s : State) (n : Option Nat) (c : Nat) : State :=
  { s with pln := { s.pln with cohorts := s.pln.cohorts.map (fun k =>
      if n == some k.1 then (k.1, { k.2 with leaving := k.2.leaving ++ [(c, lastOpen s)] }) else k) } }

/-- A reservation ends (R148, R170): its PSE leaves the wheel, its last service is in the last plan open, and its endpoint leaves its
cohort. -/
def releaseRsv (s : State) (c : Nat) : State :=
  match epAt s c with
  | none => s
  | some e =>
    match e.rsv with
    | none => s
    | some r =>
      if r.gone.isSome then s
      else leaveCohort (dropPse (setEp s c { e with rsv := some { r with gone := some (lastOpen s) }, cohort := none }) c e r.phase) e.cohort c

end Sys2Proof.Machine
end

