-- ==== Sys2Proof/Machine/AdminCohorts.lean ====
section
/-!
DEFINITION. FORM_COHORT, DISSOLVE_COHORT and a reserved opcode (R133, R168, R170).
-/
namespace Sys2Proof.Machine

/-- An endpoint that EPREF names, here or, as the head knows it, on another chip, with its device. -/
def memberAt (s : State) (w : Word) : Option FarEp :=
  if epPos w == ownPos s then
    (match epAt s (epCtx w) with
     | some e => (devAt s e.dev).map (fun d => ⟨e, d⟩)
     | none => none)
  else farAt s w

/-- A member is an isochronous endpoint that holds a reservation, at high speed or SuperSpeed and not behind a TT (R168). -/
def memberOk (x : FarEp) : Bool :=
  isIsoc x.ep && (match x.ep.rsv with | some r => r.gone.isNone | none => false) && decide (2 ≤ x.dev.speed) && x.dev.ttHub == 0

/-- All the values of a list are equal. -/
def allSame {α : Type} [DecidableEq α] (l : List α) : Bool :=
  match l with | [] => true | a :: t => t.all (fun b => decide (a = b))

/-- No value stands twice in a list. -/
def allDiffer : List Nat → Bool
  | [] => true
  | a :: t => !t.contains a && allDiffer t

/-- The first condition of R168 that members fail, by its detail; the start is judged against the microframe in which the
command is read. -/
def cohortRefusal (s : State) (a : Owner) (ws : List Word) (start : Nat) : Option Nat :=
  let ms := ws.filterMap (memberAt s)
  let phase (x : FarEp) : Nat := (x.ep.rsv.map (·.phase)).getD 0
  if ms.length != ws.length then some dNotFound
  else if !ms.all memberOk then some dField
  else if !allSame (ms.map (·.ep.log2i)) || !allSame (ms.map phase) then some dField
  else if !allDiffer ((ws.zip ms).map (fun p => epPos p.1 * 512 + p.2.dev.port)) then some dField
  else if ms.any (·.ep.cohort.isSome) then some dField
  else if a != .mgr && ms.any (fun x => x.ep.owner != a) then some dNotOwner
  else match ms with
    | x :: _ => if serves x.ep.log2i (phase x) start && decide (9 ≤ ufDiff start s.clk.uframe.toNat) then none else some dField
    | [] => none

/-- The members' bytes per service. -/
def cohortBytes (s : State) (ws : List Word) : Nat :=
  (ws.filterMap (fun w => epAt s (epCtx w))).foldl (fun n x => n + (x.rsv.map (·.bytes)).getD 0) 0

/-- The lowest free cohort number (R168); a member chip is given it by the head (assumption 18). -/
def freeCohort (s : State) : Option Nat :=
  if isMember s then some (bits (freeNow s) 0 12) else tabFree s.pln.cohorts 4096 0

/-- The cohort takes its number, its members and its start (R168). -/
def makeCohort (s : State) (a : Owner) (n : Nat) (here far : List Word) (start : Nat) : State :=
  let cs := here.map epCtx
  let s1 := each cs { s with pln := { s.pln with cohorts := put s.pln.cohorts n ⟨a, cs, [], (far.map epPos).eraseDups, start, none⟩ } }
    (fun s c => updEp s c (fun x => { x with cohort := some n }))
  each far s1 (fun s w => updFar s w (fun x => { x with cohort := some n }))

/-- FORM_COHORT with members on other chips (R133, R168): it is carried to each of them, and takes effect on every chip or on none. Whether
their own PLN_COHORT_CAP, the one condition left, admits it is a free value (assumption 18). -/
def cohortFar (s : State) (o : Owner) (e : List Word) (n : Nat) (here far : List Word) (start : Nat) : State :=
  let s1 := each (far.map epPos).eraseDups s (fun s p => forwardCmd s p o e)
  if bits (freeNow s1) 0 1 == 0 then good (makeCohort (freeStep s1) (acting o e) n here far start) o e n 0
  else noBw (freeStep s1) o e dChipShare

/-- FORM_COHORT, opcode 0x70 (R168); a member chip judges its own members, and the head all of them; `d` is the array of EPREF dwords read from host memory. -/
def execFormCohort (o : Owner) (e : List Word) (d : List Word) (s : State) : Host.Outcome State Fault Refusal :=
  .next (adm s o e false 6 (fun s0 =>
    let a := acting o e
    let count := bits (dw e 4) 0 11
    let start := (dw e 5).toNat
    let s := hostRead s0 o (join64 (dw e 2) (dw e 3)) (4 * count)
    let here := d.filter (fun w => epPos w == ownPos s)
    let far := d.filter (fun w => epPos w != ownPos s)
    if bits (dw e 4) 11 21 != 0 || count < 2 || decide (1024 < count) || d.length != count || d.any epBad then bad s0 o e dField
    else if far.any (fun w => !reachable s (epPos w)) then bad s o e dUnreachable
    else match cohortRefusal s a (if isMember s then here else d) start with
      | some k => bad s o e k
      | none =>
        if rf s pPln PLN_COHORT_CAP_BYTES < cohortBytes s here then noBw s o e dChipShare
        else match freeCohort s with
          | none => bad s o e dNoResource
          | some n =>
            if far.isEmpty || isMember s then good (makeCohort s a n here [] start) o e n 0 else cohortFar s o e n here far start))

/-- DISSOLVE_COHORT, opcode 0x71 (R170). -/
def execDissolveCohort (o : Owner) (e : List Word) (s : State) : Host.Outcome State Fault Refusal :=
  .next (adm s o e false 3 (fun s =>
    let n := bits (dw e 2) 0 12
    let a := acting o e
    if bits (dw e 2) 12 20 != 0 then bad s o e dField
    else match look s.pln.cohorts n with
      | none => bad s o e dNotFound
      | some k =>
        if k.last.isSome then bad s o e dNotFound
        else if a != .mgr && a != k.owner then bad s o e dNotOwner
        else
          let s1 := { s with pln := { s.pln with cohorts := put s.pln.cohorts n { k with last := some (lastOpen s) } } }
          let s2 := each k.members s1 (fun s c => updEp s c (fun x => if x.cohort == some n then { x with cohort := none } else x))
          let s3 := { s2 with ctx := { s2.ctx with far := s2.ctx.far.map (fun p =>
            if p.2.ep.cohort == some n then (p.1, { p.2 with ep := { p.2.ep with cohort := none } }) else p) } }
          good (each k.far s3 (fun s p => if reachable s p then forwardCmd s p o e else s)) o e 0 0))

/-- An AQ entry with an opcode that R133 does not list. -/
def execReservedOpcode (o : Owner) (e : List Word) (s : State) : Host.Outcome State Fault Refusal :=
  .next (if !admReady s o then s
    else if o != .mgr && ((instAt s (ownerKey o)).state == 2 || (instAt s (ownerKey o)).state == 3) then done s o e 0xD 0 0 0
    else if mode s == 6 then bad s o e dState
    else bad s o e dOpcode)

end Sys2Proof.Machine
end

