-- ==== Sys2Proof/Machine/AdminEndpoints.lean ====
section
/-!
DEFINITION. The admin commands on endpoints: BIND_ENDPOINT to RELEASE_BW (R133, R164 to R167, R188, R189, R210, R246).
-/
namespace Sys2Proof.Machine

/-! ### The fields of BIND_ENDPOINT (R133, R188) -/

/-- NEW_DEV. -/
def bNew (e : List Word) : Bool := bit (dw e 2) 15
/-- The device handle. -/
def bHandle (e : List Word) : Nat := bits (dw e 2) 16 11
/-- The USB address. -/
def bAddr (e : List Word) : Nat := bits (dw e 3) 0 7
/-- The route string. -/
def bRoute (e : List Word) : BitVec 20 := BitVec.ofNat 20 (bits (dw e 3) 7 20)
/-- The speed. -/
def bSpeed (e : List Word) : Nat := bits (dw e 3) 27 3
/-- The endpoint number. -/
def bNum (e : List Word) : Nat := bits (dw e 4) 0 4
/-- DIR_IN. -/
def bIn (e : List Word) : Bool := bit (dw e 4) 4
/-- The type: 0 control, 1 isochronous, 2 bulk, 3 interrupt. -/
def bType (e : List Word) : Nat := bits (dw e 4) 5 2
/-- The maximum packet size. -/
def bMps (e : List Word) : Nat := bits (dw e 4) 8 11
/-- Burst. -/
def bBurst (e : List Word) : Nat := bits (dw e 4) 19 4
/-- Mult. -/
def bMult (e : List Word) : Nat := bits (dw e 4) 23 2
/-- log2 of the interval. -/
def bLog2 (e : List Word) : Nat := bits (dw e 4) 25 4
/-- The size class. -/
def bCls (e : List Word) : Nat := bits (dw e 5) 0 4
/-- TT hub address. -/
def bTtHub (e : List Word) : Nat := bits (dw e 5) 4 7
/-- TT port. -/
def bTtPort (e : List Word) : Nat := bits (dw e 5) 11 7
/-- Multi-TT. -/
def bMulti (e : List Word) : Bool := bit (dw e 5) 18

/-- Burst and mult are in their ranges (R188). -/
def burstOk (e : List Word) : Bool :=
  let ss := decide (3 ≤ bSpeed e)
  (ss || bBurst e == 0) && (!(ss && bType e == 3) || decide (bBurst e ≤ 2)) && bMult e != 3
    && (bMult e == 0 || (bSpeed e == 2 && (bType e == 1 || bType e == 3)) || (ss && bType e == 1))

/-- The fields of BIND_ENDPOINT that need no look at the port. -/
def bindForm (e : List Word) : Bool :=
  bits (dw e 2) 27 5 == 0 && bits (dw e 3) 30 2 == 0 && !bit (dw e 4) 7 && bits (dw e 4) 29 3 == 0 && bits (dw e 5) 19 13 == 0
    && decide (bSpeed e ≤ 4) && decide (bCls e ≤ 8) && routeOk (bRoute e) && burstOk e

/-- The port carries the speed, and the TT fields fit it (R188). -/
def bindFits (s : State) (p : Nat) (e : List Word) : Bool :=
  let sp := speedOf s p
  (bSpeed e < 2 || bSpeed e == sp)
    && (if bSpeed e < 2 && sp == 2 then bTtHub e != 0 && bTtPort e != 0 else bTtHub e == 0 && bTtPort e == 0)

/-- The endpoint number and direction are bound on a device already; a control endpoint takes both directions (R188). -/
def numTaken (s : State) (h : Nat) (e : List Word) : Bool :=
  s.ctx.eps.any (fun p => p.2.dev == h && p.2.num == bNum e && (p.2.typ == 0 || bType e == 0 || p.2.dirIn == bIn e))

/-- A new device context (R188). -/
def newDev (o : Owner) (p : Nat) (e : List Word) : Dev where
  port := p
  addr := BitVec.ofNat 7 (bAddr e)
  route := bRoute e
  speed := bSpeed e
  ttHub := bTtHub e
  ttPort := bTtPort e
  multi := bMulti e
  gone := false
  cause := none
  fails := 0
  owner := o

/-- A new endpoint context (R188, R211): toggle 0, no halt, an empty buffer. -/
def newEp (o : Owner) (h buf : Nat) (e : List Word) : Ep where
  dev := h
  owner := o
  num := bNum e
  dirIn := bIn e
  typ := bType e
  mps := bMps e
  burst := bBurst e
  mult := bMult e
  log2i := bLog2 e
  cls := bCls e
  buf := buf
  head := buf
  fill := 0
  halt := false
  toggle := 0
  rsv := none
  old := []
  cohort := none
  tq := none
  planned := []
  work := none
  splitFails := 0
  peerFree := none
  unreported := 0
  lost := none

/-- A device handle for a bind: the one named, or the lowest free one of 2,048; none when they are exhausted. -/
def bindHandle (s : State) (e : List Word) : Option Nat := if bNew e then tabFree s.ctx.devs 2048 0 else some (bHandle e)

/-- The contexts and the buffer of a bind whose checks have passed (R188, R210). -/
def bindMake (s : State) (o : Owner) (e : List Word) (p h : Nat) : State :=
  let a := acting o e
  match tabFree s.ctx.eps 8192 0, allocBuf s.ctx (bCls e) with
  | some c, some (buf, x) =>
    let s1 := { s with ctx := x }
    let s2 := if bNew e then setDev s1 h (newDev a p e) else s1
    good (noteFree (setEp s2 c (newEp a h buf e))) o e (c + h * 2 ^ 16) 0
  | _, _ => bad s o e dNoResource

/-- BIND_ENDPOINT on a port here (R188, R246). -/
def bindHere (s : State) (o : Owner) (e : List Word) (p : Nat) : State :=
  let same (d : Dev) : Bool := d.addr.toNat == bAddr e && d.route == bRoute e && d.speed == bSpeed e
  if !mayPort s o e p then bad s o e dNotOwner
  else if !bindFits s p e then bad s o e dField
  else
    match (if bNew e then none else devAt s (bHandle e)) with
    | none =>
      if !bNew e then bad s o e dNotFound
      else if (devsOn s p).any (fun h => (devAt s h).any (fun d => d.addr.toNat == bAddr e)) then bad s o e dField
      else if epQuota s (acting o e) ≤ epsHeld s (acting o e) then bad s o e dNoResource
      else match bindHandle s e with
        | some h => bindMake s o e p h
        | none => bad s o e dNoResource
    | some d =>
      if d.port != p then bad s o e dNotFound
      else if !same d || numTaken s (bHandle e) e then bad s o e dField
      else if epQuota s (acting o e) ≤ epsHeld s (acting o e) then bad s o e dNoResource
      else bindMake s o e p (bHandle e)

/-- BIND_ENDPOINT on a port of another chip, which draws the context and the handle (R133, R188, R246). -/
def bindFar (s : State) (o : Owner) (e : List Word) (pos : Nat) : State :=
  let a := acting o e
  if !reachable s pos then bad s o e dUnreachable
  else if epQuota s a ≤ epsHeld s a then bad s o e dNoResource
  else elsewhere s o e pos (fun w => BitVec.ofNat 32 (bits w 0 13 + (if bNew e then bits w 16 11 else bHandle e) * 2 ^ 16)) (fun s r0 =>
    setFar s (pos * 8192 + bits r0 0 13) ⟨newEp a (bits r0 16 11) 0 e, newDev a (gpPort (dw e 2)) e⟩)

/-- BIND_ENDPOINT, opcode 0x10. -/
def execBindEndpoint (o : Owner) (e : List Word) (s : State) : Host.Outcome State Fault Refusal :=
  .next (adm s o e false 6 (fun s =>
    if !bindForm e then bad s o e dField
    else if gpPos (dw e 2) == ownPos s then bindHere s o e (gpPort (dw e 2))
    else bindFar s o e (gpPos (dw e 2))))

/-- An endpoint context goes, with its reservation, its cohort membership and its buffer, and its device context with the last one
(R189). -/
def unbind (s : State) (c : Nat) : State :=
  match epAt s c with
  | none => s
  | some e =>
    let s1 := releaseRsv s c
    let s2 := { s1 with
      ctx := { s1.ctx with eps := tabDel s1.ctx.eps c }
      pln := { s1.pln with
        cohorts := s1.pln.cohorts.map (fun k => (k.1, { k.2 with members := k.2.members.filter (· != c) }))
        spill := s1.pln.spill.filter (·.1 != c), deferred := s1.pln.deferred.filter (· != c) } }
    let s3 := releaseBuf s2 e
    if s3.ctx.eps.any (fun p => p.2.dev == e.dev) then s3
    else { s3 with ctx := { s3.ctx with devs := tabDel s3.ctx.devs e.dev } }

/-- UNBIND_ENDPOINT, opcode 0x11 (R189). -/
def execUnbindEndpoint (o : Owner) (e : List Word) (s : State) : Host.Outcome State Fault Refusal :=
  .next (adm s o e false 3 (fun s =>
    if isFar s (dw e 2) then
      onFar s o e (dw e 2) (fun s x =>
        if x.ep.tq.isSome then bad s o e dInUse
        else elsewhere s o e (epPos (dw e 2)) id (fun s _ =>
          { s with ctx := { s.ctx with far := tabDel s.ctx.far (farKey (dw e 2)) } }))
    else onEp s o e (dw e 2) (fun s c x => if x.tq.isSome then bad s o e dInUse else good (unbind s c) o e 0 0)))

/-- An endpoint whose reservation is replaced stays a member of its cohort: the spec does not say (DESIGN CHOICE, assumption 81). -/
def stayMember (l : Tab Cohort) (n : Option Nat) (c : Nat) : Tab Cohort :=
  l.map (fun k => if n == some k.1 then (k.1, { k.2 with leaving := k.2.leaving.filter (·.1 != c) }) else k)

/-- RESERVE_BW on an endpoint here (R143, R164 to R166). -/
def reserveHere (s : State) (o : Owner) (e : List Word) (c : Nat) (x : Ep) : State :=
  let bytes := bits (dw e 3) 0 16
  let phase := bits (dw e 3) 16 16
  if reserveBad (slowDev s x) x bytes phase then bad s o e dField
  else if wheelBase s == 0 then noBw s o e dChipShare
  else
    let ws := admitted s c
    match grant s x bytes phase ws with
    | .error d => noBw s o e d
    | .ok p =>
      let s1 := releaseRsv s c
      let s2 := addPse (updEp s1 c (fun y => { y with
        rsv := some ⟨bytes, p, ufAdd (lastOpen s) 1, none⟩, old := y.old ++ y.rsv.toList, cohort := x.cohort })) c x p
      let s2 := { s2 with pln := { s2.pln with cohorts := stayMember s2.pln.cohorts x.cohort c } }
      good s2 o e p (portBudget (portKind s x) - worstLoad s ⟨x, bytes, p⟩ ws)

/-- RESERVE_BW for an endpoint of another chip (R164 to R166): the head refuses what the endpoint's own figures refuse, and checks every
link of the way to itself; what the chip makes of its port, the TT and its share is a free value, as are the phase it grants among those
that the links hold and the budget left (assumption 18). -/
def reserveFar (s : State) (o : Owner) (e : List Word) : State :=
  let bytes := bits (dw e 3) 0 16
  let phase := bits (dw e 3) 16 16
  onFar s o e (dw e 2) (fun s x =>
    let slow := decide (x.dev.speed < 2)
    if reserveBad slow x.ep bytes phase then bad s o e dField
    else
      let ps := (if phase == 0xFFFF then (List.range (2 ^ x.ep.log2i)).filter (fun p => !slow || p % 8 == 0) else [phase]).filter (fun p =>
        linksHold s (farKey (dw e 2)) (epPos (dw e 2)) ⟨x.ep, bytes, p⟩)
      let s1 := forwardCmd s (epPos (dw e 2)) o e
      let left := freeNow (freeStep s1)
      let s2 := freeStep (freeStep s1)
      let p := ps.getD (bits (freeNow s1) 8 24 % ps.length) 0
      match ps.isEmpty || bit (freeNow s1) 0, bits (freeNow s1) 1 2 with
      | false, _ => good (updFar s2 (dw e 2) (fun y => { y with rsv := some ⟨bytes, p, 0, none⟩ })) o e p (bits left 0 24)
      | true, 0 => noBw s2 o e dPortBudget
      | true, 1 => noBw s2 o e (if x.dev.ttHub == 0 then dPortBudget else dTtBudget)
      | true, _ => noBw s2 o e dChipShare)

/-- RESERVE_BW, opcode 0x20. -/
def execReserveBw (o : Owner) (e : List Word) (s : State) : Host.Outcome State Fault Refusal :=
  .next (adm s o e false 4 (fun s =>
    if isFar s (dw e 2) then reserveFar s o e else onEp s o e (dw e 2) (fun s c x => reserveHere s o e c x)))

/-- RELEASE_BW, opcode 0x21 (R167, R170): SUCCESS with no effect where there is no reservation. -/
def execReleaseBw (o : Owner) (e : List Word) (s : State) : Host.Outcome State Fault Refusal :=
  .next (adm s o e false 3 (fun s =>
    if isFar s (dw e 2) then
      onFar s o e (dw e 2) (fun s _ => elsewhere s o e (epPos (dw e 2)) id (fun s _ =>
        updFar s (dw e 2) (fun y => { y with rsv := none, cohort := none })))
    else onEp s o e (dw e 2) (fun s c _ => good (releaseRsv s c) o e 0 0)))

end Sys2Proof.Machine
end

