-- ==== Sys2Proof/Machine/AdminPorts.lean ====
section
/-!
DEFINITION. The admin commands on root ports and votes: SET_PORT in its forms, GET_PORT, GET_TOPOLOGY, SET_VOTE and CLEAR_VOTE
(R133, R178 to R182, R202, R245, R265).
-/
namespace Sys2Proof.Machine

/-- ACTION of SET_PORT. -/
def pAction (e : List Word) : Nat := bits (dw e 3) 0 4
/-- SET_OWNER. -/
def pSetOwner (e : List Word) : Bool := bit (dw e 3) 8
/-- NO_OWNER. -/
def pNoOwner (e : List Word) : Bool := bit (dw e 3) 9
/-- OWNER. -/
def pOwner (e : List Word) : BitVec 10 := BitVec.ofNat 10 (bits (dw e 3) 10 10)

/-- PARAM is in range for an action (R179): its reserved bits are 0. -/
def paramOk (act : Nat) (w : Word) : Bool :=
  match act with
  | 3 => bits w 1 31 == 0
  | 7 => bits w 1 3 == 0 && bits w 10 6 == 0 && decide (1 ≤ bits w 16 8) && decide (bits w 16 8 ≤ 127)
      && decide (1 ≤ bits w 24 8) && decide (bits w 24 8 ≤ 254)
  | 8 => decide (1 ≤ w.toNat) && decide (w.toNat ≤ 5)
  | _ => w == 0

/-- The fields of SET_PORT (R179, R180). -/
def setPortForm (e : List Word) : Bool :=
  bits (dw e 2) 15 17 == 0 && bits (dw e 3) 4 4 == 0 && bits (dw e 3) 20 12 == 0 && decide (pAction e ≤ 8)
    && !(pSetOwner e && pNoOwner e) && paramOk (pAction e) (dw e 4)

/-- The states in which an action is allowed (R178, R179, R202). -/
def actionOk (s : State) (p act : Nat) : Bool :=
  let st := portState s p
  (mode s != 0 || act == 0 || act == 1 || act == 2 || act == 7) &&
  match act with
  | 1 => st == 0
  | 3 => (st == 2 && prf s p PRT_STATE_TEST == 0) || st == 3 || st == 6
  | 4 => st == 3
  | 5 => st == 3
  | 6 => st == 4 || st == 6
  | 8 => st == 2
  | _ => true

/-- The action of SET_PORT (R177 to R179, R199, R202). -/
def portAct (s : State) (p act : Nat) (w : Word) : State :=
  match act with
  | 1 => powerOn s p
  | 2 => portOff s p none
  | 3 => if portState s p == 6 then setPort s p { portAt s p with resetWaits := some w } else startReset s p (bit w 0)
  | 4 => disablePort s p none
  | 5 => suspendPort s p
  | 6 => if portState s p == 4 then startResume s p false else s
  | 7 => wr s (adr (cluPage p) (pfld p PRT_LPM_L1_EN).off) w
  | 8 => emit (noteLink (pwf s p PRT_STATE_TEST 1) p) (.portTest p (bits w 0 3))
  | _ => s

/-- A new owner of a port (R180, R245). -/
def ownPort (s : State) (p : Nat) (o : Owner) : State :=
  match o with
  | .mgr => pwf (pwf s p PRT_STATE_OWNED 0) p PRT_STATE_OWNER 0
  | .inst i => pwf (pwf s p PRT_STATE_OWNED 1) p PRT_STATE_OWNER i.toNat

/-- The owner that SET_PORT leaves (R180). -/
def newOwner (s : State) (p : Nat) (e : List Word) : Owner :=
  if pSetOwner e then .inst (pOwner e) else if pNoOwner e then .mgr else portOwner s p

/-- SET_PORT on a port here (R178 to R180). -/
def setPortHere (s : State) (o : Owner) (e : List Word) (p : Nat) : State :=
  let n := newOwner s p e
  if !mayPort s o e p then bad s o e dNotOwner
  else if !actionOk s p (pAction e) then bad s o e dState
  else if n != portOwner s p && !(devsOn s p).isEmpty then bad s o e dState
  else good (portAct (ownPort s p n) p (pAction e) (dw e 4)) o e 0 0

/-- SET_PORT (R133, R178 to R180): the owner fields are the manager's. -/
def setPortCmd (s : State) (o : Owner) (e : List Word) : State :=
  adm s o e false 5 (fun s =>
    if !setPortForm e then bad s o e dField
    else if (pSetOwner e || pNoOwner e) && o != .mgr then bad s o e dAuthority
    else atPos s o e (gpPos (dw e 2)) (fun s => setPortHere s o e (gpPort (dw e 2))))

/-- SET_PORT with ACTION POWER_ON (R177, R179, R183). -/
def execSetPortPowerOn (o : Owner) (e : List Word) (s : State) : Host.Outcome State Fault Refusal :=
  .next (if pAction e == 1 then setPortCmd s o e else s)

/-- SET_PORT with ACTION POWER_OFF (R177, R179). -/
def execSetPortPowerOff (o : Owner) (e : List Word) (s : State) : Host.Outcome State Fault Refusal :=
  .next (if pAction e == 2 then setPortCmd s o e else s)

/-- SET_PORT with ACTION RESET (R177, R179, R184, R185, R202). -/
def execSetPortReset (o : Owner) (e : List Word) (s : State) : Host.Outcome State Fault Refusal :=
  .next (if pAction e == 3 then setPortCmd s o e else s)

/-- SET_PORT with ACTION DISABLE (R177, R179, R191). -/
def execSetPortDisable (o : Owner) (e : List Word) (s : State) : Host.Outcome State Fault Refusal :=
  .next (if pAction e == 4 then setPortCmd s o e else s)

/-- SET_PORT with ACTION SUSPEND (R177, R179, R199, R202). -/
def execSetPortSuspend (o : Owner) (e : List Word) (s : State) : Host.Outcome State Fault Refusal :=
  .next (if pAction e == 5 then setPortCmd s o e else s)

/-- SET_PORT with ACTION RESUME (R177, R179, R199, R202). -/
def execSetPortResume (o : Owner) (e : List Word) (s : State) : Host.Outcome State Fault Refusal :=
  .next (if pAction e == 6 then setPortCmd s o e else s)

/-- SET_PORT with ACTION SET_LPM (R179, R198, R200). -/
def execSetPortSetLpm (o : Owner) (e : List Word) (s : State) : Host.Outcome State Fault Refusal :=
  .next (if pAction e == 7 then setPortCmd s o e else s)

/-- SET_PORT with ACTION TEST (R179). -/
def execSetPortTest (o : Owner) (e : List Word) (s : State) : Host.Outcome State Fault Refusal :=
  .next (if pAction e == 8 then setPortCmd s o e else s)

/-- SET_PORT with SET_OWNER = 1 and ACTION NONE (R180, R245). -/
def execSetPortSetOwner (o : Owner) (e : List Word) (s : State) : Host.Outcome State Fault Refusal :=
  .next (if pSetOwner e && (pAction e == 0 || decide (8 < pAction e)) then setPortCmd s o e else s)

/-- SET_PORT with ACTION NONE or a reserved one and no SET_OWNER: NO_OWNER = 1 returns the port to the manager (R180, R245). -/
def execSetPortNoOwner (o : Owner) (e : List Word) (s : State) : Host.Outcome State Fault Refusal :=
  .next (if !pSetOwner e && (pAction e == 0 || decide (8 < pAction e)) then setPortCmd s o e else s)

/-- GET_PORT, opcode 0x31 (R181). -/
def execGetPort (o : Owner) (e : List Word) (s : State) : Host.Outcome State Fault Refusal :=
  .next (adm s o e false 3 (fun s =>
    let p := gpPort (dw e 2)
    if bits (dw e 2) 15 17 != 0 then bad s o e dField
    else atPos s o e (gpPos (dw e 2)) (fun s =>
      if !mayPort s o e p then bad s o e dNotOwner
      else good s o e (rd s (adr (cluPage p) (pfld p PRT_STATE_STATE).off)).toNat
        (prf s p PRT_STATE_OWNER + prf s p PRT_STATE_OWNED * 2 ^ 10 + (devsOn s p).length * 2 ^ 16))))

/-- The record of a device context (R182). -/
def topoRecord (s : State) (h : Nat) : List Word :=
  match devAt s h with
  | none => [0, 0, 0, 0]
  | some d =>
    let n := (s.ctx.eps.filter (fun p => p.2.dev == h)).length
    [BitVec.ofNat 32 (h + d.addr.toNat * 2 ^ 11 + d.speed * 2 ^ 18 + b2n d.gone * 2 ^ 21),
     BitVec.ofNat 32 (d.route.toNat + d.ttHub * 2 ^ 20), BitVec.ofNat 32 (d.ttPort + b2n d.multi * 2 ^ 7 + n * 2 ^ 8), 0]

/-- GET_TOPOLOGY, opcode 0x32 (R182). -/
def execGetTopology (o : Owner) (e : List Word) (s : State) : Host.Outcome State Fault Refusal :=
  .next (adm s o e false 6 (fun s =>
    let p := gpPort (dw e 2)
    let len := bits (dw e 5) 0 16
    if bits (dw e 2) 15 17 != 0 || bits (dw e 5) 16 16 != 0 || len % 16 != 0 then bad s o e dField
    else atPos s o e (gpPos (dw e 2)) (fun s =>
      if !mayPort s o e p then bad s o e dNotOwner
      else
        let hs := devsOn s p
        let take := hs.take (len / 16)
        let d := wordBytes (take.flatMap (topoRecord s))
        let s1 := if d.isEmpty then s else hostWrite s o (join64 (dw e 3) (dw e 4)) d
        good s1 o e (take.length + b2n (decide (take.length < hs.length)) * 2 ^ 16) 0)))

/-- The lowest software slot of a domain that is free (R265). -/
def freeSlot (d : Dom) : Option Nat := (List.range 32).find? (fun n => !bit d.alloc n)

/-- SET_VOTE on a domain here (R265). -/
def setVoteHere (s : State) (o : Owner) (e : List Word) (d slot : Nat) : State :=
  let x := domAt s d
  match (if slot == 63 then freeSlot x else some slot) with
  | none => bad s o e dNoResource
  | some n =>
    if bit x.alloc n then bad s o e dInUse
    else good (castSw (setDom s d { x with alloc := x.alloc ||| bitW n }) d (bitW n)) o e n 0

/-- SET_VOTE, opcode 0x40 (R265). -/
def execSetVote (o : Owner) (e : List Word) (s : State) : Host.Outcome State Fault Refusal :=
  .next (adm s o e true 4 (fun s =>
    let d := bits (dw e 2) 0 8
    let slot := bits (dw e 3) 0 6
    if bits (dw e 2) 14 18 != 0 || bits (dw e 3) 6 26 != 0 || !domOk d || (decide (31 < slot) && slot != 63) then bad s o e dField
    else atPos s o e (bits (dw e 2) 8 6) (fun s => setVoteHere s o e d slot)))

/-- CLEAR_VOTE, opcode 0x41 (R265). -/
def execClearVote (o : Owner) (e : List Word) (s : State) : Host.Outcome State Fault Refusal :=
  .next (adm s o e true 4 (fun s =>
    let d := bits (dw e 2) 0 8
    let slot := bits (dw e 3) 0 6
    if bits (dw e 2) 14 18 != 0 || bits (dw e 3) 6 26 != 0 || !domOk d || decide (31 < slot) then bad s o e dField
    else atPos s o e (bits (dw e 2) 8 6) (fun s =>
      if !bit (domAt s d).alloc slot then bad s o e dNotFound
      else
        let s1 := dropSw s d (bitW slot)
        good (setDom s1 d { domAt s1 d with alloc := (domAt s1 d).alloc &&& ~~~ bitW slot }) o e 0 0)))

end Sys2Proof.Machine
end

