-- ==== Sys2Proof/Machine/AdminQueues.lean ====
section
/-!
DEFINITION. The admin commands on queues: CREATE_TQ to DESTROY_CQ (R104, R107, R116, R133 to R137).
-/
namespace Sys2Proof.Machine

/-- A queue's base address is aligned to 64 bytes and its size is 2^4 to 2^16 entries (R105). -/
def queueForm (e : List Word) : Bool :=
  bits (dw e 2) 0 6 == 0 && decide (4 ≤ bits (dw e 4) 0 5) && decide (bits (dw e 4) 0 5 ≤ 16)

/-- A new TQ (R134). -/
def newTq (o : Owner) (q : Nat) (e : List Word) (cq : Nat) : Tq where
  owner := o
  q := q
  ep := epCtx (dw e 5)
  cq := cq
  base := join64 (dw e 2) (dw e 3)
  log2 := bits (dw e 4) 0 5
  poll := if bit (dw e 4) 5 then none else some (bits (dw e 4) 16 16)
  weight := max 1 (bits (dw e 4) 8 4)
  pi := 0
  sampled := 0
  ci := 0
  next := 0
  error := false
  stop := none
  fetching := []
  cache := []
  chain := none
  posts := []
  batch := none
  served := 0
  covered := 0
  due := false
  lastStart := none

/-- A queue number recorded at the head, with the home of its queue (R107). -/
def newRef (isCq : Bool) (pos idx log2 : Nat) : QRef := ⟨isCq, pos, idx, 0, 0, log2⟩

/-- CREATE_TQ (R133, R134, R246). -/
def createTqHere (s : State) (o : Owner) (e : List Word) : State :=
  let a := acting o e
  let c := epCtx (dw e 5)
  match epAt s c, cqOf s a (bits (dw e 6) 0 11) with
  | none, _ => bad s o e dNotFound
  | some x, cq =>
    if a != .mgr && a != x.owner then bad s o e dNotOwner
    else match cq with
      | none =>
        (match refAt s a (bits (dw e 6) 0 11) with
         | some r => bad s o e (if r.isCq then dCqHome else dNotFound)
         | none => bad s o e dNotFound)
      | some (k, _) =>
        if x.tq.isSome then bad s o e dInUse
        else if queueQuota s a ≤ queuesHeld s a then bad s o e dNoResource
        else match freeQueue s a, tabFree s.que.tqs 4096 0 with
          | some q, some t =>
            let s1 := setRef (setTq (drawn s) t (newTq a q e k)) (refKey a q) (newRef false (ownPos s) t (bits (dw e 4) 0 5))
            good (updEp s1 c (fun x => { x with tq := some t })) o e (q + t * 2 ^ 16) 0
          | _, _ => bad s o e dNoResource

/-- CREATE_TQ for an endpoint of another chip (R104, R107, R133): the head draws the number, and the home chip its own index. -/
def createTqFar (s : State) (o : Owner) (e : List Word) : State :=
  let a := acting o e
  let pos := epPos (dw e 5)
  onFar s o e (dw e 5) (fun s x =>
    match refAt s a (bits (dw e 6) 0 11), freeQueue s a with
    | none, _ => bad s o e dNotFound
    | some r, q =>
      if !r.isCq then bad s o e dNotFound
      else if r.pos != pos then bad s o e dCqHome
      else if x.ep.tq.isSome then bad s o e dInUse
      else match q with
        | none => bad s o e dNoResource
        | some q =>
          if queueQuota s a ≤ queuesHeld s a then bad s o e dNoResource
          else elsewhere s o e pos (fun w => BitVec.ofNat 32 (q + bits w 16 12 * 2 ^ 16)) (fun s r0 =>
            updFar (setRef s (refKey a q) (newRef false pos (bits r0 16 12) (bits (dw e 4) 0 5))) (dw e 5) (fun x => { x with tq := some (bits r0 16 12) })))

/-- CREATE_TQ, opcode 0x01 (R133, R134, R246). -/
def execCreateTq (o : Owner) (e : List Word) (s : State) : Host.Outcome State Fault Refusal :=
  .next (adm s o e false 7 (fun s =>
    if !queueForm e || bits (dw e 4) 6 2 != 0 || bits (dw e 4) 12 4 != 0 || epBad (dw e 5) || bits (dw e 6) 11 21 != 0 then
      bad s o e dField
    else if epPos (dw e 5) == ownPos s then createTqHere s o e
    else createTqFar s o e))

/-- A command on the queue of a number (R133, R246): the TQ or CQ here, or its home elsewhere, at a position. -/
def onQueue (s : State) (o : Owner) (e : List Word) (isCq : Bool) (here : State → State) (far : State → Nat → State) : State :=
  let a := acting o e
  let q := bits (dw e 2) 0 11
  if bits (dw e 2) 11 21 != 0 then bad s o e dField
  else if (if isCq then (cqOf s a q).isSome else (tqOf s a q).isSome) then here s
  else match refAt s a q with
    | some r => if r.isCq != isCq || r.pos == ownPos s then bad s o e dNotFound else far s r.pos
    | none => bad s o e dNotFound

/-- DESTROY_TQ and RESET_TQ (R135): a stop of another command on the queue goes first. -/
def stopByCmd (s : State) (o : Owner) (e : List Word) (why : Stop) : State :=
  match tqOf s (acting o e) (bits (dw e 2) 0 11) with
  | none => bad s o e dNotFound
  | some (t, x) =>
    match x.stop with
    | some (.destroy _ _) => s
    | some (.reset _ _) => s
    | _ => stopTq s t why

/-- DESTROY_TQ, opcode 0x02 (R135). -/
def execDestroyTq (o : Owner) (e : List Word) (s : State) : Host.Outcome State Fault Refusal :=
  .next (adm s o e false 3 (fun s => onQueue s o e false (fun s => stopByCmd s o e (.destroy o e)) (fun s pos => waitFar s o e pos)))

/-- RESET_TQ, opcode 0x03 (R135). -/
def execResetTq (o : Owner) (e : List Word) (s : State) : Host.Outcome State Fault Refusal :=
  .next (adm s o e false 3 (fun s => onQueue s o e false (fun s => stopByCmd s o e (.reset o e)) (fun s pos => waitFar s o e pos)))

/-- INVALIDATE_TQ, opcode 0x04 (R116, R137). -/
def execInvalidateTq (o : Owner) (e : List Word) (s : State) : Host.Outcome State Fault Refusal :=
  .next (adm s o e false 4 (fun s => onQueue s o e false (fun s =>
    match tqOf s (acting o e) (bits (dw e 2) 0 11) with
    | none => bad s o e dNotFound
    | some (t, x) =>
      let a := bits (dw e 3) 0 16
      let n := bits (dw e 3) 16 16
      if destroying x then bad s o e dNotFound
      else if !invalOk x a n then bad s o e dField
      else
        let pr := invalidate s t a n
        let s1 := pr.1
        let k := pr.2
        good s1 o e k 0)
    (fun s pos => elsewhere s o e pos (fun w => BitVec.ofNat 32 (bits w 0 16)) (fun s _ => s))))

/-- A new CQ (R134). -/
def newCq (o : Owner) (q : Nat) (e : List Word) : Cq where
  owner := o
  q := q
  base := join64 (dw e 2) (dw e 3)
  log2 := bits (dw e 4) 0 5
  mirror := if bit (dw e 4) 5 then some (join64 (dw e 5) (dw e 6)) else none
  mirrorHold := false
  mirrorDue := false
  irqEn := bit (dw e 4) 6
  vec := BitVec.ofNat 8 (bits (dw e 4) 8 8)
  pi := 0
  ci := 0

/-- CREATE_CQ, opcode 0x05 (R110, R133, R134, R246, R255). -/
def execCreateCq (o : Owner) (e : List Word) (s : State) : Host.Outcome State Fault Refusal :=
  .next (adm s o e false 7 (fun s =>
    let a := acting o e
    let pos := bits (dw e 4) 16 6
    if !queueForm e || bit (dw e 4) 7 || bits (dw e 4) 22 10 != 0 || (a != .mgr && decide (63 < bits (dw e 4) 8 8))
        || (bit (dw e 4) 5 && bits (dw e 5) 0 2 != 0) then bad s o e dField
    else if pos != ownPos s then
      (match freeQueue s a with
       | none => bad s o e (if reachable s pos then dNoResource else dUnreachable)
       | some q =>
         if queueQuota s a ≤ queuesHeld s a then bad s o e (if reachable s pos then dNoResource else dUnreachable)
         else elsewhere s o e pos (fun _ => BitVec.ofNat 32 q)
           (fun s _ => setRef s (refKey a q) (newRef true pos 0 (bits (dw e 4) 0 5))))
    else if queueQuota s a ≤ queuesHeld s a then bad s o e dNoResource
    else match freeQueue s a, tabFree s.que.cqs 1024 0 with
      | some q, some k =>
        good (setRef (setCq (drawn s) k (newCq a q e)) (refKey a q) (newRef true pos k (bits (dw e 4) 0 5))) o e q 0
      | _, _ => bad s o e dNoResource))

/-- DESTROY_CQ, opcode 0x06 (R133): IN_USE while a TQ posts to it. -/
def execDestroyCq (o : Owner) (e : List Word) (s : State) : Host.Outcome State Fault Refusal :=
  .next (adm s o e false 3 (fun s => onQueue s o e true (fun s =>
    let a := acting o e
    let q := bits (dw e 2) 0 11
    match cqOf s a q with
    | none => bad s o e dNotFound
    | some (k, _) =>
      if s.que.tqs.any (fun t => t.2.cq == k) then bad s o e dInUse
      else good (dropRef { s with que := { s.que with cqs := tabDel s.que.cqs k } } a q) o e 0 0)
    (fun s pos => elsewhere s o e pos id (fun s _ => dropRef s (acting o e) (bits (dw e 2) 0 11)))))

/-! ### Commands that run on other chips (R137, R319) -/

/-- The endpoint on another chip whose TQ a queue number named has none any more. -/
def freeFarEp (s : State) (r : QRef) : State :=
  { s with ctx := { s.ctx with far := s.ctx.far.map (fun p =>
      if p.1 / 8192 == r.pos && p.2.ep.tq == some r.idx then (p.1, { p.2 with ep := { p.2.ep with tq := none } }) else p) } }

/-- The chip that a command names has answered: after DESTROY_TQ the number is free and its endpoint without a TQ, and both indices are 0
after RESET_TQ. -/
def farStopped (s : State) (o : Owner) (e : List Word) : State :=
  let a := acting o e
  let q := bits (dw e 2) 0 11
  farAnswer s o e (fun w => if aOp e == 2 || aOp e == 3 then BitVec.ofNat 32 (bits w 0 16) else 0) (fun s _ =>
    if aOp e == 2 then dropRef (match refAt s a q with | some r => freeFarEp s r | none => s) a q
    else if aOp e != 3 then s
    else match refAt s a q with | some r => setRef s (refKey a q) { r with pi := 0, ci := 0 } | none => s)

/-- The commands that run on other chips: those on a chip in the live map end, and the others wait until it rejoins (R137, R319). -/
def farStops (s : State) : State :=
  each (s.que.far.filter (fun f => reachable s f.2.2))
    { s with que := { s.que with far := s.que.far.filter (fun f => !reachable s f.2.2) } } (fun s f => farStopped s f.1 f.2.1)

end Sys2Proof.Machine
end

