-- ==== Sys2Proof/Machine/DmaOps.lean ====
section
/-!
DEFINITION. The software channels 48 to 63 (R217 to R223, R226 to R229, R231 to R236), and the pauses and resumptions of every channel
(R226, R277, R282).
-/
namespace Sys2Proof.Machine

/-! ### The transfer that the registers of a channel hold -/

/-- STATE of a channel. -/
def cState (s : State) (ch : Nat) : Nat := crf s ch DMA_STATUS_STATE
/-- It set; the island's votes follow (R266). -/
def setCState (s : State) (ch v : Nat) : State := dmaVotes (cwf s ch DMA_STATUS_STATE v) (ch / 16)
/-- A software channel. -/
def isSoft (ch : Nat) : Bool := decide (48 ≤ ch) && decide (ch < 64)
/-- A one-bit field of DMA_CTRL. -/
def ctl (s : State) (ch : Nat) (f : Fld) : Bool := crf s ch f == 1
/-- Bit n of a field of four channels in the page's ERR_STATUS. -/
def chanErr (s : State) (ch n : Nat) : State := err s (dmaPage ch) (4 * n + ch % 4)
/-- Bit n of a field of four channels in the page's EVENT_STATUS. -/
def chanEvt (s : State) (ch n : Nat) : State := evt s (dmaPage ch) (4 * n + ch % 4)
/-- BUSY_WR (R219, R228). -/
def busyWr (s : State) (ch : Nat) : State := chanErr s ch 2

/-- The domains that a channel uses: its island, and the banks of its ranges (R277). -/
def chanDoms (s : State) (ch : Nat) : List Nat := (0x58 + ch / 16) :: (chanBanks s ch).map (· + 0x50)
/-- One of them is forced down. -/
def chanForced (s : State) (ch : Nat) : Bool := (chanDoms s ch).any (forcedDown s)
/-- All of them are in P0. -/
def chanLit (s : State) (ch : Nat) : Bool := !(chanDoms s ch).any (domClosed s)

/-- The conditioner setting of a transfer, none when it bypasses: as latched when the transfer set out (R234). -/
def chanCnd (s : State) (ch : Nat) : List Word :=
  if (chanAt s ch).started then (chanAt s ch).cnd else cndLatch s (crf s ch DMA_CTRL_CND)

/-- Bytes at the source for n bytes at the destination; COUNT counts the bytes to write. -/
def srcBytes (ws : List Word) (n : Nat) : Nat :=
  if ws.isEmpty then n else n * fmtSize (cndOf ws).inFmt / fmtSize (cndOf ws).outFmt

/-- The bytes of a frame at the destination: one without a setting (R233). -/
def frameBytes (ws : List Word) : Nat := if ws.isEmpty then 1 else (cndOf ws).chans * fmtSize (cndOf ws).outFmt

/-- The ranges of one side: one range, or one for each plane (R233). -/
def planeRanges (planes : Bool) (ws : List Word) (a n : Nat) : List (Nat × Nat) :=
  if planes then (List.range (cndOf ws).chans).map (fun k => (a + k * (cndOf ws).stride, n / (cndOf ws).chans)) else [(a, n)]

/-- The source ranges of n destination bytes. -/
def srcRanges (s : State) (ch n : Nat) (ws : List Word) : List (Nat × Nat) :=
  planeRanges (!ws.isEmpty && (cndOf ws).layout == 1) ws (cpair s ch 0x40).toNat (srcBytes ws n)

/-- The destination ranges of n bytes. -/
def dstRanges (s : State) (ch n : Nat) (ws : List Word) : List (Nat × Nat) :=
  planeRanges (!ws.isEmpty && (cndOf ws).layout == 2) ws (cpair s ch 0x48).toNat n

/-- An EBM side is malformed (R218): an address bit above 24, or the spill region. -/
def ebmBad (rs : List (Nat × Nat)) : Bool := rs.any (fun r => decide (0x1FC0000 < r.1 + r.2) || decide (0x1FC0000 ≤ r.1))

/-- A fixed side breaks R223. -/
def fixedBad (a n cnd : Nat) : Bool := a % 64 != 0 || n % 64 != 0 || cnd != 0

/-- The transfer of a channel is malformed or refused (R218, R221, R223, R234). A fixed address touches one beat only. -/
def xferBad (s : State) (ch : Nat) : Bool :=
  let k := chanAt s ch
  let n := crf s ch DMA_COUNT_COUNT
  let ws := chanCnd s ch
  let c := cndOf ws
  let touched (fixed : Fld) (rs : List (Nat × Nat)) : List (Nat × Nat) :=
    if ctl s ch fixed then rs.map (fun r => (r.1, min 64 r.2)) else rs
  (k.chain && (match k.desc with | some d => descReserved d | none => false))
    || (ctl s ch DMA_CTRL_SRC_EBM && ebmBad (touched DMA_CTRL_SRC_FIXED (srcRanges s ch n ws)))
    || (ctl s ch DMA_CTRL_DST_EBM && ebmBad (touched DMA_CTRL_DST_FIXED (dstRanges s ch n ws)))
    || (ctl s ch DMA_CTRL_SRC_FIXED && fixedBad (cpair s ch 0x40).toNat n (crf s ch DMA_CTRL_CND))
    || (ctl s ch DMA_CTRL_DST_FIXED && fixedBad (cpair s ch 0x48).toNat n (crf s ch DMA_CTRL_CND))
    || (!ws.isEmpty && cndBad c (c.layout == 2) n (fmtSize c.outFmt) (fmtSize (if c.layout == 1 then c.inFmt else c.outFmt)))

/-! ### Moving bytes -/

/-- Bytes read from EBM for a transfer: a fixed address gives its beat again and again (R223). -/
def ebmSource (s : State) (ch : Nat) (rs : List (Nat × Nat)) : List Byte :=
  if ctl s ch DMA_CTRL_SRC_FIXED then
    rs.flatMap (fun r => (List.range (r.2 / 64)).flatMap (fun _ => memRead s.ebm r.1 64))
  else rs.flatMap (fun r => memRead s.ebm r.1 r.2)

/-- Bytes written to ranges of EBM. -/
def ebmRanges (s : State) : List (Nat × Nat) → List Byte → State
  | [], _ => s
  | r :: rs, d => ebmRanges (ebmWrote { s with ebm := memWrite s.ebm r.1 (d.take r.2) } r.1 (d.take r.2).length) rs (d.drop r.2)

/-- The data of a transfer at its destination: a fixed address takes beat after beat (R222, R223). -/
def putData (s : State) (ch : Nat) (rs : List (Nat × Nat)) (d : List Byte) : State :=
  let rs' := if ctl s ch DMA_CTRL_DST_FIXED then rs.flatMap (fun r => (List.range (r.2 / 64)).map (fun _ => (r.1, 64))) else rs
  if ctl s ch DMA_CTRL_DST_EBM then ebmRanges s rs' d
  else sendData (writeRanges s .mgr rs' d) false (chanTag ch) d

/-- The beats that a write of n bytes at an address makes. -/
def beatsAt (a n : Nat) : Nat := if n == 0 then 0 else (a + n + 63) / 64 - a / 64

/-- BEATS_K of a channel counts beats in units of 1,024. -/
def countBeats (s : State) (ch n : Nat) : State :=
  let k := chanAt s ch
  addF (setChan s ch { k with beats := (k.beats + n) % 1024 }) (dmaPage ch) (cfld ch DMA_FLAGS_SEEN_BEATS_K) ((k.beats + n) / 1024)

/-- The registers of a channel past n destination bytes (R226): a fixed address stays, and planes advance by their share. -/
def advance (s : State) (ch n : Nat) (ws : List Word) : State :=
  let layout := if ws.isEmpty then 0 else (cndOf ws).layout
  let chans := (cndOf ws).chans
  let ds := if layout == 1 then srcBytes ws n / chans else srcBytes ws n
  let dd := if layout == 2 then n / chans else n
  let s1 := if ctl s ch DMA_CTRL_SRC_FIXED then s else cpairW s ch 0x40 (cpair s ch 0x40 + BitVec.ofNat 64 ds)
  let s2 := if ctl s1 ch DMA_CTRL_DST_FIXED then s1 else cpairW s1 ch 0x48 (cpair s1 ch 0x48 + BitVec.ofNat 64 dd)
  cwf s2 ch DMA_COUNT_COUNT (crf s2 ch DMA_COUNT_COUNT - n)

/-- n destination bytes move (R218, R222, R231): `d` holds the bytes that a host source delivers. -/
def moveBytes (s : State) (ch n : Nat) (d : List Byte) (waits : List (BitVec 16)) : State :=
  let ws := (chanAt s ch).cnd
  let src := srcRanges s ch n ws
  let dst := dstRanges s ch n ws
  let srcEbm := ctl s ch DMA_CTRL_SRC_EBM
  let bytes := if srcEbm then ebmSource s ch src else d
  let (out, f) := throughCnd ws bytes
  let s0 := bankDone s (dmaReq ch) (chanBanks s ch)
  let s1 := if ws.isEmpty then s0 else cndFlags s0 ch f
  let s2 := if srcEbm then arbGrants s1 (dmaReq ch) src waits else s1
  let s3 := putData s2 ch dst out
  let s4 := if ctl s ch DMA_CTRL_DST_EBM then arbGrants s3 (dmaReq ch) dst waits else s3
  advance (countBeats s4 ch (dst.foldl (fun m r => m + beatsAt r.1 r.2) 0)) ch n ws

/-- The host bytes of a transfer are those that the command brings. -/
def bytesFit (s : State) (ch n : Nat) (d : List Byte) : Bool :=
  ctl s ch DMA_CTRL_SRC_EBM || d.length == srcBytes (chanAt s ch).cnd n

/-! ### A transfer sets out -/

/-- A channel ends in ERROR (R221). -/
def chanError (s : State) (ch : Nat) : State := setCState (cwf (setBeats s ch .init) ch DMA_STATUS_ERR 1) ch 7

/-- The last descriptor, or a single transfer, has completed: DONE, and IDLE (R220). -/
def chanDone (s : State) (ch : Nat) : State := chanEvt (setCState (cwf (setBeats s ch .init) ch DMA_STATUS_DONE 1) ch 0) ch 0

/-- The beats of the source for n bytes at the destination, rounded outward (R222); a fixed address is read for each beat. -/
def chanTodo (s : State) (ch n : Nat) : List Nat :=
  let rs := srcRanges s ch n (chanAt s ch).cnd
  if ctl s ch DMA_CTRL_SRC_FIXED then rs.flatMap (fun r => List.replicate (r.2 / 64) r.1) else beatAddrs rs

/-- The requests of a software channel's transfer at the banks of its EBM sides (R224, R237). -/
def chanAsks (s : State) (ch : Nat) : State :=
  let n := crf s ch DMA_COUNT_COUNT
  let ws := (chanAt s ch).cnd
  let s1 := if ctl s ch DMA_CTRL_SRC_EBM then bankAsks s (dmaReq ch) (softLevel s ch) true false (srcRanges s ch n ws) else s
  if ctl s ch DMA_CTRL_DST_EBM then bankAsks s1 (dmaReq ch) (softLevel s ch) true true (dstRanges s ch n ws) else s1

/-- A transfer sets out: its banks are asked, and its reads begin (R222, R224). -/
def chanReads (s : State) (ch : Nat) : State :=
  let s1 := chanAsks s ch
  startBeats s1 ch .mgr (chanTodo s1 ch (crf s1 ch DMA_COUNT_COUNT))

/-- A pause takes hold (R226): PAUSED, with its event. -/
def pausedNow (s : State) (ch : Nat) : State :=
  chanEvt (setCState (setBeats s ch { (chanAt s ch).queue with todo := [], outst := 0, staged := 0 }) ch 3) ch 2

/-- A channel that a forced domain pauses (R226, R277, R282). -/
def powerPause (s : State) (ch : Nat) : State :=
  cwf (setChan s ch { chanAt s ch with powerPaused := true }) ch DMA_STATUS_PAUSE_SRC 1

/-! ### The end of a descriptor or a transfer (R219 to R221, R227, R228) -/

/-- The descriptor at DMA_DESC is read (R219, R220). Its dwords come with the command that answers the read (assumption 117). -/
def fetchDesc (s : State) (ch : Nat) : State :=
  setCState (readBeats (setChan s ch { chanAt s ch with unread := false })
    (chanTag ch) .mgr [((cpair s ch 0x5C).toNat / 32 * 32, 32)]) ch 1

/-- A chain goes to the descriptor at DMA_DESC: a channel that PAUSE holds, or whose island is forced down, pauses without reading it
(R229, R282). -/
def nextDesc (s : State) (ch : Nat) : State :=
  let s1 := setChan s ch { chanAt s ch with chain := true, desc := none, unread := true, started := false }
  if ctl s ch DMA_CTRL_PAUSE then pausedNow (cwf s1 ch DMA_STATUS_PAUSE_SRC 0) ch
  else if forcedDown s (0x58 + ch / 16) then pausedNow (powerPause s1 ch) ch
  else fetchDesc s1 ch

/-- A pacing event reaches a channel (R228); `run` runs the transfer that it lets start. -/
def paceWith (run : State → Nat → State) (s : State) (ch : Nat) : State :=
  let st := cState s ch
  let n := crf s ch DMA_STATUS_PACE_PENDING
  if st == 0 || st == 7 then s
  else if st == 4 then run s ch
  else if n == 255 then chanErr s ch 3
  else cwf s ch DMA_STATUS_PACE_PENDING (n + 1)

/-- A descriptor completion paces the channels that name its channel (R228). -/
def paceFrom (run : State → Nat → State) (s : State) (ch : Nat) : State :=
  each ((List.range 16).map (· + 48)) s (fun s k =>
    if k != ch && crf s k DMA_PACE_SRC == 2 && crf s k DMA_PACE_CHAN == ch then paceWith run s k else s)

/-- A descriptor ends with its STATUS (R220, R221): DW5 is written back, DESC_IRQ follows, and the chain goes to the next one or is done. -/
def descEnd (run : State → Nat → State) (s : State) (ch st : Nat) : State :=
  match (chanAt s ch).desc with
  | none => s
  | some d =>
    let at5 := BitVec.ofNat 64 ((cpair s ch 0x5C).toNat / 32 * 32 + 20)
    let w := BitVec.ofNat 32 (bits (dw d 5) 0 24 + 2 ^ 24 + st * 2 ^ 28)
    let s1 := hostWrite s .mgr at5 (leBytes 4 w.toNat)
    let s2 := incF (cwf s1 ch DMA_STATUS_LAST_STATUS st) (dmaPage ch) (cfld ch DMA_FLAGS_SEEN_DESCS)
    let s3 := if st == 8 then chanErr (incF s2 (dmaPage ch) (cfld ch DMA_STATUS_BAD_CNT)) ch 0 else s2
    let s4 := paceFrom run (if bit (dw d 4) 29 then chanEvt s3 ch 1 else s3) ch
    let nx := join64 (dw d 6) (dw d 7)
    if nx == 0 then chanDone (setChan s4 ch { chanAt s4 ch with chain := false, desc := none }) ch
    else nextDesc (cpairW s4 ch 0x5C (BitVec.ofNat 64 (nx.toNat / 32 * 32))) ch

/-- A transfer has ended with a STATUS; with BARRIER the rest waits for the data to arrive (R227). -/
def endWith (run : State → Nat → State) (s : State) (ch st : Nat) : State :=
  if ctl s ch DMA_CTRL_BARRIER then
    let s1 := setChan s ch { chanAt s ch with barrier := st }
    let s2 := if ctl s ch DMA_CTRL_DST_EBM then s1 else zeroRead s1 .mgr
    setCState s2 ch 5
  else if (chanAt s ch).chain then descEnd run s ch st
  else if st == 0 then chanDone (if ctl s ch DMA_CTRL_IRQ then chanEvt s ch 1 else s) ch
  else chanError (chanErr s ch 0) ch

/-! ### A transfer runs (R219, R226, R228, R234) -/

/-- A transfer runs (R219): its setting is latched when it sets out (R234), a single one that is malformed ends in ERROR, and one of no bytes
completes at once, which may let another channel's start in turn (R228). A descriptor that is malformed meets its end at
DMA_DESCRIPTOR_DONE. -/
def runN : Nat → State → Nat → State
  | 0, s, ch => setCState s ch 1
  | f + 1, s, ch =>
    let k := chanAt s ch
    let s1 := setCState (setChan s ch { k with cnd := chanCnd s ch, started := true }) ch 1
    if k.chain && k.desc.isNone then setCState s ch 1
    else if !k.started && xferBad s1 ch then (if k.chain then s1 else chanError (chanErr s1 ch 0) ch)
    else if crf s1 ch DMA_COUNT_COUNT == 0 then endWith (runN f) s1 ch 0
    else chanReads s1 ch

/-- A channel's transfer runs. Each of 16 channels may complete descriptors of no bytes that pace others; one that would pace itself so without
end runs when its next command comes (assumption 117). -/
def chanRun (s : State) (ch : Nat) : State := runN 64 s ch

/-- A channel goes on where pacing allows (R228). -/
def chanPace (s : State) (ch : Nat) : State :=
  let n := crf s ch DMA_STATUS_PACE_PENDING
  if crf s ch DMA_PACE_SRC == 0 then chanRun s ch
  else if n == 0 then setCState s ch 4
  else chanRun (cwf s ch DMA_STATUS_PACE_PENDING (n - 1)) ch

/-- The transfer that the registers hold begins (R219, R226, R228, R229, R282): paused at once, or paced, or run. -/
def chanBegin (s : State) (ch : Nat) : State :=
  let s1 := setChan s ch { chanAt s ch with paceWait := false, powerPaused := false, started := false, got := [] }
  let held := setChan s1 ch { chanAt s1 ch with paceWait := crf s1 ch DMA_PACE_SRC != 0 }
  if ctl s1 ch DMA_CTRL_PAUSE then pausedNow (cwf held ch DMA_STATUS_PAUSE_SRC 0) ch
  else if chanForced s1 ch then pausedNow (powerPause held ch) ch
  else chanPace s1 ch

/-- The registers take a descriptor's values (R220). -/
def showDesc (s : State) (ch : Nat) (d : List Word) : State :=
  let s1 := cpairW (cpairW s ch 0x40 (join64 (dw d 0) (dw d 1))) ch 0x48 (join64 (dw d 2) (dw d 3))
  let s2 := cwf s1 ch DMA_COUNT_COUNT (bits (dw d 4) 0 24)
  let s3 := cwf (cwf s2 ch DMA_CTRL_SRC_FIXED (bits (dw d 4) 24 1)) ch DMA_CTRL_DST_FIXED (bits (dw d 4) 25 1)
  let s4 := cwf (cwf s3 ch DMA_CTRL_SRC_EBM (bits (dw d 4) 26 1)) ch DMA_CTRL_DST_EBM (bits (dw d 4) 27 1)
  cwf (cwf (cwf s4 ch DMA_CTRL_BARRIER (bits (dw d 4) 28 1)) ch DMA_CTRL_IRQ (bits (dw d 4) 29 1)) ch DMA_CTRL_CND (bits (dw d 5) 0 5)

/-- The dwords of the descriptor that a chain is at (R220): those of one that the channel has paused before reading are used when it resumes; those
that come while the channel pauses are shown; else the descriptor begins. -/
def takeDesc (s : State) (ch : Nat) (d : List Word) : State :=
  let k := chanAt s ch
  if !k.chain || k.desc.isSome then s
  else
    let s1 := setChan s ch { k with desc := some d }
    if k.unread then s1
    else if cState s ch == 2 then
      let s2 := showDesc s1 ch d
      setBeats s2 ch ⟨.mgr, chanTodo s2 ch (crf s2 ch DMA_COUNT_COUNT), 0, 0⟩
    else chanBegin (showDesc s1 ch d) ch

/-- The dwords that a command may bring with it. -/
def takeNext (s : State) (ch : Nat) (next : Option (List Word)) : State :=
  match next with | some d => takeDesc s ch d | none => s

/-- A pacing event reaches a channel (R228). -/
def paceEvent (s : State) (ch : Nat) : State := paceWith chanRun s ch

/-- A descriptor ends with its STATUS (R220, R221), and the next one begins with its dwords, if they have come. -/
def descFinish (s : State) (ch st : Nat) (next : Option (List Word)) : State := takeNext (descEnd chanRun s ch st) ch next

/-- A transfer ends with a STATUS (R220, R221, R227), and so on. -/
def xferEnd (s : State) (ch st : Nat) (next : Option (List Word)) : State := takeNext (endWith chanRun s ch st) ch next

/-- The bytes at the destination that come from before the first beat of the source with a bad word (R214, R221): whole frames of every
plane, and none from a fixed address. -/
def beforeBad (s : State) (ch n : Nat) (ws : List Word) : Nat :=
  let unit := if ws.isEmpty then 1 else if (cndOf ws).layout == 1 then fmtSize (cndOf ws).inFmt else (cndOf ws).chans * fmtSize (cndOf ws).inFmt
  let clean (r : Nat × Nat) : Nat := (badWords s r.1 r.2).foldl (fun m w => min m (8 * w / 64 * 64 - r.1)) r.2
  if ctl s ch DMA_CTRL_SRC_FIXED then 0
  else (srcRanges s ch n ws).foldl (fun m r => min m (clean r / unit)) (n / frameBytes ws) * frameBytes ws

/-- DMA_DESCRIPTOR_DONE: the transfer of a running channel ends (R220, R222, R229): a bad descriptor moves nothing, and one whose source holds an
uncorrectable word is marked BAD_DESC after the beats before it (R214, R221). A chain that waits for its descriptor takes the dwords that the
command brings (assumption 117). -/
def xferDone (s : State) (ch : Nat) (d : List Byte) (next : Option (List Word)) (waits : List (BitVec 16)) : State :=
  let k := chanAt s ch
  let n := crf s ch DMA_COUNT_COUNT
  if !isSoft ch || !chanGoes s ch then s
  else if k.chain && k.desc.isNone then takeNext s ch next
  else if k.chain && xferBad s ch then xferEnd s ch 8 next
  else if !chanLit s ch && cState s ch == 1 || !bytesFit s ch n d then s
  else match (if ctl s ch DMA_CTRL_SRC_EBM then firstBad s (srcRanges s ch n k.cnd) else none) with
    | some a =>
      let m := beforeBad s ch n k.cnd
      xferEnd (eccLog (if m == 0 then s else moveBytes s ch m [] waits) a true) ch 8 next
    | none => xferEnd (moveBytes (endBeats s ch) ch n d waits) ch 0 next

/-- The data of a transfer has arrived (R227): the descriptor or the transfer ends. -/
def barrierDone (s : State) (ch : Nat) (next : Option (List Word)) : State :=
  let k := chanAt s ch
  if !isSoft ch || cState s ch != 5 then s
  else if k.chain then descFinish s ch k.barrier next
  else if k.barrier == 0 then chanDone (if ctl s ch DMA_CTRL_IRQ then chanEvt s ch 1 else s) ch
  else chanError (chanErr s ch 0) ch

/-- A descriptor cannot be read (R221): ERROR, with DMA_DESC at its address. -/
def descLost (s : State) (ch : Nat) : State :=
  let k := chanAt s ch
  if !isSoft ch || !chanGoes s ch || !k.chain || k.desc.isSome then s
  else chanError (chanErr (setChan s ch { k with chain := false }) ch 1) ch

/-! ### Pauses (R226, R277) -/

/-- A channel begins to pause: a running one at its next beat, one that waits for a pacing event at once, one at a barrier after it. -/
def pauseChan (s : State) (ch : Nat) : State :=
  let st := cState s ch
  if st == 1 then setCState s ch 2
  else if st == 4 then pausedNow (setChan s ch { chanAt s ch with paceWait := true }) ch
  else s

/-- A forced power-down pauses a channel (R277). -/
def forcePause (s : State) (ch : Nat) : State :=
  if cState s ch == 1 || cState s ch == 4 then pauseChan (powerPause s ch) ch
  else if cState s ch == 2 then setChan s ch { chanAt s ch with powerPaused := true }
  else s

/-- A paused channel goes on from its registers (R226, R277): with its planner operation, or as pacing allows; a transfer that had begun
reads the rest, and a chain that paused before its descriptor reads that. -/
def resumeChan (s : State) (ch : Nat) : State :=
  let s1 := cwf (setChan s ch { chanAt s ch with powerPaused := false }) ch DMA_STATUS_PAUSE_SRC 0
  let k := chanAt s1 ch
  if chanForced s1 ch then powerPause s1 ch
  else if !isSoft ch then
    let s2 := startBeats (setCState s1 ch 1) ch k.queue.o (chanTodo s1 ch (crf s1 ch DMA_COUNT_COUNT))
    (match k.flow with | some c => relayMove s2 c | none => s2)
  else if k.unread then takeNext (fetchDesc (setChan s1 ch { k with desc := none }) ch) ch k.desc
  else if k.paceWait then chanPace (setChan s1 ch { k with paceWait := false }) ch
  else chanRun s1 ch

/-- The channels that a forced domain paused go on when every domain they use is back in P0 (R277). -/
def resumePowered (s : State) : State :=
  each (List.range 64) s (fun s ch =>
    let k := chanAt s ch
    if k.powerPaused && cState s ch == 3 && chanLit s ch && !chanForced s ch && !ctl s ch DMA_CTRL_PAUSE then resumeChan s ch else s)

/-- The registers of a planner channel past n bytes of its endpoint's buffer: a DRAIN's host side moves its own count (R226, R231). -/
def advancePlan (s : State) (ch n : Nat) (ws : List Word) : State :=
  if !ctl s ch DMA_CTRL_SRC_EBM || ws.isEmpty then advance s ch n ws
  else
    let h := hostBytes ws true n
    let s1 := cpairW s ch 0x40 (cpair s ch 0x40 + BitVec.ofNat 64 n)
    let s2 := cpairW s1 ch 0x48 (cpair s1 ch 0x48 + BitVec.ofNat 64 (if (cndOf ws).layout == 2 then h / (cndOf ws).chans else h))
    cwf s2 ch DMA_COUNT_COUNT (crf s2 ch DMA_COUNT_COUNT - n)

/-- The beats read by now are written when a pause takes hold (R226): as many bytes at least as they bring. The reads of further beats that the
bytes need leave first. -/
def pausedReads (s : State) (ch moved : Nat) : Option State :=
  let k := chanAt s ch
  let n := crf s ch DMA_COUNT_COUNT
  if !k.cnd.isEmpty || (k.chain && k.desc.isNone) then some s
  else
    let need := (chanTodo s ch moved).length
    let read := (chanTodo s ch n).length - k.queue.todo.length
    if need < read then none else some (each (k.queue.todo.take (need - read)) s (fun s a => readBeat s ch k.queue.o a))

/-- The beats of a parked operation are written too when its channel pauses for a forced domain (R226). -/
def drainParked (s : State) (ch : Nat) : State :=
  let k := chanAt s ch
  if k.powerPaused then setChan s ch { k with parkBeats := { k.parkBeats with outst := 0, staged := 0 } } else s

/-- The last staged beat is written: the registers describe what has not moved, and STATE reads PAUSED (R226). A pause ends at a beat
boundary, and at a frame boundary behind the conditioner. A beat of EBM that is uncorrectable ends the descriptor or the transfer first
(R214, R229). -/
def chanPaused (s0 : State) (ch moved : Nat) (d : List Byte) : State :=
  let k := chanAt s0 ch
  let n := crf s0 ch DMA_COUNT_COUNT
  let whole := moved == 0 || moved == n || (if k.cnd.isEmpty then ((cpair s0 ch 0x40).toNat + moved) % 64 == 0 else moved % frameBytes k.cnd == 0)
  if cState s0 ch != 2 || n < moved || !whole then s0
  else match pausedReads s0 ch moved with
    | none => s0
    | some s1 =>
      let s := drainParked s1 ch
      if isSoft ch then
        if !bytesFit s ch moved d || ((xferBad s ch || (k.chain && k.desc.isNone)) && moved != 0) then s0
        else match (if ctl s ch DMA_CTRL_SRC_EBM && !xferBad s ch then firstBad s (srcRanges s ch moved k.cnd) else none) with
          | some a =>
            let m := beforeBad s ch moved k.cnd
            resumePowered (xferEnd (eccLog (if m == 0 then s else moveBytes s ch m [] []) a true) ch 8 none)
          | none => resumePowered (pausedNow (moveBytes s ch moved d []) ch)
      else resumePowered (pausedNow (advancePlan s ch moved k.cnd) ch)

/-! ### Writes of the channel registers (R217, R219, R226, R229) -/

/-- START (R219, R228). -/
def chanStart (s : State) (ch : Nat) (desc : Option (List Word)) : State :=
  if !pageOn s (dmaPage ch) then s
  else if crf s ch DMA_PACE_SRC == 2 && (crf s ch DMA_PACE_CHAN == ch || decide (crf s ch DMA_PACE_CHAN < 48)) then busyWr s ch
  else if ctl s ch DMA_CTRL_CHAIN then takeNext (nextDesc s ch) ch desc
  else chanBegin (setChan s ch { chanAt s ch with chain := false, desc := none, unread := false }) ch

/-- A write of DMA_CTRL to a channel that is neither IDLE nor ERROR (R219, R226, R229): PAUSE and STOP act, and another value of any
other field, or START, sets BUSY_WR. -/
def ctrlBusy (s : State) (ch : Nat) (v : Word) : State :=
  let a := adr (dmaPage ch) (0x54 + ch % 4 * 0x40)
  let old := rd s a
  let others : Word := 0x1F7FC
  let was := ctl s ch DMA_CTRL_PAUSE
  let s1 := writeFields s (dmaPage ch) (0x54 + ch % 4 * 0x40) ((old &&& ~~~ bitW 1) ||| (v &&& bitW 1))
  let now := ctl s1 ch DMA_CTRL_PAUSE
  let s2 := if bit v 11 && cState s1 ch == 3 then
      setCState (setChan s1 ch { chanAt s1 ch with
        chain := false, desc := none, unread := false, started := false, powerPaused := false, paceWait := false }) ch 0
    else if !was && now then pauseChan s1 ch
    else if was && !now && cState s1 ch == 3 then resumeChan s1 ch
    else s1
  if bit v 0 || (old &&& others) != (v &&& others) then busyWr s2 ch else s2

/-- A write of DMA_CTRL of a software channel. START and STOP in one write: START is ignored (R229). -/
def dmaCtrl (s : State) (ch : Nat) (v : Word) (desc : Option (List Word)) : State :=
  if cState s ch == 0 || cState s ch == 7 then
    let s1 := writeFields s (dmaPage ch) (0x54 + ch % 4 * 0x40) v
    if bit v 0 && !bit v 11 then chanStart s1 ch desc else s1
  else ctrlBusy s ch v

/-- A write of a channel's registers (R217, R219): none to a planner's channel, and none to SRC, DST, COUNT, DESC or PACE of a busy one. -/
def dmaWrite (s : State) (src : Src) (page off : Nat) (v : Word) (eff : State → State) : State :=
  let ch := (page - 0x10) * 4 + (off - 0x40) / 0x40
  let r := off % 0x40
  if ch < 48 then refuseAccess s src page off true 1 false
  else if r == 0x14 then dmaCtrl s ch v none
  else if r == 0x18 || r == 0x28 || cState s ch == 0 || cState s ch == 7 then eff s
  else busyWr s ch

end Sys2Proof.Machine
end

