-- ==== Sys2Proof/Machine/InstOps.lean ====
section
/-!
DEFINITION. Instances: quiesce and resume (R248 to R250), reset and removal (R251), the dirty log's swap (R254), the mailboxes
(R243, R244) and MSI-X masks (R256).
-/
namespace Sys2Proof.Machine

/-! ### The functions (R240, R241) -/

/-- The SR-IOV capability of the physical function and what it fixes of the functions (R241): the numbers of virtual functions, the first offset
and the stride of their routing IDs, the device IDs, the page size and BAR0 of a virtual function, the sizes of the MSI-X tables. -/
structure Sriov where
  totalVfs : Nat
  initialVfs : Nat
  firstOffset : Nat
  stride : Nat
  pfDevice : BitVec 16
  vfDevice : BitVec 16
  pageSize : Nat
  vfBar0 : Nat
  pfVectors : Nat
  vfVectors : Nat
deriving DecidableEq, Repr

/-- Its values (R241). -/
def sriov : Sriov := ⟨1024, 1024, 1, 1, 0x0512, 0x0513, 4096, 16384, 256, 64⟩

/-- The MSI-X vectors of a function (R241, R255). -/
def vectors (o : Owner) : Nat := match o with | .mgr => sriov.pfVectors | .inst _ => sriov.vfVectors

/-! ### Quiesce (R248) -/

/-- The entries between CI and PI over an instance's TQs, those of other chips by the head's copies. -/
def postedEntries (s : State) (o : Owner) : Nat :=
  let here := (tqsOf s o).foldl (fun n t => match tqAt s t with | some x => n + span x.log2 x.ci x.pi | none => n) 0
  (s.que.refs.filter (fun r => r.1 / 2048 == ownerKey o && !r.2.isCq && r.2.pos != ownPos s)).foldl
    (fun n r => n + span r.2.log2 r.2.ci.toNat r.2.pi.toNat) here

/-- Step 4 of R248 on a TQ: the operation in service finishes and ends its chain QUIESCED; what is not in service ends now. -/
def cutChain (s : State) (t : Nat) : State :=
  match tqAt s t with
  | none => s
  | some x =>
    match epAt s x.ep with
    | none => s
    | some e =>
      if isPer e then s
      else match e.work with
        | some w =>
          if w.fail.isSome then s
          else if w.inSvc then updWork s x.ep (fun w => { w with fail := some (0xD, none) })
          else failLater s x.ep 0xD none
        | none =>
          match x.chain with
          | some c => if c.dead.isSome then s else serve (updChain s t (fun c => { c with dead := some (0xD, none) })) t
          | none => s

/-- Step 5 of R248: entries fetched but not begun leave the cache, but for those that open plans serve and the rest of a chain that is
cut. -/
def dropUnbegun (s : State) (t : Nat) : State :=
  match tqAt s t with
  | none => s
  | some x =>
    let planned (i : Nat) : Bool := match epAt s x.ep with | some e => e.planned.any (fun p => p.2.1 == i) | none => false
    -- the cached entries after the one in service up to the chain's LAST
    let rest := if x.chain.isSome then
        (x.cache.takeWhile (fun c => match c.e with | some e => !eFirst e || begun s x c.idx | none => true)).map (·.idx)
      else []
    setTq s t { x with
      fetching := [], cache := x.cache.filter (fun c => begun s x c.idx || planned c.idx || rest.contains c.idx) }

/-- Steps 2 to 5 of R248 on every TQ of an instance here. -/
def quiesceTqs (s : State) (o : Owner) : State :=
  each (tqsOf s o) s (fun s t => cutChain (dropUnbegun s t) t)

/-- Steps 1 and 6 of R248: no command of the instance's AQ is in execution, and no completion of it that may be written waits. -/
def instWritten (s : State) (o : Owner) : Bool :=
  !(s.que.tqs.any (fun t => match t.2.stop with | some (.destroy p _) | some (.reset p _) => decide (p = o) | _ => false))
    && !s.que.far.any (fun f => decide (f.1 = o))
    && (tqsOf s o).all (fun t => match tqAt s t with | some x => x.posts.isEmpty || !mayPost s x | none => true)

/-- Nothing of an instance is in service here, no plan that is still to run holds a graph of it, and what has arisen is written. -/
def instStill (s : State) (o : Owner) : Bool :=
  instWritten s o &&
  let mine (c : Nat) : Bool := match epAt s c with | some e => decide (e.owner = o) | none => false
  s.ctx.eps.all (fun p => !decide (p.2.owner = o) || (match p.2.work with | some w => !w.inSvc && (isIntr p.2 || w.fail.isNone) | none => true))
    && s.pln.plans.all (fun p => decide (ufDiff p.n s.clk.uframe.toNat < 0) || !p.graphs.any mine)

/-- Completions of an instance that wait for CQ room here. -/
def heldPosts (s : State) (o : Owner) : Nat :=
  (tqsOf s o).foldl (fun n t => match tqAt s t with | some x => n + x.posts.length | none => n) 0

/-- The other chips that hold a TQ of an owner, as the head knows them (R107, R248). -/
def farHomes (s : State) (o : Owner) : List Nat :=
  ((s.que.refs.filter (fun r => r.1 / 2048 == ownerKey o && !r.2.isCq && r.2.pos != ownPos s)).map (·.2.pos)).eraseDups

/-- A command on an instance is carried to the other chips that hold its TQs (R248, R250). -/
def tellHomes (s : State) (t : Owner) (o : Owner) (e : List Word) : State :=
  if isMember s then s else each ((farHomes s t).filter (reachable s)) s (fun s p => forwardCmd s p o e)

/-- An instance's work here is served, quiescing or QUIESCED: a member, which has no instances of its own, keeps that beside TEN_INST_STATE (R240,
R242). -/
def setPhase (s : State) (i : Inst) (v : BitVec 3) : Inst := if isMember s then { i with away := if v == 1 then 0 else v } else { i with state := v }

/-- The phase that an instance's work is in here, 1 while it is served. -/
def phaseHere (s : State) (i : Inst) : BitVec 3 := if isMember s then (if i.away == 0 then 1 else i.away) else i.state

/-- The end of a quiesce (R248): the zero-length read of the head has returned, the ACQ entry of the command is written, the state is QUIESCED.
The completions that other chips hold are a free value (assumption 18). -/
def endQuiesce (s : State) (i : Nat) : State :=
  let o := ownerOf i
  match (instAt s i).quiesce with
  | none => s
  | some (p, e, r0) =>
    let s1 := setInst (if isMember s then s else zeroRead s o) i (setPhase s { instAt s i with quiesce := none } 3)
    let far := !isMember s && !(farHomes s o).isEmpty
    let r1 := heldPosts s o + (if far then bits (freeNow s1) 0 16 else 0)
    done (if far then freeStep s1 else s1) p e 0 0 (BitVec.ofNat 32 (r0 % 65536)) (BitVec.ofNat 32 (r1 % 65536))

/-! ### Reset and removal (R251) -/

/-- A stop that an instance's own command asked for goes on without its ACQ entry (R251). -/
def orphanStop (o : Owner) (w : Stop) : Stop :=
  match w with
  | .destroy p e => if p = o then .removed else .destroy p e
  | .reset p e => if p = o then .removed else .reset p e
  | w => w

/-- A reset of an instance begins (R242, R251): step 1; a head tells the other chips of its ring. -/
def beginReset (s : State) (n : Nat) (removing : Bool) : State :=
  let i := instAt s n
  let o := ownerOf n
  let unq := i.state == 1 || i.state == 2
  let s1 := if i.state == 2 && i.quiesce.isSome then endQuiesce s n else s
  let s2 := setInst s1 n { instAt s1 n with state := 4, removing := removing, unqReset := unq }
  let s3 := if unq then err s2 pTen 2 else s2
  let s4 := { s3 with que := { s3.que with tqs := s3.que.tqs.map (fun t =>
    (t.1, { t.2 with stop := t.2.stop.map (orphanStop o) })), far := s3.que.far.filter (fun f => !decide (f.1 = o)) } }
  let s5 := if isHead s then emits s4 (((List.range 64).filter (fun p => live s p && p != ownPos s)).map (fun p =>
      .instReset (BitVec.ofNat 6 p) (BitVec.ofNat 10 n) removing)) else s4
  each (tqsOf s5 o) (if unq then quiesceTqs s5 o else s5) drainPosts

/-- A TQ of a reset instance goes (R251): its completions and its ABORTED entry where its CQ has room, then the queue. -/
def removeTq (s : State) (t : Nat) : State :=
  match tqAt s t with
  | none => s
  | some x =>
    let s0 := match epAt s x.ep with
      | some e => (match e.work with | some w => updEp (freeOp s x.ep w) x.ep (fun e => { e with work := some { w with inSvc := false } }) | none => s)
      | none => s
    let s1 := drainPosts (dropWork s0 t x.ep) t
    let s2 := updTq s1 t (fun y => { y with posts := [] })
    match tqAt s2 t with
    | none => s2
    | some _ => endStop (writeAbort s2 t) t .removed

/-- The window of an instance at its reset values (R251); the dirty log stops with its DIRTY_OVF (DESIGN CHOICE, assumption 97). -/
def resetWindow (i : Inst) : Inst :=
  { Inst.init with state := i.state, quota := i.quota, unqReset := i.unqReset, removing := i.removing }

/-- The dirty bits of an instance that the head's cache still holds are set in its bitmap (R253). -/
def flushMarks (s : State) (n : Nat) : State :=
  let i := instAt s n
  emits s (match i.dirty with | some (b, _) => dirtyOuts s.mgt.rid b i.marks | none => [])

/-- The steps 2 and 3 of R251 on this chip: the aborts, then the instance's queues, cohorts, reservations and contexts go. -/
def dropObjects (s : State) (n : Nat) : State :=
  let o := ownerOf n
  let s1 := each (tqsOf s o) s removeTq
  let s2 := { s1 with pln := { s1.pln with cohorts := s1.pln.cohorts.filter (fun k => !decide (k.2.owner = o)) } }
  let s3 := each ((s2.ctx.eps.filter (fun p => decide (p.2.owner = o))).map (·.1)) s2 unbind
  { s3 with
    que := { s3.que with
      cqs := s3.que.cqs.filter (fun c => !decide (c.2.owner = o)), refs := s3.que.refs.filter (fun r => r.1 / 2048 != n)
      late := s3.que.late.filter (fun p => !decide (p.owner = o)) }
    ctx := { s3.ctx with far := s3.ctx.far.filter (fun p => !decide (p.2.ep.owner = o)) } }

/-- Step 5 of R251: the instance's ports return to the manager. -/
def dropPorts (s : State) (n : Nat) : State :=
  each (List.range 512) s (fun s p => if prf s p PRT_STATE_OWNED == 1 && prf s p PRT_STATE_OWNER == n then
    pwf (pwf s p PRT_STATE_OWNED 0) p PRT_STATE_OWNER 0 else s)

/-- The end of the reset of an instance (R251). Step 1 ends with a zero-length read where the reset found the instance unquiesced; when dirty
logging stops, the bits that the cache still holds are set (R253). A member, to which the head has told the reset, drops what it holds of the
instance; whether it is a removal, its ports too, is a free value there (assumption 98). -/
def endReset (s : State) (n : Nat) : State :=
  let i := instAt s n
  if isMember s then
    let s1 := dropObjects (setInst s n { i with away := 0, quiesce := none }) n
    if bit (freeNow s) 0 then dropPorts (freeStep s1) n else freeStep s1
  else if i.state != 4 then s
  else
    let s1 := dropObjects (if i.unqReset then zeroRead s (ownerOf n) else s) n
    let s2 := if i.removing then dropPorts s1 n else s1
    let again := !i.removing || decide (n < s2.mgt.vfs)
    evt (setInst (flushMarks s2 n) n { resetWindow (instAt s2 n) with state := if again then 1 else 0, removing := false }) pTen 2

/-- VF Enable with NumVFs (R242): instances below it are ACTIVE, those at or above it are removed; of one that a Function Level Reset is
resetting, the reset becomes a removal. -/
def setVfs (s : State) (num : Nat) : State :=
  let late (k : Nat) (i : Inst) : Inst := if decide (num ≤ k) && i.state == 4 then { i with removing := true } else i
  let s1 := { s with
    mgt := { s.mgt with vfs := min num sriov.totalVfs }
    inst := tabMap (fun _ => Inst.init) late s.inst }
  let up := (List.range (min num sriov.totalVfs)).filter (fun n => (instAt s1 n).state == 0 && holdsLink s1)
  let down := (s1.inst.filter (fun p => decide (num ≤ p.1) && decide (p.1 < 1024)
    && (p.2.state == 1 || p.2.state == 2 || p.2.state == 3))).map (·.1)
  each down (each up s1 (fun s n => setInst s n { instAt s n with state := 1 })) (fun s n => beginReset s n true)

/-! ### Mailboxes (R243, R244) -/

/-- The mailbox vector of an instance. -/
def mbxVec (i : Inst) : BitVec 8 := BitVec.ofNat 8 (bits i.mbxCtl 8 6)

/-- The tenant releases its inbound mailbox (R244). -/
def tenantIn (s : State) (n : Nat) : State :=
  if (instAt s n).inFull then evt (setInst s n { instAt s n with inFull := false }) pTen 1 else s

/-- The tenant hands over its outbound mailbox (R244). -/
def tenantOut (s : State) (n : Nat) : State :=
  if (instAt s n).outFull then s
  else
    let s1 := evt (setInst s n { instAt s n with outFull := true }) pTen 0
    if rb s1 pTen TEN_MBX_CFG_EN then msix s1 .mgr (BitVec.ofNat 8 (rf s1 pTen TEN_MBX_CFG_VECTOR)) else s1

/-- The instance that page 0x28 selects. -/
def selInst (s : State) : Nat := bits (rd s (adr pTen 0x080)) 0 10

/-- The manager posts the inbound message, or MBX_BUSY (R244). -/
def managerIn (s : State) : State :=
  let n := selInst s
  let i := instAt s n
  if i.inFull then err s pTen 4
  else
    let s1 := setInst s n { i with inFull := true }
    if bit i.mbxCtl 2 then msix s1 (ownerOf n) (mbxVec i) else s1

/-- The manager releases the outbound mailbox (R244). -/
def managerOut (s : State) : State :=
  let n := selInst s
  let i := instAt s n
  if i.outFull then
    let s1 := setInst s n { i with outFull := false }
    if bit i.mbxCtl 3 then msix s1 (ownerOf n) (mbxVec i) else s1
  else s

/-- TEN_MBX_DB written (R244). -/
def mbxDb (s : State) (v : Word) : State :=
  let s1 := if bit v 0 then managerIn s else s
  if bit v 1 then managerOut s1 else s1

/-! ### MSI-X masks (R256) -/

/-- A masking condition of a function ends, and each pending vector it held is sent once. -/
def unmask (s : State) (o : Owner) (k : MaskCond) : State :=
  let n := ownerKey o
  let i := instAt s n
  let j := match k with
    | .vector v => if decide (v.toNat < vectors o) && !i.unmasked.contains v then { i with unmasked := i.unmasked ++ [v] } else i
    | .func => { i with fmask := false }
    | .enable => { i with msixEn := true }
  msixFlush (setInst s n j) o

end Sys2Proof.Machine
end

