-- ==== Sys2Proof/Machine/NvmOps.lean ====
section
/-!
DEFINITION. The configuration store: slots, the boot record (R310 to R314), and the update stages on both paths (R315 to R318).
-/
namespace Sys2Proof.Machine

/-! ### Slots and the boot record -/

/-- The slot running: true is B. -/
def booted (s : State) : Bool := rb s pNvm NVM_BOOT_BOOTED
/-- A slot of the MRAM. -/
def slotAt (n : Nvm) (b : Bool) : Slot := if b then n.b else n.a
/-- It replaced. -/
def setSlot (n : Nvm) (b : Bool) (x : Slot) : Nvm := if b then { n with b := x } else { n with a := x }

/-- What the CRC of a copy of the boot record covers (R312): its sequence number, the ACTIVE slot with TRIAL and TRIAL_COUNT, and the slot
states. The layout is open (DESIGN CHOICE, assumption 115). -/
def recBytes (r : BootRec) : List Byte :=
  leBytes 4 r.seq.toNat ++ [BitVec.ofNat 8 (b2n r.active + 2 * b2n r.trial + 4 * r.count), BitVec.ofNat 8 (r.stA + 16 * r.stB)]

/-- The CRC-32 of a copy (R312), of the kind of R92. -/
def recCrc (r : BootRec) : Word := BitVec.ofNat 32 (crc32 (recBytes r))

/-- A copy of the boot record is valid (R312). -/
def recOk (r : BootRec) : Bool := r.crc == recCrc r

/-- The copy of the boot record in force (R312): the valid one with the higher sequence number. -/
def bootRec (n : Nvm) : BootRec :=
  if !recOk n.recs.1 then n.recs.2
  else if recOk n.recs.2 && decide (n.recs.1.seq.toNat < n.recs.2.seq.toNat) then n.recs.2 else n.recs.1

/-- A record write (R312): a change goes over the other copy, with the next sequence number and its CRC. -/
def commit (n : Nvm) (f : BootRec → BootRec) : Nvm :=
  let r := bootRec n
  let y := { f r with seq := r.seq + 1 }
  let x := { y with crc := recCrc y }
  if r = n.recs.1 then { n with recs := (n.recs.1, x) } else { n with recs := (x, n.recs.2) }

/-- The state of a slot (R311). -/
def slotState (r : BootRec) (b : Bool) : Nat := if b then r.stB else r.stA
/-- It set. -/
def withSlot (r : BootRec) (b : Bool) (st : Nat) : BootRec := if b then { r with stB := st } else { r with stA := st }
/-- The slot that stands in a state. -/
def slotIn (r : BootRec) (st : Nat) : Option Bool := if r.stA = st then some false else if r.stB = st then some true else none

/-- VERSION of a slot's image; 0 when EMPTY. -/
def slotVersion (n : Nvm) (b : Bool) : Word :=
  if slotState (bootRec n) b = 0 then 0
  else if (slotAt n b).factory then Config.factoryVersion else BitVec.ofNat 32 (imgNum (slotAt n b).bytes 4 4)

/-- SECVER of a slot's image; 0 when EMPTY. -/
def slotSecver (n : Nvm) (b : Bool) : Nat :=
  if slotState (bootRec n) b = 0 then 0
  else if (slotAt n b).factory then Config.factorySecver.toNat else imgNum (slotAt n b).bytes 8 2

/-- The hash of a slot's image checks (R310); the image that the part was shipped with is whole (assumption 8). -/
def hashOk (n : Nvm) (b : Bool) : Bool :=
  let x := slotAt n b
  let len := imgNum x.bytes 12 4
  x.factory || (decide (512 ≤ len) && Config.sha384 (memRead x.bytes 512 (len - 512)) == memRead x.bytes 64 48)

/-- Boot selection (R313): the slot that the ROM tries first, whether it is a fallback, and the record committed. -/
def bootFirst (n : Nvm) (fails : Nat) : Bool × Bool × Nvm × Bool :=
  let r := bootRec n
  let sb := slotIn r 5
  let ok := match sb with | some b => hashOk n b | none => false
  if r.trial then
    let tr := (slotIn r 3).getD (!r.active)
    if r.count = 3 then
      let back := sb.getD r.active
      (back, true, commit n (fun r => { withSlot (withSlot r tr 6) back 4 with trial := false, active := back }), true)
    else (tr, false, commit n (fun r => { r with count := r.count + 1 }), false)
  else if 3 ≤ fails && ok then (sb.getD r.active, true, n, false)
  else (r.active, false, n, false)

/-! ### The stages (R316, R317) -/

/-- The answer of a stage: whether it is accepted, STATUS and the detail of the admin path, and the reason of R317. -/
structure Upd where
  status : Nat
  detail : Nat
  reason : Nat
deriving DecidableEq, Repr

/-- SUCCESS. -/
def Upd.ok : Upd := ⟨0, 0, 0⟩
/-- Refused with STATE. -/
def Upd.state : Upd := ⟨8, 8, 8⟩
/-- Refused with FIELD. -/
def Upd.field : Upd := ⟨8, 2, 3⟩

/-- The target of a session (R315): the slot that is not running. -/
def target (s : State) : Bool := !booted s

/-- Another path holds the open session (R315); `reg` is the register path. -/
def otherHolds (s : State) (reg : Bool) : Bool := match s.nvm.session with | some (p, _) => p != reg | none => false

/-- UPDATE_BEGIN. -/
def updBegin (s : State) (reg : Bool) (len : Nat) : Upd × State :=
  let r := bootRec s.nvm
  if mode s == 7 || r.stA == 3 || r.stB == 3 then (.state, s)
  else if len == 0 || decide (4194304 < len) then (.field, s)
  else
    let n := commit s.nvm (fun r => withSlot r (target s) 1)
    (.ok, { s with nvm := { n with session := some (reg, len) } })

/-- UPDATE_WRITE. The first one over the shipped image leaves the bytes that it does not write at 0 (assumption 8). -/
def updWrite (s : State) (reg : Bool) (off : Nat) (d : List Byte) : Upd × State :=
  match s.nvm.session with
  | none => (.state, s)
  | some (p, len) =>
    if p != reg || mode s == 7 then (.state, s)
    else if off % 4 != 0 || len < off + d.length then (.field, s)
    else
      let x := slotAt s.nvm (target s)
      (.ok, { s with nvm := setSlot s.nvm (target s) { bytes := memWrite x.bytes off d, factory := false } })

/-- The reason for which VERIFY rejects the target, the first in the order of R317 (assumption 20). -/
def verifyReason (s : State) : Nat :=
  let x := slotAt s.nvm (target s)
  let m := x.bytes
  let len := imgNum m 12 4
  let key := imgNum m 10 1
  if x.factory then (if Config.factorySecver.toNat < rf s pNvm NVM_MIN_SECVER_SECVER then 6 else 0)
  else if imgNum m 0 4 != 0x354B534C then 1
  else if imgNum m 16 2 != 0x0512 then 2
  else if (match s.nvm.session with | some (_, l) => l != len | none => false) || len % 4096 != 0 || len == 0 || decide (4194304 < len) then 3
  else if !hashOk s.nvm (target s) then 4
  else if 4 ≤ key || !Config.sigValid (memRead m 0 208) then 5
  else if imgNum m 8 2 < rf s pNvm NVM_MIN_SECVER_SECVER then 6
  else if rf s pNvm NVM_MIN_SECVER_KEY_REVOKED / 2 ^ key % 2 == 1 then 7
  else 0

/-- UPDATE_VERIFY. A slot that is VERIFIED is no longer the target of an open session (R311; assumption 20). -/
def updVerify (s : State) (reg : Bool) : Upd × State :=
  let st := slotState (bootRec s.nvm) (target s)
  if mode s == 7 || otherHolds s reg || !(st == 1 || st == 6) then (.state, s)
  else
    let why := verifyReason s
    if why == 0 then
      (.ok, { s with nvm := { commit s.nvm (fun r => withSlot r (target s) 2) with session := none } })
    else
      (⟨0xF, 0, why⟩, err { s with nvm := (if st == 1 then s.nvm else commit s.nvm (fun r => withSlot r (target s) 1)) } pNvm 1)

/-- UPDATE_ACTIVATE: the key is checked again (R319). -/
def updActivate (s : State) (reg : Bool) : Upd × State :=
  let t := target s
  if !quietMode s || otherHolds s reg || slotState (bootRec s.nvm) t != 2 then (.state, s)
  else if !(slotAt s.nvm t).factory
      && rf s pNvm NVM_MIN_SECVER_KEY_REVOKED / 2 ^ imgNum (slotAt s.nvm t).bytes 10 1 % 2 == 1 then (⟨0xF, 0, 7⟩, s)
  else
    (.ok, { s with nvm := { commit s.nvm (fun r =>
      { withSlot (withSlot r t 3) (!t) 5 with trial := true, count := 0, active := !t }) with restart := true, session := none } })

/-- UPDATE_CONFIRM. -/
def updConfirm (s : State) (reg : Bool) : Upd × State :=
  let r := bootRec s.nvm
  let b := booted s
  if mode s == 7 || otherHolds s reg || !r.trial || slotState r b != 3 then (.state, s)
  else
    let s1 := { s with nvm := commit s.nvm (fun r => { withSlot r b 4 with trial := false, active := b }) }
    (.ok, wf s1 pNvm NVM_MIN_SECVER_SECVER (max (rf s pNvm NVM_MIN_SECVER_SECVER) (slotSecver s1.nvm b)))

/-! ### The register path (R315) -/

/-- NVM_UPD_CTRL after an operation. -/
def updShow (p : Upd × State) : State :=
  wb (wf (wf p.2 pNvm NVM_UPD_CTRL_STATUS p.1.status) pNvm NVM_UPD_CTRL_REASON p.1.reason) pNvm NVM_UPD_CTRL_DONE true

/-- The OP that GO runs; a reserved OP is no stage and changes nothing. -/
def updOp (s : State) : State :=
  match rf s pNvm NVM_UPD_CTRL_OP with
  | 1 => updShow (updBegin s true (rf s pNvm NVM_UPD_LEN_LENGTH))
  | 2 => updShow (updVerify s true)
  | 3 => updShow (updActivate s true)
  | 4 => updShow (updConfirm s true)
  | _ => s

/-- A write of NVM_UPD_CTRL; while ENABLE of the page is 0 no operation starts, on either path (R87; assumption 104). -/
def updCtrl (s : State) (v : Word) : State :=
  let s1 := writeFields s pNvm 0x05C v
  if bit v 3 && pageOn s pNvm then updOp s1 else s1

/-- A write of NVM_UPD_DATA: the dword is written and the offset advances, or it is dropped with REASON LENGTH or STATE; while the admin path
holds the session, STATUS shows BAD_DESC too (R315). -/
def updData (s : State) (v : Word) : State :=
  let off := 4 * rf s pNvm NVM_UPD_OFFSET_OFFSET
  let pr := updWrite s true off (leBytes 4 v.toNat)
  let u := pr.1
  let s1 := pr.2
  if !pageOn s pNvm then s
  else if u.status == 0 then wf s1 pNvm NVM_UPD_OFFSET_OFFSET (rf s1 pNvm NVM_UPD_OFFSET_OFFSET + 1)
  else wf (if otherHolds s true then wf s1 pNvm NVM_UPD_CTRL_STATUS 8 else s1) pNvm NVM_UPD_CTRL_REASON u.reason

/-- A write of NVM_MIN_SECVER: keys are revoked for good (R310). -/
def revoke (s : State) (v : Word) : State :=
  if !pageOn s pNvm then s else wf s pNvm NVM_MIN_SECVER_KEY_REVOKED (Nat.lor (rf s pNvm NVM_MIN_SECVER_KEY_REVOKED) (bits v 16 4))

/-! ### The admin path (R133, R316) -/

/-- The completion of a stage on the admin path. -/
def updDone (o : Owner) (e : List Word) (p : Upd × State) : State :=
  let ref := if p.1.status == 0xF then causeRef p.2 (blockLoc p.2 pNvm 0) else none
  let r1 := ref.getD 0
  done (blame p.2 ref) o e p.1.status p.1.detail (BitVec.ofNat 32 (if p.1.status == 0xF then p.1.reason else 0)) r1

/-- A stage for the chip at DW2[5:0], here or on the member (R319); RECOVERY serves its own chip alone (R320). -/
def updCmd (s : State) (o : Owner) (e : List Word) (n : Nat) (f : State → Upd × State) : State :=
  adm s o e true n (fun s =>
    if bits (dw e 2) 6 26 != 0 then bad s o e dField
    else if mode s == 6 && bits (dw e 2) 0 6 != ownPos s then bad s o e dState
    else if bits (dw e 2) 0 6 == ownPos s then (if pageOn s pNvm then updDone o e (f s) else bad s o e dState)
    else waitFar s o e (bits (dw e 2) 0 6))

end Sys2Proof.Machine
end

