-- ==== Sys2Proof/Machine/ResetOps.lean ====
section
/-!
DEFINITION. Chip reset and boot (R282, R306 to R309, R313, R321), the service port's pull-up (R204), and the completion of mode
transitions (R31, R32, R40, R77, R102, R143, R178).
-/
namespace Sys2Proof.Machine

/-! ### The service port's pull-up (R204) -/

/-- The boundary cells control the balls (R347): EXTEST, CLAMP, HIGHZ, EXTEST_PULSE or EXTEST_TRAIN is selected. -/
def ballsTaken (s : State) : Bool :=
  s.jtag.ir == 0 || s.jtag.ir == 3 || s.jtag.ir == 4 || s.jtag.ir == 5 || s.jtag.ir == 6

/-- The pull-up connects while host VBUS is present and the balls are the chip's own. -/
def svcAttach (s : State) : State :=
  if rb s pSvc SVC_STATUS_VBUS && !ballsTaken s then wb (wb s pSvc SVC_STATUS_ATTACHED true) pSvc SVC_STATUS_HIGH_SPEED s.prt.svcHs else s

/-- The pull-up disconnects: the device is unconfigured, and its halts are gone. -/
def svcDetach (s : State) : State :=
  let s1 := wf (wb (wb s pSvc SVC_STATUS_ATTACHED false) pSvc SVC_STATUS_HIGH_SPEED false) pSvc SVC_STATUS_ADDRESS 0
  let s2 := wb (wb s1 pSvc SVC_STATUS_CONFIGURED false) pSvc SVC_STATUS_SUSPENDED false
  svcVotes { s2 with svc := { s2.svc with haltOut := false, haltIn := false } }

/-! ### Refresh and temperatures (R216, R280) -/

/-- The temperature of a bank's sensor in °C; unmeasured it reads 0. -/
def bankTj (s : State) (b : Nat) : Int := tabGet (fun _ => (0 : Int)) s.pwr.tj b

/-- The interval code for a temperature (R216): 256, 128, 64 or 32 µs. -/
def ivalOf (t : Int) : Nat := if t ≤ 70 then 0 else if t ≤ 80 then 1 else if t ≤ 90 then 2 else 3

/-- The interval of a bank at a new temperature (R216): a longer one only 2 °C below the boundary. -/
def ivalNext (was : Nat) (t : Int) : Nat := if was ≤ ivalOf t then ivalOf t else max (ivalOf t) (min was (ivalOf (t + 2)))

/-- The bank with the highest temperature, the lowest of equals. -/
def hotBank (s : State) : Nat :=
  (List.range 8).foldl (fun h b => if bankTj s h < bankTj s b then b else h) 0

/-- The shortest interval in use (EBM_REFRESH.INTERVAL). -/
def shortest (s : State) : Nat := (List.range 8).foldl (fun m b => max m (cnt s.seq.used b)) 0

/-- AON drives refresh, in P4 (R280). -/
def aonRefresh (s : State) : Bool := rf s pPwr PWR_CHIP_STATE == 4

/-- EBM_REFRESH and AON_REFRESH as they read: P4 halves the interval that R216 gives the hottest bank, its hysteresis included (R280, R299). -/
def showRefresh (s : State) : State :=
  let h := hotBank s
  let tj := (bankTj s h % 256).toNat
  let s1 := wr s (adr pEbm 0x04C) (BitVec.ofNat 32 (shortest s + h * 4 + tj * 256))
  let iv := if aonRefresh s then cnt s.seq.want h + 1 else shortest s
  wr s1 (adr pAon 0x058) (BitVec.ofNat 32 (iv + b2n (aonRefresh s) * 8 + tj * 256))

/-! ### Chip reset (R306) -/

/-- What a chip reset leaves of a register (R9, R271, R306): the bits that its table marks kept, and RTC_LOST, whose reset value is that of
AON's power; at a P5 exit the covered bits, the locks and the AON page too, but for CHECK_FAIL (R87); at a COLD reset the bits of
NVM_MIN_SECVER and NVM_SNAPSHOT alone, which stand in the configuration store (R311, R323). -/
def keepMask (cause page off : Nat) : Word :=
  let kept := match regDesc page off with | some r => BitVec.ofNat 32 r.kept | none => 0
  if cause = 0 then (if page = pNvm ∧ 0x058 ≤ off then kept else 0)
  else
    let lost : Word := if page = pAon ∧ off = 0x020 then 1 else 0
    if cause ≠ 4 then kept ||| lost
    else if page = pAon then (if off = 0x008 then 0 else 0xFFFFFFFF)
    else kept ||| BitVec.ofNat 32 (covered page off) ||| (if off = 0x038 then 1 else 0)

/-- The register file after a chip reset. -/
def resetRegs (cause : Nat) (t : Tab Word) : Tab Word :=
  tabMap regReset (fun a w =>
    let m := keepMask cause (a / 0x1000) (a % 0x1000)
    (w &&& m) ||| (regReset a &&& ~~~ m)) t

/-- A domain after a chip reset (R265, R306): its software slots are freed, but for a P5 exit. -/
def resetDom (cause : Nat) (d : Dom) : Dom := if cause = 4 then { Dom.init with alloc := d.alloc, sw := d.sw } else Dom.init

/-- What a chip reset of a cause leaves (R306): reset values, but for kept fields and what AON, the MRAM and the pins hold, RCT among it; an
open update session stays (R318). A P5 exit keeps the quotas of the instances, which are covered fields (R91, R271); a COLD reset powers the
TAP up in reset (R345). -/
def resetCore (s : State) (cause : Nat) : State :=
  let cold := cause == 0
  let z := State.reset
  let s1 : State := { z with
    pending := s.pending, out := s.out, fresh := s.fresh
    regs := resetRegs cause s.regs
    mgt := { z.mgt with boot := .inReset, pins := s.mgt.pins, checks := if cause == 4 then s.mgt.checks else [] }
    clk := if cold then z.clk else { z.clk with rct := s.clk.rct, sub := s.clk.sub, tick := s.clk.tick, uframe := s.clk.uframe }
    ring := { z.ring with
      joinTimer := false, east := { z.ring.east with feed := s.ring.east.feed }, west := { z.ring.west with feed := s.ring.west.feed } }
    sbd := { z.sbd with
      queue := if cold then [] else s.sbd.queue.filter (fun f => f.typ == 1)
      lfsr := s.sbd.lfsr }
    ebm := if cold || cause == 4 then [] else s.ebm
    ebmBad := if cold || cause == 4 then [] else s.ebmBad
    prt := { z.prt with svcHs := s.prt.svcHs }
    pwr := { z.pwr with
      doms := tabMap (fun _ => Dom.init) (fun _ d => resetDom cause d) s.pwr.doms, tj := s.pwr.tj, armedBy := if cold then 1 else s.pwr.armedBy }
    flt := if cold then z.flt else s.flt
    nvm := { s.nvm with restart := false }
    seq := if cold then z.seq else { z.seq with want := s.seq.want, used := s.seq.used }
    jtag := if cold then z.jtag else s.jtag
    inst := if cause == 4 then tabMap (fun _ => Inst.init) (fun _ i => { Inst.init with quota := i.quota }) s.inst else z.inst }
  showRefresh (wb s1 pSvc SVC_STATUS_VBUS (rb s pSvc SVC_STATUS_VBUS))

/-- A chip reset from a cause (R306): the cause is recorded. -/
def resetChip (s : State) (cause : Nat) : State :=
  let s2 := resetCore s cause
  let s3 := wf s2 pAon AON_RESET_CAUSE_CAUSE cause
  if cause == 2 || cause == 3 then incF s3 pAon AON_RESET_CAUSE_WDOG_COUNT else s3

/-! ### Boot (R308, R313) -/

/-- A boot fallback is taken: BOOT_FALLBACK (R313). -/
def bootFallback (s : State) (b : Bool) : State :=
  err (wb { s with nvm := { s.nvm with fallback := true } } pNvm NVM_BOOT_BOOTED b) pNvm 0

/-- The straps are latched and the slot to boot is selected (R41, R308, R313). -/
def release (s : State) (straps : Nat) : State :=
  let s1 := wf (wf s pRing RING_POSITION_SLOT straps) pRing RING_POSITION_POS straps
  let s2 := { s1 with
    mgt := { s1.mgt with pins := BitVec.ofNat 6 straps, boot := .hashing }
    sbd := { s1.sbd with lfsr := Config.lfsrSeed (BitVec.ofNat 6 straps) Config.dieSerial } }
  match bootFirst s2.nvm (rf s2 pNvm NVM_BOOT_BOOT_FAILS) with
  | (b, fb, n, rev) =>
    let s3 := wb { s2 with nvm := { n with fallback := fb } } pNvm NVM_BOOT_BOOTED b
    if rev then err (wf s3 pNvm NVM_BOOT_BOOT_FAILS 0) pNvm 2 else if fb then err s3 pNvm 0 else s3

/-- The boot ends in a mode: HOLD, or RECOVERY with its cause (R308, R313). The watchdogs change over, the service port connects. -/
def endBoot (s : State) (m cause : Nat) : State :=
  let s1 := wf { s with mgt := { s.mgt with boot := .running, wdogAt := (rct s).toNat } } pMgt MGT_MODE_MODE m
  svcAttach (wf (wf s1 pNvm NVM_BOOT_RECOVERY_CAUSE cause) pNvm NVM_BOOT_BOOT_FAILS
    (if m == 0 then 0 else rf s1 pNvm NVM_BOOT_BOOT_FAILS))

/-- The hash of the selected slot has been checked (R308, R313): the engines load, or STANDBY is taken, or the chip is in RECOVERY. -/
def hashDone (s : State) : State :=
  let b := booted s
  let fails := rf s pNvm NVM_BOOT_BOOT_FAILS
  if hashOk s.nvm b then
    if decide (3 ≤ fails) && !s.nvm.fallback then endBoot s 6 3
    else { s with mgt := { s.mgt with boot := .checking } }
  else
    match slotIn (bootRec s.nvm) 5 with
    | some sb =>
      if !s.nvm.fallback && hashOk s.nvm sb then
        let s1 := bootFallback s sb
        { s1 with mgt := { s1.mgt with boot := .checking } }
      else endBoot s 6 2
    | none => endBoot s 6 2

/-! ### Mode transitions (R102) -/

/-- Instances that VF Enable holds enabled become ACTIVE on entry to a mode with the host link (R242). -/
def wakeInstances (s : State) : State :=
  each (List.range s.mgt.vfs) s (fun s n => if (instAt s n).state == 0 then setInst s n { instAt s n with state := 1 } else s)

/-- MODE takes its target, and PENDING clears (R102); the role follows the mode (MGT_MODE.ROLE), and so does the PHY reference:
the ring-recovered clock in MEMBER, the resonator elsewhere (R25). -/
def takeMode (s : State) (m : Nat) : State :=
  let s1 := wb (wf { s with clk := { s.clk with recovered := m == 3 } } pMgt MGT_MODE_MODE m) pMgt MGT_MODE_PENDING false
  svcEvt (wf s1 pMgt MGT_MODE_ROLE (if m == 1 then 1 else if m == 2 then 2 else if m == 3 then 3 else 0)) .mode

/-- Schedules begin at the next boundary (R32). -/
def startSchedules (s : State) : State :=
  wb { s with pln := { s.pln with starting := true } } pPln PLN_STATUS_STARTUP true

/-- Entry to HOLD (R31, R40, R178): the plans are dropped, ENABLED ports are suspended, links that carried power alone train, or
are DOWN while the switches are closed. A member keeps nothing of its head's instances. -/
def enterHold (s : State) : State :=
  let s0 := if isMember s then { s with inst := tabMap (fun _ => Inst.init) (fun k i => if k < 1024 then { i with away := 0, quiesce := none } else i) s.inst }
    else s
  let s1 := wb (wb (dropPlans (takeMode s0 0)) pPln PLN_STATUS_RUNNING false) pPln PLN_STATUS_STARTUP false
  let s2 := { s1 with pln := { s1.pln with starting := false } }
  let s3 := each (List.range 512) s2 (fun s p => if portState s p == 3 then suspendPort s p else s)
  let s4 := each [Side.east, Side.west] s3 (fun s d => if linkOf s d == 3 then startTrain (setLink s d 0) d else s)
  noteBusy s4

/-- Entry to STANDALONE (R32, R40). -/
def enterStandalone (s : State) : State :=
  let s1 := { s with ring := { s.ring with eastOut := .init, westOut := .init, waitQ := [] } }
  startSchedules (wakeInstances (rewriteWheel (setLink (setLink (takeMode s1 1) .east 3) .west 3)))

/-- Entry to HEAD (R32, R42, R43, R77): the HEAD_CLAIM carries the epoch that the entry starts (DESIGN CHOICE, assumption 73). -/
def enterHead (s : State) : State :=
  let s1 := knowHead (takeMode s 2) (ownSlot s)
  queueClaim (advanceEpoch (startSchedules (wakeInstances (rewriteWheel s1))))

/-- Entry to MEMBER (R32). -/
def enterMember (s : State) : State := startSchedules (rewriteWheel (takeMode s 3))

/-- Entry to RECOVERY by a write of 6 (R29, R313, R320): every port is OFF. No instance is served there (R6, R240): its window is closed, and
TEN_INST_STATE keeps its value, which no row of R242 changes. -/
def enterRecovery (s : State) : State :=
  let s1 := each (List.range 512) s (fun s p => if portState s p == 0 then s else portOff s p none)
  wf (rewriteWheel (takeMode s1 6)) pNvm NVM_BOOT_RECOVERY_CAUSE 1

/-- A break that came while the transition was pending (R102). -/
def pendBreak (s : State) : State :=
  if s.mgt.breakPend then
    let role := rf s pRing RING_STATUS_SEG_ROLE
    enterSevered { s with mgt := { s.mgt with breakPend := false } } (if role == 0 then 1 else role)
  else s

/-- A TQ on the way to HOLD (R31): its stop goes on, and entries that PI has come to cover since are aborted too. -/
def holdTq (s : State) (t : Nat) : State :=
  let s1 := finishStop s t
  match tqAt s1 t with
  | some x => if x.stop.isNone && outstanding x != 0 then stopTq s1 t .hold else s1
  | none => s1

/-- A pending transition completes (R102). One to HOLD waits for the aborts of R31; a rejoin waits for its release microframe. -/
def completeMode (s : State) : State :=
  if !pendingMode s then s
  else
    let m := targetMode s
    if m == 0 then
      let s1 := each (allTqs s) s holdTq
      if s1.que.tqs.any (fun t => t.2.stop.isSome) then s1 else enterHold s1
    else if mode s == 4 then s
    else if m == 1 then enterStandalone s
    else if m == 2 then pendBreak (enterHead s)
    else if m == 3 then pendBreak (enterMember s)
    else if m == 6 then enterRecovery s
    else rewriteWheel (takeMode s 5)

end Sys2Proof.Machine
end

