-- ==== Sys2Proof/Machine/DeepOps.lean ====
section
/-!
DEFINITION. The power controller's operations: requests for a deep state and for a domain (R269, R277, R281, R282), deep entry and exit
(R270 to R273, R276), the RTC and its alarm (R275), refresh and temperatures (R216, R280), and the thermal shutdown (R344).
-/
namespace Sys2Proof.Machine

/-! ### Refusals (R281) -/

/-- A chip request refused for a cause other than a vote. -/
def chipRefuse (s : State) (cause : Nat) : State := powerRefuse s 0 cause 0xFF 0

/-- No chip entry or exit is under way, and no deep state. -/
def pwrIdle (s : State) : Bool := s.pwr.phase == .idle

/-! ### Deep entry (R269, R270) -/

/-- A chip that may not enter: the lowest DMA channel that is neither IDLE, ERROR nor PAUSED (R269). -/
def busyChan (s : State) : Option Nat :=
  (List.range 64).find? (fun ch => let st := crf s ch DMA_STATUS_STATE; st != 0 && st != 7 && st != 3)

/-- A vote other than the register-access slot's is held somewhere (R269). -/
def anyVote (s : State) : Bool := allDoms.any (fun d => (lowestVote (domAt s d) true).isSome)

/-- The switches close and the lanes go off, then the service port's pull-up and the PCIe link (the rows of R270 at 100 µs and 102 µs). -/
def closeStep (s : State) : State :=
  let open_ := !bypassed s
  let s1 := svcDetach (if open_ then closeNow s else s)
  { s1 with mgt := { s1.mgt with pcie := false }, pwr := { s1.pwr with phase := .closing, reopen := open_ } }

/-- An accepted request (R270): signal-VBUS off, every port OFF, every device context GONE; the records are copied for P3 and P4. -/
def enterDeep (s : State) (target : Nat) : State :=
  let s1 := wb { s with pwr := { s.pwr with phase := .copying, target := target } } pPwr PWR_CHIP_ENTERING true
  let s2 := each (List.range 512) s1 (fun s p => if portState s p == 0 then s else portOff s p none)
  let s3 := goneDevs s2 (s2.ctx.devs.map (·.1)) none
  if target == 5 then closeStep s3 else s3

/-- PWR_CHIP.GO (R269, R281, R282). -/
def chipRequest (s : State) (target : Nat) (force : Bool) : State :=
  if !pwrIdle s || !(target == 3 || target == 4 || target == 5) || mode s != 0 || pendingMode s then chipRefuse s 1
  else if s.inst.any (fun i => decide (i.1 < 1024) && i.2.state != 0) then chipRefuse s 2
  else if !force && anyVote s then refuseByVote s allDoms true
  else match busyChan s with
    | some ch => if force then powerRefuse s (32 + ch / 16) 0 (0x58 + ch / 16) (0x8020 + ch / 16) else enterDeep s target
    | none => enterDeep s target

/-- A write of PWR_CHIP; while ENABLE of the page is 0 no request is taken (R87; assumption 104). -/
def pwrChip (s : State) (v : Word) : State := if bit v 12 && pageOn s pPwr then chipRequest s (bits v 8 3) (bit v 11) else s

/-- An entry stops and is undone (R270). -/
def stopEntry (s : State) : State := { s with pwr := { s.pwr with phase := .undoing } }

/-- The records have been copied and checked (R270). -/
def copyDone (s : State) (ok : Bool) : State :=
  if s.pwr.phase != .copying then s else if ok then closeStep s else stopEntry s

/-- A bypass switch does not report closed (R270): the entry stops, and INTERNAL is reported for page 0x03. -/
def switchStuck (s : State) : State :=
  if s.pwr.phase != .closing then s else report (stopEntry s) (blockLoc s pRing 0) 0xFF

/-- The steps are undone (R270): the pull-up, the PCIe link's training and the switches come back; STEP_FAIL, and the entry is aborted
(R281). -/
def undone (s : State) : State :=
  if s.pwr.phase != .undoing then s
  else
    let s1 := wb (svcAttach s) pPwr PWR_CHIP_ENTERING false
    let s2 := if s1.pwr.reopen || s1.ring.joined then joinRing s1 else s1
    let s3 := { s2 with pwr := { s2.pwr with phase := .idle, reopen := false, wake := none } }
    powerWho (incF (err s3 pPwr 0) pPwr PWR_REFUSE_COUNT_ABORTED) 0 3 0xFF 0

/-! ### Deep exit (R272, R276) -/

/-- An alarm ends a deep state (R272, R274): AON_WAKE tells what armed it; P5 is left through the chip reset sequence. -/
def startExit (s : State) (cause : Nat) : State :=
  let s1 := incF (wf (wf s pAon AON_WAKE_CAUSE cause) pAon AON_WAKE_FROM s.pwr.target) pAon AON_WAKE_COUNT
  if s1.pwr.target == 5 then resetChip s1 4
  else wb { s1 with pwr := { s1.pwr with phase := .exiting, wake := none } } pPwr PWR_CHIP_EXITING true

/-- What P3 and P4 lose (R271): the descriptor cache and the plans; P5 loses EBM too, and the rest at its reset. -/
def deepLoss (s : State) : State :=
  let s1 := dropPlans { s with que := { s.que with tqs := s.que.tqs.map (fun t => (t.1, { t.2 with cache := [], fetching := [] })) } }
  if s.pwr.target == 5 then { s1 with ebm := [] } else s1

/-- LOCKED clears as a deep state is entered, with TIME_LOST (R58, R271). -/
def lockGone (s : State) : State := if rb s pRing RING_TIME_STATUS_LOCKED then timeLost s else s

/-- A deep entry completes (R270, R271, R276): the Caramel level set by then is in force (R279), and a wake that came meanwhile starts the
exit. -/
def deepDone (s : State) : State :=
  if !(s.pwr.phase == .closing || s.pwr.phase == .entering) then s
  else
    let s1 := wb (wf (deepLoss (lockGone s)) pPwr PWR_CHIP_STATE s.pwr.target) pPwr PWR_CHIP_ENTERING false
    let s2 := { s1 with pwr := { s1.pwr with phase := .deep, reopen := false, level := caramel s1 } }
    let s3 := showRefresh s2
    match s3.pwr.wake with
    | some c => startExit s3 c.toNat
    | none => s3

/-- An exit from P3 or P4 completes (R272): P0 and HOLD, WOKE, the pull-up, and the join of R62 in 2 ms. -/
def exitDone (s : State) : State :=
  if s.pwr.phase != .exiting then s
  else
    let s1 := wb (wf s pPwr PWR_CHIP_STATE 0) pPwr PWR_CHIP_EXITING false
    let s2 := { s1 with
      pwr := { s1.pwr with
        phase := .idle, target := 0
        doms := tabMap (fun _ => Dom.init) (fun _ d => { d with pstate := 0, transit := .none, forced := none }) s1.pwr.doms }
      mgt := { s1.mgt with wdogAt := (rct s1).toNat }
      ring := { s1.ring with joined := false, joinTimer := true } }
    showRefresh (svcEvt (evt (svcAttach s2) pAon 1) .power)

/-! ### Forced P5 (R273) and the thermal shutdown (R344) -/

/-- P5 is forced (R270, R273): all work is abandoned, and the switches, the pull-up and the PCIe link go. An alarm that an entry under way holds
acts when this one completes (R276). -/
def forceDown (s : State) : State :=
  if s.pwr.phase == .deep && s.pwr.target == 5 then s
  else
    let s1 := resetCore (lockGone s) 4
    let s2 := wb { s1 with
      mgt := { s1.mgt with boot := .running }
      pwr := { s1.pwr with phase := .entering, target := 5, wake := s.pwr.wake } } pPwr PWR_CHIP_ENTERING true
    wf s2 pMgt MGT_MODE_MODE 0

/-- A write of AON_FORCE_P5 (R273): any value but 0xC5 is ignored. -/
def forceWrite (s : State) (v : Word) : State := if bits v 0 8 == 0xC5 then forceDown s else s

/-- The RTC (R275). -/
def rtc (s : State) : BitVec 64 := join64 (rd s (adr pAon 0x040)) (rd s (adr pAon 0x044))

/-- A pair of registers replaced. -/
def wrPair (s : State) (page off : Nat) (v : BitVec 64) : State := wr (wr s (adr page off) (lo32 v)) (adr page (off + 4)) (hi32 v)

/-- The alarm armed at a time by a cause of AON_WAKE (R274, R275). -/
def armAlarm (s : State) (at_ : BitVec 64) (cause : BitVec 3) : State :=
  wb { wrPair s pAon 0x048 at_ with pwr := { s.pwr with armedBy := cause } } pAon AON_ALARM_CTRL_ARMED true

/-- P5 with an alarm 10 s ahead (R344). -/
def thermalP5 (s : State) : State := armAlarm (forceDown s) (rtc s + 327680) 4

/-- A write of AON_ALARM or AON_ALARM_CTRL by software arms it in software's name (R275); NOW loads the present. -/
def alarmCtrl (s : State) (v : Word) : State :=
  let s1 := writeFields s pAon 0x050 v
  if bit v 2 then armAlarm s1 (rtc s1) 1
  else if bit v 0 then { s1 with pwr := { s1.pwr with armedBy := 1 } } else s1

/-- The alarm fires (R275): ALARM, and an exit from a deep state, at once or when the entry has completed (R276). -/
def fire (s : State) : State :=
  let s1 := wb (wb s pAon AON_ALARM_CTRL_ARMED false) pAon AON_ALARM_CTRL_FIRED true
  let s2 := evt s1 pAon 0
  match s2.pwr.phase with
  | .deep => startExit s2 s2.pwr.armedBy.toNat
  | .copying | .closing | .entering => { s2 with pwr := { s2.pwr with wake := some s2.pwr.armedBy } }
  | _ => s2

/-- One RTC tick (R271, R275): in a deep state AON's RCT advances too, by 1,953,125 ns in each run of 64 ticks. -/
def tick (s : State) : State :=
  if s.mgt.boot == .unpowered then s
  else
    let s1 := wrPair s pAon 0x040 (rtc s + 1)
    let k := s.clk.tick.toNat
    let d := (k + 1) * 1953125 / 64 - k * 1953125 / 64
    let s2 := if chipDeep s then
        { s1 with clk := { s1.clk with rct := s1.clk.rct + BitVec.ofNat 64 d, tick := s1.clk.tick + 1 } }
      else s1
    if rb s2 pAon AON_ALARM_CTRL_ARMED && decide ((join64 (rd s2 (adr pAon 0x048)) (rd s2 (adr pAon 0x04C))).toNat ≤ (rtc s2).toNat) then fire s2
    else s2

/-- Both feeds are gone (R282): AON loses its power, and the chip is unpowered. -/
def powerLost (s : State) : State :=
  let s1 := resetCore s 0
  { s1 with
    mgt := { s1.mgt with boot := .unpowered }
    ring := { s1.ring with east := { s1.ring.east with feed := false }, west := { s1.ring.west with feed := false } } }

/-! ### Domains (R264, R268, R276, R277) -/

/-- A domain that a request without FORCE sends to a target; one in transit completes its transit first (R276, R282). -/
def domTo (x : Dom) (target : Nat) : Dom :=
  if x.transit != .none then { x with asked := some target }
  else if target == 2 then (if x.pstate == 2 then x else { x with transit := .toP2 })
  else if x.pstate == 2 then { x with transit := .exit }
  else { x with pstate := 1 }

/-- A domain at the end of a transit follows its votes (R264), and a request that came in the transit while it holds none. -/
def settledAsked (x : Dom) : Dom :=
  let y := settled { x with asked := none }
  match x.asked with
  | some t => if x.forced.isNone && !voted x then domTo y t else y
  | none => y

/-- A forced domain's way to its target: P1 from P2 leads through P0 (R268, R277); `waits` says that an entry forced before still waits for its
channels, and takes the new target (R282). -/
def domForce (x : Dom) (target : Nat) (waits : Bool) : Dom :=
  let y := { x with forced := some target, asked := none }
  if y.transit == .toP1 && target == 2 then { y with transit := .toP2 }
  else if y.transit == .toP2 && target == 1 && waits then { y with transit := .toP1 }
  else if y.transit != .none then y
  else if target == 2 then (if y.pstate == 2 then y else { y with transit := .toP2 })
  else if y.pstate == 2 then { y with transit := .exit }
  else if y.pstate == 1 then y
  else { y with transit := .toP1 }

/-- FORCE (R277): channels that use the domain pause, ENABLED ports of a cluster are suspended, and then the domain enters. -/
def forceDom (s : State) (d target : Nat) : State :=
  let uses := (List.range 64).filter (fun ch => chanUses s ch d)
  let s1 := setDom s d (domForce (domAt s d) target (entryWaits s d))
  let s2 := each uses s1 forcePause
  let s3 := if d < 64 then each (clPorts d) s2 (fun s p => if portState s p == 3 then suspendPort s p else s) else s2
  forceP1 s3 d

/-- A domain is released (R277): an entry that has not begun is given up, one that has completes first (R276). -/
def releaseDom (s : State) (d : Nat) : State :=
  let x := domAt s d
  let begun := x.transit == .toP2 && drained s d
  let y := { x with forced := none, asked := none, transit := if x.forced.isSome && (x.transit == .toP1 || x.transit == .toP2) && !begun then .none else x.transit }
  let s1 := resumePowered (setDom s d (settled y))
  if d < 64 && !domClosed s1 d then wakeCluster s1 d else s1

/-- FORCE is accepted for the domain: clusters, EBM banks and DMA islands in any mode, the others in HOLD (R277). -/
def forceOk (s : State) (d : Nat) : Bool :=
  decide (d < 64) || (decide (0x50 ≤ d) && decide (d ≤ 0x5B)) || mode s == 0

/-- PWR_DOM_CMD.GO on the selected domain (R277, R281, R282). -/
def domRequest (s : State) (target : Nat) (force : Bool) : State :=
  let d := s.pwr.sel
  if !pwrIdle s || !domOk d || target == 3 then powerRefuse s 0 1 d 0
  else if target == 0 then releaseDom s d
  else if force then (if forceOk s d then forceDom s d target else powerRefuse s 0 1 d 0)
  else if voted (domAt s d) then refuseByVote s [d] false
  else if (domAt s d).forced.isSome then setDom s d (domForce (domAt s d) target (entryWaits s d))
  else setDom s d (domTo (domAt s d) target)

/-- A write of PWR_DOM_CMD; while ENABLE of the page is 0 no request is taken (R87; assumption 104). -/
def domCmd (s : State) (v : Word) : State := if bit v 3 && pageOn s pPwr then domRequest s (bits v 0 2) (bit v 2) else s

/-- A domain's logic supply is off (R268, R276 to R279): its state stands at the Caramel level, its vote lines are clamped, a forced target
that came meanwhile applies, and a vote starts the exit. -/
def p2Done (s : State) (d : Nat) : State :=
  let x := domAt s d
  if x.transit != .toP2 || (x.forced.isSome && !drained s d) then s
  else
    let y := { x with pstate := 2, transit := .none, level := caramel s }
    islandVotes (setDom s d (match y.forced with | some t => domForce y t false | none => settledAsked y)) d

/-- A domain is back in P0 (R268, R277): a forced target applies, or the domain follows its votes; paused channels go on, and a cluster's
latched events act (R202). -/
def exitedDom (s : State) (d : Nat) : State :=
  let x := domAt s d
  if x.transit != .exit then s
  else
    let y := { x with pstate := 0, transit := .none }
    let s1 := match y.forced with
      | some t => forceP1 (setDom s d (domForce y t false)) d
      | none => setDom s d (settledAsked y)
    let s2 := resumePowered (islandVotes s1 d)
    if d < 64 && !domClosed s2 d then wakeCluster s2 d else s2

end Sys2Proof.Machine
end

