-- ==== Sys2Proof/Machine/EngineOps.lean ====
section
/-!
DEFINITION. The engines that no port holds: list, tenant and ring engines and management cores (R16 to R18, R20, R258, R259, R293).
-/
namespace Sys2Proof.Machine

/-- The number of a kind: 0 list, 1 tenant, 2 ring, 3 management (R16). -/
def kindNum : EngKind → Nat
  | .le => 0 | .te => 1 | .re => 2 | .mc => 3

/-- How many engines of a kind there are (R16). -/
def kindCount : EngKind → Nat
  | .le => 32 | .te => 16 | .re => 8 | .mc => 8

/-- The page of an engine's block (R14, R16): MC0 to MC3 stand in CD93, which holds MGT, MC4 to MC7 in CD94, which holds PWR; ring engines and
management cores have no registers there. -/
def engPage (e : Engine) : Nat :=
  match e.kind with
  | .le => 0x20 + e.n.toNat / 4
  | .te => 0x28 + e.n.toNat / 4
  | .re => pRing
  | .mc => if e.n.toNat < 4 then pMgt else pPwr

/-- It replaced. -/
def setEng (s : State) (k : Nat) (r : EngRec) : State :=
  { s with mgt := { s.mgt with engines := tabSet (fun _ => EngRec.init) s.mgt.engines k r } }

/-- The key of an engine. -/
def keyOf (e : Engine) : Nat := engKey (kindNum e.kind) e.n.toNat

/-- LE_STATUS.STATE and TEN_STATUS.STATE of an engine, by its number among those of its kind. -/
def engFld (f : Fld) (n : Nat) : Fld := fsh f (n % 4 * 0x10)

/-- The state of an engine: 1 RUN, 2 RESTARTING, 3 FAILED. -/
def engState (s : State) (e : Engine) : Nat :=
  match e.kind with
  | .le => rf s (engPage e) (engFld LE_STATUS_STATE e.n.toNat)
  | .te => rf s (engPage e) (engFld TEN_STATUS_STATE e.n.toNat)
  | _ => if (engRec s (keyOf e)).down then 2 else 1

/-- It set. -/
def setEngState (s : State) (e : Engine) (v : Nat) : State :=
  match e.kind with
  | .le => wf s (engPage e) (engFld LE_STATUS_STATE e.n.toNat) v
  | .te => wf s (engPage e) (engFld TEN_STATUS_STATE e.n.toNat) v
  | _ => setEng s (keyOf e) { engRec s (keyOf e) with down := v != 1 }

/-- The counters of an expiry, where the engine has registers (R18). -/
def countExpiry (s : State) (e : Engine) : State :=
  let n := e.n.toNat
  match e.kind with
  | .le => incF (incF s (engPage e) (engFld LE_STATUS_RESTARTS n)) (engPage e) (engFld LE_WDOG_EXPIRED n)
  | .te => incF (incF s (engPage e) (engFld TEN_STATUS_RESTARTS n)) (engPage e) (engFld TEN_WDOG_EXPIRED n)
  | _ => s

/-- A ring engine is the cell engine of its lane-group island, which handles forwarding and credits; the other is the link engine, which
handles timing cells, wrap and bypass (R17). The even one is taken as the cell engine (DESIGN CHOICE, assumption 89). -/
def cellEngine (n : Nat) : Bool := n % 2 == 0

/-- The duties of the management cores (R17). -/
inductive Duty where
  | powerVotes | faultFunnel | update | boot | sideband | servicePort | lifeline
deriving DecidableEq, Repr

/-- The core of a duty (R17); of MC5 and MC6, which share two, the lower takes the service port (DESIGN CHOICE, assumption 89). -/
def dutyCore : Duty → Nat
  | .powerVotes => 0 | .faultFunnel => 1 | .update => 2 | .boot => 3 | .sideband => 4 | .servicePort => 5 | .lifeline => 6

/-- A duty runs: its core does, or MC7 for it (R20). -/
def dutyRuns (s : State) (d : Duty) : Bool := !(engRec s (engKey 3 (doer s 3 (dutyCore d)))).down

/-- How many of MC0 to MC6 have their duties on MC7. -/
def coresOut (s : State) : Nat := ((List.range 7).filter (fun n => (engRec s (engKey 3 n)).passed)).length

/-- Every duty of MC0 to MC6 runs, on its own core or on MC7 (R20, R321): while a core that has failed restarts and MC7 does too, or does another
one's duties already, the watchdog is not kicked; once the cores run again it is. In RECOVERY the ROM kicks it (R320). -/
def dutiesRun (s : State) : Bool :=
  mode s == 6 || decide (coresOut s ≤ 1) && [Duty.powerVotes, .faultFunnel, .update, .boot, .sideband, .servicePort, .lifeline].all (dutyRuns s)

/-- The credits that are owed go in CREDIT cells (R53, R293): a failed cell engine's pending returns are sent again. -/
def resendCredits (s : State) : State :=
  each ((s.ring.owed.filter (fun p => decide (0 < p.2))).map (fun p => p.1 / 8)).eraseDups s sendCredit

/-- A command that a stop or a quiesce executes for a submitter, here or on another chip, completes INTERNAL (R258): the queue's stop goes on and
leaves the queue in ERROR; an instance's state is kept. -/
def failCommands (s : State) (te : Nat) (ref : Option Word) : State :=
  let fail (s : State) (o : Owner) (e : List Word) : State := done (blame s ref) o e 0xF 0 0 (ref.getD 0)
  let s1 := each (allTqs s) s (fun s t =>
    match (tqAt s t).bind (·.stop) with
    | some (.destroy o e) | some (.reset o e) =>
      if doer s 1 (tenantOf o) == te then fail (updTq s t (fun x => { x with stop := some .error })) o e else s
    | _ => s)
  let gone := s1.que.far.filter (fun f => doer s1 1 (tenantOf f.1) == te)
  let s1 := each gone { s1 with que := { s1.que with far := s1.que.far.filter (fun f => !gone.contains f) } }
    (fun s f => fail s f.1 f.2.1)
  each (s1.inst.map (·.1)) s1 (fun s i =>
    match (instAt s i).quiesce with
    | some (o, e, _) =>
      if doer s 1 (tenantOf o) == te then fail (setInst s i { instAt s i with quiesce := none }) o e else s
    | none => s)

/-- What an expiry does beside the report, before the engine's duties pass on: the walks that the engine does are cut and end, LE0's and LE1's or
those that have passed to it (R142, R293), commands in execution fail (R258), pending credits are sent again
(R293), a management core's failure is counted (R20). -/
def engLost (s : State) (e : Engine) (ref : Word) : State :=
  match e.kind with
  | .le => each ((s.pln.plans.filter (fun p => !p.walked && doer s 0 (p.n % 2) == e.n.toNat)).map (·.n)) s endWalk
  | .te => failCommands s e.n.toNat (some ref)
  | .mc => { s with mgt := { s.mgt with mcFailed := s.mgt.mcFailed + 1 } }
  | .re => if cellEngine e.n.toNat then resendCredits s else s

/-- The ERR_STATUS bit of an expiry (R352, R359): WDOG of a list engine's page, TE_WDOG of a tenant engine's. -/
def engErr (s : State) (e : Engine) : State :=
  match e.kind with
  | .le => errBit s (engPage e) 4
  | .te => errBit s (engPage e) 0
  | _ => s

/-- An engine's watchdog expires (R18, R259, R293): it restarts, its duties pass on, ENGINE_WDOG is reported; a tenant engine that
expires for the third time in 1 s is FAILED. The third expiry is two events, the expiry and the failure, and raises a report for each (DESIGN
CHOICE, assumption 100). -/
def engExpire (s : State) (e : Engine) : State :=
  let pr := noteExpiry s (keyOf e)
  let s1 := pr.1
  let n := pr.2
  let s2 := engErr (countExpiry s1 e) e
  let loc := blockLoc s2 (engPage e) e.n.toNat
  let pr2 := reportRef s2 loc 0x30
  let s3 := pr2.1
  let ref := pr2.2
  let s4 := if e.kind == .te && decide (3 ≤ n) then report (errBit (setEngState s3 e 3) (engPage e) 1) loc 0x31
    else setEngState s3 e 2
  let s5 := engLost s4 e ref
  setEng s5 (keyOf e) { engRec s5 (keyOf e) with passed := true }

/-- An engine of R16 that runs. -/
def engRuns (s : State) (e : Engine) : Bool := decide (e.n.toNat < kindCount e.kind) && engState s e == 1

/-- A heartbeat check that an engine misses (R293): at the second in a row its watchdog expires, and FLT_HB shows it. -/
def missBeat (s : State) (e : Engine) : State :=
  if !engRuns s e then s
  else
    let r := engRec s (keyOf e)
    if r.missed + 1 < 2 then setEng s (keyOf e) { r with missed := r.missed + 1 }
    else
      let s1 := wf (wf (incF (errBit s pFlt 1) pFlt FLT_HB_MISSES) pFlt FLT_HB_LAST_PAGE (engPage e)) pFlt FLT_HB_LAST_ENGINE e.n.toNat
      engExpire s1 e

/-- The heartbeat check of every engine (R293): those that answer start again from no miss. -/
def heartbeats (s : State) (missed : List Engine) : State :=
  let keys := missed.map keyOf
  let recs := tabMap (fun _ => EngRec.init) (fun k r => if keys.contains k then r else { r with missed := 0 }) s.mgt.engines
  let s1 := { s with mgt := { s.mgt with engines := recs } }
  each missed.eraseDups s1 missBeat

/-- The engine of a key, none for a port engine. -/
def engOf (k : Nat) : Option Engine :=
  match k / 256 with
  | 0 => some ⟨.le, BitVec.ofNat 5 k⟩
  | 1 => some ⟨.te, BitVec.ofNat 5 k⟩
  | 2 => some ⟨.re, BitVec.ofNat 5 k⟩
  | 3 => some ⟨.mc, BitVec.ofNat 5 k⟩
  | _ => none

/-- At a boundary, duties return to the engines that run again (R293), and ports to their port engines (R201). -/
def dutiesReturn (s : State) : State :=
  let back (k : Nat) (r : EngRec) : EngRec :=
    match engOf k with
    | some e => if engState s e == 1 then { r with passed := false } else r
    | none => r
  handBacks { s with mgt := { s.mgt with engines := tabMap (fun _ => EngRec.init) back s.mgt.engines } }

/-- TQs that a list engine serves (LE_STATUS.QUEUES). -/
def leQueues (s : State) (n : Nat) : Nat := (s.que.tqs.filter (fun t => doer s 0 (t.1 % 32) == n)).length

/-- Enabled instances that a tenant engine serves, the manager window included (TEN_STATUS.INSTANCES); instances are served in STANDALONE and
HEAD alone (R6, R240). -/
def teInstances (s : State) (n : Nat) : Nat :=
  (s.inst.filter (fun i => holdsLink s && decide (i.1 < 1024) && i.2.state != 0 && doer s 1 (i.1 % 16) == n)).length
    + (if doer s 1 15 == n then 1 else 0)

end Sys2Proof.Machine
end

