-- ==== Sys2Proof/Machine/Boot.lean ====
section
/-!
DEFINITION. Power-up, chip reset, boot and the watchdogs of boot and chip (R282, R303, R306 to R309, R313, R321).
-/
namespace Sys2Proof.Machine

/-- A feed comes within range (R308): after both were absent, the COLD reset sequence starts. Both are taken to be back (assumption 114). -/
def feedUp (s : State) : State :=
  if s.mgt.boot == .unpowered then
    resetChip { s with ring := { s.ring with east := { s.ring.east with feed := true }, west := { s.ring.west with feed := true } } } 0
  else s

/-- COLD_POWER_UP (R308). -/
def execColdPowerUp (s : State) : Host.Outcome State Fault Refusal := .next (feedUp s)

/-- CHIP_RESET (R306): the causes 6 and 7 are reserved, and no reset has one. Without power there is nothing to reset (R282), and no reset but
the alarm's exit leaves a deep state (R274). -/
def execChipReset (cause : BitVec 3) (s : State) : Host.Outcome State Fault Refusal :=
  .next (if cause.toNat ≤ 5 && s.mgt.boot != .unpowered && !chipDeep s then resetChip s cause.toNat else s)

/-- CHIP_RESET_RELEASED (R41, R308, R313). -/
def execChipResetReleased (straps : BitVec 6) (s : State) : Host.Outcome State Fault Refusal :=
  .next (if s.mgt.boot == .inReset then release s straps.toNat else s)

/-- The hottest sensor still reads 115 °C or more, after an exit that the alarm of R344 started. No command brings the reading of a cluster
island's sensor (R343): whether one of them is that hot is a free value (assumption 113). -/
def stillHot (s : State) : Bool := rf s pAon AON_WAKE_CAUSE == 4 && (decide (115 ≤ bankTj s (hotBank s)) || bit (freeNow s) 0)

/-- The end of a boot ends a P5 exit (R272): WOKE, and a chip that is still hot forces P5 again (R344). -/
def exitBooted (s : State) : State :=
  if s.mgt.boot == .running && rf s pAon AON_RESET_CAUSE_CAUSE == 4 then
    let s1 := svcEvt (evt s pAon 1) .power
    if stillHot s1 then thermalP5 (freeStep s1) else freeStep s1
  else s

/-- IMAGE_HASH_CHECKED (R308, R313): the boot goes on, or ends in RECOVERY. -/
def execImageHashChecked (s : State) : Host.Outcome State Fault Refusal :=
  .next (if s.mgt.boot == .hashing then exitBooted (hashDone s) else s)

/-- The self-check has passed: MODE reads HOLD, the join of R62 is due in 2 ms, and a P5 exit has ended (R272, R308). -/
def bootDone (s : State) : State :=
  let s1 := endBoot s 0 0
  exitBooted { s1 with ring := { s1.ring with joinTimer := true } }

/-- BOOT_COMPLETE (R308, R309). -/
def execBootComplete (s : State) : Host.Outcome State Fault Refusal :=
  .next (if s.mgt.boot == .checking then bootDone s else s)

/-- The boot has not reached HOLD in time (R309). -/
def bootLate (s : State) : State := incF (resetChip s 3) pNvm NVM_BOOT_BOOT_FAILS

/-- BOOT_WDOG_EXPIRE (R309). -/
def execBootWdogExpire (s : State) : Host.Outcome State Fault Refusal :=
  .next (if s.mgt.boot == .hashing || s.mgt.boot == .checking then bootLate s else s)

/-- CHIP_WDOG_KICK (R321). -/
def execChipWdogKick (s : State) : Host.Outcome State Fault Refusal :=
  .next (if s.mgt.boot == .running && dutiesRun s then { s with mgt := { s.mgt with wdogAt := (rct s).toNat } } else s)

/-- AON_WDOG.PERIOD in ns: a value outside 20 to 1,000 ms is read as the nearer limit (R321), and the register reads back as it was
written (DESIGN CHOICE, assumption 88). -/
def wdogPeriod (s : State) : Nat := min 1000 (max 20 (rf s pAon AON_WDOG_PERIOD)) * 1000000

/-- The chip watchdog has run out (R321): enabled, the boot done, the chip in no deep state, where no firmware runs, and no kick
for the period. -/
def wdogOut (s : State) : Bool :=
  !chipDeep s && rb s pAon AON_WDOG_ENABLE && s.mgt.boot == .running && decide (wdogPeriod s ≤ (rct s - BitVec.ofNat 64 s.mgt.wdogAt).toNat)

/-- The expiry (R303, R321): the FAULT frame, the bypass, then the reset. -/
def wdogReset (s : State) : State := resetChip (closeNow (sbdFault s (chipLoc s) 0x60)) 2

/-- CHIP_WDOG_EXPIRE (R321). -/
def execChipWdogExpire (s : State) : Host.Outcome State Fault Refusal := .next (if wdogOut s then wdogReset s else s)

/-- ACTIVATE_RESTART (R316): 1 ms after the completion of an UPDATE_ACTIVATE. -/
def execActivateRestart (s : State) : Host.Outcome State Fault Refusal :=
  .next (if s.nvm.restart && s.mgt.boot != .unpowered && !chipDeep s then resetChip s 5 else s)

end Sys2Proof.Machine
end

