-- ==== Sys2Proof/Machine/Dma.lean ====
section
/-!
DEFINITION. The DMA commands (R217 to R229): writes of DMA_CTRL, and what the data paths, the timers and the bus report.
-/
namespace Sys2Proof.Machine

/-- The offset of DMA_CTRL of a channel in its page. -/
def ctrlOff (ch : Nat) : Nat := 0x54 + ch % 4 * 0x40

/-- A write of DMA_CTRL through the gate; a planner channel refuses it (R217). -/
def dmaCtrlCmd (s : State) (src : Src) (ch : Nat) (v : Word) (desc : Option (List Word)) : State :=
  gatedW s src (dmaPage ch) (ctrlOff ch) v (fun s =>
    if ch < 48 then refuseAccess s src (dmaPage ch) (ctrlOff ch) true 1 false else dmaCtrl s ch v desc)

/-- DMA_CTRL of a channel as it stands. -/
def ctrlWord (s : State) (ch : Nat) : Word := rd s (adr (dmaPage ch) (ctrlOff ch))

/-- DMA_START_SINGLE (R219): a write of DMA_CTRL with START = 1 and CHAIN = 0. -/
def execDmaStartSingle (src : Src) (ch : BitVec 6) (v : Word) (s : State) : Host.Outcome State Fault Refusal :=
  .next (dmaCtrlCmd s src ch.toNat ((v ||| bitW 0) &&& ~~~ bitW 2) none)

/-- DMA_START_CHAIN (R219, R220): a write of DMA_CTRL with START = 1 and CHAIN = 1. -/
def execDmaStartChain (src : Src) (ch : BitVec 6) (v : Word) (desc : Option (List Word)) (s : State) :
    Host.Outcome State Fault Refusal :=
  .next (dmaCtrlCmd s src ch.toNat (v ||| bitW 0 ||| bitW 2) desc)

/-- DMA_PAUSE (R226): PAUSE goes to 1. -/
def execDmaPause (src : Src) (ch : BitVec 6) (s : State) : Host.Outcome State Fault Refusal :=
  .next (dmaCtrlCmd s src ch.toNat (ctrlWord s ch.toNat ||| bitW 1) none)

/-- DMA_RESUME (R226): PAUSE goes to 0. -/
def execDmaResume (src : Src) (ch : BitVec 6) (s : State) : Host.Outcome State Fault Refusal :=
  .next (dmaCtrlCmd s src ch.toNat (ctrlWord s ch.toNat &&& ~~~ bitW 1) none)

/-- DMA_STOP (R226): STOP is written 1. -/
def execDmaStop (src : Src) (ch : BitVec 6) (s : State) : Host.Outcome State Fault Refusal :=
  .next (dmaCtrlCmd s src ch.toNat (ctrlWord s ch.toNat ||| bitW 11) none)

/-- DMA_PAUSED (R226, R277). -/
def execDmaPaused (ch : BitVec 6) (moved : BitVec 24) (d : List Byte) (s : State) : Host.Outcome State Fault Refusal :=
  .next (chanPaused s ch.toNat moved.toNat d)

/-- DMA_DESCRIPTOR_DONE (R220). -/
def execDmaDescriptorDone (ch : BitVec 6) (d : List Byte) (next : Option (List Word)) (waits : List (BitVec 16)) (s : State) :
    Host.Outcome State Fault Refusal :=
  .next (xferDone s ch.toNat d next waits)

/-- A ring cell of a flow's transfer is lost (R48, R284, R290): its report lies beneath a record of a segment that arrives at the chip,
if one is open, and otherwise is an internal failure of the RING block (R285 has no code of its own for it; DEDUCED, assumption 110). -/
def lostCell (s : State) : State × Word :=
  if (causeRef s (segLoc s .west)).isSome then reportRef s (segLoc s .west) 0x52
  else if (causeRef s (segLoc s .east)).isSome then reportRef s (segLoc s .east) 0x52
  else reportRef s (blockLoc s pRing 0) 0xFF

/-- The address is in the spill region (R209). -/
def inSpill (a : Nat) : Bool := decide (0x1FC0000 ≤ a)

/-- A spilled record of a flow is lost (R214): its entry completes INTERNAL, a completion that waits for its POST among them. -/
def spillFail (s : State) (c a : Nat) : State :=
  let post := s.pln.spill.contains (c, 2)
  if spilled s c == 0 then s
  else
    let s1 := leaveLists s c false
    if post then
      let r := eccReport s1 a
      match (epAt s c).bind (·.tq) with
      | some t => drainPosts (updTq r.1 t (fun x => { x with posts := match x.posts with
          | p :: l => { p with status := 0xF, rc := some r.2 } :: l
          | [] => [] })) t
      | none => r.1
    else eccFail s1 c a

/-- A planner operation in service meets a bus error (R214, R221): its entry fails with the status of the error. -/
def flowBusError (s : State) (c : Nat) (k : BusErr) : State :=
  match (epAt s c).bind (·.work) with
  | none => s
  | some w =>
    if !w.inSvc then s
    else if w.op == .issue then
      -- the packet that is being sent ends with a bit-stuff error, so that the device discards it (R214)
      (match k, epAt s c with
       | .eccUe a, some e => emit (eccLog s a.toNat true) (.port (epPort s e) "bit-stuff error")
       | _, _ => s)
    else
      match k with
      | .cellLost => let r := lostCell s; flowOn (goOn (failWork r.1 c 4 (some r.2)) c) c
      | .eccUe a => flowOn (eccFail s c a.toNat) c
      | .other => flowOn (goOn (failWork s c 8 none) c) c

/-- A bus error of a flow: of its operation in service, or of a spilled record of it (R214, R221). -/
def flowError (s : State) (c : Nat) (k : BusErr) : State :=
  match k with
  | .eccUe a => if inSpill a.toNat then spillFail s c a.toNat else flowBusError s c k
  | _ => flowBusError s c k

/-- A software channel's read meets a bus error (R221, R229): the beats received are written, `n` bytes at the destination, and the descriptor
is BAD_DESC, or a single transfer ends in ERROR. -/
def chanBusError (s : State) (ch : Nat) (k : BusErr) (n : Nat) (d : List Byte) (next : Option (List Word)) : State :=
  if !isSoft ch || !chanGoes s ch || ((chanAt s ch).chain && (chanAt s ch).desc.isNone) then s
  else
    let got := n != 0 && decide (n ≤ crf s ch DMA_COUNT_COUNT) && n % frameBytes (chanAt s ch).cnd == 0 && bytesFit s ch n d && !xferBad s ch
    let s1 := if got then moveBytes s ch n d [] else s
    xferEnd (match k with | .eccUe a => eccLog s1 a.toNat true | _ => s1) ch 8 next

/-- DMA_BUS_ERROR (R221). -/
def execDmaBusError (t : DmaTarget) (k : BusFail) (next : Option (List Word)) (s : State) :
    Host.Outcome State Fault Refusal :=
  .next (match t with
    | .chan ch => chanBusError s ch.toNat k.kind k.moved.toNat k.d next
    | .flow ctx => flowError s ctx.toNat k.kind)

/-- DMA_DESC_READ_FAIL (R221). -/
def execDmaDescReadFail (ch : BitVec 6) (s : State) : Host.Outcome State Fault Refusal := .next (descLost s ch.toNat)

/-- DMA_BARRIER_ARRIVED (R227). -/
def execDmaBarrierArrived (ch : BitVec 6) (next : Option (List Word)) (s : State) : Host.Outcome State Fault Refusal :=
  .next (barrierDone s ch.toNat next)

/-- DMA_PACE_TIMER (R228): RCT passes a whole multiple of PERIOD on a channel paced by the timer. -/
def execDmaPaceTimer (ch : BitVec 6) (s : State) : Host.Outcome State Fault Refusal :=
  .next (if isSoft ch.toNat && crf s ch.toNat DMA_PACE_SRC == 1 then paceEvent s ch.toNat else s)

end Sys2Proof.Machine
end

