-- ==== Sys2Proof/Machine/TopoOps.lean ====
section
/-!
DEFINITION. The ring's own steps: writes of RING_CONTROL (R62, R63, R65), training and the loss budget (R59, R64, R355), epochs
and the live map (R43, R44, R52, R54), planned closings (R63), release and rejoin (R67, R68), timing (R55 to R58), and the
microframe boundary (R140).
-/
namespace Sys2Proof.Machine

/-! ### RING_CONTROL -/

/-- BYPASS_REQ goes to 1 (R62, R63): a planned closing begins where it applies, and otherwise the switches close at once. -/
def bypassSet (s : State) : State :=
  if bypassed s then s
  else if mode s == 0 && live s (ownPos s) && linkOf s .east == 2 && linkOf s .west == 2 && rf s pRing RING_STATUS_SEG_ROLE == 0 then
    tellOne s 0 (.leave (BitVec.ofNat 6 (ownPos s)))
  else closeNow s

/-- BYPASS_REQ goes to 0 (R62): the switches open if the chip has joined. -/
def bypassClear (s : State) : State :=
  let s1 := { s with ring := { s.ring with leaving := none, closeTimer := false } }
  if s1.ring.joined then openNow s1 else s1

/-- A port whose wrap becomes forced breaks (R65); one whose wrap is no longer forced may be released (R68, R356). -/
def forceChange (s : State) (d : Side) (was : Bool) : State :=
  if !was && forcedAt s d then breakAt s d else if was && !forcedAt s d then autoHeal (selfRelease s d) else s

/-- Training restarts on a port (RING_CONTROL.RETRAIN): a port that was UP breaks (R66). -/
def retrainPort (s : State) (d : Side) : State :=
  if linkOf s d == 3 || bypassed s then s else startTrain (if linkOf s d == 2 then breakAt (setLink s d 0) d else s) d

/-- A write of RING_CONTROL: the plain fields, then what each changed field starts; while ENABLE of the page is 0 it starts nothing (R87;
assumption 104). -/
def ringControl (s : State) (v : Word) : State :=
  let s1 := writeFields s pRing 0x044 v
  if !pageOn s pRing then s1 else
  let was (d : Side) : Bool := forcedAt s d
  let s2 := forceChange (forceChange s1 .east (was .east)) .west (was .west)
  let req (s : State) : Bool := rb s pRing RING_CONTROL_BYPASS_REQ
  let s3 := if !req s && req s1 then bypassSet s2 else if req s && !req s1 then bypassClear s2 else s2
  let s4 := if bit v 5 then retrainPort (retrainPort s3 .east) .west else s3
  if bit v 6 then joinRing s4 else s4

/-- RING_CONTROL as it stands. -/
def ringWord (s : State) : Word := rd s (adr pRing 0x044)

/-! ### Training -/

/-- Bridged positions on the way to the neighbour of a port (R64); the closing segment counts none. -/
def gapTo (s : State) (d : Side) (nb : Nat) : Nat :=
  let own := ownSlot s
  match d with
  | .east => if own < nb then nb - own - 1 else 0
  | .west => if nb < own then own - nb - 1 else 0

/-- A segment within its budget (R64): the loss measured, and the gap. -/
def inBudget (s : State) (d : Side) (nb : Nat) : Bool :=
  decide (rf s pRing (match d with | .east => RING_LOSS_EAST_LOSS | .west => RING_LOSS_WEST_LOSS) ≤ 96) && decide (gapTo s d nb ≤ 4)

/-- Step 6 (R59, R64, R355): the neighbour is known; the link is UP, or is kept down with BUDGET and its report. -/
def identify (s : State) (d : Side) (m : Train) : State :=
  let loop := m.slot.toNat == ownSlot s && m.serial == Config.dieSerial
  let x := { sideOf s d with step := 0, nbSlot := m.slot, nbSerial := m.serial, selfLoop := loop }
  let s1 := wf (setSide s d x) pRing (match d with | .east => RING_LOSS_EAST_GAP | .west => RING_LOSS_WEST_GAP)
    (min 15 (gapTo s d m.slot.toNat))
  if inBudget s1 d m.slot.toNat then autoHeal (selfRelease (svcEvt (setLink s1 d 2) .ring) d)
  else
    let s2 := setWrap (setLink s1 d 0) d true
    report (errBit s2 pRing 1) (segLoc s2 d) 0x54

/-- A training step has met its condition (R59). -/
def stepDone (s : State) (d : Side) (m : Train) : State :=
  let x := sideOf s d
  let next (s : State) : State := setSide s d { sideOf s d with step := x.step + 1 }
  if linkOf s d != 1 || x.step == 0 then s
  else if x.step == 4 then next (wf s pRing (match d with | .east => RING_LOSS_EAST_LOSS | .west => RING_LOSS_WEST_LOSS) m.loss.toNat)
  else if x.step == 5 then
    next (wf s pRing (match d with | .east => RING_DELAY_EAST_DELAY | .west => RING_DELAY_WEST_DELAY) m.delay.toNat)
  else if x.step == 6 then identify s d m
  else next s

/-- A training step has overrun its limit (R59). -/
def stepLate (s : State) (d : Side) : State :=
  if linkOf s d != 1 then s else setSide (incF s pRing RING_STATUS_TRAINING_FAIL) d { sideOf s d with step := 1 }

/-- The receive lanes of a port have lost block lock (R63, R65): a planned wrap is held and raises nothing; otherwise the port breaks.
The link trains again (R59). -/
def lanesDown (s : State) (d : Side) : State :=
  if linkOf s d != 2 then s
  else startTrain (if (sideOf s d).planned then setLink s d 0 else breakAt (setLink s d 0) d) d

/-- 200 µs after a break without a TOPO from the head (R66, R67). -/
def goOrphan (s : State) : State :=
  if (mode s == 3 || mode s == 4) && !isHead s && headKnown s && !s.ring.topoSeen then
    enterSevered { s with ring := { s.ring with orphanAt := s.clk.uframe } } 2
  else s

/-! ### Epochs and the live map -/

/-- The chip's position is duplicated (R44): its own bit, or a slot equal to the head's on a chip that is not the head. -/
def isDup (s : State) (dup : BitVec 64) (headSlot : Nat) : Bool :=
  bits64 dup (ownPos s) 1 == 1 || (!isHead s && ownSlot s == headSlot)

/-- A duplicate found before the map is complete. -/
def foundDup (s : State) (dup : BitVec 64) (headSlot : Nat) : State := if isDup s dup headSlot then setDup s true else s

/-- DUP of the chip as the live map has it (R44): a map that no longer names the position as duplicated clears it (DESIGN CHOICE,
assumption 74). -/
def noteDup (s : State) (dup : BitVec 64) (headSlot : Nat) : State :=
  setDup s (isDup s dup headSlot)

/-- The position that a planned closing takes out of the map (R63). -/
def withoutClosing (s : State) (map : BitVec 64) : BitVec 64 :=
  match s.ring.closing with
  | some (p, _, true) => mapWithout map p.toNat
  | _ => map

/-- The head's commands that wait for a chip which a new epoch leaves out complete UNREACHABLE (R137). -/
def stopsLost (s : State) : State :=
  each (s.que.far.filter (fun f => !reachable s f.2.2))
    { s with que := { s.que with far := s.que.far.filter (fun f => reachable s f.2.2) } } (fun s f => bad s f.1 f.2.1 dUnreachable)

/-- A chip has left the live map (R173, R288): the RELAY entries in service whose peer it holds complete XACT_ERR, with the reference of a
report that names it, INTERNAL for its planner (R285 has no code of its own for it; DEDUCED, assumption 110), and RELAY_LOST is set. -/
def peersLost (s : State) : State :=
  each (s.ctx.eps.map (·.1)) (stopsLost s) (fun s c =>
    match (epAt s c).bind (·.work) with
    | some w =>
      let p := ePeerPos w.e
      if eType w.e == 4 && p != ownPos s && !live s p then
        let pr := reportRef (err s pPln 4) (locOf 3 p 0 0 0 0 0 pPln) 0xFF
        let s1 := pr.1
        let r := pr.2
        goOn (cutWork s1 c 4 (some r)) c
      else s
    | none => s)

/-- The circulating TOPO cell on its way (R43, R49): one hop more, with its new message. -/
def passRound (s : State) (c : Cell) (map dup : BitVec 64) (epoch : BitVec 8) (headSlot : Nat) : State :=
  enqueue s c.ringB true
    (cellStamp { c with hops := c.hops + 1, pay := payOf (Config.topoPay (.round map dup epoch (BitVec.ofNat 6 headSlot))) })

/-- The circulating TOPO cell of an epoch (R43): the head completes the live map from it and broadcasts it, and another chip adds its
position. -/
def topoPass (s : State) (c : Cell) (map dup : BitVec 64) (epoch : BitVec 8) (headSlot : Nat) : State :=
  if isHead s then
    if epoch.toNat != rf s pRing RING_STATUS_EPOCH then s
    else
      let m := withoutClosing s map
      let s1 := tellAll { s with ring := { s.ring with mapDue := false, topoSeen := true } } 0 (.live m dup epoch (BitVec.ofNat 6 (ownSlot s)))
      noteDup (peersLost (sendGrants (loadMap s1 m))) dup (ownSlot s)
  else
    let s1 := knowHead s headSlot
    let p := ownPos s1
    if bits64 map p 1 == 1 then foundDup (passRound s1 c map (mapWith dup p) epoch headSlot) (mapWith dup p) headSlot
    else foundDup (passRound s1 c (mapWith map p) dup epoch headSlot) dup headSlot

/-- A broadcast live map (R43, R44, R54, R66): a new epoch discards the credits and brings new grants; one that no release announced is
a break, which severs the ring and takes back a release that was under way (R69), and one that comes ahead of its break's FAULT frame is
remembered (R66). The map of an epoch that the chip has, which comes on the
other ring, is loaded again. -/
def takeMap (s : State) (map dup : BitVec 64) (epoch : BitVec 8) (headSlot : Nat) : State :=
  let known := headKnown s && liveMap s != 0
  let newer := epoch.toNat != rf s pRing RING_STATUS_EPOCH || !known
  let broke := newer && known && !s.ring.mapDue
  let s1 := wf (knowHead s headSlot) pRing RING_STATUS_EPOCH epoch.toNat
  let s2 := noteDup { s1 with ring := { s1.ring with
    mapDue := if newer then false else s1.ring.mapDue, topoSeen := true, releaseAt := if broke then none else s1.ring.releaseAt
    mapsEarly := if broke && s1.ring.topoSeen then s1.ring.mapsEarly + 1 else s1.ring.mapsEarly } } dup headSlot
  let s3 := loadMap s2 map
  let s4 := peersLost (if newer then sendGrants (dropCredits s3) else s3)
  svcEvt (if broke && rf s4 pRing RING_STATUS_SEG_ROLE != 2 then enterSevered s4 1 else s4) .ring

/-- A grant of credits (R52, R54): it counts in the epoch that it names, on both rings, and injection resumes. -/
def takeGrant (s : State) (pos : Nat) (epoch : BitVec 8) (iso ctrl data : Nat) : State :=
  if epoch.toNat != rf s pRing RING_STATUS_EPOCH || !live s pos || pos == ownPos s then s
  else
    let put (t : Tab Nat) (p : Nat × Nat) : Tab Nat :=
      setCnt (setCnt t (crdKey pos p.1 false) p.2) (crdKey pos p.1 true) p.2
    flushCells { s with ring := { s.ring with credits := [(1, iso), (2, ctrl), (3, data)].foldl put s.ring.credits } }

/-! ### Planned closings, breaks of other chips, releases -/

/-- A chip asks the head to leave (R63). While another planned closing is under way the head does nothing for it: the section gives one wrap
microframe at a time (DESIGN CHOICE, assumption 105). -/
def leaveAsked (s : State) (pos : Nat) : State :=
  if !isHead s || s.ring.closing.isSome || !live s pos then s
  else
    let w := s.clk.uframe + 2
    tellAll { s with ring := { s.ring with closing := some (BitVec.ofNat 6 pos, w, false) } } 1 (.closing (BitVec.ofNat 6 pos) w)

/-- The head's notice of a planned closing (R63). -/
def closingTold (s : State) (pos : BitVec 6) (w : Word) : State :=
  if isHead s then s
  else { s with ring := { s.ring with
    closing := some (pos, w, false), leaving := if pos.toNat == ownPos s then some w else s.ring.leaving } }

/-- The wrap microframe (R63): the neighbours of the position wrap, every chip is SEVERED and ATTACHED, the head starts an epoch, whose map
is no unannounced one, and the leaving chip injects nothing more. -/
def wrapNow (s : State) (pos : Nat) (w : Word) : State :=
  if s.ring.leaving.isSome && pos == ownPos s then
    { s with ring := { s.ring with leaving := none, closing := none, closeTimer := true } }
  else if pos == ownPos s then { s with ring := { s.ring with closing := none } }
  else
    let s0 := each (sidesToward s pos) s (fun s d => setWrap (setSide s d { sideOf s d with planned := true }) d true)
    let t := twinEnd s pos false
    let s1 := knowBreak s0 t.1 t.2
    let s2 := enterSevered { s1 with ring := { s1.ring with closing := some (BitVec.ofNat 6 pos, w, true), mapDue := !isHead s1 } } 1
    if isHead s2 then advanceEpoch s2 else s2

/-- The root cause of the break that an ORPHAN chip lived through (R67): the record of its own broken segment, else of any break. -/
def breakRef (s : State) : Option Word :=
  let own := if rb s pRing RING_STATUS_EAST_WRAP then causeRef s (segLoc s .east) else causeRef s (segLoc s .west)
  match own with
  | some r => some r
  | none => ((recList s).find? (fun p => p.2.state != 0 && (p.2.code == 0x50 || p.2.code == 0x51))).map (fun p => refOf s p.1)

/-- The entries of an isochronous flow that no plan holds and whose START_UFRAME has passed are MISSED at a rejoin (R67). -/
def owedMissed (s : State) (c : Nat) (passed : Nat → Bool) (ref : Option Word) : State :=
  each (List.range 16) s (fun s _ =>
    match epAt s c with
    | some e =>
      if !isIsoc e || e.halt then s
      else match nextPlanned s e with
        | some (_, i, en) => if !eAsap en && passed (eStart en).toNat then planEntry s c (eStart en).toNat i (some (5, ref)) else s
        | none => s
    | none => s)

/-- The rejoin of an ORPHAN chip at microframe m (R67): entries in progress complete XACT_ERR and periodic entries whose microframe
has passed MISSED, each with the break's reference. -/
def orphanRejoin (s : State) (m : Nat) : State :=
  let ref := breakRef s
  each (s.ctx.eps.map (·.1)) s (fun s c =>
    match epAt s c with
    | none => s
    | some e =>
      let passed (n : Nat) : Bool := decide (0 ≤ ufDiff m (windowEnd s e n))
      let s0 := if isIsoc e then setEp s c { e with planned := lapsed e passed ref } else s
      let s1 := owedMissed s0 c passed ref
      match e.work with
      | none => goOn s1 c
      | some w =>
        if w.inSvc then goOn (cutWork s1 c 4 ref) c
        else match w.n with
          | some n => if isIsoc e && passed n then failLater s1 c 5 ref else s1
          | none => s1)

/-- The release microframe m (R68). -/
def releaseHere (s : State) (m : Nat) : State :=
  if orphan s then
    let s1 := releaseNow s
    each (allTqs s1) (orphanRejoin s1 m) drainPosts
  else releaseNow s

/-! ### Ring time -/

/-- The offset of a timing cell in units of 2^-16 ns (R57): local RCT less ORIGIN, CORR and the delay of the incoming link. Ring A
arrives at West, ring B at East (R37). -/
def timeOffset (s : State) (t : Timing) (ringB : Bool) : Int :=
  let delay := rf s pRing (if ringB then RING_DELAY_EAST_DELAY else RING_DELAY_WEST_DELAY)
  (t.atRct.toNat : Int) - ((payNum t.c 0 8 : Int) * 65536 + payNum t.c 8 8 + delay * 4096)

/-- OFFSET of RING_TIME_STATUS: 1/8 ns, signed, saturating. -/
def offsetField (o : Int) : Nat :=
  let v := max (-32768) (min 32767 (o.tdiv 8192))
  (v % 65536).toNat

/-- A timing cell with an authority that the head did not stamp (R47): it is discarded. -/
def authBad (t : Option Timing) : Bool := t.any (fun t => t.c.typ == 10 && cellOk t.c && t.c.hops != 127 && t.c.auth != 0 && t.c.src != 0)

/-- A timing cell that a chip can use (R47, R48, R49, R57). -/
def usable (t : Option Timing) : Option Timing :=
  t.filter (fun t => t.c.typ == 10 && cellOk t.c && t.c.hops != 127 && !(t.c.auth != 0 && t.c.src != 0))

/-- The timing cell of a microframe that a chip uses (R57), and whether it came on ring B: the one over fewer hops, that of ring A when the
hops are equal, or the one that is there. -/
def chosen (a b : Option Timing) : Option (Timing × Bool) :=
  match usable a, usable b with
  | some x, some y => if y.c.hops.toNat < x.c.hops.toNat then some (y, true) else some (x, false)
  | some x, none => some (x, false)
  | none, some y => some (y, true)
  | none, none => none

/-- A chosen timing cell (R42, R57, R58): its offset steps or slews RCT. -/
def useTiming (s : State) (t : Timing) (ringB : Bool) : State :=
  let o := timeOffset s t ringB
  let slot := payNum t.c 21 1 % 64
  let far := decide (64 * 65536 < o.natAbs)
  let now := max (t.atRct.toNat : Int) (rctUnits s)
  let s1 := foundDup (knowHead s slot) 0 slot
  let s2 := wf (wf (wb s1 pRing RING_TIME_STATUS_HOLDOVER false) pRing RING_TIME_STATUS_MISSED 0) pRing RING_TIME_STATUS_OFFSET (offsetField o)
  let run := if o.natAbs ≤ 4 * 65536 then min 16 (s.clk.lockRun + 1) else 0
  let s3 := if far then
      let s3 := setRctUnits (wb s2 pRing RING_TIME_STATUS_STEPPED true) (now - o)
      { s3 with clk := { s3.clk with slew := 0, uframe := BitVec.ofNat 32 (payNum t.c 16 4) } }
    else
      let s3 := setRctUnits s2 now
      { s3 with clk := { s3.clk with slew := max (-65536) (min 65536 (-o)) } }
  let s4 := { s3 with clk := { s3.clk with seen := true, lockRun := run } }
  if 5 * 65536 < o.natAbs then (if rb s4 pRing RING_TIME_STATUS_LOCKED then timeLost s4 else s4)
  else if run == 16 then wb s4 pRing RING_TIME_STATUS_LOCKED true else s4

/-- The timing cells of a microframe (R47, R57, R58). -/
def takeTiming (s : State) (a b : Option Timing) : State :=
  if isHead s || !onRing s then s
  else
    let s1 := each ([a, b].filter authBad) s (fun s _ => authDrop s)
    if s.clk.seen then s1
    else match chosen a b with
      | some (t, ringB) => useTiming s1 t ringB
      | none => s1

/-- 64 microframes in a row without a usable timing cell (R58). -/
def lockLost (s : State) : State :=
  if rb s pRing RING_TIME_STATUS_LOCKED && decide (64 ≤ rf s pRing RING_TIME_STATUS_MISSED) then timeLost s else s

/-! ### The microframe boundary (R140) -/

/-- The number of the next microframe boundary (R3, R139): the one that RCT has reached if the block has not seen it yet, else the one
after the last. -/
def nextBoundary (s : State) : Nat :=
  let cur := (rct s).toNat / 125000
  let d := ufDiff cur s.clk.uframe.toNat
  if 0 < d then cur else cur + (1 - d).toNat

/-- Time moves to the boundary, and its number becomes the current microframe. -/
def toBoundary (s : State) (k : Nat) : State :=
  let u := max (rctUnits s) ((k : Int) * 125000 * 65536)
  let s1 := setRctUnits s u
  { s1 with clk := { s1.clk with uframe := BitVec.ofNat 32 k, slew := 0 } }

/-- The payload of a timing cell (R55): ORIGIN, CORR, which the head sends as 0, UFRAME, EPOCH and HEAD_SLOT, lowest byte first. -/
def timingPay (s : State) : List Byte :=
  payOf (leBytes 8 (rct s).toNat ++ leBytes 8 0 ++ leBytes 4 s.clk.uframe.toNat ++ leBytes 1 (rf s pRing RING_STATUS_EPOCH)
    ++ leBytes 1 (ownSlot s))

/-- Timing at a boundary (R55, R58): the head launches a timing cell on each ring; another chip that knows a head, or is LOCKED, counts a
microframe without one, whether or not cells can reach it. -/
def timingBoundary (s : State) : State :=
  let s1 := { s with clk := { s.clk with seen := false } }
  if isHead s then broadcast s1 10 0 (timingPay s1)
  else if !s.clk.seen && (rb s pRing RING_TIME_STATUS_LOCKED || headKnown s && mode s != 1 && mode s != 7) then
    incF (wb { s1 with clk := { s1.clk with lockRun := 0 } } pRing RING_TIME_STATUS_HOLDOVER true) pRing RING_TIME_STATUS_MISSED
  else s1

/-- The page checks at a boundary (R92): a locked page whose check differs from the captured one. -/
def checkPages (s : State) : State :=
  each s.mgt.checks s (fun s c =>
    if locked s c.1 && pageCheck s c.1 != c.2 then report (wb s c.1 PAGE_STATUS_CHECK_FAIL true) (blockLoc s c.1 0) 0x41 else s)

/-- What happens on the ring at the boundary of m: a wrap microframe (R63), a release microframe (R68). -/
def ringBoundary (s : State) (m : Nat) : State :=
  let s1 := match s.ring.closing with
    | some (p, w, false) => if 0 ≤ ufDiff m w.toNat then wrapNow s p.toNat w else s
    | _ => s
  match s1.ring.releaseAt with
  | some w => if 0 ≤ ufDiff m w.toNat then releaseHere s1 m else s1
  | none => s1

/-- Whether the training TOPO cells of the ring have told by now that every segment beyond the chip's own is UP again (R46, R68): no command
brings them, and the answer is a free value (assumption 14). On the head, a ring that is whole heals. -/
def heardWhole (s : State) : State :=
  autoHeal (if s.ring.whole then s else freeStep { s with ring := { s.ring with whole := bit (freeNow s) 0 } })

/-- A microframe boundary (R55, R58, R63, R68, R92, R140, R201, R285, R293). -/
def boundary (s : State) : State :=
  let k := nextBoundary s
  let m := k % 2 ^ 32
  let s1 := timingBoundary (heardWhole (ringBoundary (toBoundary s k) m))
  let s2 := checkPages { s1 with ring := { s1.ring with crcBurst := [] } }
  farStops (plannerBoundary (dutiesReturn s2) m)

end Sys2Proof.Machine
end

