-- ==== Sys2Proof/Machine/CellOps.lean ====
section
/-!
DEFINITION. Cells as they arrive and pass (R45 to R49, R51, R53, R56, R65): the CRC, HOPS, AUTH and SEQ of a cell at its destination, the
transfers that a lost cell fails, the place of a cell in the ingress buffer, and transit.
-/
namespace Sys2Proof.Machine

/-- The ring on which a cell travels: the one it was injected on, or the other one after a wrap (R45, R65). -/
def cellRing (c : Cell) : Bool := c.ringB != c.wrapped

/-- A cell fails its CRC (R48, R285): it is counted, and the sixteenth failure of a microframe on a segment is reported. Ring A arrives
at West, ring B at East (R37). -/
def crcFail (s : State) (ringB : Bool) : State :=
  let k := b2n ringB
  let n := cnt s.ring.crcBurst k + 1
  let s1 := incF { s with ring := { s.ring with crcBurst := setCnt s.ring.crcBurst k n } } pRing RING_ERR_CNT_CRC_ERR
  if n == 16 then report s1 (segLoc s1 (if ringB then .east else .west)) 0x52 else s1

/-- A cell at HOPS = 127 is discarded (R49). -/
def hopDrop (s : State) : State := incF s pRing RING_DROP_CNT_HOP_DROP

/-- A cell of reserved TYPE is discarded (R46). -/
def noDst (s : State) : State := incF s pRing RING_DROP_CNT_NODST

/-- A TYPE that R46 reserves. -/
def reservedType (t : BitVec 4) : Bool := t == 0 || decide (0xD ≤ t.toNat)

/-! ### The sequence of a source (R45, R48) -/

/-- The sequence of a cell: its source, class and ring. -/
def seqKey (c : Cell) : Nat := crdKey c.src.toNat c.cls.toNat c.ringB

/-- The cells that are missing before a cell. A broadcast copy has no place in the sequence of one destination. -/
def seqGap (s : State) (c : Cell) : Nat :=
  if c.bcast then 0 else (c.seq.toNat + 65536 - cnt s.ring.seqRx (seqKey c) % 65536) % 65536

/-- A cell for the chip is discarded: its successor finds a gap (DESIGN CHOICE, assumption 75). -/
def noteDrop (s : State) (c : Cell) : State :=
  if c.bcast then s
  else { s with ring := { s.ring with lostHere := setCnt s.ring.lostHere (seqKey c) (cnt s.ring.lostHere (seqKey c) + 1) } }

/-- The next SEQ is expected, and a gap is counted. -/
def takeSeq (s : State) (c : Cell) : State :=
  if c.bcast then s
  else
    let s1 := { s with ring := { s.ring with
      seqRx := setCnt s.ring.seqRx (seqKey c) ((c.seq.toNat + 1) % 65536), lostHere := setCnt s.ring.lostHere (seqKey c) 0 } }
    if seqGap s c == 0 then s1 else incF s1 pRing RING_ERR_CNT_SEQ_GAP

/-! ### Lost cells (R48, R173) -/

/-- The valid bytes of a payload (R45). -/
def cellData (c : Cell) : List Byte := c.pay.take (min 64 c.len.toNat)

/-- Slot 39 while a cell for this chip is written (R266). -/
def ringReceive (s : State) (doms : List Nat) : State := each doms s (fun s d => pulse s 39 d)

/-- The domains that the data of a DMA tag goes to (R266): the island of the operation's channel, and the banks that it touches. -/
def tagDoms (s : State) (tag : Word) : List Nat :=
  let t := (Config.dmaTag tag).toNat
  let doms (ch : Nat) : List Nat := (0x58 + ch / 16) :: (chanBanks s ch).map (· + 0x50)
  if 8192 ≤ t then doms (t % 64)
  else match ((epAt s t).bind (·.work)).bind (·.chan) with
    | some ch => doms ch
    | none => []

/-- A cell whose data no operation of a channel here awaits is written by a DMA island that the spec leaves open (R266; assumption 2). -/
def ringWrites (s : State) (banks : List Nat) : State :=
  freeStep (ringReceive s ((0x58 + (freeNow s).toNat % 4) :: banks.map (· + 0x50)))

/-- The destination bytes that the data brought to a software channel in DATA cells makes: whole frames (R221, R231). -/
def gotBytes (s : State) (ch : Nat) : Nat :=
  let k := chanAt s ch
  let n := if k.cnd.isEmpty then k.got.length else
    k.got.length / ((cndOf k.cnd).chans * fmtSize (cndOf k.cnd).inFmt) * frameBytes k.cnd
  min n (crf s ch DMA_COUNT_COUNT)

/-- A DATA cell has been lost (R48): the transfer that its DMA tag names fails. A software channel writes what the cells before it have brought
(R221). -/
def tagLost (s : State) (tag : Word) : State :=
  let t := (Config.dmaTag tag).toNat
  if 8192 ≤ t then
    let ch := t % 64
    let n := gotBytes s ch
    chanBusError s ch .cellLost n ((chanAt s ch).got.take (srcBytes (chanAt s ch).cnd n)) none
  else flowBusError s t .cellLost

/-- A relay cell of a sink has been lost (R173): the RELAY entry that needs its data completes XACT_ERR, the one in service unless the buffer holds
all that it has still to send, or a later one. -/
def relayLost (s : State) (ctx : Nat) : State :=
  let pr := lostCell s
  let s1 := pr.1
  let r := pr.2
  match epAt s1 ctx with
  | none => s1
  | some e =>
    match e.work with
    | some w =>
      if eType w.e == 4 && decide (e.fill < eLen w.e - w.moved) then goOn (cutWork s1 ctx 4 (some r)) ctx
      else setEp s1 ctx { e with lost := e.lost.or (some (r, e.fill)) }
    | none => setEp s1 ctx { e with lost := e.lost.or (some (r, e.fill)) }

/-- A cell of a type and TAG has been lost (R48): a DATA cell fails its transfer, a RELAY cell its relay. -/
def cellLost (s : State) (typ : Nat) (tag : Word) : State :=
  if typ == 1 then tagLost s tag else if typ == 8 then relayLost s (tag.toNat % 8192) else s

/-- Cells of a sequence are missing that the chip never saw (R48): what they were, and for which transfer, is open, so each has a free TYPE
and TAG (assumptions 2 and 75). Cells of class CTRL carry no transfer. -/
def seqLost (s : State) (c : Cell) : State :=
  let n := seqGap s c - cnt s.ring.lostHere (seqKey c)
  if c.cls == 1 || c.cls == 3 then
    each (List.range n) s (fun s _ =>
      let v := freeNow s
      let s1 := freeStep s
      cellLost (freeStep s1) (if bit v 0 then 8 else 1) (freeNow s1))
  else s

/-! ### Arrival -/

/-- The cell is for the chip: it names the chip's position, or is a broadcast that is not the chip's own (R45). A chip that knows no head
has sent no cell. -/
def cellHere (s : State) (c : Cell) : Bool :=
  if c.bcast then c.src.toNat != ownPos s || !headKnown s else c.dst.toNat == ownPos s

/-- The access that a cell has brought waits, and keeps the cell's place in the ingress buffer; any other cell's place is freed (R53). -/
def settleCell (before : Nat) (s : State) (c : Cell) : State :=
  if s.mgt.boot != .running then s
  else if s.held.length == before + 1 then
    { s with held := s.held.dropLast ++ (s.held.getLast?.map (fun h => { h with slot := ingressKey c })).toList }
  else freeIngress s c

/-- A cell of a type arrives at its destination (R46 to R49, R51, R53): its CRC, HOPS and AUTH are checked, a discarded cell and cells missing
before it fail their transfers, its header's credits are taken, and it has its effect. A broadcast cell's CRC and HOPS are counted where it passes
(CELL_TRANSIT). -/
def arrive (s : State) (c : Cell) (typ : Nat) (eff : State → State) : State :=
  if !onRing s || c.typ.toNat != typ || !cellHere s c then s
  else if !cellOk c then
    (if c.bcast then s else cellLost (noteDrop (crcFail s (cellRing c)) c) typ c.tag)
  else if c.hops == 127 then (if c.bcast then s else cellLost (noteDrop (hopDrop s) c) typ c.tag)
  else if c.auth != 0 && c.src != 0 then cellLost (freeIngress (noteDrop (authDrop (takeIngress s c)) c) c) typ c.tag
  else
    let s1 := takeIngress (takeSeq (takeCredits (seqLost s c) c) c) c
    settleCell s1.held.length (eff s1) c

/-! ### Transit -/

/-- A timing cell on its way (R56): CORR takes the delay of the link that it came by, and its residence time. -/
def addDelay (s : State) (ringB : Bool) (res : Nat) (c : Cell) : Cell :=
  if c.typ != 10 then c
  else
    let delay := rf s pRing (if ringB then RING_DELAY_EAST_DELAY else RING_DELAY_WEST_DELAY)
    { c with pay := c.pay.take 8 ++ leBytes 8 (payNum c 8 8 + delay * 4096 + res) ++ c.pay.drop 16 }

/-- A cell forwarded (R48, R49, R56, R65): HOPS counts on, and a failing cell stays as it is. -/
def forward (s : State) (ringB : Bool) (c : Cell) (res : Nat) : State :=
  enqueue s ringB true (if cellOk c then cellStamp (addDelay s ringB res { c with hops := c.hops + 1 }) else c)

/-- A cell that passes the chip (R46, R48, R49): the source strips its own cells, counting a unicast one undelivered, and a reserved TYPE
is discarded at its destination, where it counts in NODST alone, at HOPS = 127 too (R46, R49: DESIGN CHOICE, assumption 108). A cell of another
type for this chip is the matter of its own command; the circulating TOPO cell too. -/
def transit (s : State) (ringB : Bool) (c : Cell) (res : Nat) : State :=
  if !onRing s then s
  else
    let s1 := if cellOk c then s else crcFail s ringB
    if !c.bcast && c.dst.toNat == ownPos s then
      (if !reservedType c.typ then s
       else if cellOk c then freeIngress (noDst (takeIngress s1 c)) c else s1)
    else if c.hops == 127 then hopDrop s1
    else if c.src.toNat == ownPos s && headKnown s then (if c.bcast then s1 else noDst s1)
    else if c.bcast && reservedType c.typ && cellOk c then forward (noDst s1) ringB c res
    else forward s1 ringB c res

end Sys2Proof.Machine
end

