-- ==== Sys2Proof/Machine/FltOps.lean ====
section
/-!
DEFINITION. The fault log's management (R286, R291, R304, R323): the end of a hush window, retiring, freezing and
thawing.
-/
namespace Sys2Proof.Machine

/-- The log is frozen (R291). -/
def frozen (s : State) : Bool := rb s pFlt FLT_FREEZE_FREEZE

/-- The hush window of a record ends (R286, R288): OPEN becomes RAISED with ROOT_CAUSE, or RETIRED for a remote location. A frozen log
stays as it is. -/
def hushEnd (s : State) (i : Nat) : State :=
  let r := recAt s i
  if r.state != 1 || frozen s then s
  else if r.remote then setRec s i { r with state := 3 }
  else rootCause (setRec s i { r with state := 2 })

/-- FLT_RETIRE written (R291): a RAISED record is RETIRED; record 63 loses its counts. -/
def retire (s : State) (v : Word) : State :=
  let i := bits v 0 6
  let r := recAt s i
  if !bit v 8 || r.state != 2 || frozen s then s
  else if i == 63 then setRec s i { r with state := 3, suppressed := 0, affected := 0, moves := 0 }
  else setRec s i { r with state := 3 }

/-- FLT_FREEZE written (R291, R323): a write that sets FREEZE starts the snapshot; THAW clears FREEZE. -/
def freezeWrite (s : State) (v : Word) : State :=
  let s1 := if bit v 0 && !frozen s then wb (wb s pFlt FLT_FREEZE_FREEZE true) pNvm NVM_SNAPSHOT_BUSY true else s
  if bit v 1 then wb s1 pFlt FLT_FREEZE_FREEZE false else s1

end Sys2Proof.Machine
end

