-- ==== Sys2Proof/Machine/Mode.lean ====
section
/-!
DEFINITION. The mode commands (R28 to R32, R102, R103): the writes to MGT_MODE, their completion, and MGT_RESET.GO.
-/
namespace Sys2Proof.Machine

/-- A write of a mode to MGT_MODE, through the gate (R29, R96 to R99). -/
def modeCmd (s : State) (src : Src) (v : Nat) : State :=
  gatedW s src pMgt 0x04C (BitVec.ofNat 32 v) (fun s => modeWrite s src v)

/-- MODE_WRITE_HOLD (R29, R31). -/
def execModeWriteHold (src : Src) (s : State) : Host.Outcome State Fault Refusal := .next (modeCmd s src 0)

/-- MODE_WRITE_STANDALONE (R29). -/
def execModeWriteStandalone (src : Src) (s : State) : Host.Outcome State Fault Refusal := .next (modeCmd s src 1)

/-- MODE_WRITE_HEAD (R29): also AUTO_HEAL's own write of 2, which RingOps makes (R68). -/
def execModeWriteHead (src : Src) (s : State) : Host.Outcome State Fault Refusal := .next (modeCmd s src 2)

/-- MODE_WRITE_MEMBER (R29). -/
def execModeWriteMember (src : Src) (s : State) : Host.Outcome State Fault Refusal := .next (modeCmd s src 3)

/-- MODE_WRITE_LOOP (R29). -/
def execModeWriteLoop (src : Src) (s : State) : Host.Outcome State Fault Refusal := .next (modeCmd s src 5)

/-- MODE_WRITE_RECOVERY (R29). -/
def execModeWriteRecovery (src : Src) (s : State) : Host.Outcome State Fault Refusal := .next (modeCmd s src 6)

/-- MODE_WRITE_VAULT (R30): refused in every mode, with reason VAULT. -/
def execModeWriteVault (src : Src) (s : State) : Host.Outcome State Fault Refusal := .next (modeCmd s src 7)

/-- MODE_WRITE_REJOIN (R29, R68): the mode held before SEVERED. -/
def execModeWriteRejoin (src : Src) (v : BitVec 3) (s : State) : Host.Outcome State Fault Refusal :=
  .next (modeCmd s src v.toNat)

/-- MODE_TRANSITION_COMPLETE (R102). -/
def execModeTransitionComplete (s : State) : Host.Outcome State Fault Refusal := .next (completeMode s)

/-- A write of 1 to MGT_RESET.GO (R103). -/
def resetGo (s : State) (src : Src) : State := if quietMode s then resetChip s 1 else refuseMode s src pMgt 0x05C

/-- MGT_RESET_GO (R103). -/
def execMgtResetGo (src : Src) (s : State) : Host.Outcome State Fault Refusal :=
  .next (gatedW s src pMgt 0x05C 1 (fun s => resetGo s src))

end Sys2Proof.Machine
end

