-- ==== Sys2Proof/Machine/SbdOps.lean ====
section
/-!
DEFINITION. The sideband (R71 to R78, R275, R289, R353, R354): the frames that the chip sends, their way over the line, the frames it
hears, and the election.
-/
namespace Sys2Proof.Machine

/-- The listener stands in the AON island: it hears in every power state and during a reset (R71, R353). -/
def hears (s : State) : Bool := s.mgt.boot != .unpowered

/-- The funnel and its page run: the boot is done, and no deep state holds (R278, R308). -/
def awake (s : State) : Bool := s.mgt.boot == .running && !chipDeep s

/-! ### The bits of a frame (R71) -/

/-- A number's low n bits, the most significant first. -/
def msbBits : Nat → Nat → List Bool
  | 0, _ => []
  | n + 1, v => (v / 2 ^ n % 2 == 1) :: msbBits n v

/-- One complementary bit inserted after every five equal bits: the last bit sent, and the length of its run (R71). -/
def stuff : Bool → Nat → List Bool → List Bool
  | _, _, [] => []
  | last, run, b :: bs =>
    let r := if b == last && run != 0 then run + 1 else 1
    if r == 5 then b :: (!b) :: stuff b 0 bs else b :: stuff b r bs

/-- The ID field (R71): TYPE, the sender's slot, the low 6 bits of its serial number. -/
def frameId (typ : BitVec 4) (slot : Nat) (serial : BitVec 64) : Nat := typ.toNat * 4096 + slot % 64 * 64 + serial.toNat % 64

/-- A frame on the line, a dominant bit as false (R71): preamble, SYNC, ID, then LEN, BODY and CRC with inserted bits, and the recessive
EOF. The CRC covers ID, LEN and BODY. -/
def frameWire (typ : BitVec 4) (slot : Nat) (serial : BitVec 64) (body : List Byte) : List Bool :=
  let id := frameId typ slot serial
  let crc := crc16 ([BitVec.ofNat 8 (id / 256), BitVec.ofNat 8 id, BitVec.ofNat 8 body.length] ++ body)
  let tail := msbBits 8 body.length ++ body.flatMap (fun b => msbBits 8 b.toNat) ++ msbBits 16 crc
  msbBits 16 0xAAAA ++ msbBits 8 0xD5 ++ msbBits 16 id ++ stuff true 0 tail ++ msbBits 8 0xFF

/-! ### Requests -/

/-- A write of 1 to ELECT_GO (R76, R353, R354): WINNER clears, and in HOLD an ELECT is sent; ignored while SBD_CONTROL.ENABLE is 0. -/
def electGo (s : State) : State :=
  if !rb s pSbd SBD_CONTROL_ENABLE then s
  else
    let s1 := wb (wf { s with sbd := { s.sbd with claimed := false } } pSbd SBD_ELECT_WINNER 0) pSbd SBD_ELECT_WINNER_VALID false
    if mode s1 == 0 then queueElect s1 else s1

/-- A frame that ENABLE = 0 suppresses (R353): ELECT, WAKE, ALARM_SET. -/
def suppressed (f : Frame) : Bool := f.typ == 3 || f.typ == 4 || f.typ == 5

/-- The frames that wait when ENABLE is 0 (R353): those that it suppresses are dropped, a software frame as FAILED; the frame on the line goes on
(DESIGN CHOICE, assumption 77). -/
def dropSuppressed (s : State) : State :=
  let kept := (s.sbd.queue.zipIdx.filter (fun p => !suppressed p.1 || (p.2 == 0 && s.sbd.onLine))).map (·.1)
  if rb s pSbd SBD_CONTROL_ENABLE || kept == s.sbd.queue then s
  else
    let cut := s.sbd.queue.any (fun f => suppressed f && f.soft) && !kept.any (·.soft)
    let s1 := softBusy { s with sbd := { s.sbd with
      queue := kept, backoff := s.sbd.backoff && (s.sbd.queue.head?.map suppressed) == some false } }
    if cut then wb s1 pSbd SBD_TX_FAILED true else s1

/-- A write of SBD_CONTROL: its fields, then ELECT_GO. -/
def sbdControl (s : State) (v : Word) : State :=
  let s1 := dropSuppressed (writeFields s pSbd 0x040 v)
  if bit v 1 then electGo s1 else s1

/-- The bytes of SBD_TX_BODY0 to SBD_TX_BODY3. -/
def sbdBody (s : State) : List Byte := wordBytes ((List.range 4).map (fun n => rd s (adr pSbd (0x04C + 4 * n))))

/-- GO of SBD_TX (R72, R353): WAKE has a body of 8 bytes, ALARM_SET one of 16. While BUSY is 1 GO is ignored, whatever ENABLE holds: the BUSY row
and R353 differ there (DESIGN CHOICE, assumption 78). -/
def sbdGo (s : State) : State :=
  let t := rf s pSbd SBD_TX_TYPE
  if rb s pSbd SBD_TX_BUSY then s
  else if !rb s pSbd SBD_CONTROL_ENABLE || !pageOn s pSbd || !(t == 4 || t == 5) then wb s pSbd SBD_TX_FAILED true
  else softBusy (queueFrame s t ((sbdBody s).take (if t == 4 then 8 else 16)) true)

/-- A write of SBD_TX: its fields, then GO. -/
def sbdTx (s : State) (v : Word) : State :=
  let s1 := writeFields s pSbd 0x048 v
  if bit v 8 then sbdGo s1 else s1

/-- The PCIe link trains (R76): in HOLD with AUTO_ELECT, unless the chip has lost, an ELECT is sent. -/
def autoElect (s : State) : State :=
  if mode s == 0 && rb s pSbd SBD_CONTROL_ENABLE && rb s pSbd SBD_CONTROL_AUTO_ELECT && electState s != 3 then queueElect s else s

/-! ### A frame on the line (R73, R75) -/

/-- The slot straps as AON holds them (R41, R71), also while a reset keeps RING_POSITION at 0. -/
def strapSlot (s : State) : Nat := s.mgt.pins.toNat

/-- A frame may leave (R278, R302): in P3 to P5 the transmitter is released, but for the FAULT frames, which AON sends alone (DEDUCED,
assumption 109). -/
def maySend (s : State) (f : Frame) : Bool := !chipDeep s || f.typ == 1

/-- The transmitter replaced. -/
def setFrames (s : State) (q : List Frame) (onLine backoff : Bool) : State :=
  softBusy { s with sbd := { s.sbd with queue := q, onLine := onLine, backoff := backoff } }

/-- The first frame loses arbitration to a lower ID (R73, R76): it waits, but an ELECT beaten by an ELECT or a HEAD_CLAIM is not sent. -/
def frameLost (s : State) (f : Frame) (rest : List Frame) (typ slot : Nat) : State :=
  if !(decide (typ < f.typ.toNat) || (typ == f.typ.toNat && decide (slot ≤ strapSlot s))) then s
  else if f.typ == 3 && (typ == 2 || typ == 3) then
    let s1 := setFrames s rest false false
    if !isHead s1 && (typ == 2 || decide (slot < strapSlot s1)) then electLost s1 else s1
  else s

/-- The first frame collides (R75): it backs off, and after eight attempts it is dropped as FAILED, unless it is a FAULT frame. -/
def frameCollided (s : State) (f : Frame) (rest : List Frame) : State :=
  let s1 := lfsrStep (incF s pSbd SBD_COUNTS_COLLIDED)
  if 8 ≤ f.tries + 1 && f.typ != 1 then
    let s2 := incF (setFrames s1 rest false false) pSbd SBD_COUNTS_TX_FAIL
    wb s2 pSbd SBD_TX_FAILED true
  else setFrames s1 ({ f with tries := f.tries + 1 } :: rest) false true

/-- A frame that waits starts (R73, R75). An ELECT that still waits when the chip has left HOLD is sent all the same (DESIGN CHOICE,
assumption 107). -/
def frameStart (s : State) (a : Arb) : State :=
  if s.mgt.boot == .unpowered || s.sbd.onLine || s.sbd.backoff then s
  else match s.sbd.queue with
    | [] => s
    | f :: rest =>
      if !maySend s f then s else
      match a with
      | .clean => lfsrStep (setFrames s (f :: rest) true false)
      | .lost typ slot => frameLost s f rest typ.toNat slot.toNat
      | .collided => frameCollided s f rest

/-- The frame on the line ends (R75 to R77): a software frame is DONE, an ELECT makes a CANDIDATE, a HEAD_CLAIM names the head. -/
def frameSent (s : State) : State :=
  match s.sbd.queue with
  | [] => s
  | f :: rest =>
    if !s.sbd.onLine || !maySend s f then s
    else
      let s1 := emit (setFrames s rest false false) (.frame f.typ f.body (frameWire f.typ s.mgt.pins.toNat Config.dieSerial f.body))
      if f.soft then wb s1 pSbd SBD_TX_DONE true
      else if f.typ == 3 then
        noteElect (wf { s1 with sbd := { s1.sbd with window := true } } pSbd SBD_ELECT_STATE 1) (ownSlot s1)
      else if f.typ == 2 then noteClaim s1 (ownSlot s1)
      else s1

/-- The window of a CANDIDATE closes (R76). -/
def windowClose (s : State) : State :=
  if s.sbd.window && electState s == 1 then wf { s with sbd := { s.sbd with window := false } } pSbd SBD_ELECT_STATE 2 else s

/-! ### Frames heard -/

/-- An ELECT heard (R76, R77, R354): a head answers with HEAD_CLAIM, and any other chip loses to a lower slot. -/
def hearElect (s : State) (slot : Nat) : State :=
  let s1 := noteElect s slot
  if isHead s1 then queueClaim s1
  else if slot < strapSlot s1 then electLost s1 else s1

/-- A HEAD_CLAIM heard (R76, R354). RING_POSITION stays as it is: R42 has the position from the head's cells (DESIGN CHOICE, assumption 103). -/
def hearClaim (s : State) (slot : Nat) : State :=
  let s1 := noteClaim s slot
  if isHead s1 then s1 else electLost s1

/-- A FAULT frame heard (R65, R66, R289): SB_FAULT, a count under a record that holds its location, and for a break its segment and the wait of
R66 for a TOPO cell, unless the frame is the second of its break or the break's map has come ahead of it. -/
def hearFault (s : State) (loc : BitVec 64) (code : BitVec 16) : State :=
  let s1 := evt s pFlt 1
  let s2 := if (recHolding s1 loc).isSome then report s1 loc code else s1
  if code == 0x50 && locLevel loc == 2 then
    if isHead s2 || !headKnown s2 then s2
    else
      let pos := locPos loc
      let east := locPage loc % 2 == 0
      let n := newBreak s2 pos east
      let s3 := knowBreak n.2 pos east
      if !n.1 then s3
      else { s3 with ring := { s3.ring with
        topoSeen := s3.ring.topoSeen && decide (0 < s3.ring.mapsEarly), mapsEarly := s3.ring.mapsEarly - 1 } }
  else s2

/-- A slot mask names the chip, by the straps as AON holds them (R71, R72). -/
def named (s : State) (mask : BitVec 64) : Bool := bits64 mask s.mgt.pins.toNat 1 == 1

end Sys2Proof.Machine
end

