-- ==== Sys2Proof/Machine/RegOps.lean ====
section
/-!
DEFINITION. Reads and writes of the register pages: the value of every register (R8 to R10, R87 to R92, and the registers that a block
computes), the effect of a write, soft resets (R88, R175, R203, R230, R304), and accesses that have waited (R88, R94).
-/
namespace Sys2Proof.Machine

/-! ### What registers read -/

/-- PAGE_STATUS (R87, R90, R351). -/
def pageStatus (s : State) (page : Nat) : Word :=
  let p := pagePstate s page
  BitVec.ofNat 32 (p % 8 + b2n (!pageDark s page) * 2 ^ 3 + b2n (inSoftReset s page || s.mgt.boot == .inReset) * 2 ^ 4
    + b2n (rd s (adr page 0x020) &&& rd s (adr page 0x024) != 0) * 2 ^ 5
    + b2n (rd s (adr page 0x02C) &&& rd s (adr page 0x030) != 0) * 2 ^ 6
    + b2n (locked s page) * 2 ^ 7 + rf s page PAGE_STATUS_CHECK_FAIL * 2 ^ 8)

/-- A header register that is not simply stored. -/
def headerVal (s : State) (page off : Nat) : Option Word :=
  match blockOf page with
  | none => none
  | some b =>
    if off == 0x000 then some (BitVec.ofNat 32 (blockType b + pageInst page * 2 ^ 8 + 2 ^ 16))
    else if off == 0x004 then some (BitVec.ofNat 32 (pageCaps page))
    else if off == 0x008 then some (pageStatus s page)
    else if off == 0x010 || off == 0x014 || off == 0x018 then some (if votable b then voteHeld s page else 0)
    else if off == 0x03C then some (pageCheck s page)
    else none

/-- A counter of the pair that ARB_SEL selects (R239). -/
def arbVal (s : State) (k : Nat) : Word :=
  tabGet (fun _ => (0 : Word)) s.arb (arbKey (rf s pArb ARB_SEL_BANK) (rf s pArb ARB_SEL_REQ) k)

/-- PWR_DOM_STATUS of the selected domain; a reserved code reads 0 but for DOMAIN (R277). -/
def domStatus (s : State) : Word :=
  let d := s.pwr.sel
  let x := domAt s d
  let st := if chipDeep s then rf s pPwr PWR_CHIP_STATE else x.pstate
  BitVec.ofNat 32 ((if domOk d then st + b2n x.forced.isSome * 8 + b2n (x.transit != .none) * 16 else 0) + d % 256 * 256)

/-- NVM_BOOT: what is stored, with the boot record's trial and the fallback (R312, R313). -/
def nvmBoot (s : State) : Word :=
  let r := bootRec s.nvm
  let w := rd s (adr pNvm 0x040)
  fput (fput (fput w NVM_BOOT_TRIAL (b2n r.trial)) NVM_BOOT_TRIAL_COUNT r.count) NVM_BOOT_FALLBACK (b2n s.nvm.fallback)

/-- NVM_SLOT_A and NVM_SLOT_B. -/
def nvmSlot (s : State) (b : Bool) : Word :=
  BitVec.ofNat 32 (slotState (bootRec s.nvm) b % 8 + slotSecver s.nvm b % 65536 * 2 ^ 16)

/-- FLT_STATUS (R305). -/
def fltStatus (s : State) : Word :=
  let n (st : Nat) : Nat := ((recList s).filter (fun p => p.2.state == st)).length
  BitVec.ofNat 32 (n 1 % 128 + n 2 % 128 * 2 ^ 8 + b2n (frozen s) * 2 ^ 15 + s.flt.newest % 64 * 2 ^ 16)

/-- A dword of the log window (R304, R305). -/
def logWord (s : State) (off : Nat) : Word := (recWords (recAt s ((off - 0x800) / 32))).getD ((off - 0x800) % 32 / 4) 0

/-- TEN_INST_STATE of the selected instance. -/
def instStatus (s : State) : Word :=
  let n := selInst s
  let i := instAt s n
  BitVec.ofNat 32 (i.state.toNat + b2n i.dirty.isSome * 8 + b2n i.dirtyOvf * 16
    + b2n (decide (0 < heldPosts s (ownerOf n)) && i.state == 3) * 32 + b2n i.unqReset * 64 + n * 2 ^ 16)

/-- TEN_INST_USE of the selected instance (R246). -/
def instUse (s : State) : Word :=
  BitVec.ofNat 32 (queuesHeld s (ownerOf (selInst s)) % 2048 + epsHeld s (ownerOf (selInst s)) % 2 ^ 20 * 2 ^ 12)

/-- TEN_MBX_PEND: OUT_FULL of 32 instances. -/
def mbxPend (s : State) (n : Nat) : Word :=
  BitVec.ofNat 32 (((List.range 32).filter (fun b => (instAt s (32 * n + b)).outFull)).foldl (fun a b => a + 2 ^ b) 0)

/-- The version register of an engine (R314). -/
def fwVersion (s : State) : Word := slotVersion s.nvm (booted s)

/-- A TEN register of page 0x28 that shows the selected instance. -/
def tenVal (s : State) (off : Nat) : Option Word :=
  let i := instAt s (selInst s)
  if off == 0x084 then some (instStatus s)
  else if off == 0x088 then some i.quota
  else if off == 0x08C then some (instUse s)
  else if off == 0x090 then some (BitVec.ofNat 32 (b2n i.inFull + b2n i.outFull * 2))
  else if 0x100 ≤ off ∧ off < 0x140 then some (i.mbxOut.getD ((off - 0x100) / 4) 0)
  else if 0x180 ≤ off ∧ off < 0x200 then some (mbxPend s ((off - 0x180) / 4))
  else none

/-- A register of a block that is not simply stored. -/
def blockVal (s : State) (page off : Nat) : Option Word :=
  match blockOf page with
  | some .mgt =>
    if off == 0x044 then some (lo32 Config.dieSerial) else if off == 0x048 then some (hi32 Config.dieSerial) else none
  | some .pwr =>
    if off == 0x040 then some (fput (rd s (adr pPwr 0x040)) PWR_CHIP_STATE (chipState s))
    else if off == 0x048 then some (domStatus s)
    else if off == 0x050 then some (if domOk s.pwr.sel then (domAt s s.pwr.sel).sw else 0)
    else if off == 0x054 then some (if domOk s.pwr.sel then (domAt s s.pwr.sel).hw else 0)
    else none
  | some .ring => if off == 0x058 then some (lo32 (rct s)) else if off == 0x05C then some (hi32 (rct s)) else none
  | some .nvm =>
    if off == 0x040 then some (nvmBoot s)
    else if off == 0x044 then some (nvmSlot s false)
    else if off == 0x048 then some (nvmSlot s true)
    else if off == 0x04C then some (slotVersion s.nvm false)
    else if off == 0x050 then some (slotVersion s.nvm true)
    else if off == 0x054 then some Config.romVersion
    else none
  | some .flt => if off == 0x040 then some (fltStatus s) else if 0x800 ≤ off then some (logWord s off) else none
  | some .arb =>
    if off == 0x044 then some (arbVal s 0) else if off == 0x048 then some (arbVal s 1)
    else if off == 0x04C then some (arbVal s 2) else none
  | some .le =>
    let n := (page - 0x20) * 4 + (off - 0x40) / 0x10
    if 0x80 ≤ off then none
    else if off % 0x10 == 0 then some (fput (rd s (adr page off)) LE_STATUS_QUEUES (leQueues s n))
    else if off % 0x10 == 8 then some (fwVersion s) else none
  | some .ten =>
    let n := (page - pTen) * 4 + (off - 0x40) / 0x10
    if 0x80 ≤ off then (if page == pTen then tenVal s off else none)
    else if off % 0x10 == 0 then some (fput (rd s (adr page off)) TEN_STATUS_INSTANCES (teInstances s n))
    else if off % 0x10 == 8 then some (fwVersion s) else none
  | some .clu => if off == 0x048 || off == 0x058 then some (fwVersion s) else none
  | _ => none

/-- The bits that a read of a register returns (R9, R10): reserved and WO fields read 0. -/
def readMask (page off : Nat) : Word :=
  if page == pFlt && decide (0x800 ≤ off) then 0xFFFFFFFF
  else match regDesc page off with
    | some r => BitVec.ofNat 32 r.rd
    | none => 0

/-- What a register reads, before the latch of R8: a reserved offset reads 0 (R9). -/
def regVal (s : State) (page off : Nat) : Word :=
  let v := if off < 0x040 then headerVal s page off else blockVal s page off
  v.getD (rd s (adr page off)) &&& readMask page off

/-- The bytes of a snapshot (R323): the log, FLT_COUNTS, DROPPED and the AON page as its registers read. -/
def snapshotOf (s : State) : List Byte :=
  (recList s).flatMap (fun p => wordBytes (recWords p.2))
    ++ leBytes 4 (rd s (adr pFlt 0x04C)).toNat ++ leBytes 2 (rf s pFlt FLT_FREEZE_DROPPED)
    ++ (List.range 26).flatMap (fun k => leBytes 4 (regVal s pAon (4 * k)).toNat)

/-- The snapshot ends (R323): VALID, or SNAPSHOT_FAIL. -/
def snapshotEnd (s : State) (ok : Bool) : State :=
  if !rb s pNvm NVM_SNAPSHOT_BUSY then s
  else
    let s1 := wb s pNvm NVM_SNAPSHOT_BUSY false
    if ok then wb { s1 with nvm := { s1.nvm with snapshot := snapshotOf s } } pNvm NVM_SNAPSHOT_VALID true else err s1 pNvm 3

/-- The RC fields of a register clear (R10); those of the arbiters stand in their own table. -/
def readClear (s : State) (page off : Nat) : State :=
  if page == pArb && (off == 0x044 || off == 0x048 || off == 0x04C) then
    let k := arbKey (rf s pArb ARB_SEL_BANK) (rf s pArb ARB_SEL_REQ) ((off - 0x044) / 4)
    { s with arb := tabSet (fun _ => (0 : Word)) s.arb k 0 }
  else match regDesc page off with
    | some r => if r.rc == 0 then s else wr s (adr page off) (rd s (adr page off) &&& ~~~ BitVec.ofNat 32 r.rc)
    | none => s

/-- A 64-bit quantity's low half: those of the pages, and LOCATION and FIRST_RCT of a log record (R8, R305). -/
def lowHalf (page off : Nat) : Bool :=
  isLowHalf page off || (page == pFlt && decide (0x800 ≤ off) && (off % 32 == 0 || off % 32 == 16))

/-- A read of a register (R8, R10): the state after it, and its value. -/
def serveRead (s : State) (page off : Nat) : State × Word :=
  match look s.latch (adr page off) with
  | some v => ({ s with latch := tabDel s.latch (adr page off) }, v)
  | none =>
    let v := regVal s page off
    let s1 := readClear s page off
    if lowHalf page off then ({ s1 with latch := put s1.latch (adr page (off + 4)) (regVal s page (off + 4)) }, v) else (s1, v)

/-! ### Soft reset (R88) -/

/-- The registers of a page after its soft reset: what the AON island answers and kept fields stay. -/
def pageRegs (t : Tab Word) (page : Nat) : Tab Word :=
  tabMap regReset (fun a w =>
    let off := a % 0x1000
    if a / 0x1000 != page || aonHeader off then w
    else
      let m := match regDesc page off with | some r => BitVec.ofNat 32 r.kept | none => 0
      (w &&& m) ||| (regReset a &&& ~~~ m)) t

/-- The page's table of latched or held halves without the page's own. -/
def pageHalves (t : Tab Word) (page : Nat) : Tab Word := t.filter (fun p => p.1 / 0x1000 != page)

/-- The queues of a list-engine page go, as at a chip reset: their operations end without a completion. -/
def leReset (s : State) (page : Nat) : State :=
  let s1 := each ((allTqs s).filter (fun t => lePage t == page)) s (fun s t =>
    let s0 := match tqAt s t with
      | some x => (match epAt s x.ep with
        | some e => (match e.work with | some w => clearWork (freeOp s x.ep w) x.ep | none => s)
        | none => s)
      | none => s
    endStop s0 t .removed)
  if page == pLe then { s1 with que := { s1.que with inval := none } } else s1

/-- The windows that the tenant engines of a page serve are at their reset values; commands in execution complete INTERNAL, as R258
has it of an engine's restart; STATE keeps its value (R242). -/
def tenReset (s : State) (page : Nat) : State :=
  let tes := (List.range 4).map (· + 4 * (page - pTen))
  let s1 := each tes s (fun s te => failCommands s te none)
  let clear (i : Inst) : Inst := { i with
    aqBase := 0, acqBase := 0, aqCfg := 4, acqCfg := 4, aqPi := 0, aqCi := 0, acqPi := 0, acqCi := 0, cfgErr := false
    idxErr := false, inFull := false, outFull := false, mbxCtl := 0, mbxIn := Inst.init.mbxIn, mbxOut := Inst.init.mbxOut }
  let back (k : Nat) (i : Inst) : Inst := if tes.contains (tenantOf (ownerOf k)) then clear i else i
  let s2 := { s1 with inst := tabMap (fun _ => Inst.init) back s1.inst }
  if page == pTen then
    { s2 with inst := tabMap (fun _ => Inst.init) (fun _ i => { i with quota := Inst.init.quota }) s2.inst }
  else s2

/-- The PCI block and its link are reset (R307): the MSI-X tables are at their reset values and no instance is enabled. -/
def pciReset (s : State) : State :=
  let s1 := { s with
    mgt := { s.mgt with pcie := false }
    ring := { s.ring with fwd := s.ring.fwd.filter (fun f => decide (f.src = .svc)) }
    held := s.held.filter (fun h => !decide (h.src = .pf)) }
  let s2 := setVfs s1 0
  let clear (i : Inst) : Inst := { i with msixEn := false, fmask := false, unmasked := [], pending := [] }
  { s2 with inst := tabMap (fun _ => Inst.init) (fun _ i => clear i) s2.inst }

/-- The block of a page as it is after a chip reset (R88), where the block's chapter says more than R88 (R175, R203, R230, R304) as it
says. -/
def blockReset (s : State) (page : Nat) : State :=
  match blockOf page with
  | some .ring =>
    let s1 := closeNow s
    { s1 with ring := { State.reset.ring with
      joinTimer := false, fwd := s1.ring.fwd
      east := { State.reset.ring.east with feed := s1.ring.east.feed }, west := { State.reset.ring.west with feed := s1.ring.west.feed } } }
  | some .sbd =>
    { s with sbd := { s.sbd with
      queue := s.sbd.queue.filter (fun f => f.typ == 1), onLine := false, backoff := false, claimed := false, window := false } }
  | some .pci => pciReset s
  | some .nvm => { s with nvm := { s.nvm with restart := false } }
  | some .pln => dropPlans s
  | some .ebm => { s with seq := { s.seq with scrub := 0, rows := [] } }
  | some .arb => { s with arb := [] }
  | some .dma => { s with dma := s.dma.filter (fun c => dmaPage c.1 != page) }
  | some .le => leReset s page
  | some .ten => tenReset s page
  | some .svc =>
    let s1 := svcDetach s
    { s1 with svc := { State.reset.svc with job := none } }
  | some .clu => each (clPorts (page - 0x30)) s (fun s p => portOff s p none)
  | _ => s

/-- What the reset values of a page's registers follow after a soft reset: the straps and the store, the links that
carry power alone in STANDALONE (R40), the pull-up, the votes. -/
def afterReset (s : State) (page : Nat) : State :=
  match blockOf page with
  | some .ring =>
    let s1 := wf (wf s pRing RING_POSITION_SLOT s.mgt.pins.toNat) pRing RING_POSITION_POS s.mgt.pins.toNat
    if mode s == 1 then setLink (setLink s1 .east 3) .west 3 else s1
  | some .sbd => softBusy s
  | some .ebm => showRefresh (noteFree s)
  | some .pln => noteSpill (noteHorizon s)
  | some .dma => dmaVotes s ((page - 0x10) / 4)
  | some .clu => each (clPorts (page - 0x30)) s portVotes
  | some .svc => svcAttach s
  | _ => s

/-- A page whose soft reset is accepted in HOLD, LOOP and RECOVERY alone (R175, R203, R230). -/
def quietReset (page : Nat) : Bool :=
  match blockOf page with
  | some .pln | some .clu => true
  | some .dma => decide (page ≤ 0x1B)
  | _ => false

/-- MGT, PWR and AON have no soft reset (R88). -/
def noReset (page : Nat) : Bool := decide (page ≤ 2)

/-- A soft reset begins (R88): the page is at its reset values, and accesses wait until it has ended. VBUS is a pin. -/
def beginSoft (s : State) (page : Nat) : State :=
  let vbus := rb s pSvc SVC_STATUS_VBUS
  let s1 := blockReset s page
  let s2 := { s1 with
    regs := pageRegs s1.regs page, latch := pageHalves s1.latch page, lowHeld := pageHalves s1.lowHeld page }
  let s3 := if page == pSvc then wb s2 pSvc SVC_STATUS_VBUS vbus else s2
  wb (afterReset s3 page) page PAGE_CONTROL_SOFT_RESET true

/-- A write of PAGE_CONTROL (R87, R88, R91): one blocked write counts once. -/
def pageControl (s : State) (src : Src) (page : Nat) (v : Word) : State :=
  if bit v 1 && !locked s page && quietReset page && !quietMode s then refuseMode s src page 0x00C
  else if locked s page then
    if bit v 1 && (v &&& 0x5) == (rd s (adr page 0x00C) &&& 0x5) then incF s page PAGE_LOCK_BLOCKED
    else writeFields s page 0x00C v
  else
    let s1 := writeFields s page 0x00C v
    if bit v 1 && !noReset page then beginSoft s1 page else s1

/-! ### What writes do -/

/-- VOTE_SET and VOTE_CLEAR (R89). -/
def voteWrite (s : State) (page : Nat) (v : Word) (cast : Bool) : State :=
  each (domsOf page) s (fun s d => if cast then castSw s d v else dropSw s d v)

/-- PAGE_LOCK written (R91, R92): LOCK sets once, and the check of the covered fields is captured. -/
def lockWrite (s : State) (page : Nat) (v : Word) : State :=
  if bit v 0 && !locked s page then
    wb { s with mgt := { s.mgt with checks := tabSet (fun _ => (0 : Word)) s.mgt.checks page (pageCheck s page) } } page PAGE_LOCK_LOCK true
  else s

/-- A write of a header register. -/
def headerWrite (s : State) (src : Src) (page off : Nat) (v : Word) : State :=
  if off == 0x00C then pageControl s src page v
  else if off == 0x010 then voteWrite s page v true
  else if off == 0x014 then voteWrite s page v false
  else if off == 0x020 then errClear s page v
  else if off == 0x030 then evtEnable s page v
  else if off == 0x038 then lockWrite s page v
  else writeFields s page off v

/-- A write of a high half with the low half held for it, or alone (R8). -/
def writeHalves (s : State) (page off : Nat) (v : Word) : State :=
  match look s.lowHeld (adr page (off - 4)) with
  | some lo => writeFields (writeFields { s with lowHeld := tabDel s.lowHeld (adr page (off - 4)) } page (off - 4) lo) page off v
  | none => writeFields s page off v

/-- A write of a plain register of a page, with the halves of R8. -/
def plainWrite (s : State) (page off : Nat) (v : Word) : State :=
  if isLowHalf page off then { s with lowHeld := put s.lowHeld (adr page off) v }
  else if isHighHalf page off then writeHalves s page off v
  else writeFields s page off v

/-- A write of AON_ALARM arms the alarm in software's name (R275). -/
def alarmWrite (s : State) (off : Nat) (v : Word) : State :=
  let s1 := plainWrite s pAon off v
  if off == 0x04C then { s1 with pwr := { s1.pwr with armedBy := 1 } } else s1

/-- TEN_INST_QUOTA of the selected instance, a covered field (R91). -/
def quotaWrite (s : State) (v : Word) : State :=
  let n := selInst s
  let q := v &&& 0xFFFFF7FF
  if locked s pTen then (if (instAt s n).quota == q then s else incF s pTen PAGE_LOCK_BLOCKED)
  else setInst s n { instAt s n with quota := q }

/-- TEN_MBX_IN of the selected instance, MBX_BUSY while it is full (R244). -/
def mbxInWrite (s : State) (k : Nat) (v : Word) : State :=
  let n := selInst s
  let i := instAt s n
  if i.inFull then err s pTen 4 else setInst s n { i with mbxIn := i.mbxIn.set k v }

/-- A write of a register of page 0x28 from 0x080 on. -/
def tenWrite (s : State) (off : Nat) (v : Word) : State :=
  if off == 0x080 then wr s (adr pTen 0x080) (v &&& 0x3FF)
  else if off == 0x088 then quotaWrite s v
  else if off == 0x090 then mbxDb s v
  else if 0x0C0 ≤ off ∧ off < 0x100 then mbxInWrite s ((off - 0x0C0) / 4) v
  else writeFields s pTen off v

/-- A write of a register of a block (R100). -/
def blockWrite (s : State) (src : Src) (page off : Nat) (v : Word) : State :=
  match blockOf page with
  | some .mgt =>
    if off == 0x04C then modeWrite s src (bits v 0 3)
    else if off == 0x05C then (if bit v 0 then resetGo s src else s)
    else plainWrite s page off v
  | some .pwr =>
    if off == 0x040 then pwrChip s v
    else if off == 0x044 then { s with pwr := { s.pwr with sel := bits v 0 8 } }
    else if off == 0x04C then domCmd s v
    else plainWrite s page off v
  | some .aon =>
    if off == 0x050 then alarmCtrl s v
    else if off == 0x05C then forceWrite s v
    else alarmWrite s off v
  | some .ring => if off == 0x044 then ringControl s v else plainWrite s page off v
  | some .sbd => if off == 0x040 then sbdControl s v else if off == 0x048 then sbdTx s v else plainWrite s page off v
  | some .nvm =>
    if off == 0x058 then revoke s v else if off == 0x05C then updCtrl s v else if off == 0x068 then updData s v
    else plainWrite s page off v
  | some .flt => if off == 0x044 then freezeWrite s v else if off == 0x048 then retire s v else plainWrite s page off v
  | some .pln =>
    if (off == 0x050 || off == 0x054) && mode s != 0 then s
    else if off == 0x040 then noteHorizon (plainWrite s page off v)
    else plainWrite s page off v
  | some .arb => if off == 0x050 then (if bit v 0 then { s with arb := [] } else s) else plainWrite s page off v
  | some .dma => if off < 0x140 && (page < 0x1C || (regDesc page off).isSome) then dmaWrite s src page off v (fun s => plainWrite s page off v) else s
  | some .le => if page == pLe && off == 0x080 then invalGo s v else plainWrite s page off v
  | some .ten => if page == pTen && decide (0x080 ≤ off) then tenWrite s off v else plainWrite s page off v
  | _ => plainWrite s page off v

/-- A write of a register, reserved offsets included (R9). -/
def serveWrite (s : State) (src : Src) (page off : Nat) (v : Word) : State :=
  if off < 0x040 then headerWrite s src page off v else blockWrite s src page off v

/-- The effect of an access that passes the gate, with its answer. -/
def serveOp (s : State) (src : Src) (page off : Nat) (op : Op) : State :=
  match op with
  | .read => let r := serveRead s page off; answer r.1 src r.2
  | .write v => serveWrite s src page off v

/-- An access to a page (R96 to R101). -/
def access (s : State) (src : Src) (page off : Nat) (op : Op) : State :=
  gated s src page off op (fun s => serveOp s src page off op)

end Sys2Proof.Machine
end

