-- ==== Sys2Proof/Machine/WinOps.lean ====
section
/-!
DEFINITION. Instance windows and the host's way in (R80 to R85, R127, R128, R243, R244, R360): reads and writes of a window, accesses
from the physical function to the windows of BAR0 and to the manager window, accesses that have waited (R88, R94), and the requests of
the service port (R206, R207).
-/
namespace Sys2Proof.Machine

/-! ### Instance windows -/

/-- The key of a window register in the tables of R8's halves. -/
def winKey (o : Owner) (off : Nat) : Nat := 0x1000000 + ownerKey o * 0x4000 + off

/-- The low halves of a window: the AQ and ACQ bases (R8, R127). -/
def winLow (off : Nat) : Bool := off == 0x100 || off == 0x110

/-- INST_ADM_STATUS. -/
def admStatus (s : State) (o : Owner) : Word :=
  let i := instAt s (ownerKey o)
  let on := aqOn i && pageOn s (tePage s o) && (o == .mgr || i.state == 1 || i.state == 2)
  BitVec.ofNat 32 (b2n on + b2n i.cfgErr * 2 + b2n (acqFull i) * 4 + b2n (i.state == 3) * 8 + b2n i.idxErr * 16)

/-- An index register of a queue number; one that has no queue reads 0 (R85, R108). -/
def winIdx (s : State) (o : Owner) (off : Nat) : Word :=
  match refAt s o ((off - 0x1000) / 8) with
  | some r => BitVec.ofNat 32 (if off % 8 == 0 then r.pi.toNat else r.ci.toNat)
  | none => 0

/-- What a window offset reads, before the latch of R8 (R84, R85, R127, R243). -/
def winVal (s : State) (o : Owner) (off : Nat) : Word :=
  let i := instAt s (ownerKey o)
  if off < 0x040 then (if o == .mgr then 0 else i.mbxIn.getD (off / 4) 0)
  else if off < 0x080 then (if o == .mgr then 0 else i.mbxOut.getD ((off - 0x040) / 4) 0)
  else if off == 0x080 then (if o == .mgr then 0 else i.mbxCtl ||| BitVec.ofNat 32 (b2n i.inFull + b2n i.outFull * 2))
  else if off == 0x100 then lo32 i.aqBase
  else if off == 0x104 then hi32 i.aqBase
  else if off == 0x108 then i.aqCfg
  else if off == 0x10C then BitVec.ofNat 32 (i.aqPi % 65536 + i.aqCi % 65536 * 65536)
  else if off == 0x110 then lo32 i.acqBase
  else if off == 0x114 then hi32 i.acqBase
  else if off == 0x118 then i.acqCfg
  else if off == 0x11C then BitVec.ofNat 32 (i.acqPi % 65536 + i.acqCi % 65536 * 65536)
  else if off == 0x120 then admStatus s o
  else if 0x1000 ≤ off then winIdx s o off
  else 0

/-- A read of a window (R8). -/
def winRead (s : State) (o : Owner) (off : Nat) : State × Word :=
  match look s.latch (winKey o off) with
  | some v => ({ s with latch := tabDel s.latch (winKey o off) }, v)
  | none =>
    let v := winVal s o off
    if winLow off then ({ s with latch := put s.latch (winKey o (off + 4)) (winVal s o (off + 4)) }, v) else (s, v)

/-- A base register pair takes both halves at the write of the high one; while ENABLE is 1 it is dropped (R8, R128). -/
def baseWrite (s : State) (o : Owner) (off : Nat) (v : Word) : State :=
  let k := ownerKey o
  let i := instAt s k
  if aqOn i then s
  else if winLow off then { s with lowHeld := put s.lowHeld (winKey o off) v }
  else
    let old := if off == 0x104 then i.aqBase else i.acqBase
    let lo := match look s.lowHeld (winKey o (off - 4)) with | some w => w &&& ~~~ 0x3F | none => lo32 old
    let s1 := { s with lowHeld := tabDel s.lowHeld (winKey o (off - 4)) }
    setInst s1 k (if off == 0x104 then { i with aqBase := join64 lo v } else { i with acqBase := join64 lo v })

/-- INST_AQ_CFG written (R128). -/
def aqCfgWrite (s : State) (o : Owner) (v : Word) : State :=
  let k := ownerKey o
  let i := instAt s k
  if aqOn i then (if bit v 8 then s else disableAq s o)
  else
    let s1 := setInst s k { i with aqCfg := v &&& 0x1F }
    if bit v 8 then enableAq s1 o else s1

/-- INST_ACQ_CFG written (R128). -/
def acqCfgWrite (s : State) (o : Owner) (v : Word) : State :=
  let k := ownerKey o
  let i := instAt s k
  if aqOn i then s else setInst s k { i with acqCfg := v &&& 0x1FF1F }

/-- INST_MBX_DB written by a tenant (R244): its fields, then its doorbells. -/
def doorbell (s : State) (n : Nat) (v : Word) : State :=
  let s1 := setInst s n { instAt s n with mbxCtl := v &&& 0x3F0C }
  let s2 := if bit v 0 then tenantIn s1 n else s1
  if bit v 1 then tenantOut s2 n else s2

/-- A write of the outbound mailbox (R243). -/
def outWrite (s : State) (n k : Nat) (v : Word) : State :=
  let i := instAt s n
  if i.outFull then s else setInst s n { i with mbxOut := i.mbxOut.set k v }

/-- A write of a window (R84, R85, R108, R128, R243, R244, R360). -/
def winWrite (s : State) (o : Owner) (off : Nat) (v : Word) : State :=
  let k := ownerKey o
  if off < 0x040 then s
  else if off < 0x080 then (if o == .mgr then s else outWrite s k ((off - 0x040) / 4) v)
  else if off == 0x080 then (if o == .mgr then s else doorbell s k v)
  else if off == 0x100 || off == 0x104 || off == 0x110 || off == 0x114 then baseWrite s o off v
  else if off == 0x108 then aqCfgWrite s o v
  else if off == 0x10C then writeAqPi s o (bits v 0 16)
  else if off == 0x118 then acqCfgWrite s o v
  else if off == 0x11C then writeAcqCi s o (bits v 16 16)
  else if off == 0x120 then
    setInst s k { instAt s k with
      cfgErr := (instAt s k).cfgErr && !bit v 1, idxErr := (instAt s k).idxErr && !bit v 4 }
  else if 0x1000 ≤ off then (if off % 8 == 0 then setPi s o ((off - 0x1000) / 8) v else setCi s o ((off - 0x1000) / 8) v)
  else s

/-- The tenant engine that the PCI block needs for a window is in an island that is forced down or has stopped (R14). -/
def tenDown (s : State) (o : Owner) : Bool :=
  pageStopped s (tePage s o) || (domsOf (tePage s o)).any (fun d => domClosed s d && (domAt s d).forced.isSome)

/-- An access to a window from its function (R7, R84): a misaligned one is refused, with the window's own page number. One whose tenant engine
is forced down or has stopped is dark (R14, R93; assumption 111). -/
def winAccess (s : State) (src : Src) (o : Owner) (off : Nat) (op : Op) : State :=
  let isWrite := match op with | .read => false | .write _ => true
  if off % 4 != 0 then refuseAccess s src (off / 4096) off isWrite 5 false
  else if !windowOpen s o then refuseAccess s src (off / 4096) off isWrite 3 true
  else if !windowMode s off isWrite then refuseAccess s src (off / 4096) off isWrite 2 false
  else if tenDown s o then darkRefuse s src (tePage s o) isWrite
  else match op with
    | .read => let r := winRead s o off; answer r.1 src r.2
    | .write v => winWrite s o off v

/-! ### The windows of BAR0 (R80 to R82) -/

/-- The payload of a REG_WR or REG_RD cell: the chip-window offset, and the value (R46; assumption 17). -/
def regPayload (page off : Nat) (op : Op) : List Byte :=
  leBytes 4 (page * 4096 + off) ++ (match op with | .read => [] | .write v => leBytes 4 v.toNat)

/-- The head sends an access to a chip as a cell, with an authority (R81, R96, R98); it waits for the answer to a read. -/
def forwardAccess (s : State) (src : Src) (pos page off : Nat) (op : Op) : State :=
  let auth := match src with | .svc => 3 | _ => 1
  match op with
  | .write _ => sendCell s pos 3 2 auth 0 (regPayload page off op)
  | .read =>
    let t := s.ring.nextTag
    let s1 := { s with ring := { s.ring with
      nextTag := t + 1, fwd := s.ring.fwd ++ [⟨t, pos, page * 4096 + off, src⟩] } }
    sendCell s1 pos 4 2 auth t (regPayload page off op)

/-- An access to window p, for p = 1 to 63 (R80 to R82). -/
def farAccess (s : State) (src : Src) (pos page off : Nat) (op : Op) : State :=
  let isWrite := match op with | .read => false | .write _ => true
  if off % 4 != 0 then refuseAccess s src page off isWrite 5 false
  else if !isHead s || !live s pos then refuseAccess s src page off isWrite 3 true
  else forwardAccess s src pos page off op

/-- An access of the physical function by the number of what it is for (`Held.page`), in order behind one that waits for a wake (R94). -/
def pfAccess (s : State) (p off : Nat) (op : Op) : State :=
  if !epActive s then s
  else if 0x100 ≤ p && wakePending s .pf then { s with held := s.held ++ [⟨.pf, p, off, op, none⟩] }
  else if p < 0x100 then access s .pf p off op
  else if p < 0x10000 then farAccess s .pf (p / 256) (p % 256) off op
  else winAccess s .pf .mgr off op

/-- A write of a window register by its function; on a member, an index write of the window as the head has forwarded it (R27). -/
def winCmd (s : State) (o : Owner) (off : Nat) (v : Word) : State :=
  if s.mgt.boot != .running || chipDeep s then s
  else if isMember s then
    (if off < 0x1000 then s
     else if off % 8 == 0 then setPi s o ((off - 0x1000) / 8) v else setCi s o ((off - 0x1000) / 8) v)
  else match o with
    | .mgr => pfAccess s 0x10000 off (.write v)
    | .inst i => winAccess s (.vf i) o off (.write v)

/-! ### Index writes that the ring brings (R27, R98, R99) -/

/-- The number of an index write of the ring among what accesses are for (`Held.page`). -/
abbrev pIdx : Nat := 0x20000

/-- The owner of the queues that an index write of the ring names (R98; assumption 17). -/
def idxOwner (src : Src) : Owner :=
  match src with
  | .ring 2 _ tag => .inst (BitVec.ofNat 10 tag.toNat)
  | _ => .mgr

/-- A forwarded index write at its queue's home chip (R27, R98, R99, R108): any other offset, and a queue that does not live here for that
owner, is discarded. -/
def idxWrite (s : State) (src : Src) (off : Nat) (v : Word) : State :=
  let o := idxOwner src
  let q := (off - 0x1000) / 8
  if off < 0x1000 || decide (0x4FFF < off) then authDrop s
  else if off % 8 == 0 && (tqOf s o q).isSome then
    (if windowMode s off true then setPi s o q v else refuseAccess s src (off / 4096) off true 2 false)
  else if off % 8 == 4 && (cqOf s o q).isSome then
    (if windowMode s off true then setCi s o q v else refuseAccess s src (off / 4096) off true 2 false)
  else authDrop s

/-- An index write of the ring, in its order behind accesses of the ring that wait (R81, R94). -/
def idxArrives (s : State) (src : Src) (off : Nat) (v : Word) : State :=
  if ringWaits s then { s with held := s.held ++ [⟨src, pIdx, off, .write v, none⟩] } else idxWrite s src off v

/-! ### The requests of the service port (R206, R207) -/

/-- A dword of the request waits for its answer. -/
def svcWaits (s : State) : Bool :=
  s.held.any (fun h => decide (h.src = .svc)) || s.ring.fwd.any (fun f => decide (f.src = .svc))

/-- The next dword of a request: here, or forwarded by a head; on any other chip a request for another position is refused. -/
def svcOne (s : State) (j : SvcJob) : State :=
  let a := j.off + 4 * j.next
  let page := a / 4096
  let off := a % 4096
  let op : Op := if bits j.head 0 8 == 2 then .write (j.data.getD j.next 0) else .read
  let s1 :=
    if j.pos == ownPos s then access s .svc page off op
    else if isHead s then farAccess s .svc j.pos page off op
    else svcGot s none
  match s1.svc.job with
  | some k => if k.next == j.next && !svcWaits s1 then svcGot s1 (if s1.mgt.boot == .running then some 0 else none) else s1
  | none => s1

/-- A response is ready (R205, R208). -/
def svcReady (s : State) (j : SvcJob) : State :=
  let isRead := bits j.head 0 8 == 1
  let dw1 := match j.bad with | some i => BitVec.ofNat 32 (1 + i % 65536 * 65536) | none => 0
  let r := [j.head &&& 0xFFFF00FF, dw1, BitVec.ofNat 32 (j.count % 8192), 0] ++ (if isRead then j.got else [])
  let s1 := { s with svc := { s.svc with job := none, resp := some r, seq := BitVec.ofNat 16 (bits j.head 16 16) } }
  svcEvt (incF (wb s1 pSvc SVC_STATUS_IN_READY true) pSvc SVC_COUNTS_REQUESTS) .ready

/-- The request goes on until a dword waits or the response is ready. -/
def svcRun (s : State) : Nat → State
  | 0 => s
  | n + 1 =>
    match s.svc.job with
    | none => s
    | some j => if j.count ≤ j.next then svcReady s j else if svcWaits s then s else svcRun (svcOne s j) n

/-- The request goes on after an answer. -/
def svcGo (s : State) : State := svcRun s 4100

/-! ### Accesses that have waited (R88, R94) -/

/-- An access to a page that has waited is served; a request of the service port goes on with its answer. -/
def serveAgain (s : State) (h : Held) : State :=
  let n := s.svc.job.map (·.next)
  let s1 := access s h.src h.page h.off h.op
  if decide (h.src = .svc) then
    svcGo (if s1.svc.job.map (·.next) == n && !svcWaits s1 then svcGot s1 (some 0) else s1)
  else s1

/-- The place of a cell whose access has been served is freed (R53). -/
def leaveSlot (s : State) (h : Held) : State := match h.slot with | some k => freePlace s k | none => s

/-- An access that has waited tries again (R88, R94): it is served, or waits on; its wake has been counted. -/
def retry (s : State) (h : Held) : State :=
  let back := { s with held := s.held ++ [h] }
  if h.page == pIdx then
    (if ringWaits s then back
     else match h.op with
      | .write v => leaveSlot (idxWrite s h.src h.off v) h
      | .read => leaveSlot s h)
  else if 0x100 ≤ h.page then pfAccess s h.page h.off h.op
  else match gate s h.src h.page h.off (match h.op with | .read => false | .write _ => true) with
    | .wake => { each (domsOf h.page) s (fun s d => castHw s 63 d) with held := s.held ++ [h] }
    | .hold => back
    | _ => leaveSlot (serveAgain s h) h

/-- The accesses that wait are tried in their order. -/
def serveHeld (s : State) : State := each s.held { s with held := [] } retry

end Sys2Proof.Machine
end

