-- ==== Sys2Proof/Machine/Host.lean ====
section
/-!
DEFINITION. What the host's PCIe link does: accesses to the windows of BAR0 and BAR2 and to the windows of the virtual functions (R80 to
R84), reads that no REG_CPL answers (R82), the link's training (R76) and its resets (R307).
-/
namespace Sys2Proof.Machine

/-- An access to a BAR (R80, R81, R84): window 0 of BAR0 is the chip's own, BAR2 is the manager window. -/
def hostAccess (s : State) (w : Win) (op : Op) : State :=
  match w with
  | .bar0 off =>
    let pos := off.toNat / 2 ^ 20
    let page := off.toNat / 2 ^ 12 % 2 ^ 8
    pfAccess s (if pos == 0 then page else 256 * pos + page) (off.toNat % 2 ^ 12) op
  | .bar2 off => pfAccess s 0x10000 off.toNat op
  | .vf i off => winAccess s (.vf i) (.inst i) off.toNat op

/-- HOST_WINDOW_ACCESS (R6, R81): nothing arrives over a link that is not trained, at an inactive endpoint or in a deep state. -/
def execHostWindowAccess (win : Win) (op : Op) (s : State) : Host.Outcome State Fault Refusal :=
  .next (if s.mgt.pcie && s.mgt.boot == .running && !chipDeep s && epActive s then hostAccess s win op else s)

/-- A read that the head has forwarded ends without its value (R82, R83, R288): on PCIe an error completion, in a request of the service
port a refused dword, and a report that names the other chip. -/
def fwdLost (s : State) (f : FwdRead) : State :=
  let s1 := { s with ring := { s.ring with fwd := s.ring.fwd.filter (fun g => g.tag != f.tag) } }
  let page := f.off / 4096
  let s2 := report (noteRefused s1 f.src page (f.off % 4096) false 4) (locOf 3 f.pos 0 0 0 0 0 page) 0xFF
  match f.src with
  | .svc => svcGo (svcGot s2 none)
  | src => errorAnswer s2 src false false

/-- FORWARDED_READ_TIMEOUT (R82). -/
def execForwardedReadTimeout (tag : Word) (s : State) : Host.Outcome State Fault Refusal :=
  .next (match s.ring.fwd.find? (fun f => f.tag == tag) with | some f => fwdLost s f | none => s)

/-- The link may train: the chip runs, and no deep entry or state has shut it down (R270, R308). -/
def linkMayTrain (s : State) : Bool :=
  s.mgt.boot == .running && !chipDeep s && (s.pwr.phase == .idle || s.pwr.phase == .copying) && !ballsTaken s

/-- PCIE_LINK_TRAINED (R29, R76). The host's first configuration writes after it, which no command of the table brings, give the physical
function its routing ID: what they give is a free value (R241; assumption 112). -/
def execPcieLinkTrained (s : State) : Host.Outcome State Fault Refusal :=
  .next (if linkMayTrain s && !s.mgt.pcie then
      let rid := BitVec.ofNat 16 (freeNow s).toNat
      autoElect { freeStep s with mgt := { s.mgt with pcie := true, rid := rid } }
    else s)

/-- The PCI block and the link as a PCIe reset leaves them (R307). -/
def linkReset (s : State) : State :=
  let s1 := pciReset s
  { s1 with regs := pageRegs s1.regs 0x05 }

/-- PCIE_LINK_RESET (R307): PERST#, Hot Reset and Link Down have one effect. -/
def execPcieLinkReset (kind : LinkReset) (s : State) : Host.Outcome State Fault Refusal :=
  .next (match kind with
    | .perst | .hot | .down => if s.mgt.boot == .running then linkReset s else s)

end Sys2Proof.Machine
end

