-- ==== Sys2Proof/Machine/Cells.lean ====
section
/-!
DEFINITION. The cell commands: transit (R48, R49, R65), and what a cell does at its destination (R45 to R48, R53, R66, R81, R98, R108,
R109, R172, R257).
-/
namespace Sys2Proof.Machine

/-- CELL_TRANSIT (R49). -/
def execCellTransit (ringB : Bool) (p : Passing) (s : State) : Host.Outcome State Fault Refusal :=
  .next (transit s ringB p.c p.res.toNat)

/-! ### Data movement -/

/-- The function for which a member has a DMA access made: no cell names it, so that it is open (R46, R247; assumptions 2 and 17). -/
def freeOwner (s : State) : Owner := if bit (freeNow s) 10 then .mgr else .inst (BitVec.ofNat 10 (freeNow s).toNat)

/-- DMA write data at the head (R46): it goes to host memory under the routing ID of its function, in the dirty log too (R247, R252); the address,
which no cell names, is open (assumptions 2 and 17). -/
def dataOut (s : State) (d : List Byte) : State :=
  let o := freeOwner s
  let s1 := freeStep s
  let lo := freeNow s1
  let s2 := freeStep s1
  hostStore (freeStep s2) o (join64 lo (freeNow s2)) d

/-- A read completion at a member (R46): a software channel keeps the data until its transfer ends (R221). -/
def dataTaken (s : State) (tag : Word) (d : List Byte) : State :=
  let t := (Config.dmaTag tag).toNat
  if 8192 ≤ t then
    let k := chanAt s (t % 64)
    setChan s (t % 64) { k with got := k.got ++ d }
  else s

/-- DATA_CELL_RX (R46, R48): DMA write data at the head, a read completion at a member. -/
def execDataCellRx (c : Cell) (s : State) : Host.Outcome State Fault Refusal :=
  .next (arrive s c 1 (fun s =>
    let d := cellData c
    let s1 := emit (ringReceive s (tagDoms s c.tag)) (.dataIn c.src c.tag d)
    if isHead s then dataOut s1 d else dataTaken s1 c.tag d))

/-- Bytes that the spec leaves open (assumption 2). -/
def freeBytes (s : State) (n : Nat) : List Byte :=
  (List.range n).map (fun k => BitVec.ofNat 8 ((Config.freeValue (s.fresh + k)).toNat))

/-- Free values that one command has taken are not used again. -/
def freeSteps (s : State) (n : Nat) : State := { s with fresh := s.fresh + n }

/-- The completion of a read for another chip (R46): DATA cells under its tag. What host memory holds is not the chip's to know, and the class is
that of an endpoint on that chip: both are open (assumptions 2 and 17). -/
def readBack (s : State) (pos : Nat) (tag : Word) (n : Nat) : State :=
  let cls := if bit (freeNow s) 0 then 1 else 3
  let s1 := freeStep s
  let d := freeBytes s1 n
  each (groups 64 d) (freeSteps s1 n) (fun s g => sendCell s pos 1 cls 0 tag g)

/-- READ_REQ_CELL_RX (R46): the payload holds the address and the length (assumption 17). The head reads host memory under the routing ID of the
access's function (R247); the completion goes back in DATA cells. -/
def execReadReqCellRx (c : Cell) (s : State) : Host.Outcome State Fault Refusal :=
  .next (arrive s c 2 (fun s =>
    let n := (cellDword c 2).toNat
    let o := freeOwner s
    let s1 := if isHead s then
        emit (freeStep s) (.hostRead (routingId s.mgt.rid o) o (join64 (cellDword c 0) (cellDword c 1)) n)
      else s
    readBack s1 c.src.toNat c.tag n))

/-! ### Register access -/

/-- The register access of a REG_WR or REG_RD cell (R98): AUTH MANAGER and MAINTENANCE reach the chip window. -/
def cellAccess (s : State) (c : Cell) (op : Op) : State :=
  let off := (cellDword c 0).toNat
  access s (.ring c.auth c.src c.tag) (off / 4096) (off % 4096) op

/-- REG_WR_CELL_RX (R98; assumption 17: an offset from 0x8000_0000 on lies in the manager window). -/
def execRegWrCellRx (c : Cell) (s : State) : Host.Outcome State Fault Refusal :=
  .next (arrive s c 3 (fun s =>
    let off := (cellDword c 0).toNat
    let v := cellDword c 1
    if c.auth == 2 then idxArrives s (.ring c.auth c.src c.tag) off v
    else if c.auth == 1 && decide (0x80000000 ≤ off) then idxArrives s (.ring c.auth c.src c.tag) (off - 0x80000000) v
    else cellAccess s c (.write v)))

/-- REG_RD_CELL_RX (R98). -/
def execRegRdCellRx (c : Cell) (s : State) : Host.Outcome State Fault Refusal :=
  .next (arrive s c 4 (fun s => cellAccess s c .read))

/-- A REG_CPL answers a forwarded read (R81, R83): LEN = 0 is an error completion. -/
def cplTaken (s : State) (c : Cell) : State :=
  match s.ring.fwd.find? (fun f => f.tag == c.tag && f.pos == c.src.toNat) with
  | none => s
  | some f =>
    let s1 := { s with ring := { s.ring with fwd := s.ring.fwd.filter (fun g => g.tag != f.tag) } }
    match f.src with
    | .svc => svcGo (svcGot s1 (if c.len == 0 then none else some (cellDword c 0)))
    | src => if c.len == 0 then errorAnswer s1 src false (blockOf (f.off / 4096)).isNone else answer s1 src (cellDword c 0)

/-- REG_CPL_CELL_RX (R81). -/
def execRegCplCellRx (c : Cell) (s : State) : Host.Outcome State Fault Refusal := .next (arrive s c 5 (fun s => cplTaken s c))

/-! ### Events and completions at the head (R257) -/

/-- An EVENT cell at the head. -/
def eventTaken (s : State) (c : Cell) : State :=
  let v := BitVec.ofNat 8 (bits c.tag 16 8)
  if !isHead s then s
  else if bit c.tag 11 then posEvent s c.src.toNat
  else msix s (if bit c.tag 10 then .mgr else .inst (BitVec.ofNat 10 c.tag.toNat)) v

/-- EVENT_CELL_RX (R257). -/
def execEventCellRx (c : Cell) (s : State) : Host.Outcome State Fault Refusal := .next (arrive s c 6 (fun s => eventTaken s c))

/-- A POST cell at the head (R108 to R110, R257); while its instance is QUIESCED nothing is written, and the cell waits at the head
(R249, R258; assumption 99). -/
def postTaken (s : State) (p : PostMsg) : State :=
  if !isHead s then s
  else if instHeld (instAt s (ownerKey p.owner)) then { s with que := { s.que with late := s.que.late ++ [p] } }
  else writePost (ringWrites s []) p

/-- POST_CELL_RX (R109, R257). -/
def execPostCellRx (c : Cell) (p : PostMsg) (s : State) : Host.Outcome State Fault Refusal :=
  .next (arrive s c 7 (fun s => postTaken s p))

/-! ### Relays (R172, R173) -/

/-- Relay data at the sink: it joins the buffer of the context that the TAG names. -/
def relayTaken (s : State) (c : Cell) : State :=
  let ctx := c.tag.toNat % 8192
  match epAt s ctx with
  | none => s
  | some e =>
    if isCtl e || e.dirIn then s
    else
      noteLists (sinkFill (ringWrites (bufPut s ctx (cellData c)) (banksOf (bufAddr e e.fill) c.len.toNat)) ctx)

/-- RELAY_CELL_RX (R172): a cell with data. -/
def execRelayCellRx (c : Cell) (s : State) : Host.Outcome State Fault Refusal :=
  .next (if c.len == 0 then s else arrive s c 8 (fun s => relayTaken s c))

/-- RELAY_ROOM_REPORT_RX (R172): a cell with LEN = 0. The source's count of the sink's free space rises by the beats freed, and its DRAIN goes on. -/
def execRelayRoomReportRx (c : Cell) (s : State) : Host.Outcome State Fault Refusal :=
  .next (if c.len != 0 then s else arrive s c 8 (fun s =>
    let ctx := c.tag.toNat % 8192
    relayMove (updEp s ctx (fun e => { e with peerFree := e.peerFree.map (fun p =>
      (p.1, if p.1 / 8192 == c.src.toNat then p.2 + 64 * bits c.tag 16 13 else p.2)) })) ctx))

/-! ### Credits and faults -/

/-- CREDIT_CELL_RX (R53): the header's credits are the cell's whole effect. -/
def execCreditCellRx (c : Cell) (s : State) : Host.Outcome State Fault Refusal := .next (arrive s c 9 (fun s => s))

/-- Credits owed to a position for a class and a ring have waited (R53): they go in a CREDIT cell, unless another cell is leaving for it. -/
def returnCredits (s : State) (pos cls : Nat) (ringB : Bool) : State :=
  if cnt s.ring.owed (crdKey pos cls ringB) == 0 || leavingFor s pos then s
  else submit s { mkCell s pos 9 0 0 0 [] with crdClass := BitVec.ofNat 2 cls, crdRing := ringB }

/-- CREDIT_RETURN_TIMER (R53). -/
def execCreditReturnTimer (pos : BitVec 6) (cls : BitVec 2) (ringB : Bool) (s : State) : Host.Outcome State Fault Refusal :=
  .next (returnCredits s pos.toNat cls.toNat ringB)

/-- A FAULT cell at the head (R66, R288): its funnel handles the report, and a break starts an epoch. -/
def faultTaken (s : State) (loc : BitVec 64) (code : BitVec 16) : State :=
  if !isHead s then s
  else
    let s1 := report s loc code
    if code == 0x50 then headBreak s1 (locPos loc) (locPage loc % 2 == 0) else s1

/-- FAULT_CELL_RX (R66). -/
def execFaultCellRx (c : Cell) (loc : BitVec 64) (code : BitVec 16) (s : State) : Host.Outcome State Fault Refusal :=
  .next (arrive s c 0xC (fun s => faultTaken s loc code))

end Sys2Proof.Machine
end

