-- ==== Sys2Proof/Machine/Ebm.lean ====
section
/-!
DEFINITION. The commands of EBM: the scrubber, refresh, the bank sensors, and the arbiters' counters (R214 to R216, R239, R280).
-/
namespace Sys2Proof.Machine

/-- A bank's domain is lit: its arbiter works. -/
def bankLit (s : State) (b : Nat) : Bool := !chipDeep s && !domClosed s (0x50 + b)

/-- The address of the word group of a bank that a scrub tick reads (R209, R215): 64 bytes, in rising order. -/
def scrubGroup (k b : Nat) : Nat := k / 64 * 0x8000 + b * 0x1000 + k % 64 * 64

/-- A scrub tick (R215): one group of each bank that is lit is read and checked, and 65,536 ticks make a pass. A word known to be bad is
met again; `errs` are the errors that the groups hold beside. -/
def scrub (s : State) (errs : List EccHit) (waits : List (BitVec 16)) : State :=
  let lit := (List.range 8).filter (bankLit s)
  let bad := lit.flatMap (fun b => badWords s (scrubGroup s.seq.scrub b) 64)
  let new := errs.filter (fun h => lit.any (fun b => h.addr.toNat / 64 * 64 == scrubGroup s.seq.scrub b) && !bad.contains (h.addr.toNat / 8))
  let s1 := each lit s (fun s b => bankAsk s ⟨b, 255, 0, 1, (waits.getD b 0).toNat, false⟩)
  let s2 := each new (each bad s1 (fun s w => eccLog s (8 * w) true)) (fun s h => eccLog s h.addr.toNat h.ue)
  if s2.seq.scrub + 1 < 65536 then { s2 with seq := { s2.seq with scrub := s2.seq.scrub + 1 } }
  else incF { s2 with seq := { s2.seq with scrub := 0 } } pEbm EBM_SCRUB_PASSES

/-- SCRUB_TICK (R214, R215, R280). -/
def execScrubTick (errs : List EccHit) (waits : List (BitVec 16)) (s : State) : Host.Outcome State Fault Refusal :=
  .next (if s.mgt.boot == .running && !chipDeep s && rb s pEbm EBM_SCRUB_ENABLE then scrub s errs waits else s)

/-- EBM holds its contents and is refreshed: in every state but P5 and without power (R216, R271, R280). -/
def refreshes (s : State) : Bool := s.mgt.boot != .unpowered && rf s pPwr PWR_CHIP_STATE != 5

/-- The next row of a bank is refreshed (R216): a new interval applies from it. A lit bank is held for it, at the end of the transfer that holds it
(R238). -/
def refreshNext (s : State) (b wait : Nat) : State :=
  let s1 := { s with seq := { s.seq with
    rows := setCnt s.seq.rows b ((cnt s.seq.rows b + 1) % 2048), used := setCnt s.seq.used b (cnt s.seq.want b) } }
  showRefresh (if bankLit s1 b then bankAsk s1 ⟨b, 254, 0, 2, wait, false⟩ else s1)

/-- REFRESH_ROW (R216, R239, R280). -/
def execRefreshRow (bank : BitVec 3) (wait : BitVec 16) (s : State) : Host.Outcome State Fault Refusal :=
  .next (if refreshes s then refreshNext s bank.toNat wait.toNat else s)

/-- A bank's sensor is sampled (R216): its interval, and TJ_HIGH with its THERMAL report above 105 °C (R352). -/
def sample (s : State) (b : Nat) (t : Int) : State :=
  let was := bankTj s b
  let s1 := { s with
    pwr := { s.pwr with tj := tabSet (fun _ => (0 : Int)) s.pwr.tj b t }
    seq := { s.seq with want := setCnt s.seq.want b (ivalNext (cnt s.seq.want b) t) } }
  let s2 := showRefresh s1
  if t > 105 && !chipDeep s2 && (was ≤ 105 || !bit (rd s2 (adr pEbm 0x020)) 2) then report (errBit s2 pEbm 2) (chipLoc s2) 0x61 else s2

/-- TEMP_SAMPLE (R216, R280). -/
def execTempSample (bank : BitVec 3) (tj : BitVec 8) (s : State) : Host.Outcome State Fault Refusal :=
  .next (if refreshes s then sample s bank.toNat tj.toInt else s)

/-- ARB_CLEAR (R239): a write of 1 to ARB_CLEAR.ALL. -/
def execArbClear (src : Src) (s : State) : Host.Outcome State Fault Refusal :=
  .next (gatedW s src pArb 0x050 1 (fun s => serveWrite s src pArb 0x050 1))

end Sys2Proof.Machine
end

