-- ==== Sys2Proof/Machine/Faults.lean ====
section
/-!
DEFINITION. The commands of the Fault Funnel and its watchers: reports, hush windows, the log's management, snapshots, heartbeats,
margins and the thermal shutdown (R18, R286 to R304, R323, R344).
-/
namespace Sys2Proof.Machine

/-- The firmware of the funnel runs: the boot is done and no deep state holds. -/
def funnelRuns (s : State) : Bool := s.mgt.boot == .running && !chipDeep s

/-- FAULT_REPORT (R287). -/
def execFaultReport (loc : BitVec 64) (code : BitVec 16) (s : State) : Host.Outcome State Fault Refusal :=
  .next (if funnelRuns s then report s loc code else s)

/-- HUSH_WINDOW_END (R286). -/
def execHushWindowEnd (rec : BitVec 6) (s : State) : Host.Outcome State Fault Refusal :=
  .next (if funnelRuns s then hushEnd s rec.toNat else s)

/-- FLT_RETIRE (R291): a write of an index with GO. -/
def execFltRetire (src : Src) (rec : BitVec 6) (s : State) : Host.Outcome State Fault Refusal :=
  .next (access s src pFlt 0x048 (.write (BitVec.ofNat 32 (rec.toNat + 2 ^ 8))))

/-- FLT_FREEZE (R291, R323): a write of 1 to FREEZE. -/
def execFltFreeze (src : Src) (s : State) : Host.Outcome State Fault Refusal := .next (access s src pFlt 0x044 (.write 1))

/-- FLT_THAW (R291): a write of 1 to THAW. -/
def execFltThaw (src : Src) (s : State) : Host.Outcome State Fault Refusal := .next (access s src pFlt 0x044 (.write 2))

/-- SNAPSHOT_DONE (R323). -/
def execSnapshotDone (ok : Bool) (s : State) : Host.Outcome State Fault Refusal := .next (snapshotEnd s ok)

/-- HEARTBEAT_CHECK (R293): the engines that miss this check. -/
def execHeartbeatCheck (missed : List Engine) (s : State) : Host.Outcome State Fault Refusal :=
  .next (if funnelRuns s then heartbeats s missed else s)

/-- ENGINE_WATCHDOG_EXPIRE (R18, R259, R293). -/
def execEngineWatchdogExpire (e : Engine) (s : State) : Host.Outcome State Fault Refusal :=
  .next (if funnelRuns s && engRuns s e then engExpire s e else s)

/-- ENGINE_RESTART_DONE (R293): an engine that restarts reads RUN again; its duties return at the next boundary. -/
def execEngineRestartDone (e : Engine) (s : State) : Host.Outcome State Fault Refusal :=
  .next (if decide (e.n.toNat < kindCount e.kind) && engState s e == 2 then setEngState s e 1 else s)

/-- EQ_ADAPT_TICK (R298): the margins that FLT_CAL_RING shows; the equaliser's own settings are no register. -/
def execEqAdaptTick (eastMv westMv eastUi westUi : BitVec 8) (s : State) : Host.Outcome State Fault Refusal :=
  .next (if funnelRuns s then
      wr s (adr pFlt 0x054)
        (BitVec.ofNat 32 (eastMv.toNat + westMv.toNat * 2 ^ 8 + eastUi.toNat * 2 ^ 16 + westUi.toNat * 2 ^ 24))
    else s)

/-- A margin is below its threshold (R301): an eye below 12 mV or 0.12 UI, in 1/256 UI, or a deviation beyond 2.25 Ω, in 0.05 Ω. -/
def marginLow (s : State) (k : CalMargin) : Bool :=
  match k with
  | .eye .east => linkOf s .east == 2 && (decide (rf s pFlt FLT_CAL_RING_EAST_MV < 12) || decide (rf s pFlt FLT_CAL_RING_EAST_UI < 31))
  | .eye .west => linkOf s .west == 2 && (decide (rf s pFlt FLT_CAL_RING_WEST_MV < 12) || decide (rf s pFlt FLT_CAL_RING_WEST_UI < 31))
  | .term p => let v := (portAt s p.toNat).termDev; decide (45 < (if v < 128 then v else 256 - v))

/-- CAL_MARGIN_TIMER (R301, R352). -/
def execCalMarginTimer (k : CalMargin) (s : State) : Host.Outcome State Fault Refusal :=
  let loc := match k with | .eye _ => chipLoc s | .term p => portLoc s p.toNat
  .next (if funnelRuns s && marginLow s k then report (errBit s pFlt 2) loc 0x63 else s)

/-- THERMAL_SHUTDOWN (R344): AON's own report, the FAULT frame, P5 and its alarm. -/
def execThermalShutdown (s : State) : Host.Outcome State Fault Refusal :=
  let l := chipLoc s
  .next (if s.mgt.boot == .unpowered then s else thermalP5 (sbdFault (report s l 0x61) l 0x61))

end Sys2Proof.Machine
end

