-- ==== Sys2Proof/Machine/Flow.lean ====
section
/-!
DEFINITION. The planner's commands: the walk of the wheel, the cohort check, the dispatch and the ends of operations, and the
transactions on the ports (R109, R148, R152 to R160, R169, R192 to R197, R357).
-/
namespace Sys2Proof.Machine

/-- WHEEL_BLOCK_READ_DONE (R148): the read that the walk waits for. The slot word's leads to its first block; a block gives its PSEs, and the walk
follows NEXT or ends. -/
def execWheelBlockReadDone (n : Word) (addr : Addr) (block : List Word) (took : BitVec 16) (s : State) :
    Host.Outcome State Fault Refusal :=
  let m := n.toNat
  .next (match planOf s m with
    | none => s
    | some p =>
      if p.walked || p.block == 0 || addr.toNat != p.block then s
      else
        let next := (join64 (dw block 0) (dw block 1)).toNat
        let count := bits (dw block 2) 0 11
        let fin (s : State) : State :=
          let s1 := wf s pPln PLN_WALK_LAST took.toNat
          endWalk (wf s1 pPln PLN_WALK_MAX (max took.toNat (rf s1 pPln PLN_WALK_MAX))) m
        if p.block == slotAddr s m then walkTo s m next fin
        else if 1020 < count || (next != 0 && !inPool s next) then fin (err s pPln 1)
        else
          let s1 := each ((block.drop 4).take count) s (fun s w => takePse s m (bits (dw block 2) 16 4) (bits (dw block 2) 20 11) w)
          walkTo s1 m next fin)

/-- WHEEL_READ_FAIL (R148): the walk ends, and WHEEL_READ is set. -/
def execWheelReadFail (n : Word) (s : State) : Host.Outcome State Fault Refusal :=
  .next (match planOf s n.toNat with
    | some p => if p.walked || p.block == 0 then s else endWalk (err s pPln 2) n.toNat
    | none => s)

/-- COHORT_CHECK (R169): every cohort that is due in n. An ORPHAN chip keeps the entries that it owes (R67), and checks none. -/
def execCohortCheck (n : Word) (s : State) : Host.Outcome State Fault Refusal :=
  let s1 := { s with pln := { s.pln with cohortNow := [] } }
  .next (if orphan s then s
    else each (s1.pln.cohorts.filter (fun k => cohortDue s1 k.2 n.toNat)) s1 (fun s k => checkCohort s n.toNat k.2))

/-- An entry may pass its microframe unserved: an ORPHAN chip keeps those that it owes from the microframe after the break on (R67). -/
def mayLapse (s : State) : Bool := !orphan s || s.ring.orphanAt == s.clk.uframe

/-- The link of an ENABLED SuperSpeed port is outside U0 (R200). -/
def asleep (s : State) (p : Nat) : Bool := decide (3 ≤ speedOf s p) && portState s p == 3 && prf s p PRT_STATE_LINK != 1

/-- OPERATION_DISPATCH (R154 to R156, R160): a STAGE or DRAIN takes a channel, and the DRAIN of a relay that is in service goes on (R172); an ISSUE
starts if its port may start it at the time given; an isochronous ISSUE that cannot end within its microframe completes MISSED, and a periodic
one that finds its link outside U0 is handled so (R155, R200): the service of an interrupt entry passes. -/
def execOperationDispatch (ctx : BitVec 13) (t : Nat) (s : State) : Host.Outcome State Fault Refusal :=
  let c := ctx.toNat
  .next (match epAt s c with
    | none => s
    | some e =>
      match e.work with
      | none => s
      | some w =>
        if !runsSchedules s || !rb s pPln PLN_STATUS_RUNNING then s
        else if w.inSvc then relayMove s c
        else if !waits s c w then s
        else match w.op with
          | .issue =>
            let p := epPort s e
            if portNext s p t == some c then noteLists (startTxn s p t c)
            else if isPer e && issueReady s c e && mayLapse s && (!fitsNow s e t || asleep s p) then
              (if isIsoc e then failLater s c (lateEnd w).1 (lateEnd w).2 else if asleep s p then endService s c else s)
            else s
          | _ => noteLists (startMove s c e w))

/-- GRAPH_REOFFER (R158): a deferred graph whose lists are below 3/4 full is accepted. -/
def execGraphReoffer (ctx : BitVec 13) (s : State) : Host.Outcome State Fault Refusal :=
  let c := ctx.toNat
  .next (if s.pln.deferred.contains c && graphLow s c then
      noteLists { s with pln := { s.pln with deferred := s.pln.deferred.filter (· != c) } } else s)

/-- SPILL_RETURN (R159): the record written first returns to the list that it needs when that is below 3/4 full. -/
def execSpillReturn (ctx : BitVec 13) (s : State) : Host.Outcome State Fault Refusal :=
  let c := ctx.toNat
  .next (match s.pln.spill, epAt s c with
    | (d, k) :: rest, some e =>
      if d == c && listLow (listOf s e k) then noteLists (noteSpill { s with pln := { s.pln with spill := rest } }) else s
    | _, _ => s)

/-- STAGE_DONE (R153, R214, R231): the segment read from the host goes through the conditioner into the buffer. -/
def execStageDone (ctx : BitVec 13) (d : List Byte) (ce : Option (BitVec 25)) (waits : List (BitVec 16)) (s : State) :
    Host.Outcome State Fault Refusal :=
  let c := ctx.toNat
  .next (match epAt s c with
    | none => s
    | some e =>
      match e.work with
      | none => s
      | some w =>
        match w.chan with
        | none => s
        | some ch =>
          if w.op != .stage || !w.inSvc || (chanAt s ch).flow != some c || !chanGoes s ch || d.length != hostBytes w.cnd false w.segLen then s
          else
            let s1 := bankDone (eccCe s ce) (dmaReq ch) (banksOf e.buf (clsSize e.cls))
            flowOn (stageEnd (arbGrants s1 (dmaReq ch) (bufRanges e (bufAddr e e.fill) w.segLen) waits) c w d) c)

/-- DRAIN_DONE (R152, R172, R173, R214): the segment is in host memory, in the peer's buffer, or on the ring; one that read an uncorrectable word
ends its entry INTERNAL. -/
def execDrainDone (ctx : BitVec 13) (ce : Option (BitVec 25)) (waits : List (BitVec 16)) (s : State) :
    Host.Outcome State Fault Refusal :=
  let c := ctx.toNat
  .next (match epAt s c with
    | none => s
    | some e =>
      match e.work with
      | none => s
      | some w =>
        match w.chan with
        | none => s
        | some ch =>
          if w.op != .drain || !w.inSvc || (chanAt s ch).flow != some c || !chanGoes s ch
              || cellsWait s c w || (eType w.e == 4 && w.seg != 0) then s
          else
            -- the source as the channel shows it, which for a relay has left the buffer by now
            let a := (cpair s ch 0x40).toNat
            let n := crf s ch DMA_COUNT_COUNT
            let s1 := arbGrants (bankDone (eccCe s ce) (dmaReq ch) (banksOf e.buf (clsSize e.cls))) (dmaReq ch) (bufRanges e a n) waits
            flowOn (match firstBad s1 (bufRanges e e.head w.seg) with
              | some a => eccFail s1 c a
              | none => drainEnd s1 c e w) c)

/-- POST_DONE (R109, R126, R362): the TQ's first waiting completion is written when its CQ has room (R111), and the queue goes on. -/
def execPostDone (tq : BitVec 12) (s : State) : Host.Outcome State Fault Refusal :=
  let t := tq.toNat
  .next (match tqAt s t with
    | none => s
    | some x =>
      if x.posts.isEmpty || !mayPost s x then s
      else
        let s1 := doPost s t
        let s2 := finishStop (fetch s1 t) t
        noteLists (serve s2 t))

/-- FIRST_TRANSACTION_START (R169, R357): the first transaction of a microframe or frame, at its fixed offset. -/
def execFirstTransactionStart (p : BitVec 9) (s : State) : Host.Outcome State Fault Refusal :=
  let n := p.toNat
  let t := firstToken (speedOf s n)
  .next (match portNext s n t with
    | some c => if (portAt s n).lastT == 0 then startTxn s n t c else s
    | none => s)

/-- A SUSPEND that waited for the transaction on a port's wire takes place (R199, R202). -/
def suspendDue (s : State) (p : Nat) : State :=
  if (portAt s p).suspendWaits && (portAt s p).wire.isNone then suspendPort s p else s

/-- After a transaction of a flow: a stop of its TQ goes on (R135), its visit ends when no further transaction is ready (R160), and a SUSPEND
that waited takes place. -/
def afterTxn (s : State) (p c : Nat) : State := suspendDue (closeVisit (flowOn s c) p c) p

/-- TRANSACTION_END (R357): the bus is free after the time of R357 at least, and the handshake or data decides what follows; a SUSPEND
that waited for it takes place (R199, R202). -/
def execTransactionEnd (p : BitVec 9) (r : Reply) (t : Nat) (s : State) : Host.Outcome State Fault Refusal :=
  let n := p.toNat
  .next (match (portAt s n).wire with
    | none => s
    | some w =>
      let c := w.ctx
      match epAt s c with
      | none => s
      | some e =>
        match e.work with
        | none => s
        | some k =>
          let len := match r with | .data d => d.length | _ => (nextPacket s e k).length
          let free := max t (w.start + holdTime (speedOf s n) (isIsoc e) false (inTxn e k) len)
          let s1 := setPort s n { portAt s n with wire := none, lastT := free }
          let s2 := updWork s1 c (fun w => { w with inSvc := false })
          match epAt s2 c, r with
          | some e2, .splitErr =>
            if !viaTt s e then s
            else if isPer e then (if k.split == 0 then s else afterTxn (splitFail s2 c e2 false).1 n c)
            else
              -- an error of a non-periodic split counts toward R193
              let pr := txnErr s n false t
              let s3 := pr.1
              let lost := pr.2
              afterTxn (match lost with | some h => loseDev s3 h | none => s3) n c
          | some _, .babble past =>
            let s3 := failLater s2 c 3 none
            afterTxn (if past then babblePort s3 n else s3) n c
          | some e2, _ =>
            afterTxn (endHeld (if viaTt s e then splitPart s2 n c e2 { k with inSvc := false } r
              else txnDone s2 n c e2 { k with inSvc := false } r) c) n c
          | none, _ => s2)

/-- TRANSACTION_TIMEOUT (R193, R194, R191): a retry, or XACT_ERR after the third; a device that loses two chains in a row is GONE. -/
def execTransactionTimeout (p : BitVec 9) (k : TErr) (t : Nat) (s : State) : Host.Outcome State Fault Refusal :=
  let n := p.toNat
  let pr := txnErr s n (k == .timeout) t
  let s1 := pr.1
  let lost := pr.2
  let s1 := match (portAt s n).wire with | some w => endHeld s1 w.ctx | none => s1
  let s2 := match lost with | some h => loseDev s1 h | none => s1
  .next (match (portAt s n).wire with | some w => afterTxn s2 n w.ctx | none => suspendDue s2 n)

end Sys2Proof.Machine
end

