-- ==== Sys2Proof/Machine/Instances.lean ====
section
/-!
DEFINITION. The commands of instances: QUIESCE_INSTANCE to SWAP_DIRTY_LOG, the functions' events, the doorbells and the masks
(R242 to R258).
-/
namespace Sys2Proof.Machine

/-- QUIESCE_INSTANCE, opcode 0x50 (R248): it completes by QUIESCE_DONE, here and on the other chips that hold a TQ of the instance. A member,
which has no instances of its own (R240), keeps whether the work of one of its head's is quiesced. -/
def execQuiesceInstance (o : Owner) (e : List Word) (s : State) : Host.Outcome State Fault Refusal :=
  .next (adm s o e true 2 (fun s =>
    let n := (aTarget e).toNat
    let i := instAt s n
    if !aBehalf e then bad s o e dField
    else if phaseHere s i != 1 then bad s o e dState
    else tellHomes (quiesceTqs
      (setInst s n (setPhase s { i with quiesce := some (o, e, postedEntries s (.inst (aTarget e))) } 2)) (.inst (aTarget e)))
      (.inst (aTarget e)) o e))

/-- QUIESCE_DONE (R248): steps 6 and 7, once nothing of the instance is in service here. -/
def execQuiesceDone (i : BitVec 10) (s : State) : Host.Outcome State Fault Refusal :=
  .next (if phaseHere s (instAt s i.toNat) == 2 && instStill s (.inst i) then endQuiesce s i.toNat else s)

/-- The TQ of some whose first completion arose first, among those that may be written (R250). -/
def nextHeld (s : State) (ts : List Nat) : Option Nat :=
  (ts.foldl (fun (best : Option (Nat × Nat)) t =>
    match tqAt s t with
    | some x =>
      if !mayPost s x then best
      else match x.posts, best with
        | p :: _, some b => if p.ord < b.2 then some (t, p.ord) else best
        | p :: _, none => some (t, p.ord)
        | [], _ => best
    | none => best) none).map (·.1)

/-- The held completions of some TQs are written in the order in which they arose (R250), as far as their CQs have room; a full batch is closed in
a turn of its own. -/
def drainHeld (s : State) (ts : List Nat) : State :=
  let n := ts.foldl (fun n t => match tqAt s t with | some x => n + 2 * x.posts.length | none => n) 0
  let s1 := each (List.range n) s (fun s _ => match nextHeld s ts with | some t => doPost s t | none => s)
  each ts s1 noteFull

/-- The POST cells that have waited at the head for an instance are written (R249, R258). -/
def lateDrain (s : State) (o : Owner) : State :=
  each (s.que.late.filter (fun p => decide (p.owner = o)))
    { s with que := { s.que with late := s.que.late.filter (fun p => !decide (p.owner = o)) } } writePost

/-- The PI mirrors that have waited are written (R110, R249). -/
def mirrorsDue (s : State) (o : Owner) : State :=
  each ((s.que.cqs.filter (fun c => decide (c.2.owner = o) && c.2.mirrorDue)).map (·.1)) s mirrorTick

/-- Fetching for an instance's TQs waits for their next poll ticks (R250). -/
def untilPoll (s : State) (o : Owner) : State :=
  each (tqsOf s o) s (fun s t => updTq s t (fun x => { x with sampled := x.ci % qSize x.log2 }))

/-- RESUME_INSTANCE, opcode 0x51 (R250): the held completions, the held messages, then the ACQ entry. -/
def execResumeInstance (o : Owner) (e : List Word) (s : State) : Host.Outcome State Fault Refusal :=
  .next (adm s o e true 2 (fun s =>
    let n := (aTarget e).toNat
    let t : Owner := .inst (aTarget e)
    if !aBehalf e then bad s o e dField
    else if phaseHere s (instAt s n) != 3 then bad s o e dState
    else
      let s1 := untilPoll (tellHomes (setInst s n (setPhase s (instAt s n) 1)) t o e) t
      good (msixFlush (mirrorsDue (lateDrain (drainHeld s1 (tqsOf s1 t)) t) t) t) o e 0 0))

/-- The length and the address of SWAP_DIRTY_LOG are in range (R254). -/
def swapForm (a : Addr) (len : Nat) : Bool :=
  (a == 0 && len == 0)
    || (a != 0 && a.toNat % 4096 == 0 && len % 8 == 0 && decide (8 ≤ len) && decide (len ≤ 268435456))

/-- SWAP_DIRTY_LOG, opcode 0x52 (R253, R254). -/
def execSwapDirtyLog (o : Owner) (e : List Word) (s : State) : Host.Outcome State Fault Refusal :=
  .next (adm s o e true 5 (fun s =>
    let n := (aTarget e).toNat
    let i := instAt s n
    let a := join64 (dw e 2) (dw e 3)
    let len := (dw e 4).toNat
    if !aBehalf e || !swapForm a len then bad s o e dField
    else if i.state == 0 || i.state == 4 then bad s o e dState
    else
      let old := match i.dirty with | some (b, _) => b | none => 0
      let s1 := emits s (dirtyOuts s.mgt.rid old i.marks)
      let s2 := setInst s1 n { i with dirty := if a == 0 then none else some (a, len), marks := [], dirtyOvf := false }
      good s2 o e ((lo32 old).toNat / 4096 * 4096 + b2n i.dirtyOvf) (hi32 old).toNat))

/-- VF_ENABLE (R242). -/
def execVfEnable (num : BitVec 11) (s : State) : Host.Outcome State Fault Refusal :=
  .next (if epActive s then setVfs s num.toNat else s)

/-- VF_REMOVAL (R251): VF Enable cleared, or NumVFs lowered to a number. -/
def execVfRemoval (num : BitVec 11) (s : State) : Host.Outcome State Fault Refusal :=
  .next (if epActive s && decide (num.toNat ≤ s.mgt.vfs) then setVfs s num.toNat else s)

/-- FUNCTION_LEVEL_RESET (R251) of an instance. -/
def execFunctionLevelReset (i : BitVec 10) (s : State) : Host.Outcome State Fault Refusal :=
  let st := (instAt s i.toNat).state
  .next (if epActive s && (st == 1 || st == 2 || st == 3) then beginReset s i.toNat false else s)

/-- INSTANCE_RESET_DONE (R251). -/
def execInstanceResetDone (i : BitVec 10) (s : State) : Host.Outcome State Fault Refusal :=
  .next (endReset s i.toNat)

/-- MSIX_UNMASK (R256). -/
def execMsixUnmask (o : Owner) (k : MaskCond) (s : State) : Host.Outcome State Fault Refusal :=
  .next (if epActive s then unmask s o k else s)

/-- TENANT_IN_RELEASE (R244). -/
def execTenantInRelease (i : BitVec 10) (s : State) : Host.Outcome State Fault Refusal :=
  .next (if windowOpen s (.inst i) then tenantIn s i.toNat else s)

/-- TENANT_OUT_POST (R244). -/
def execTenantOutPost (i : BitVec 10) (s : State) : Host.Outcome State Fault Refusal :=
  .next (if windowOpen s (.inst i) then tenantOut s i.toNat else s)

/-- MANAGER_IN_POST (R244): a write of 1 to TEN_MBX_DB.IN_FULL. -/
def execManagerInPost (src : Src) (s : State) : Host.Outcome State Fault Refusal :=
  .next (gatedW s src pTen 0x090 1 managerIn)

/-- MANAGER_OUT_RELEASE (R244): a write of 1 to TEN_MBX_DB.OUT_FULL. -/
def execManagerOutRelease (src : Src) (s : State) : Host.Outcome State Fault Refusal :=
  .next (gatedW s src pTen 0x090 2 managerOut)

end Sys2Proof.Machine
end

