-- ==== Sys2Proof/Machine/Jtag.lean ====
section
/-!
DEFINITION. The test access port and boundary scan (R345 to R347), and a module's insertion and removal (R339).
-/
namespace Sys2Proof.Machine

/-- The identification register (R345). -/
def idcode : Nat := 0x20512D47

/-- The cells of the ring pairs (R346): 32 cells, the last of which lies 15 cells before TDO. -/
def ringCells : Scan := BitVec.ofNat 3407 ((2 ^ 32 - 1) * 2 ^ 15)

/-- The cells that only observe (R346): the voltages of the VBUS balls, the sideband's observe cell, SVC_VBUS, the straps and PERST_N. -/
def observeCells : Scan := BitVec.ofNat 3407 (0xFF + 2 ^ 12 + 2 ^ 335 * ((4 ^ 512 - 1) / 3))

/-- The data cells of the full-speed balls (R346), each with its enable cell next toward TDO. -/
def dataCells : Scan := BitVec.ofNat 3407 (0xA00 + 2 ^ 1360 * ((4 ^ 1024 - 1) / 3))

/-- What the balls give the cells (R346): the ring pairs' cells capture 0 while the switches are closed. -/
def scanOf (s : State) (v : Scan) : Scan := if bypassed s then v &&& ~~~ ringCells else v

/-- What the cells put on the balls (R346): an observing cell drives nothing, a data cell drives while its enable cell holds 1, a switch cell and
the drive cells as they stand, and the ring pairs' cells only while the switches are open. -/
def driven (s : State) (v : Scan) : Scan :=
  scanOf s ((v &&& ~~~ dataCells &&& ~~~ observeCells) ||| (v &&& dataCells &&& (v <<< 1)))

/-- The balls go over to the boundary cells (R347): the root ports see a disconnect, the open ring ports a break, the PCIe link goes down,
and the service port detaches. -/
def takeBalls (s : State) : State :=
  if s.mgt.boot != .running || chipDeep s then s
  else
    let s1 := each (List.range 512) s (fun s p => if 2 ≤ portState s p && prf s p PRT_STATE_TEST == 0 then doDisconnect s p else s)
    let s2 := if bypassed s1 then s1
      else each [Side.east, Side.west] s1 (fun s d => if linkOf s d == 2 then breakAt (setLink s d 0) d else setLink s d 0)
    svcDetach (linkReset s2)

/-- The balls return to the chip (R347): the ring trains again (R59), and the pull-up connects. -/
def freeBalls (s : State) : State :=
  if s.mgt.boot != .running || chipDeep s then s
  else svcAttach (startTrain (startTrain s .east) .west)

/-- An instruction of the test access port is selected (R345, R347). -/
def select (s : State) (ir : BitVec 8) : State :=
  let s1 := { s with jtag := { s.jtag with ir := ir } }
  if !ballsTaken s && ballsTaken s1 then takeBalls s1
  else if ballsTaken s && !ballsTaken s1 then freeBalls s1
  else s1

/-- The port has no power (R263, R278, R308): the debug island is dark in a deep state, and TDO is high-impedance. -/
def tapOff (s : State) : Bool := s.mgt.boot == .unpowered || chipDeep s

/-- A test instruction that drives the balls and captures them (R345 to R347). -/
def scanTest (s : State) (ir : BitVec 8) (drive pins : Scan) : State :=
  if tapOff s then s
  else
    let s1 := select s ir
    let got := scanOf s1 pins
    emits { s1 with jtag := { s1.jtag with preload := drive, bound := got } } [.balls ir (driven s1 drive), .tdo got.toNat]

/-- An instruction that selects the bypass register, which captures 0 (R345). -/
def selectBypass (s : State) (ir : BitVec 8) : State := emit (select s ir) (.tdo 0)

/-- TAP_RESET (R345): IDCODE is selected. -/
def execTapReset (s : State) : Host.Outcome State Fault Refusal := .next (if tapOff s then s else select s 0x01)

/-- EXTEST (R345, R347). -/
def execExtest (drive pins : Scan) (s : State) : Host.Outcome State Fault Refusal := .next (scanTest s 0x00 drive pins)

/-- IDCODE (R345). -/
def execIdcode (s : State) : Host.Outcome State Fault Refusal := .next (if tapOff s then s else emit (select s 0x01) (.tdo idcode))

/-- The balls are captured without being disturbed, and the cells that CLAMP and EXTEST will drive are loaded (R345). -/
def sampleBalls (s : State) (preload pins : Scan) : State :=
  if tapOff s then s
  else
    let s1 := select s 0x02
    let got := scanOf s1 pins
    emit { s1 with jtag := { s1.jtag with preload := preload, bound := got } } (.tdo got.toNat)

/-- SAMPLE_PRELOAD (R345). -/
def execSamplePreload (preload pins : Scan) (s : State) : Host.Outcome State Fault Refusal := .next (sampleBalls s preload pins)

/-- CLAMP (R345, R347): the preloaded values stand on the balls. -/
def execClamp (s : State) : Host.Outcome State Fault Refusal :=
  .next (if tapOff s then s else emit (selectBypass s 0x03) (.balls 0x03 (driven s s.jtag.preload)))

/-- HIGHZ (R345, R347): no output drives. -/
def execHighz (s : State) : Host.Outcome State Fault Refusal :=
  .next (if tapOff s then s else emit (selectBypass s 0x04) (.balls 0x04 0))

/-- EXTEST_PULSE (R345, R347). -/
def execExtestPulse (drive pins : Scan) (s : State) : Host.Outcome State Fault Refusal := .next (scanTest s 0x05 drive pins)

/-- EXTEST_TRAIN (R345, R347). -/
def execExtestTrain (drive pins : Scan) (s : State) : Host.Outcome State Fault Refusal := .next (scanTest s 0x06 drive pins)

/-- DEBUG (R97, R345): a register access with debug authority. -/
def execDebug (page : BitVec 8) (off : BitVec 12) (op : Op) (s : State) : Host.Outcome State Fault Refusal :=
  .next (if tapOff s then s else access (select s 0x10) .jtag page.toNat off.toNat op)

/-- The value is another instruction's (R345). -/
def tapDefined (v : BitVec 8) : Bool := decide (v.toNat ≤ 6) || v == 0x10

/-- BYPASS (R345): 0xFF and every value without an instruction of its own. -/
def execBypass (v : BitVec 8) (s : State) : Host.Outcome State Fault Refusal :=
  .next (if tapOff s || tapDefined v then s else selectBypass s v)

/-- MODULE_INSERT (R339): the straps are stable before the feed arrives; the release of the reset latches them (R41). -/
def execModuleInsert (straps : BitVec 6) (s : State) : Host.Outcome State Fault Refusal :=
  .next (if s.mgt.boot == .unpowered then feedUp { s with mgt := { s.mgt with pins := straps } } else s)

/-- MODULE_REMOVE (R339): the shorting contacts close, the lanes and the feed go, and the chip is unpowered. -/
def execModuleRemove (s : State) : Host.Outcome State Fault Refusal := .next (powerLost s)

end Sys2Proof.Machine
end

