-- ==== Sys2Proof/Machine/Pages.lean ====
section
/-!
DEFINITION. The commands of the common page header and of register access (R7 to R10, R87 to R101, R351).
-/
namespace Sys2Proof.Machine

/-- PAGE_CONTROL as it stands, with SOFT_RESET. -/
def softWord (s : State) (page : Nat) : Word := (rd s (adr page 0x00C) &&& 0x5) ||| 0x2

/-- SOFT_RESET (R88, R91, R175, R203, R230, R304). -/
def execSoftReset (src : Src) (page : BitVec 8) (s : State) : Host.Outcome State Fault Refusal :=
  .next (access s src page.toNat 0x00C (.write (softWord s page.toNat)))

/-- SOFT_RESET_DONE (R88): the accesses that were held are served in order. -/
def execSoftResetDone (page : BitVec 8) (s : State) : Host.Outcome State Fault Refusal :=
  .next (if inSoftReset s page.toNat then serveHeld (wb s page.toNat PAGE_CONTROL_SOFT_RESET false) else s)

/-- VOTE_SET (R89, R265). -/
def execVoteSet (src : Src) (page : BitVec 8) (v : Word) (s : State) : Host.Outcome State Fault Refusal :=
  .next (access s src page.toNat 0x010 (.write v))

/-- VOTE_CLEAR (R89, R265). -/
def execVoteClear (src : Src) (page : BitVec 8) (v : Word) (s : State) : Host.Outcome State Fault Refusal :=
  .next (access s src page.toNat 0x014 (.write v))

/-- PAGE_LOCK_SET (R91, R92). -/
def execPageLockSet (src : Src) (page : BitVec 8) (s : State) : Host.Outcome State Fault Refusal :=
  .next (access s src page.toNat 0x038 (.write 1))

/-- EVENT_ENABLE_WRITE (R351). -/
def execEventEnableWrite (src : Src) (page : BitVec 8) (v : Word) (s : State) : Host.Outcome State Fault Refusal :=
  .next (access s src page.toNat 0x030 (.write v))

/-- DARK_ACCESS (R93): an access, which a dark register refuses. -/
def execDarkAccess (src : Src) (page : BitVec 8) (off : BitVec 12) (op : Op) (s : State) : Host.Outcome State Fault Refusal :=
  .next (access s src page.toNat off.toNat op)

/-- WAKE_ON_ACCESS (R94): an access, which wakes a dark block. -/
def execWakeOnAccess (src : Src) (page : BitVec 8) (off : BitVec 12) (op : Op) (s : State) : Host.Outcome State Fault Refusal :=
  .next (access s src page.toNat off.toNat op)

/-- REGISTER_WRITE (R10, R100). -/
def execRegisterWrite (src : Src) (page : BitVec 8) (off : BitVec 12) (v : Word) (s : State) : Host.Outcome State Fault Refusal :=
  .next (access s src page.toNat off.toNat (.write v))

/-- An access that is no aligned access of 32 bits (R7): refused with REASON SIZE, in its order behind accesses that wait (R94, R100). -/
def sizeRefused (s : State) (src : Src) (page off : Nat) (isWrite : Bool) : State :=
  access s src page (off + 0x1000) (if isWrite then .write 0 else .read)

/-- MISALIGNED_ACCESS (R7, R101). -/
def execMisalignedAccess (src : Src) (page : BitVec 8) (off : BitVec 12) (isWrite : Bool) (s : State) :
    Host.Outcome State Fault Refusal :=
  .next (sizeRefused s src page.toNat off.toNat isWrite)

/-- WIDE_LOW_READ (R8): a read, which latches the high half of a 64-bit quantity. -/
def execWideLowRead (src : Src) (page : BitVec 8) (off : BitVec 12) (s : State) : Host.Outcome State Fault Refusal :=
  .next (access s src page.toNat off.toNat .read)

/-- WIDE_HIGH_WRITE (R8): a write, which takes a held low half with it. -/
def execWideHighWrite (src : Src) (page : BitVec 8) (off : BitVec 12) (v : Word) (s : State) : Host.Outcome State Fault Refusal :=
  .next (access s src page.toNat off.toNat (.write v))

/-- READ_CLEAR (R10): a read, which clears the RC fields. -/
def execReadClear (src : Src) (page : BitVec 8) (off : BitVec 12) (s : State) : Host.Outcome State Fault Refusal :=
  .next (access s src page.toNat off.toNat .read)

end Sys2Proof.Machine
end

