-- ==== Sys2Proof/Machine/Ports.lean ====
section
/-!
DEFINITION. The events on the wires of the root ports: signal-VBUS, connect, reset, resume, link power management, disconnect, the
port engines' watchdogs and the termination (R177 to R202, R300, R334, R358). An event that has no row for the port's state
leaves the state unchanged (R177).
-/
namespace Sys2Proof.Machine

/-- LINE_CHANGE (R184, R266): on a POWERED port the debounce starts again; a port of a cluster forced down latches it (R202), as does one of
a dark cluster after a disconnect that has still to be declared. -/
def execLineChange (p : BitVec 9) (l : Line) (s : State) : Host.Outcome State Fault Refusal :=
  let n := p.toNat
  let x := portAt s n
  .next (if goneLatched s n then latchEvent (setPort s n { x with line := l }) n .connect
    else if portState s n != 1 || x.ss == .up || x.line == l then s
    else
      let s1 := setPort s n { x with line := l, debouncing := l != .se0 && !portForced s n, stable := false }
      if portForced s n then latchEvent s1 n .connect else detect s1 n)

/-- CONNECT_DEBOUNCE_DONE (R184, R185). -/
def execConnectDebounceDone (p : BitVec 9) (s : State) : Host.Outcome State Fault Refusal :=
  let n := p.toNat
  let x := portAt s n
  .next (if portState s n != 1 || !x.debouncing || portDark s n then s
    else
      let s1 := setPort s n { x with debouncing := false, stable := true }
      if ssPath s1 n then s1 else connectUsb2 s1 n)

/-- DEVICE_CHIRP_END (R184): a chirp K of a device that pulled up D+, in a USB 2.0 reset. -/
def execDeviceChirpEnd (p : BitVec 9) (s : State) : Host.Outcome State Fault Refusal :=
  let n := p.toNat
  let x := portAt s n
  .next (match x.reset with
    | some (.usb2 _ h) => if x.line == .dPlus then setPort s n { x with reset := some (.usb2 true h) } else s
    | _ => s)

/-- HOST_CHIRP_START (R184). -/
def execHostChirpStart (p : BitVec 9) (s : State) : Host.Outcome State Fault Refusal :=
  let n := p.toNat
  let x := portAt s n
  .next (match x.reset with
    | some (.usb2 true false) => emit (setPort s n { x with reset := some (.usb2 true true) }) (.port n "chirp")
    | _ => s)

/-- BUS_RESET_END (R184): ENABLED at its speed, or DISABLED with LINK_FAIL when the high-speed handshake fails. -/
def execBusResetEnd (p : BitVec 9) (l : ResetLine) (s : State) : Host.Outcome State Fault Refusal :=
  let n := p.toNat
  let x := portAt s n
  .next (match x.reset with
    | some (.usb2 d h) =>
      if portState s n != 5 then s
      else if d && h && l == .neither then linkFail s n
      else
        let sp := if d && h && l == .hsIdle then 2 else if x.line == .dMinus then 0 else 1
        setPortState (pwf (setPort s n { x with reset := none, allowTxn := false }) n PRT_STATE_SPEED sp) n 3
    | _ => s)

/-- RESET_RECOVERY_END (R184): transactions are allowed 10 ms after the reset has ended. -/
def execResetRecoveryEnd (p : BitVec 9) (s : State) : Host.Outcome State Fault Refusal :=
  let n := p.toNat
  .next (if portState s n == 3 && (portAt s n).reset.isNone then setPort s n { portAt s n with allowTxn := true } else s)

/-- FAR_END_TERMINATION_FOUND (R266, R358): LINK goes from RXDETECT to TRAINING; a dark cluster latches it (R202). -/
def execFarEndTerminationFound (p : BitVec 9) (s : State) : Host.Outcome State Fault Refusal :=
  let n := p.toNat
  .next (if goneLatched s n && decide (n < 64) then latchEvent s n .term
    else if portState s n == 1 && (portAt s n).ss == .detect then
      (if portDark s n then latchEvent s n .term else detect (noteLink (setPort s n { portAt s n with ss := .training }) n) n)
    else s)

/-- SS_LINK_U0 (R185, R199, R200): the SuperSpeed link reaches U0 out of training, a reset, a resume, or U1 and U2; a port of a dark cluster
does not act (R202). -/
def execSsLinkU0 (p : BitVec 9) (gen2 : Bool) (s : State) : Host.Outcome State Fault Refusal :=
  let n := p.toNat
  let x := portAt s n
  let sp := if gen2 then 4 else 3
  let go (s : State) : State :=
    setPort s n { portAt s n with ss := .up, reset := none, allowTxn := true, debouncing := false, stable := false }
  .next (if portDark s n then s else match portState s n with
    | 1 => if x.ss == .training then setConnected (setPortState (go (pwf s n PRT_STATE_SPEED sp)) n 3) n true else s
    | 5 => if x.reset == some .hot then setPortState (go (pwf s n PRT_STATE_SPEED sp)) n 3 else s
    | 6 => if x.ss == .up then resetAfter (setPortState (go (wakeEvt s n)) n 3) n else s
    | 3 => if x.ss == .exiting then pwf (go s) n PRT_STATE_LINK 1 else s
    | _ => s)

/-- SS_TRAINING_FAIL (R185): the port is left to the USB 2.0 path, and a connect that is stable enters DISABLED at once. -/
def execSsTrainingFail (p : BitVec 9) (s : State) : Host.Outcome State Fault Refusal :=
  let n := p.toNat
  let x := portAt s n
  .next (if portState s n == 1 && (x.ss == .detect || x.ss == .training) && !portDark s n then
      let s1 := noteLink (setPort s n { x with ss := .failed }) n
      if x.stable then connectUsb2 s1 n else s1
    else s)

/-- SS_RESET_TIMEOUT (R177): a SuperSpeed reset not complete in 100 ms. -/
def execSsResetTimeout (p : BitVec 9) (s : State) : Host.Outcome State Fault Refusal :=
  let n := p.toNat
  let r := (portAt s n).reset
  .next (if portState s n == 5 && (r == some .hot || r == some .warm) then linkFail s n else s)

/-- SS_WARM_RESET_LFPS_END (R185): the link retrains, as after a hot reset. -/
def execSsWarmResetLfpsEnd (p : BitVec 9) (s : State) : Host.Outcome State Fault Refusal :=
  let n := p.toNat
  let x := portAt s n
  .next (if portState s n == 5 && x.reset == some .warm then setPort s n { x with reset := some .hot } else s)

/-- SS_RESUME_TIMEOUT (R177): the link is not in U0 within 20 ms of the U3 exit. -/
def execSsResumeTimeout (p : BitVec 9) (s : State) : Host.Outcome State Fault Refusal :=
  let n := p.toNat
  .next (if portState s n == 6 && (portAt s n).ss == .up then linkFail s n else s)

/-- DISCONNECT (R187, R202, R266). -/
def execDisconnect (p : BitVec 9) (s : State) : Host.Outcome State Fault Refusal :=
  let n := p.toNat
  .next (if portState s n < 2 || prf s n PRT_STATE_TEST == 1 then s
    else if portDark s n then latchGone s n else doDisconnect (detect s n) n)

/-- REMOTE_WAKE (R199, R202, R266). -/
def execRemoteWake (p : BitVec 9) (s : State) : Host.Outcome State Fault Refusal :=
  let n := p.toNat
  .next (if portState s n != 4 then s
    else if portDark s n then latchEvent s n .wake else startResume (detect s n) n true)

/-- RESUME_SIGNAL_END (R199): the EOP, ENABLED, and WAKE if the device started the resume. -/
def execResumeSignalEnd (p : BitVec 9) (s : State) : Host.Outcome State Fault Refusal :=
  let n := p.toNat
  .next (if portState s n == 6 && (portAt s n).ss != .up then
      resetAfter (setPortState (setPort (wakeEvt s n) n { portAt s n with allowTxn := false }) n 3) n
    else s)

/-- RESUME_RECOVERY_END (R199): transactions are allowed 30 ms after the resume started. -/
def execResumeRecoveryEnd (p : BitVec 9) (s : State) : Host.Outcome State Fault Refusal :=
  let n := p.toNat
  .next (if portState s n == 3 && (portAt s n).reset.isNone then setPort s n { portAt s n with allowTxn := true } else s)

/-- VBUS_CHARGED (R183): the port is POWERED, and a waiting POWER_ON may start (R334). -/
def execVbusCharged (p : BitVec 9) (s : State) : Host.Outcome State Fault Refusal :=
  let n := p.toNat
  .next (if (portAt s n).charging then
      nextCharge (setPortState (setPort s n { portAt s n with charging := false }) n 1) else s)

/-- VBUS_CHARGE_TIMEOUT (R183, R334): the port has not reached 4.75 V in 10 ms. -/
def execVbusChargeTimeout (p : BitVec 9) (s : State) : Host.Outcome State Fault Refusal :=
  let n := p.toNat
  .next (if (portAt s n).charging then vbusDown s n else s)

/-- VBUS_FAULT (R183): any condition of R183 on a port whose signal-VBUS is on. -/
def execVbusFault (p : BitVec 9) (s : State) : Host.Outcome State Fault Refusal :=
  let n := p.toNat
  .next (if portState s n != 0 || (portAt s n).charging then vbusDown s n else s)

/-- L1_ENTRY (R198): an L1-enabled high-speed port with its device attached directly, no reservation and nothing ready. -/
def execL1Entry (p : BitVec 9) (ack : Bool) (s : State) : Host.Outcome State Fault Refusal :=
  let n := p.toNat
  let eps := s.ctx.eps.filter (fun e => epPort s e.2 == n)
  let direct := (devsOn s n).all (fun h => (devAt s h).any (fun d => d.route == 0))
  let idle := eps.all (fun e => e.2.rsv.isNone && !issueReady s e.1 e.2)
  .next (if portState s n == 3 && prf s n PRT_STATE_LINK == 1 && speedOf s n == 2 && prf s n PRT_LPM_L1_EN == 1 && direct && idle
      && (portAt s n).wire.isNone then
      let s1 := emit s (.lpm n (prf s n PRT_LPM_BESL) true)
      if ack then pwf s1 n PRT_STATE_LINK 2 else s1
    else s)

/-- L1_EXIT (R198): a transaction has become ready, or the device signals remote wake. -/
def execL1Exit (p : BitVec 9) (byDevice : Bool) (s : State) : Host.Outcome State Fault Refusal :=
  let n := p.toNat
  let ready := s.ctx.eps.any (fun e => epPort s e.2 == n && issueReady s e.1 e.2)
  .next (if prf s n PRT_STATE_LINK == 2 && (ready || byDevice) then
      emit (setPort s n { portAt s n with l1Exit := true }) (.port n "drive K") else s)

/-- L1_EXIT_LATENCY_END (R198): the link is back in L0. -/
def execL1ExitLatencyEnd (p : BitVec 9) (s : State) : Host.Outcome State Fault Refusal :=
  let n := p.toNat
  .next (if prf s n PRT_STATE_LINK == 2 && (portAt s n).l1Exit then
      pwf (setPort s n { portAt s n with l1Exit := false }) n PRT_STATE_LINK 1 else s)

/-- U1_U2_ENTRY (R200). -/
def execU1U2Entry (p : BitVec 9) (u2 : Bool) (s : State) : Host.Outcome State Fault Refusal :=
  let n := p.toNat
  let l := prf s n PRT_STATE_LINK
  let en := if u2 then prf s n PRT_LPM_U2_EN == 1 else prf s n PRT_LPM_U1_EN == 1
  .next (if portState s n == 3 && (portAt s n).ss == .up && en && (portAt s n).wire.isNone && (l == 1 || (u2 && l == 3)) then
      emit (pwf s n PRT_STATE_LINK (if u2 then 4 else 3)) (.port n (if u2 then "u2" else "u1")) else s)

/-- U_EXIT_EARLY (R200): the exit to U0 begins. -/
def execUExitEarly (p : BitVec 9) (s : State) : Host.Outcome State Fault Refusal :=
  let n := p.toNat
  let l := prf s n PRT_STATE_LINK
  .next (if portState s n == 3 && (l == 3 || l == 4) && (portAt s n).ss == .up then
      emit (setPort s n { portAt s n with ss := .exiting }) (.port n "exit to u0") else s)

/-- SS_LINK_FAILURE (R177, R191): LINK_FAIL, its report, DISABLED, the devices GONE. -/
def execSsLinkFailure (p : BitVec 9) (s : State) : Host.Outcome State Fault Refusal :=
  let n := p.toNat
  .next (if portState s n == 3 && decide (3 ≤ speedOf s n) then
      let s1 := errBit s (cluPage n) 5
      let pr := reportRef s1 (portLoc s1 n) 0x03
      let s2 := pr.1
      let r := pr.2
      disablePort s2 n (some r)
    else s)

/-- PE_WATCHDOG_EXPIRE (R201). -/
def execPeWatchdogExpire (pe : BitVec 7) (s : State) : Host.Outcome State Fault Refusal :=
  .next (if peState s pe.toNat == 1 then peExpire s pe.toNat else s)

/-- PE_SELF_CHECK_PASS (R201): the engine reads RUN; a partner that runs hands its ports back at the next boundary, and a partner
that has stopped meanwhile is covered by the engine that has come back. -/
def execPeSelfCheckPass (pe : BitVec 7) (s : State) : Host.Outcome State Fault Refusal :=
  let n := pe.toNat
  .next (if peState s n == 2 then
      let s1 := peSet s n CLU_PE_STATUS_STATE 1
      if peState s1 (peMate n) == 1 then s1 else takeOver (handBack s1 n) (peMate n)
    else s)

/-- The deviation that a calibration leaves (R300): one step of 0.75 Ω, 15 units, towards 45.0 Ω where that lessens the one measured, and
no step otherwise (assumption 123). -/
def trimmed (v : BitVec 8) : Nat :=
  if 8 ≤ v.toInt then (v - 15).toNat else if v.toInt ≤ -8 then (v + 15).toNat else v.toNat

/-- TERMINATION_CAL (R300): in the gap after the SOF of a microframe m with m mod 8 = 0, from a port's deviation as measured; FLT_CAL_TERM
shows the port with the largest. -/
def execTerminationCal (p : BitVec 9) (dev : BitVec 8) (s : State) : Host.Outcome State Fault Refusal :=
  let s1 := setPort s p.toNat { portAt s p.toNat with termDev := trimmed dev }
  let mag (v : Nat) : Nat := if v < 128 then v else 256 - v
  let best := s1.prt.tab.foldl (fun b q => if mag b.2 < mag q.2.termDev then (q.1, q.2.termDev) else b) (0, 0)
  .next (if s.mgt.boot == .running && !chipDeep s && s.clk.uframe.toNat % 8 == 0 then
      wf (wf s1 pFlt FLT_CAL_TERM_PORT best.1) pFlt FLT_CAL_TERM_DEV best.2 else s)

end Sys2Proof.Machine
end

