-- ==== Sys2Proof/Machine/Power.lean ====
section
/-!
DEFINITION. The power commands: requests for deep states and for domains, what ends them, the votes that time withdraws, the RTC and its
alarm, the feeds and the DCO (R94, R264 to R282, R327, R331).
-/
namespace Sys2Proof.Machine

/-- A word of PWR_CHIP: TARGET, FORCE, GO. -/
def chipWord (target : Nat) (force : Bool) : Word := BitVec.ofNat 32 (target * 2 ^ 8 + b2n force * 2 ^ 11 + 2 ^ 12)

/-- A write of PWR_CHIP through the gate. -/
def chipCmd (s : State) (src : Src) (target : Nat) (force : Bool) : State :=
  access s src pPwr 0x040 (.write (chipWord target force))

/-- CHIP_REQUEST_P3 (R269, R281). -/
def execChipRequestP3 (src : Src) (force : Bool) (s : State) : Host.Outcome State Fault Refusal := .next (chipCmd s src 3 force)

/-- CHIP_REQUEST_P4 (R269, R281). -/
def execChipRequestP4 (src : Src) (force : Bool) (s : State) : Host.Outcome State Fault Refusal := .next (chipCmd s src 4 force)

/-- CHIP_REQUEST_P5 (R269, R281). -/
def execChipRequestP5 (src : Src) (force : Bool) (s : State) : Host.Outcome State Fault Refusal := .next (chipCmd s src 5 force)

/-- RECORD_COPY_DONE (R270). -/
def execRecordCopyDone (ok : Bool) (s : State) : Host.Outcome State Fault Refusal := .next (copyDone s ok)

/-- BYPASS_CLOSE_TIMEOUT (R270). -/
def execBypassCloseTimeout (s : State) : Host.Outcome State Fault Refusal := .next (switchStuck s)

/-- ENTRY_UNDONE (R270, R281). -/
def execEntryUndone (s : State) : Host.Outcome State Fault Refusal := .next (undone s)

/-- CHIP_ENTRY_DONE (R270, R276). -/
def execChipEntryDone (s : State) : Host.Outcome State Fault Refusal := .next (serveHeld (deepDone s))

/-- CHIP_EXIT_DONE (R272). -/
def execChipExitDone (s : State) : Host.Outcome State Fault Refusal := .next (serveHeld (exitDone s))

/-- FORCE_P5 (R273): a write of AON_FORCE_P5. -/
def execForceP5 (src : Src) (v : Word) (s : State) : Host.Outcome State Fault Refusal :=
  .next (access s src pAon 0x05C (.write v))

/-- A write of PWR_DOM_CMD with GO through the gate. -/
def domGo (s : State) (src : Src) (target : Nat) (force : Bool) : State :=
  access s src pPwr 0x04C (.write (BitVec.ofNat 32 (target + b2n force * 4 + 8)))

/-- DOMAIN_RELEASE (R277). -/
def execDomainRelease (src : Src) (s : State) : Host.Outcome State Fault Refusal := .next (domGo s src 0 false)

/-- DOMAIN_REQUEST_P1 (R277, R281). -/
def execDomainRequestP1 (src : Src) (force : Bool) (s : State) : Host.Outcome State Fault Refusal := .next (domGo s src 1 force)

/-- DOMAIN_REQUEST_P2 (R277, R281). -/
def execDomainRequestP2 (src : Src) (force : Bool) (s : State) : Host.Outcome State Fault Refusal := .next (domGo s src 2 force)

/-- DOMAIN_P2_ENTRY_DONE (R268, R276). -/
def execDomainP2EntryDone (dom : BitVec 8) (s : State) : Host.Outcome State Fault Refusal := .next (p2Done s dom.toNat)

/-- DOMAIN_EXIT_DONE (R94, R266, R268): the accesses and the poll ticks that waited are served. -/
def execDomainExitDone (dom : BitVec 8) (s : State) : Host.Outcome State Fault Refusal := .next (serveHeld (dueTicks (exitedDom s dom.toNat)))

/-- The profile in force is QUIET (R34). -/
def quiet (s : State) : Bool := rf s pPln PLN_PROFILE_ACTIVE == 3

/-- QUIET_IDLE_TIMER (R264): in QUIET a domain in P1 that has held no vote for 10 ms enters P2. -/
def execQuietIdleTimer (dom : BitVec 8) (s : State) : Host.Outcome State Fault Refusal :=
  let d := dom.toNat
  let x := domAt s d
  .next (if domOk d && quiet s && !chipDeep s && !voted x && x.pstate == 1 && x.transit == .none && x.forced.isNone then
      setDom s d { x with transit := .toP2 }
    else s)

/-- AUTO_P1_DELAY (R161, R264, R267): slot 36 is withdrawn everywhere, and a domain that holds no vote leaves P0; ISO-FIRST and BULK-FIRST
never withdraw it. -/
def execAutoP1Delay (s : State) : Host.Outcome State Fault Refusal :=
  let p := rf s pPln PLN_PROFILE_ACTIVE
  .next (if chipIdle s && (p == 0 || p == 3) && !chipDeep s then
      each allDoms { s with pwr := { s.pwr with idle := true } } (fun s d => settle (voteHw s 36 d false) d)
    else s)

/-- CLUSTER_IDLE_TIMER (R267): in QUIET, a cluster that has been idle for 10 ms. -/
def execClusterIdleTimer (c : BitVec 6) (s : State) : Host.Outcome State Fault Refusal :=
  let n := c.toNat
  .next (if quiet s && clIdle s n && !chipDeep s then
      let s1 := voteHw s 36 n false
      { s1 with pwr := { s1.pwr with clidle := if s1.pwr.clidle.contains n then s1.pwr.clidle else s1.pwr.clidle ++ [n] } }
    else s)

/-- DETECTOR_VOTE_EXPIRE (R266). -/
def execDetectorVoteExpire (c : BitVec 6) (s : State) : Host.Outcome State Fault Refusal := .next (voteHw s 40 c.toNat false)

/-- RTC_TICK (R271, R275). -/
def execRtcTick (s : State) : Host.Outcome State Fault Refusal := .next (tick s)

/-- ALARM_NOW (R275): a write of 1 to AON_ALARM_CTRL.NOW, ARMED kept. -/
def execAlarmNow (src : Src) (s : State) : Host.Outcome State Fault Refusal :=
  .next (access s src pAon 0x050 (.write (BitVec.ofNat 32 (4 + rf s pAon AON_ALARM_CTRL_ARMED))))

/-- PHANTOM_FEED_LOSS (R282). -/
def execPhantomFeedLoss (s : State) : Host.Outcome State Fault Refusal := .next (powerLost s)

/-- A feed has been absent for 1 ms (R285, R327). The chip has gone on, so the other feed carries it, whatever was noted of it before: a feed that
was lost and has come back is known by the loss of the other one, or by its own next loss (DEDUCED, assumption 114). -/
def feedLost (s : State) (d : Side) : State :=
  let other : Side := match d with | .east => .west | .west => .east
  if s.mgt.boot == .unpowered then s
  else
    let s1 := setSide s d { sideOf s d with feed := false }
    let s2 := setSide s1 other { sideOf s1 other with feed := true }
    if chipDeep s2 then s2 else report s2 (chipLoc s2) 0x62

/-- FEED_LOST_TIMER (R327). -/
def execFeedLostTimer (side : Side) (s : State) : Host.Outcome State Fault Refusal := .next (feedLost s side)

/-- DCO_STEP_DOWN (R331): from 16/16 down to 2/16. The command itself tells that one feed carries the chip, from the moment that the other is
absent on, 1 ms before FEED_LOST. -/
def execDcoStepDown (s : State) : Host.Outcome State Fault Refusal :=
  .next (if s.mgt.boot != .unpowered && decide (2 < s.pwr.dco) then { s with pwr := { s.pwr with dco := s.pwr.dco - 1 } } else s)

/-- DCO_STEP_UP (R331). -/
def execDcoStepUp (s : State) : Host.Outcome State Fault Refusal :=
  .next (if s.pwr.dco < 16 then { s with pwr := { s.pwr with dco := s.pwr.dco + 1 } } else s)

/-- REGISTER_VOTE_RELEASE (R94): no access for 1 ms, and none that waits for the domain. -/
def execRegisterVoteRelease (dom : BitVec 8) (s : State) : Host.Outcome State Fault Refusal :=
  .next (if s.held.any (fun h => decide (h.page < 0x100) && (domsOf h.page).contains dom.toNat) then s
    else if domOk dom.toNat then voteHw s 63 dom.toNat false else s)

end Sys2Proof.Machine
end

