-- ==== Sys2Proof/Machine/Queues.lean ====
section
/-!
DEFINITION. The commands of the queues: index writes, the AQ's enable, the list engines' ticks and reads, the PI mirror, and the
invalidation through TQ_INVAL (R108 to R116, R121, R128, R129, R360).
-/
namespace Sys2Proof.Machine

/-- TQ_PI_WRITE (R108, R137). -/
def execTqPiWrite (o : Owner) (q : BitVec 11) (v : Word) (s : State) : Host.Outcome State Fault Refusal :=
  .next (winCmd s o (0x1000 + 8 * q.toNat) v)

/-- CQ_CI_WRITE (R108, R111). -/
def execCqCiWrite (o : Owner) (q : BitVec 11) (v : Word) (s : State) : Host.Outcome State Fault Refusal :=
  .next (winCmd s o (0x1004 + 8 * q.toNat) v)

/-- AQ_PI_WRITE (R129, R360). -/
def execAqPiWrite (o : Owner) (v : BitVec 16) (s : State) : Host.Outcome State Fault Refusal :=
  .next (winCmd s o 0x10C (BitVec.ofNat 32 v.toNat))

/-- ACQ_CI_WRITE (R360). -/
def execAcqCiWrite (o : Owner) (v : BitVec 16) (s : State) : Host.Outcome State Fault Refusal :=
  .next (winCmd s o 0x11C (BitVec.ofNat 32 (v.toNat * 65536)))

/-- AQ_ENABLE (R128). -/
def execAqEnable (o : Owner) (s : State) : Host.Outcome State Fault Refusal :=
  .next (winCmd s o 0x108 ((instAt s (ownerKey o)).aqCfg ||| bitW 8))

/-- AQ_DISABLE (R128). -/
def execAqDisable (o : Owner) (s : State) : Host.Outcome State Fault Refusal :=
  .next (winCmd s o 0x108 ((instAt s (ownerKey o)).aqCfg &&& ~~~ bitW 8))

/-- AQ_ENTRY_READ_FAIL (R129): BAD_DESC with CID 0, OPCODE 0 and the AQ index of the entry. -/
def execAqEntryReadFail (o : Owner) (s : State) : Host.Outcome State Fault Refusal :=
  .next (if admReady s o && !carried s o then acqWrite s o 0 0 8 0 (BitVec.ofNat 32 (instAt s (ownerKey o)).aqCi) 0 else s)

/-- POLL_TICK (R112, R113, R115, R126). -/
def execPollTick (tq : BitVec 12) (s : State) : Host.Outcome State Fault Refusal :=
  .next (pollTq s tq.toNat)

/-- ENTRY_FETCH_DONE (R113). -/
def execEntryFetchDone (tq : BitVec 12) (idx : BitVec 16) (e : List Word) (s : State) : Host.Outcome State Fault Refusal :=
  .next (fetched s tq.toNat idx.toNat 1 (some e))

/-- ENTRY_FETCH_FAIL (R114). -/
def execEntryFetchFail (tq : BitVec 12) (idx : BitVec 16) (n : BitVec 5) (s : State) : Host.Outcome State Fault Refusal :=
  .next (fetched s tq.toNat idx.toNat n.toNat none)

/-- PREFETCH_REFILL (R113). -/
def execPrefetchRefill (tq : BitVec 12) (s : State) : Host.Outcome State Fault Refusal :=
  .next (leVotes (fetch s tq.toNat))

/-- CHAIN_TIMEOUT (R121, R123). -/
def execChainTimeout (tq : BitVec 12) (s : State) : Host.Outcome State Fault Refusal :=
  .next (chainLate s tq.toNat)

/-- PI_MIRROR_WRITE (R110). -/
def execPiMirrorWrite (cq : BitVec 10) (s : State) : Host.Outcome State Fault Refusal :=
  .next (mirrorTick s cq.toNat)

/-- TQ_INVAL_GO (R116). -/
def execTqInvalGo (src : Src) (v : Word) (s : State) : Host.Outcome State Fault Refusal :=
  .next (gatedW s src pLe 0x080 v (fun s => invalGo s v))

/-- TQ_INVAL_DONE (R116). -/
def execTqInvalDone (s : State) : Host.Outcome State Fault Refusal :=
  .next (invalEnd s)

end Sys2Proof.Machine
end

