-- ==== Sys2Proof/Machine/Ring.lean ====
section
/-!
DEFINITION. The ring's commands: joining and leaving (R62, R63), wraps and training (R59, R65), breaks (R66), time (R57, R58), the
live map, its grants and notices (R43, R52, R63, R68), and the microframe boundary (R140).
-/
namespace Sys2Proof.Machine

/-- AUTO_JOIN_TIMER (R62): during a deep entry, state or exit the chip does not join. -/
def execAutoJoinTimer (s : State) : Host.Outcome State Fault Refusal :=
  .next (if s.ring.joinTimer && s.mgt.boot == .running && s.pwr.phase == .idle then
      (if rb s pRing RING_CONTROL_AUTO_JOIN then joinRing s else { s with ring := { s.ring with joinTimer := false } })
    else s)

/-- JOIN (R62). -/
def execJoin (src : Src) (s : State) : Host.Outcome State Fault Refusal :=
  let v := ringWord s ||| bitW 6
  .next (gatedW s src pRing 0x044 v (fun s => ringControl s v))

/-- BYPASS_REQ_SET (R62, R63). -/
def execBypassReqSet (src : Src) (s : State) : Host.Outcome State Fault Refusal :=
  let v := fput (ringWord s) RING_CONTROL_BYPASS_REQ 1
  .next (gatedW s src pRing 0x044 v (fun s => ringControl s v))

/-- BYPASS_REQ_CLEAR (R62). -/
def execBypassReqClear (src : Src) (s : State) : Host.Outcome State Fault Refusal :=
  let v := fput (ringWord s) RING_CONTROL_BYPASS_REQ 0
  .next (gatedW s src pRing 0x044 v (fun s => ringControl s v))

/-- FORCE_WRAP (R65). -/
def execForceWrap (src : Src) (v : BitVec 2) (s : State) : Host.Outcome State Fault Refusal :=
  let w := fput (ringWord s) RING_CONTROL_FORCE_WRAP v.toNat
  .next (gatedW s src pRing 0x044 w (fun s => ringControl s w))

/-- RETRAIN (R59). -/
def execRetrain (src : Src) (s : State) : Host.Outcome State Fault Refusal :=
  let v := ringWord s ||| bitW 5
  .next (gatedW s src pRing 0x044 v (fun s => ringControl s v))

/-- TRAINING_STEP_DONE (R59, R64, R355). -/
def execTrainingStepDone (side : Side) (m : Train) (s : State) : Host.Outcome State Fault Refusal := .next (stepDone s side m)

/-- TRAINING_STEP_TIMEOUT (R59). -/
def execTrainingStepTimeout (side : Side) (s : State) : Host.Outcome State Fault Refusal := .next (stepLate s side)

/-- RECEIVE_LANES_DOWN (R65). -/
def execReceiveLanesDown (side : Side) (s : State) : Host.Outcome State Fault Refusal := .next (lanesDown s side)

/-- ORPHAN_TIMEOUT (R66). -/
def execOrphanTimeout (s : State) : Host.Outcome State Fault Refusal := .next (goOrphan s)

/-- MICROFRAME_BOUNDARY (R140). -/
def execMicroframeBoundary (s : State) : Host.Outcome State Fault Refusal := .next (boundary s)

/-- PLANNED_CLOSE_TIMER (R63). -/
def execPlannedCloseTimer (s : State) : Host.Outcome State Fault Refusal := .next (if s.ring.closeTimer then closeNow s else s)

/-- TIMING_CELL_RX (R57). -/
def execTimingCellRx (t : Timings) (s : State) : Host.Outcome State Fault Refusal := .next (takeTiming s t.a t.b)

/-- LOCK_LOST_TIMEOUT (R58). -/
def execLockLostTimeout (s : State) : Host.Outcome State Fault Refusal := .next (lockLost s)

/-- TOPO_CIRCULATE (R43, R44): the head's own cell comes back to it; another chip's copy is checked like any cell. -/
def execTopoCirculate (map : Topo (BitVec 64)) (dup : BitVec 64) (epoch : BitVec 8) (headSlot : BitVec 6) (s : State) :
    Host.Outcome State Fault Refusal :=
  let pass (s : State) : State := topoPass s map.c map.val dup epoch headSlot.toNat
  .next (if isHead s then (if onRing s && cellOk map.c && map.c.typ == 11 then pass s else s) else arrive s map.c 11 pass)

/-- LIVE_MAP_RX (R43). -/
def execLiveMapRx (map : Topo (BitVec 64)) (dup : BitVec 64) (epoch : BitVec 8) (headSlot : BitVec 6) (s : State) :
    Host.Outcome State Fault Refusal :=
  .next (if isHead s then s else arrive s map.c 11 (fun s => takeMap s map.val dup epoch headSlot.toNat))

/-- CREDIT_GRANT_RX (R52, R54). -/
def execCreditGrantRx (c : Cell) (epoch : BitVec 8) (iso ctrl data : BitVec 16) (s : State) : Host.Outcome State Fault Refusal :=
  .next (arrive s c 11 (fun s => takeGrant s c.src.toNat epoch iso.toNat ctrl.toNat data.toNat))

/-- TOPO_LEAVE_REQUEST_RX (R63). -/
def execTopoLeaveRequestRx (pos : Topo (BitVec 6)) (s : State) : Host.Outcome State Fault Refusal :=
  .next (arrive s pos.c 11 (fun s => leaveAsked s pos.val.toNat))

/-- A notice that the head alone sends, with manager authority (R47, R63, R68): one without it has no effect (assumption 76). -/
def headNotice (s : State) (c : Cell) (eff : State → State) : State := arrive s c 11 (fun s => if c.auth == 1 then eff s else s)

/-- TOPO_CLOSING_NOTICE_RX (R63). -/
def execTopoClosingNoticeRx (pos : Topo (BitVec 6)) (w : Word) (s : State) : Host.Outcome State Fault Refusal :=
  .next (headNotice s pos.c (fun s => closingTold s pos.val w))

/-- A release is announced (R68). -/
def releaseTold (s : State) (w : Word) : State := if isHead s then s else { s with ring := { s.ring with releaseAt := some w } }

/-- TOPO_RELEASE_RX (R68). -/
def execTopoReleaseRx (w : Topo Word) (s : State) : Host.Outcome State Fault Refusal :=
  .next (headNotice s w.c (fun s => releaseTold s w.val))

/-- RECOVERED_CLOCK_FAIL (R25, R67): the PHY reference becomes the resonator. -/
def execRecoveredClockFail (s : State) : Host.Outcome State Fault Refusal :=
  .next (if s.clk.recovered && ((mode s == 4 && prevMode s == 3) || orphan s) then
      { s with clk := { s.clk with recovered := false } } else s)

/-- LANE_HEARTBEAT_LOSS (R303): AON closes the bypass switches. -/
def execLaneHeartbeatLoss (s : State) : Host.Outcome State Fault Refusal := .next (if bypassed s then s else closeNow s)

end Sys2Proof.Machine
end

