-- ==== Sys2Proof/Machine/Service.lean ====
section
/-!
DEFINITION. The service port (R204 to R208, R266): host VBUS, standard requests, requests on endpoint 0x01, responses on 0x81 and the event
record on 0x82.
-/
namespace Sys2Proof.Machine

/-- The chip is in P0, P1 or P2, where the pull-up may be connected (R204, R270). -/
def svcPowered (s : State) : Bool :=
  s.mgt.boot == .running && !chipDeep s && (s.pwr.phase == .idle || s.pwr.phase == .copying)

/-- Host VBUS appears or vanishes (R204). -/
def vbusChange (s : State) (present hs : Bool) : State :=
  let was := rb s pSvc SVC_STATUS_VBUS
  let s1 := wb { s with prt := { s.prt with svcHs := hs } } pSvc SVC_STATUS_VBUS present
  if present && was then s
  else if present then (if svcPowered s1 then svcAttach s1 else s1)
  else svcDetach s1

/-- SVC_VBUS_CHANGE (R204). -/
def execSvcVbusChange (present hs : Bool) (s : State) : Host.Outcome State Fault Refusal :=
  .next (if s.mgt.boot == .unpowered then s else vbusChange s present hs)

/-- The host can reach the endpoints: attached, configured and not suspended, and the block not dark (R264). -/
def svcUp (s : State) : Bool :=
  !pageDark s pSvc && rb s pSvc SVC_STATUS_ATTACHED && rb s pSvc SVC_STATUS_CONFIGURED && !rb s pSvc SVC_STATUS_SUSPENDED

/-- An endpoint answers STALL and halts (R205). -/
def svcStalls (s : State) (ep : BitVec 8) : State :=
  let s1 := incF s pSvc SVC_COUNTS_STALLS
  emit { s1 with svc := if ep == 0x01 then { s1.svc with haltOut := true } else { s1.svc with haltIn := true } } (.svcStall ep)

/-- The packets of a bulk transfer of some bytes: full ones, and the short or zero-length one that ends it (R204, R206). -/
def bulkPackets (s : State) (n : Nat) : Nat := n / (if rb s pSvc SVC_STATUS_HIGH_SPEED then 512 else 64) + 1

/-- A toggle after some packets. -/
def togAfter (t : Bool) (n : Nat) : Bool := t != (n % 2 == 1)

/-- A request's header and length are good (R206): OP, OFFSET, COUNT, and the dwords of a WRITE. -/
def reqGood (req : List Word) : Bool :=
  let op := bits (dw req 0) 0 8
  let count := bits (dw req 3) 0 13
  (op == 1 || op == 2) && bits (dw req 2) 0 2 == 0 && decide (1 ≤ count) && decide (count ≤ 4096)
    && req.length == 4 + (if op == 2 then count else 0)

/-- The request as it runs; a bad one has no dword to do, and its response reads ERROR. -/
def reqJob (req : List Word) : SvcJob :=
  let count := bits (dw req 3) 0 13
  let good := reqGood req
  { head := dw req 0, pos := bits (dw req 1) 0 6, off := bits (dw req 2) 0 20, count := count, data := req.drop 4, got := []
    next := if good then 0 else count, bad := if good then none else some 0 }

/-- A request on endpoint 0x01 (R87, R205 to R207): none is taken while the page's ENABLE is 0; STALL while it is not ready; one longer than 16,400 bytes halts it too, and its response
reads ERROR. -/
def svcRequest (s : State) (req : List Word) : State :=
  if !svcUp s || !pageOn s pSvc then s
  else if s.svc.haltOut || s.svc.job.isSome || s.svc.resp.isSome then svcStalls s 0x01
  else
    let long := decide (4100 < req.length)
    let n := if long then 16400 else 4 * req.length
    let j := if long then { reqJob (req.take 4) with next := bits (dw req 3) 0 13, bad := some 0 } else reqJob req
    let s1 := wb { s with svc := { s.svc with job := some j, togOut := togAfter s.svc.togOut (bulkPackets s n) } }
      pSvc SVC_STATUS_OUT_BUSY true
    svcGo (if long then svcStalls s1 0x01 else s1)

/-- SVC_REQUEST_READ (R207): a transfer whose OP says READ; another OP is not this command's. -/
def execSvcRequestRead (req : List Word) (s : State) : Host.Outcome State Fault Refusal :=
  .next (if bits (dw req 0) 0 8 == 2 then s else svcRequest s req)

/-- SVC_REQUEST_WRITE (R207): a transfer whose OP says WRITE. -/
def execSvcRequestWrite (req : List Word) (s : State) : Host.Outcome State Fault Refusal :=
  .next (if bits (dw req 0) 0 8 == 1 then s else svcRequest s req)

/-- The event record (R208). -/
def evtRecord (s : State) : List Word :=
  [s.svc.evt ||| BitVec.ofNat 32 (if bit s.svc.evt 0 then s.svc.seq.toNat * 2 ^ 16 else 0),
   BitVec.ofNat 32 (mode s + chipState s * 2 ^ 4 + rf s pRing RING_STATUS_EPOCH * 2 ^ 8),
   BitVec.ofNat 32 s.svc.newRecs, s.svc.evtRct]

/-- A read of endpoint 0x82 (R205, R208): the record, which then clears; NAK when it is empty. -/
def readEvents (s : State) : State :=
  if !svcUp s || s.svc.evt == 0 then s
  else
    wb (emit { s with svc := { s.svc with evt := 0, newRecs := 0, togEvt := !s.svc.togEvt } } (.svc (wordBytes (evtRecord s))))
      pSvc SVC_STATUS_EVT_PENDING false

/-- SVC_EVENT_READ (R208). -/
def execSvcEventRead (s : State) : Host.Outcome State Fault Refusal := .next (readEvents s)

/-- A read of endpoint 0x81 up to its short packet (R205): the response, after which endpoint 0x01 is ready again. -/
def readResponse (s : State) : State :=
  if !svcUp s then s
  else match s.svc.resp with
    | none => svcStalls s 0x81
    | some r =>
      if s.svc.haltIn then svcStalls s 0x81
      else
        let s1 := emit { s with svc := { s.svc with
          resp := none, togIn := togAfter s.svc.togIn (bulkPackets s (4 * r.length)) } } (.svc (wordBytes r))
        wb (wb s1 pSvc SVC_STATUS_OUT_BUSY false) pSvc SVC_STATUS_IN_READY false

/-- SVC_RESPONSE_READ (R205). -/
def execSvcResponseRead (s : State) : Host.Outcome State Fault Refusal := .next (readResponse s)

/-- CLEAR_FEATURE(ENDPOINT_HALT) (R205): the halt clears, and the toggle is DATA0. Another endpoint makes it an unsupported request. -/
def clearHalt (s : State) (ep : BitVec 8) : State :=
  if !svcUp s then s
  else if ep == 0x01 then { s with svc := { s.svc with haltOut := false, togOut := false } }
  else if ep == 0x81 then { s with svc := { s.svc with haltIn := false, togIn := false } }
  else if ep == 0x82 then { s with svc := { s.svc with togEvt := false } }
  else emit s (.svcStall 0x00)

/-- SVC_CLEAR_HALT (R205). -/
def execSvcClearHalt (ep : BitVec 8) (s : State) : Host.Outcome State Fault Refusal := .next (clearHalt s ep)

/-- SVC_HOST_SUSPEND (R266). -/
def execSvcHostSuspend (suspend : Bool) (s : State) : Host.Outcome State Fault Refusal :=
  .next (if rb s pSvc SVC_STATUS_ATTACHED then svcVotes (wb s pSvc SVC_STATUS_SUSPENDED suspend) else s)

/-- A hexadecimal digit in upper case, as a character of the serial-number string. -/
def hexDigit (n : Nat) : Byte := BitVec.ofNat 8 (if n < 10 then 48 + n else 55 + n)

/-- The serial-number string (R204): the die serial number in 16 upper-case hexadecimal digits. -/
def serialDigits (v : BitVec 64) : List Byte := (List.range 16).map (fun k => hexDigit (v.toNat / 16 ^ (15 - k) % 16))

/-- A standard request on endpoint 0x00 (R204, R205, R266): SET_CONFIGURATION clears the halts and the toggles. -/
def stdRequest (s : State) (r : SvcStd) : State :=
  if !rb s pSvc SVC_STATUS_ATTACHED || rb s pSvc SVC_STATUS_SUSPENDED then s
  else match r with
    | .deviceDescriptor => emit s (.svcDevice Config.vendorId)
    | .interfaceDescriptor => emit s (.svcInterface 0xFF 0x01 0x01 true)
    | .serialString => emit s (.svcSerial (serialDigits Config.dieSerial))
    | .setAddress a => wf s pSvc SVC_STATUS_ADDRESS a.toNat
    | .setConfiguration v =>
      svcVotes (wb { s with svc := { s.svc with haltOut := false, haltIn := false, togOut := false, togIn := false, togEvt := false } }
        pSvc SVC_STATUS_CONFIGURED (v != 0))
    | .other => s
    | .unsupported => emit s (.svcStall 0x00)

/-- SVC_STANDARD_REQUEST (R205). -/
def execSvcStandardRequest (r : SvcStd) (s : State) : Host.Outcome State Fault Refusal := .next (stdRequest s r)

end Sys2Proof.Machine
end

