-- ==== Sys2Proof/Machine/Sideband.lean ====
section
/-!
DEFINITION. The sideband commands: the election, software frames, the way of a frame over the line, and the frames heard (R71 to R78,
R275, R289, R353, R354).
-/
namespace Sys2Proof.Machine

/-- A write of SBD_CONTROL as it stands, with ELECT_GO. -/
def electWord (s : State) : Word := (rd s (adr pSbd 0x040) &&& 0x5) ||| 0x2

/-- ELECT_GO (R76, R353, R354). -/
def execElectGo (src : Src) (s : State) : Host.Outcome State Fault Refusal :=
  .next (access s src pSbd 0x040 (.write (electWord s)))

/-- ELECT_WINDOW_END (R76). -/
def execElectWindowEnd (s : State) : Host.Outcome State Fault Refusal := .next (windowClose s)

/-- HEAD_CLAIM_TIMER (R77). -/
def execHeadClaimTimer (s : State) : Host.Outcome State Fault Refusal := .next (if isHead s then queueClaim s else s)

/-- SBD_TX_WAKE (R353): GO with TYPE WAKE. -/
def execSbdTxWake (src : Src) (s : State) : Host.Outcome State Fault Refusal :=
  .next (access s src pSbd 0x048 (.write 0x104))

/-- SBD_TX_ALARM_SET (R353): GO with TYPE ALARM_SET. -/
def execSbdTxAlarmSet (src : Src) (s : State) : Host.Outcome State Fault Refusal :=
  .next (access s src pSbd 0x048 (.write 0x105))

/-- SBD_FRAME_START (R73, R75). -/
def execSbdFrameStart (arb : Arb) (s : State) : Host.Outcome State Fault Refusal := .next (frameStart s arb)

/-- SBD_BACKOFF_EXPIRE (R75). -/
def execSbdBackoffExpire (s : State) : Host.Outcome State Fault Refusal :=
  .next { s with sbd := { s.sbd with backoff := false } }

/-- SBD_FRAME_SENT (R75). -/
def execSbdFrameSent (s : State) : Host.Outcome State Fault Refusal := .next (frameSent s)

/-- FAULT_FRAME_RX (R65, R66, R74, R289): a frame of a break tells which segment turns cells. The RCT that the frame carries is the sender's. -/
def execFaultFrameRx (loc : BitVec 64) (code : BitVec 16) (_rct : Word) (captured : Bool) (s : State) :
    Host.Outcome State Fault Refusal :=
  let s1 := if hears s then capture s captured else s
  .next (if awake s then hearFault s1 loc code else s1)

/-- HEAD_CLAIM_FRAME_RX (R74, R76, R354). The epoch that it carries changes no register. -/
def execHeadClaimFrameRx (slot : BitVec 6) (_epoch : BitVec 8) (captured : Bool) (s : State) : Host.Outcome State Fault Refusal :=
  .next (if hears s then hearClaim (capture s captured) slot.toNat else s)

/-- ELECT_FRAME_RX (R74, R76, R77, R354). Whether the sender's PCIe link is trained changes no register. -/
def execElectFrameRx (slot : BitVec 6) (_trained captured : Bool) (s : State) : Host.Outcome State Fault Refusal :=
  .next (if hears s then hearElect (capture s captured) slot.toNat else s)

/-- WAKE_FRAME_RX (R274, R275): AON hears it in every state that has its power. -/
def execWakeFrameRx (mask : BitVec 64) (captured : Bool) (s : State) : Host.Outcome State Fault Refusal :=
  let s1 := if hears s then capture s captured else s
  .next (if s1.mgt.boot != .unpowered && named s1 mask then armAlarm s1 (rtc s1) 2 else s1)

/-- ALARM_SET_FRAME_RX (R274, R275). -/
def execAlarmSetFrameRx (mask alarm : BitVec 64) (captured : Bool) (s : State) : Host.Outcome State Fault Refusal :=
  let s1 := if hears s then capture s captured else s
  .next (if s1.mgt.boot != .unpowered && named s1 mask then armAlarm s1 alarm 3 else s1)

/-- SBD_FRAME_CRC_FAIL (R71, R74). -/
def execSbdFrameCrcFail (captured : Bool) (s : State) : Host.Outcome State Fault Refusal :=
  .next (if hears s then incF (capture s captured) pSbd SBD_CAPTURED_CRC_ERR else s)

end Sys2Proof.Machine
end

