-- ==== Sys2Proof/Machine/Updates.lean ====
section
/-!
DEFINITION. The update commands on both paths, key revocation, and the commands of the NVM page (R310, R315, R316).
-/
namespace Sys2Proof.Machine

/-- UPDATE_BEGIN, opcode 0x60 (R316). -/
def execUpdateBegin (o : Owner) (e : List Word) (s : State) : Host.Outcome State Fault Refusal :=
  .next (updCmd s o e 4 (fun s => updBegin s false (dw e 3).toNat))

/-- UPDATE_WRITE, opcode 0x61 (R316); `d` is what the host read returned. -/
def execUpdateWrite (o : Owner) (e : List Word) (d : List Byte) (s : State) : Host.Outcome State Fault Refusal :=
  let len := (dw e 6).toNat
  .next (updCmd s o e 7 (fun s =>
    if len < 4 || 65536 < len || len % 4 != 0 || d.length != len then (.field, s)
    else updWrite (hostRead s o (join64 (dw e 4) (dw e 5)) len) false (dw e 3).toNat d))

/-- UPDATE_VERIFY, opcode 0x62 (R316). -/
def execUpdateVerify (o : Owner) (e : List Word) (s : State) : Host.Outcome State Fault Refusal :=
  .next (updCmd s o e 3 (fun s => updVerify s false))

/-- UPDATE_ACTIVATE, opcode 0x63 (R316). -/
def execUpdateActivate (o : Owner) (e : List Word) (s : State) : Host.Outcome State Fault Refusal :=
  .next (updCmd s o e 3 (fun s => updActivate s false))

/-- UPDATE_CONFIRM, opcode 0x64 (R316). -/
def execUpdateConfirm (o : Owner) (e : List Word) (s : State) : Host.Outcome State Fault Refusal :=
  .next (updCmd s o e 3 (fun s => updConfirm s false))

/-- NVM_UPD_BEGIN: NVM_UPD_CTRL written with GO and OP BEGIN (R315). -/
def execNvmUpdBegin (src : Src) (s : State) : Host.Outcome State Fault Refusal :=
  .next (gatedW s src pNvm 0x05C 0x9 (fun s => updCtrl s 0x9))

/-- NVM_UPD_VERIFY: GO and OP VERIFY. -/
def execNvmUpdVerify (src : Src) (s : State) : Host.Outcome State Fault Refusal :=
  .next (gatedW s src pNvm 0x05C 0xA (fun s => updCtrl s 0xA))

/-- NVM_UPD_ACTIVATE: GO and OP ACTIVATE. -/
def execNvmUpdActivate (src : Src) (s : State) : Host.Outcome State Fault Refusal :=
  .next (gatedW s src pNvm 0x05C 0xB (fun s => updCtrl s 0xB))

/-- NVM_UPD_CONFIRM: GO and OP CONFIRM. -/
def execNvmUpdConfirm (src : Src) (s : State) : Host.Outcome State Fault Refusal :=
  .next (gatedW s src pNvm 0x05C 0xC (fun s => updCtrl s 0xC))

/-- NVM_UPD_DATA (R315). -/
def execNvmUpdData (src : Src) (v : Word) (s : State) : Host.Outcome State Fault Refusal :=
  .next (gatedW s src pNvm 0x068 v (fun s => updData s v))

/-- KEY_REVOKE (R310). -/
def execKeyRevoke (src : Src) (keys : BitVec 4) (s : State) : Host.Outcome State Fault Refusal :=
  let v : Word := BitVec.ofNat 32 (keys.toNat * 2 ^ 16)
  .next (gatedW s src pNvm 0x058 v (fun s => revoke s v))

end Sys2Proof.Machine
end

