-- ==== Sys2Proof/Machine/Dispatch.lean ====
section
/-! DEFINITION. The effect of a command on everything but the queue: one arm for each command, one call of its meaning. -/
namespace Sys2Proof.Machine

/-- The effect of a command. -/
def exec (i : Instr) (s : State) : Host.Outcome State Fault Refusal :=
  match i with
  | .modeWriteHold src => Sys2Proof.Machine.execModeWriteHold src s
  | .modeWriteStandalone src => Sys2Proof.Machine.execModeWriteStandalone src s
  | .modeWriteHead src => Sys2Proof.Machine.execModeWriteHead src s
  | .modeWriteMember src => Sys2Proof.Machine.execModeWriteMember src s
  | .modeWriteLoop src => Sys2Proof.Machine.execModeWriteLoop src s
  | .modeWriteRecovery src => Sys2Proof.Machine.execModeWriteRecovery src s
  | .modeWriteVault src => Sys2Proof.Machine.execModeWriteVault src s
  | .modeWriteRejoin src v => Sys2Proof.Machine.execModeWriteRejoin src v s
  | .modeTransitionComplete => Sys2Proof.Machine.execModeTransitionComplete s
  | .mgtResetGo src => Sys2Proof.Machine.execMgtResetGo src s
  | .coldPowerUp => Sys2Proof.Machine.execColdPowerUp s
  | .chipReset cause => Sys2Proof.Machine.execChipReset cause s
  | .chipResetReleased straps => Sys2Proof.Machine.execChipResetReleased straps s
  | .imageHashChecked => Sys2Proof.Machine.execImageHashChecked s
  | .bootComplete => Sys2Proof.Machine.execBootComplete s
  | .bootWdogExpire => Sys2Proof.Machine.execBootWdogExpire s
  | .chipWdogKick => Sys2Proof.Machine.execChipWdogKick s
  | .chipWdogExpire => Sys2Proof.Machine.execChipWdogExpire s
  | .autoJoinTimer => Sys2Proof.Machine.execAutoJoinTimer s
  | .join src => Sys2Proof.Machine.execJoin src s
  | .bypassReqSet src => Sys2Proof.Machine.execBypassReqSet src s
  | .bypassReqClear src => Sys2Proof.Machine.execBypassReqClear src s
  | .forceWrap src v => Sys2Proof.Machine.execForceWrap src v s
  | .retrain src => Sys2Proof.Machine.execRetrain src s
  | .trainingStepDone side m => Sys2Proof.Machine.execTrainingStepDone side m s
  | .trainingStepTimeout side => Sys2Proof.Machine.execTrainingStepTimeout side s
  | .receiveLanesDown side => Sys2Proof.Machine.execReceiveLanesDown side s
  | .orphanTimeout => Sys2Proof.Machine.execOrphanTimeout s
  | .microframeBoundary => Sys2Proof.Machine.execMicroframeBoundary s
  | .plannedCloseTimer => Sys2Proof.Machine.execPlannedCloseTimer s
  | .timingCellRx t => Sys2Proof.Machine.execTimingCellRx t s
  | .lockLostTimeout => Sys2Proof.Machine.execLockLostTimeout s
  | .cellTransit ringB p => Sys2Proof.Machine.execCellTransit ringB p s
  | .dataCellRx c => Sys2Proof.Machine.execDataCellRx c s
  | .readReqCellRx c => Sys2Proof.Machine.execReadReqCellRx c s
  | .regWrCellRx c => Sys2Proof.Machine.execRegWrCellRx c s
  | .regRdCellRx c => Sys2Proof.Machine.execRegRdCellRx c s
  | .regCplCellRx c => Sys2Proof.Machine.execRegCplCellRx c s
  | .eventCellRx c => Sys2Proof.Machine.execEventCellRx c s
  | .postCellRx c p => Sys2Proof.Machine.execPostCellRx c p s
  | .relayCellRx c => Sys2Proof.Machine.execRelayCellRx c s
  | .relayRoomReportRx c => Sys2Proof.Machine.execRelayRoomReportRx c s
  | .creditCellRx c => Sys2Proof.Machine.execCreditCellRx c s
  | .creditReturnTimer pos cls ringB => Sys2Proof.Machine.execCreditReturnTimer pos cls ringB s
  | .topoCirculate map dup epoch headSlot => Sys2Proof.Machine.execTopoCirculate map dup epoch headSlot s
  | .liveMapRx map dup epoch headSlot => Sys2Proof.Machine.execLiveMapRx map dup epoch headSlot s
  | .creditGrantRx c epoch iso ctrl data => Sys2Proof.Machine.execCreditGrantRx c epoch iso ctrl data s
  | .topoLeaveRequestRx pos => Sys2Proof.Machine.execTopoLeaveRequestRx pos s
  | .topoClosingNoticeRx pos w => Sys2Proof.Machine.execTopoClosingNoticeRx pos w s
  | .topoReleaseRx w => Sys2Proof.Machine.execTopoReleaseRx w s
  | .faultCellRx c loc code => Sys2Proof.Machine.execFaultCellRx c loc code s
  | .hostWindowAccess win op => Sys2Proof.Machine.execHostWindowAccess win op s
  | .forwardedReadTimeout tag => Sys2Proof.Machine.execForwardedReadTimeout tag s
  | .pcieLinkTrained => Sys2Proof.Machine.execPcieLinkTrained s
  | .pcieLinkReset kind => Sys2Proof.Machine.execPcieLinkReset kind s
  | .electGo src => Sys2Proof.Machine.execElectGo src s
  | .electWindowEnd => Sys2Proof.Machine.execElectWindowEnd s
  | .headClaimTimer => Sys2Proof.Machine.execHeadClaimTimer s
  | .sbdTxWake src => Sys2Proof.Machine.execSbdTxWake src s
  | .sbdTxAlarmSet src => Sys2Proof.Machine.execSbdTxAlarmSet src s
  | .sbdFrameStart arb => Sys2Proof.Machine.execSbdFrameStart arb s
  | .sbdBackoffExpire => Sys2Proof.Machine.execSbdBackoffExpire s
  | .sbdFrameSent => Sys2Proof.Machine.execSbdFrameSent s
  | .faultFrameRx loc code rct captured => Sys2Proof.Machine.execFaultFrameRx loc code rct captured s
  | .headClaimFrameRx slot epoch captured => Sys2Proof.Machine.execHeadClaimFrameRx slot epoch captured s
  | .electFrameRx slot trained captured => Sys2Proof.Machine.execElectFrameRx slot trained captured s
  | .wakeFrameRx mask captured => Sys2Proof.Machine.execWakeFrameRx mask captured s
  | .alarmSetFrameRx mask alarm captured => Sys2Proof.Machine.execAlarmSetFrameRx mask alarm captured s
  | .softReset src page => Sys2Proof.Machine.execSoftReset src page s
  | .softResetDone page => Sys2Proof.Machine.execSoftResetDone page s
  | .voteSet src page v => Sys2Proof.Machine.execVoteSet src page v s
  | .voteClear src page v => Sys2Proof.Machine.execVoteClear src page v s
  | .pageLockSet src page => Sys2Proof.Machine.execPageLockSet src page s
  | .eventEnableWrite src page v => Sys2Proof.Machine.execEventEnableWrite src page v s
  | .darkAccess src page off op => Sys2Proof.Machine.execDarkAccess src page off op s
  | .wakeOnAccess src page off op => Sys2Proof.Machine.execWakeOnAccess src page off op s
  | .registerVoteRelease dom => Sys2Proof.Machine.execRegisterVoteRelease dom s
  | .registerWrite src page off v => Sys2Proof.Machine.execRegisterWrite src page off v s
  | .misalignedAccess src page off isWrite => Sys2Proof.Machine.execMisalignedAccess src page off isWrite s
  | .wideLowRead src page off => Sys2Proof.Machine.execWideLowRead src page off s
  | .wideHighWrite src page off v => Sys2Proof.Machine.execWideHighWrite src page off v s
  | .readClear src page off => Sys2Proof.Machine.execReadClear src page off s
  | .tqPiWrite o q v => Sys2Proof.Machine.execTqPiWrite o q v s
  | .cqCiWrite o q v => Sys2Proof.Machine.execCqCiWrite o q v s
  | .aqPiWrite o v => Sys2Proof.Machine.execAqPiWrite o v s
  | .acqCiWrite o v => Sys2Proof.Machine.execAcqCiWrite o v s
  | .aqEnable o => Sys2Proof.Machine.execAqEnable o s
  | .aqDisable o => Sys2Proof.Machine.execAqDisable o s
  | .aqEntryReadFail o => Sys2Proof.Machine.execAqEntryReadFail o s
  | .pollTick tq => Sys2Proof.Machine.execPollTick tq s
  | .entryFetchDone tq idx e => Sys2Proof.Machine.execEntryFetchDone tq idx e s
  | .entryFetchFail tq idx n => Sys2Proof.Machine.execEntryFetchFail tq idx n s
  | .prefetchRefill tq => Sys2Proof.Machine.execPrefetchRefill tq s
  | .chainTimeout tq => Sys2Proof.Machine.execChainTimeout tq s
  | .piMirrorWrite cq => Sys2Proof.Machine.execPiMirrorWrite cq s
  | .tqInvalGo src v => Sys2Proof.Machine.execTqInvalGo src v s
  | .tqInvalDone => Sys2Proof.Machine.execTqInvalDone s
  | .createTq o e => Sys2Proof.Machine.execCreateTq o e s
  | .destroyTq o e => Sys2Proof.Machine.execDestroyTq o e s
  | .resetTq o e => Sys2Proof.Machine.execResetTq o e s
  | .invalidateTq o e => Sys2Proof.Machine.execInvalidateTq o e s
  | .createCq o e => Sys2Proof.Machine.execCreateCq o e s
  | .destroyCq o e => Sys2Proof.Machine.execDestroyCq o e s
  | .bindEndpoint o e => Sys2Proof.Machine.execBindEndpoint o e s
  | .unbindEndpoint o e => Sys2Proof.Machine.execUnbindEndpoint o e s
  | .reserveBw o e => Sys2Proof.Machine.execReserveBw o e s
  | .releaseBw o e => Sys2Proof.Machine.execReleaseBw o e s
  | .setPortPowerOn o e => Sys2Proof.Machine.execSetPortPowerOn o e s
  | .setPortPowerOff o e => Sys2Proof.Machine.execSetPortPowerOff o e s
  | .setPortReset o e => Sys2Proof.Machine.execSetPortReset o e s
  | .setPortDisable o e => Sys2Proof.Machine.execSetPortDisable o e s
  | .setPortSuspend o e => Sys2Proof.Machine.execSetPortSuspend o e s
  | .setPortResume o e => Sys2Proof.Machine.execSetPortResume o e s
  | .setPortSetLpm o e => Sys2Proof.Machine.execSetPortSetLpm o e s
  | .setPortTest o e => Sys2Proof.Machine.execSetPortTest o e s
  | .setPortSetOwner o e => Sys2Proof.Machine.execSetPortSetOwner o e s
  | .setPortNoOwner o e => Sys2Proof.Machine.execSetPortNoOwner o e s
  | .getPort o e => Sys2Proof.Machine.execGetPort o e s
  | .getTopology o e => Sys2Proof.Machine.execGetTopology o e s
  | .setVote o e => Sys2Proof.Machine.execSetVote o e s
  | .clearVote o e => Sys2Proof.Machine.execClearVote o e s
  | .quiesceInstance o e => Sys2Proof.Machine.execQuiesceInstance o e s
  | .quiesceDone k => Sys2Proof.Machine.execQuiesceDone k s
  | .resumeInstance o e => Sys2Proof.Machine.execResumeInstance o e s
  | .swapDirtyLog o e => Sys2Proof.Machine.execSwapDirtyLog o e s
  | .updateBegin o e => Sys2Proof.Machine.execUpdateBegin o e s
  | .updateWrite o e d => Sys2Proof.Machine.execUpdateWrite o e d s
  | .updateVerify o e => Sys2Proof.Machine.execUpdateVerify o e s
  | .updateActivate o e => Sys2Proof.Machine.execUpdateActivate o e s
  | .updateConfirm o e => Sys2Proof.Machine.execUpdateConfirm o e s
  | .formCohort o e d => Sys2Proof.Machine.execFormCohort o e d s
  | .dissolveCohort o e => Sys2Proof.Machine.execDissolveCohort o e s
  | .reservedOpcode o e => Sys2Proof.Machine.execReservedOpcode o e s
  | .wheelBlockReadDone n addr block took => Sys2Proof.Machine.execWheelBlockReadDone n addr block took s
  | .wheelReadFail n => Sys2Proof.Machine.execWheelReadFail n s
  | .cohortCheck n => Sys2Proof.Machine.execCohortCheck n s
  | .operationDispatch ctx t => Sys2Proof.Machine.execOperationDispatch ctx t s
  | .graphReoffer ctx => Sys2Proof.Machine.execGraphReoffer ctx s
  | .spillReturn ctx => Sys2Proof.Machine.execSpillReturn ctx s
  | .stageDone ctx d ce waits => Sys2Proof.Machine.execStageDone ctx d ce waits s
  | .drainDone ctx ce waits => Sys2Proof.Machine.execDrainDone ctx ce waits s
  | .postDone tq => Sys2Proof.Machine.execPostDone tq s
  | .firstTransactionStart p => Sys2Proof.Machine.execFirstTransactionStart p s
  | .transactionEnd p r t => Sys2Proof.Machine.execTransactionEnd p r t s
  | .transactionTimeout p k t => Sys2Proof.Machine.execTransactionTimeout p k t s
  | .lineChange p l => Sys2Proof.Machine.execLineChange p l s
  | .connectDebounceDone p => Sys2Proof.Machine.execConnectDebounceDone p s
  | .deviceChirpEnd p => Sys2Proof.Machine.execDeviceChirpEnd p s
  | .hostChirpStart p => Sys2Proof.Machine.execHostChirpStart p s
  | .busResetEnd p l => Sys2Proof.Machine.execBusResetEnd p l s
  | .resetRecoveryEnd p => Sys2Proof.Machine.execResetRecoveryEnd p s
  | .ssLinkU0 p gen2 => Sys2Proof.Machine.execSsLinkU0 p gen2 s
  | .ssTrainingFail p => Sys2Proof.Machine.execSsTrainingFail p s
  | .ssResetTimeout p => Sys2Proof.Machine.execSsResetTimeout p s
  | .ssWarmResetLfpsEnd p => Sys2Proof.Machine.execSsWarmResetLfpsEnd p s
  | .ssResumeTimeout p => Sys2Proof.Machine.execSsResumeTimeout p s
  | .disconnect p => Sys2Proof.Machine.execDisconnect p s
  | .remoteWake p => Sys2Proof.Machine.execRemoteWake p s
  | .resumeSignalEnd p => Sys2Proof.Machine.execResumeSignalEnd p s
  | .resumeRecoveryEnd p => Sys2Proof.Machine.execResumeRecoveryEnd p s
  | .vbusCharged p => Sys2Proof.Machine.execVbusCharged p s
  | .vbusChargeTimeout p => Sys2Proof.Machine.execVbusChargeTimeout p s
  | .vbusFault p => Sys2Proof.Machine.execVbusFault p s
  | .l1Entry p ack => Sys2Proof.Machine.execL1Entry p ack s
  | .l1Exit p byDevice => Sys2Proof.Machine.execL1Exit p byDevice s
  | .u1U2Entry p u2 => Sys2Proof.Machine.execU1U2Entry p u2 s
  | .uExitEarly p => Sys2Proof.Machine.execUExitEarly p s
  | .peWatchdogExpire pe => Sys2Proof.Machine.execPeWatchdogExpire pe s
  | .peSelfCheckPass pe => Sys2Proof.Machine.execPeSelfCheckPass pe s
  | .terminationCal p dev => Sys2Proof.Machine.execTerminationCal p dev s
  | .svcVbusChange present hs => Sys2Proof.Machine.execSvcVbusChange present hs s
  | .svcRequestRead req => Sys2Proof.Machine.execSvcRequestRead req s
  | .svcRequestWrite req => Sys2Proof.Machine.execSvcRequestWrite req s
  | .svcEventRead => Sys2Proof.Machine.execSvcEventRead s
  | .svcResponseRead => Sys2Proof.Machine.execSvcResponseRead s
  | .svcClearHalt ep => Sys2Proof.Machine.execSvcClearHalt ep s
  | .dmaStartSingle src ch v => Sys2Proof.Machine.execDmaStartSingle src ch v s
  | .dmaStartChain src ch v desc => Sys2Proof.Machine.execDmaStartChain src ch v desc s
  | .dmaPause src ch => Sys2Proof.Machine.execDmaPause src ch s
  | .dmaResume src ch => Sys2Proof.Machine.execDmaResume src ch s
  | .dmaStop src ch => Sys2Proof.Machine.execDmaStop src ch s
  | .dmaPaused ch moved d => Sys2Proof.Machine.execDmaPaused ch moved d s
  | .dmaDescriptorDone ch d next waits => Sys2Proof.Machine.execDmaDescriptorDone ch d next waits s
  | .dmaBusError t k next => Sys2Proof.Machine.execDmaBusError t k next s
  | .dmaDescReadFail ch => Sys2Proof.Machine.execDmaDescReadFail ch s
  | .dmaBarrierArrived ch next => Sys2Proof.Machine.execDmaBarrierArrived ch next s
  | .dmaPaceTimer ch => Sys2Proof.Machine.execDmaPaceTimer ch s
  | .scrubTick errs waits => Sys2Proof.Machine.execScrubTick errs waits s
  | .refreshRow bank wait => Sys2Proof.Machine.execRefreshRow bank wait s
  | .tempSample bank tj => Sys2Proof.Machine.execTempSample bank tj s
  | .arbClear src => Sys2Proof.Machine.execArbClear src s
  | .vfEnable num => Sys2Proof.Machine.execVfEnable num s
  | .vfRemoval num => Sys2Proof.Machine.execVfRemoval num s
  | .functionLevelReset k => Sys2Proof.Machine.execFunctionLevelReset k s
  | .instanceResetDone k => Sys2Proof.Machine.execInstanceResetDone k s
  | .msixUnmask o k => Sys2Proof.Machine.execMsixUnmask o k s
  | .tenantInRelease k => Sys2Proof.Machine.execTenantInRelease k s
  | .tenantOutPost k => Sys2Proof.Machine.execTenantOutPost k s
  | .managerInPost src => Sys2Proof.Machine.execManagerInPost src s
  | .managerOutRelease src => Sys2Proof.Machine.execManagerOutRelease src s
  | .engineWatchdogExpire e => Sys2Proof.Machine.execEngineWatchdogExpire e s
  | .chipRequestP3 src force => Sys2Proof.Machine.execChipRequestP3 src force s
  | .chipRequestP4 src force => Sys2Proof.Machine.execChipRequestP4 src force s
  | .chipRequestP5 src force => Sys2Proof.Machine.execChipRequestP5 src force s
  | .recordCopyDone ok => Sys2Proof.Machine.execRecordCopyDone ok s
  | .bypassCloseTimeout => Sys2Proof.Machine.execBypassCloseTimeout s
  | .entryUndone => Sys2Proof.Machine.execEntryUndone s
  | .chipEntryDone => Sys2Proof.Machine.execChipEntryDone s
  | .chipExitDone => Sys2Proof.Machine.execChipExitDone s
  | .forceP5 src v => Sys2Proof.Machine.execForceP5 src v s
  | .domainRelease src => Sys2Proof.Machine.execDomainRelease src s
  | .domainRequestP1 src force => Sys2Proof.Machine.execDomainRequestP1 src force s
  | .domainRequestP2 src force => Sys2Proof.Machine.execDomainRequestP2 src force s
  | .domainP2EntryDone dom => Sys2Proof.Machine.execDomainP2EntryDone dom s
  | .domainExitDone dom => Sys2Proof.Machine.execDomainExitDone dom s
  | .quietIdleTimer dom => Sys2Proof.Machine.execQuietIdleTimer dom s
  | .autoP1Delay => Sys2Proof.Machine.execAutoP1Delay s
  | .clusterIdleTimer c => Sys2Proof.Machine.execClusterIdleTimer c s
  | .detectorVoteExpire c => Sys2Proof.Machine.execDetectorVoteExpire c s
  | .rtcTick => Sys2Proof.Machine.execRtcTick s
  | .alarmNow src => Sys2Proof.Machine.execAlarmNow src s
  | .phantomFeedLoss => Sys2Proof.Machine.execPhantomFeedLoss s
  | .feedLostTimer side => Sys2Proof.Machine.execFeedLostTimer side s
  | .dcoStepDown => Sys2Proof.Machine.execDcoStepDown s
  | .dcoStepUp => Sys2Proof.Machine.execDcoStepUp s
  | .eqAdaptTick eastMv westMv eastUi westUi => Sys2Proof.Machine.execEqAdaptTick eastMv westMv eastUi westUi s
  | .faultReport loc code => Sys2Proof.Machine.execFaultReport loc code s
  | .hushWindowEnd rec => Sys2Proof.Machine.execHushWindowEnd rec s
  | .fltRetire src rec => Sys2Proof.Machine.execFltRetire src rec s
  | .fltFreeze src => Sys2Proof.Machine.execFltFreeze src s
  | .fltThaw src => Sys2Proof.Machine.execFltThaw src s
  | .snapshotDone ok => Sys2Proof.Machine.execSnapshotDone ok s
  | .heartbeatCheck missed => Sys2Proof.Machine.execHeartbeatCheck missed s
  | .laneHeartbeatLoss => Sys2Proof.Machine.execLaneHeartbeatLoss s
  | .calMarginTimer k => Sys2Proof.Machine.execCalMarginTimer k s
  | .thermalShutdown => Sys2Proof.Machine.execThermalShutdown s
  | .nvmUpdBegin src => Sys2Proof.Machine.execNvmUpdBegin src s
  | .nvmUpdVerify src => Sys2Proof.Machine.execNvmUpdVerify src s
  | .nvmUpdActivate src => Sys2Proof.Machine.execNvmUpdActivate src s
  | .nvmUpdConfirm src => Sys2Proof.Machine.execNvmUpdConfirm src s
  | .nvmUpdData src v => Sys2Proof.Machine.execNvmUpdData src v s
  | .keyRevoke src keys => Sys2Proof.Machine.execKeyRevoke src keys s
  | .activateRestart => Sys2Proof.Machine.execActivateRestart s
  | .tapReset => Sys2Proof.Machine.execTapReset s
  | .extest drive pins => Sys2Proof.Machine.execExtest drive pins s
  | .idcode => Sys2Proof.Machine.execIdcode s
  | .samplePreload preload pins => Sys2Proof.Machine.execSamplePreload preload pins s
  | .clamp => Sys2Proof.Machine.execClamp s
  | .highz => Sys2Proof.Machine.execHighz s
  | .extestPulse drive pins => Sys2Proof.Machine.execExtestPulse drive pins s
  | .extestTrain drive pins => Sys2Proof.Machine.execExtestTrain drive pins s
  | .debug page off op => Sys2Proof.Machine.execDebug page off op s
  | .bypass v => Sys2Proof.Machine.execBypass v s
  | .moduleInsert straps => Sys2Proof.Machine.execModuleInsert straps s
  | .moduleRemove => Sys2Proof.Machine.execModuleRemove s
  | .ssLinkFailure p => Sys2Proof.Machine.execSsLinkFailure p s
  | .farEndTerminationFound p => Sys2Proof.Machine.execFarEndTerminationFound p s
  | .recoveredClockFail => Sys2Proof.Machine.execRecoveredClockFail s
  | .engineRestartDone e => Sys2Proof.Machine.execEngineRestartDone e s
  | .l1ExitLatencyEnd p => Sys2Proof.Machine.execL1ExitLatencyEnd p s
  | .svcHostSuspend suspend => Sys2Proof.Machine.execSvcHostSuspend suspend s
  | .svcStandardRequest r => Sys2Proof.Machine.execSvcStandardRequest r s
  | .sbdFrameCrcFail captured => Sys2Proof.Machine.execSbdFrameCrcFail captured s

end Sys2Proof.Machine
end

