-- ==== Sys2Proof/Safety.lean ====
section
/-!
DEFINITION. What a run keeps: the canonical form of the register file and of EBM (R209), so that equal contents are equal data; and the
conditions under which a cell (R45 to R49), a write of a window (R80, R84, R99) and an admin command (R129, R130, R133, R248, R320) come to
their own effect.
-/
namespace Sys2Proof.Machine

/-- The register file in its canonical form: addresses strictly rising, and no register listed that holds its reset value. -/
def State.regsWf (s : State) : Bool := tabWf regReset s.regs

/-- EBM in its canonical form. -/
def State.ebmWf (s : State) : Bool := Memory.wf s.ebm

/-- What every step keeps: the register file and EBM in their canonical form. -/
def State.wf (s : State) : Prop := s.regsWf = true ∧ s.ebmWf = true

/-- A step answers a next state: the block neither faults nor refuses. -/
def State.runs (s : State) : Prop := ∃ t, step s = .next t

/-- A cell of a type comes to its own effect: the chip is on the ring, the cell has the type and is for the chip, its CRC and HOPS are good
(R48, R49), and no chip but the head gave it an AUTH (R47). -/
def cellGood (s : State) (c : Cell) (typ : Nat) : Bool :=
  onRing s && c.typ.toNat == typ && cellHere s c && cellOk c && c.hops != 127 && !(c.auth != 0 && c.src != 0)

/-- The state in which such a cell has its effect: the cells that are missing before it are lost, its credits and its SEQ are taken, and it
has its place in the ingress buffer (R48, R51, R53). -/
def cellTaken (s : State) (c : Cell) : State := takeIngress (takeSeq (takeCredits (seqLost s c) c) c) c

/-- A write at a window offset by its function comes to the register (R80, R84, R94, R99): the chip runs, the endpoint serves its windows
and its mode allows the write, and no access of the physical function waits for a wake ahead of it; on a member the head has forwarded it
(R27). -/
def winServes (s : State) (o : Owner) (off : Nat) : Bool :=
  s.mgt.boot == .running && !chipDeep s
    && (isMember s || (windowOpen s o && windowMode s off true && !tenDown s o && !(o == .mgr && wakePending s .pf)))

/-- An admin command of a submitter passes the checks that all commands share and comes to its own: its queue is served and its ACQ has
room (R129), its submitter is not quiesced (R248), it has the authority (R130, R133), RECOVERY serves it (R320), and the reserved fields
from dword n on are 0 (R130). -/
def admPasses (s : State) (o : Owner) (e : List Word) (mgrOnly : Bool) (n : Nat) : Bool :=
  admReady s o
    && !(o != .mgr && ((instAt s (ownerKey o)).state == 2 || (instAt s (ownerKey o)).state == 3))
    && !(o != .mgr && (mgrOnly || aBehalf e))
    && !(mode s == 6 && !(decide (0x60 ≤ aOp e) && decide (aOp e ≤ 0x64)))
    && !(aHeadReserved e || aTail e n)

end Sys2Proof.Machine
end

