-- ==== Sys2Proof/Certificates/Slice0/Obligations.lean ====
section
/-!
DEFINITION. The statements for the provers. A statement of an effect says for each command, under hypotheses on the state and the
operands alone, the state that follows; what the equation does not name is unchanged. A clause that rests on a choice of the model's
names the log entry.
-/
open Sys2Proof Sys2Proof.Machine

/-! ### The machine as a whole -/

/-- A step takes the command at the front of the queue and runs it on the state with the queue's rest. On an empty queue a slot passes on
the ring ports and in the banks (the model's choice, log entry 13). -/
def Obligations.StepRunsFront : Prop :=
  (∀ (c : Instr) (q : List Instr) (s : State), step { s with pending := c :: q } = exec c { s with pending := q })
  ∧ (∀ s : State, s.pending = [] → step s = .next (idleSlot s))

/-- The canonical form holds at reset, and no command waits. -/
def Obligations.ResetForm : Prop := State.reset.wf ∧ State.reset.pending = [] ∧ State.reset.out = []

/-- Every register reads its reset value after reset; the chip is in HOLD with its switches closed, its domains in P0 and its ports OFF. -/
def Obligations.ResetValues : Prop :=
  (∀ page off, rd State.reset (adr page off) = regReset (adr page off))
    ∧ mode State.reset = 0 ∧ pendingMode State.reset = false ∧ bypassed State.reset = true
    ∧ rd State.reset (adr pRing 0x044) = 3 ∧ rd State.reset (adr pMgt 0x040) = 0x00120512
    ∧ (∀ d, (domAt State.reset d).pstate = 0) ∧ portState State.reset 0 = 0 ∧ portState State.reset 511 = 0

/-- From every state, a step keeps the register file and EBM in their canonical form. -/
def Obligations.StepKeepsForm : Prop := ∀ s t : State, s.wf → step s = .next t → t.wf

/-- No command touches the queue, takes back what the chip has sent, or uses a free value twice. -/
def Obligations.ExecKeepsHistory : Prop :=
  ∀ (c : Instr) (s t : State), exec c s = .next t → t.pending = s.pending ∧ s.out <+: t.out ∧ s.fresh ≤ t.fresh

/-- Every command is answered by a next state: none stops the block. -/
def Obligations.NothingStops : Prop := ∀ (c : Instr) (s : State), ∃ t, exec c s = .next t

/-! ### Modes -/

/-- A mode write that meets its row, its cause and its condition. From HOLD it sets PENDING and TARGET, and toward a mode that runs
schedules the start-up, and changes nothing else. A write of HOLD from STANDALONE, HEAD, MEMBER, SEVERED or LOOP sets them and starts the
stop of every TQ. A write of the mode held before SEVERED starts the rejoin. -/
def Obligations.ModeRequested : Prop :=
  (∀ (s : State) (src : Src), gate s src pMgt 0x04C true = .ok → mode s = 0 → pendingMode s = false →
     (let asked := fun v => wf (wb s pMgt MGT_MODE_PENDING true) pMgt MGT_MODE_TARGET v
      let begun := fun v => wb (asked v) pPln PLN_STATUS_STARTUP true
      (rb s pRing RING_POSITION_DUP = false →
       (isManager src = true → s.mgt.pcie = true → partnerTrained s = false → exec (.modeWriteStandalone src) s = .next (begun 1))
       ∧ (isManager src = true → s.mgt.pcie = true → electState s = 2 → exec (.modeWriteHead src) s = .next (begun 2))
       ∧ (∀ tag, src = .ring 1 0 tag → (electState s = 3 ∨ s.mgt.pcie = false) → exec (.modeWriteMember src) s = .next (begun 3))
       ∧ ((isManager src = true ∨ src = .jtag) →
         exec (.modeWriteLoop src) s = .next (asked 5) ∧ exec (.modeWriteRecovery src) s = .next (asked 6)))))
  ∧ (∀ (s : State) (src : Src), gate s src pMgt 0x04C true = .ok → pendingMode s = false → isManager src = true →
     ((mode s = 1 ∨ mode s = 2 ∨ mode s = 3 ∨ mode s = 4 ∨ mode s = 5) →
       exec (.modeWriteHold src) s = .next (each (allTqs s) (wf (wb s pMgt MGT_MODE_PENDING true) pMgt MGT_MODE_TARGET 0)
         (fun s t => stopTq s t .hold)))
     ∧ (∀ v : BitVec 3, mode s = 4 → v.toNat = prevMode s → (v = 2 ∨ v = 3) → ringWhole s = true → rb s pRing RING_POSITION_DUP = false →
       exec (.modeWriteRejoin src v) s = .next (rejoinStart s)))

/-- A write of 7 to MGT_MODE is refused in every mode: MODE is unchanged, and MGT_MODE_REFUSED alone changes, to REQ 7, FROM the mode, reason
VAULT and a count that saturates. No command that writes a mode leads out of VAULT, whatever becomes of the access. -/
def Obligations.VaultRefused : Prop :=
  (∀ (s : State) (src : Src), gate s src pMgt 0x04C true = .ok →
    ∃ w : Word, exec (.modeWriteVault src) s = .next (wr s (adr pMgt 0x050) w)
      ∧ mode (wr s (adr pMgt 0x050) w) = mode s
      ∧ fget w MGT_MODE_REFUSED_REQ = 7 ∧ fget w MGT_MODE_REFUSED_FROM = mode s ∧ fget w MGT_MODE_REFUSED_REASON = 4
      ∧ fget w MGT_MODE_REFUSED_COUNT = min 65535 (rf s pMgt MGT_MODE_REFUSED_COUNT + 1))
  ∧ (∀ (s : State) (src : Src) (v : BitVec 3) (c : Instr), mode s = 7 → pendingMode s = false →
    c ∈ [.modeWriteHold src, .modeWriteStandalone src, .modeWriteHead src, .modeWriteMember src, .modeWriteLoop src,
      .modeWriteRecovery src, .modeWriteVault src, .modeWriteRejoin src v, .modeTransitionComplete] →
    ∃ t, exec c s = .next t ∧ mode t = 7 ∧ pendingMode t = false)

/-- A pending transition completes as the entry to its mode has it, in every mode that a write can ask for: HOLD when no TQ's stop is left,
with the stops gone on until then; STANDALONE, HEAD, MEMBER, RECOVERY and LOOP at once, HEAD and MEMBER with the break that came meanwhile.
MODE takes the target, PENDING clears and ROLE follows. A rejoin waits for its release microframe, and with none pending the command changes
nothing. -/
def Obligations.TransitionCompletes : Prop :=
  (∀ s : State, (pendingMode s = false → exec .modeTransitionComplete s = .next s)
    ∧ (pendingMode s = true → targetMode s = 0 →
        (let s1 := each (allTqs s) s holdTq
         (s1.que.tqs.any (fun t => t.2.stop.isSome) = false → exec .modeTransitionComplete s = .next (enterHold s1))
         ∧ (s1.que.tqs.any (fun t => t.2.stop.isSome) = true → exec .modeTransitionComplete s = .next s1)))
    ∧ (pendingMode s = true → mode s = 4 → targetMode s ≠ 0 → exec .modeTransitionComplete s = .next s)
    ∧ (pendingMode s = true → mode s ≠ 4 →
        (targetMode s = 1 → exec .modeTransitionComplete s = .next (enterStandalone s))
        ∧ (targetMode s = 2 → exec .modeTransitionComplete s = .next (pendBreak (enterHead s)))
        ∧ (targetMode s = 3 → exec .modeTransitionComplete s = .next (pendBreak (enterMember s)))
        ∧ (targetMode s = 5 → exec .modeTransitionComplete s = .next (rewriteWheel (takeMode s 5)))
        ∧ (targetMode s = 6 → exec .modeTransitionComplete s = .next (enterRecovery s))))
  ∧ (∀ (s : State) (m : Nat), m < 8 → mode (takeMode s m) = m ∧ pendingMode (takeMode s m) = false
      ∧ rf (takeMode s m) pMgt MGT_MODE_ROLE = (if m = 1 ∨ m = 2 ∨ m = 3 then m else 0)
      ∧ (takeMode s m).clk.recovered = (m == 3) ∧ (takeMode s m).que = s.que ∧ (takeMode s m).prt = s.prt ∧ (takeMode s m).ebm = s.ebm)

/-! ### Reset and boot -/

/-- A chip reset from a cause, of a powered chip in no deep state, records the cause, leaves the chip in reset in HOLD, keeps the queue and
the outputs, and keeps EBM but for COLD and the P5 exit; an unpowered chip and a chip in P3 to P5 are unchanged. MGT_RESET.GO causes SOFTWARE
in HOLD, LOOP and RECOVERY, and is refused in other modes. -/
def Obligations.ChipReset : Prop :=
  (∀ (s : State) (cause : BitVec 3), s.mgt.boot = .unpowered ∨ chipDeep s = true → exec (.chipReset cause) s = .next s)
  ∧ (∀ (s : State) (cause : BitVec 3), cause.toNat ≤ 5 → s.mgt.boot ≠ .unpowered → chipDeep s = false →
    ∃ t, exec (.chipReset cause) s = .next t
    ∧ rf t pAon AON_RESET_CAUSE_CAUSE = cause.toNat ∧ t.mgt.boot = .inReset ∧ t.que = State.reset.que ∧ t.prt.tab = []
    ∧ t.pending = s.pending ∧ t.out = s.out ∧ t.mgt.pins = s.mgt.pins
    ∧ t.ebm = (if cause.toNat = 0 ∨ cause.toNat = 4 then [] else s.ebm))
  ∧ (∀ (s : State) (src : Src), gate s src pMgt 0x05C true = .ok →
    (quietMode s = true → exec (.mgtResetGo src) s = .next (resetChip s 1))
    ∧ (quietMode s = false → exec (.mgtResetGo src) s = .next (refuseAccess s src pMgt 0x05C true 2 false)))

/-- The boot: power-up starts the COLD sequence, the release latches the straps and selects a slot, the hash decides, the self-check ends in
HOLD with a join due, and a boot that is late, or an activation, resets the chip. The chip watchdog: a kick, while every duty of the
management cores runs or the ROM serves RECOVERY, moves its start to now, and its expiry tells the sideband, closes the switches and resets. A
module's insertion brings power with its straps; its removal takes it away. -/
def Obligations.PowerAndBoot : Prop :=
  (∀ s : State,
     (s.mgt.boot = .unpowered → ∃ t, exec .coldPowerUp s = .next t ∧ t.mgt.boot = .inReset ∧ rf t pAon AON_RESET_CAUSE_CAUSE = 0
       ∧ t.ring.east.feed = true ∧ t.ring.west.feed = true)
     ∧ (∀ straps : BitVec 6, s.mgt.boot = .inReset → exec (.chipResetReleased straps) s = .next (release s straps.toNat)
         ∧ (release s straps.toNat).mgt.pins = straps ∧ (release s straps.toNat).mgt.boot = .hashing)
     ∧ (s.mgt.boot = .hashing → exec .imageHashChecked s = .next (exitBooted (hashDone s))
         ∧ (hashOk s.nvm (booted s) = true → rf s pNvm NVM_BOOT_BOOT_FAILS < 3 →
             hashDone s = { s with mgt := { s.mgt with boot := .checking } }))
     ∧ (s.mgt.boot = .checking → exec .bootComplete s = .next (bootDone s)
         ∧ (rf s pAon AON_RESET_CAUSE_CAUSE ≠ 4 → mode (bootDone s) = 0 ∧ (bootDone s).mgt.boot = .running
             ∧ (bootDone s).ring.joinTimer = true ∧ (bootDone s).mgt.wdogAt = (rct s).toNat))
     ∧ ((s.mgt.boot = .hashing ∨ s.mgt.boot = .checking) →
         exec .bootWdogExpire s = .next (incF (resetChip s 3) pNvm NVM_BOOT_BOOT_FAILS))
     ∧ (s.nvm.restart = true → s.mgt.boot ≠ .unpowered → chipDeep s = false → exec .activateRestart s = .next (resetChip s 5)))
  ∧ (∀ s : State,
     (s.mgt.boot = .running → dutiesRun s = true → exec .chipWdogKick s = .next { s with mgt := { s.mgt with wdogAt := (rct s).toNat } })
     ∧ (dutiesRun s = false → exec .chipWdogKick s = .next s)
     ∧ (1 < coresOut s → mode s ≠ 6 → dutiesRun s = false)
     ∧ (mode s = 6 → dutiesRun s = true)
     ∧ (wdogOut s = (!chipDeep s && rb s pAon AON_WDOG_ENABLE && s.mgt.boot == .running
         && decide (min 1000 (max 20 (rf s pAon AON_WDOG_PERIOD)) * 1000000 ≤ (rct s - BitVec.ofNat 64 s.mgt.wdogAt).toNat)))
     ∧ (wdogOut s = true → exec .chipWdogExpire s = .next (resetChip (closeNow (sbdFault s (chipLoc s) 0x60)) 2))
     ∧ (wdogOut s = false → exec .chipWdogExpire s = .next s))
  ∧ (∀ s : State,
     (∀ straps, s.mgt.boot = .unpowered → ∃ t, exec (.moduleInsert straps) s = .next t ∧ t.mgt.boot = .inReset ∧ t.mgt.pins = straps)
     ∧ (∃ t, exec .moduleRemove s = .next t ∧ t.mgt.boot = .unpowered ∧ t.ring.east.feed = false ∧ t.ring.west.feed = false))

/-! ### The ring -/

/-- The bypass switches: the join that is due, the writes of RING_CONTROL through their fields, and the timer and the watchers of AON that
close them. Joining opens the switches while BYPASS_REQ reads 0, outside a deep state. Closing them: BYPASS_CLOSED reads 1, and both links
read DOWN, or keep POWER_ONLY in STANDALONE. -/
def Obligations.BypassSwitches : Prop :=
  (∀ s : State,
     (s.ring.joinTimer = true → s.mgt.boot = .running → s.pwr.phase = .idle →
       (rb s pRing RING_CONTROL_AUTO_JOIN = true → exec .autoJoinTimer s = .next (joinRing s))
       ∧ (rb s pRing RING_CONTROL_AUTO_JOIN = false →
           exec .autoJoinTimer s = .next { s with ring := { s.ring with joinTimer := false } }))
     ∧ ((s.ring.joinTimer = false ∨ s.mgt.boot ≠ .running ∨ s.pwr.phase ≠ .idle) → exec .autoJoinTimer s = .next s)
     ∧ (∀ src, gate s src pRing 0x044 true = .ok →
         exec (.join src) s = .next (ringControl s (ringWord s ||| 0x40))
         ∧ exec (.retrain src) s = .next (ringControl s (ringWord s ||| 0x20))
         ∧ exec (.bypassReqSet src) s = .next (ringControl s (fput (ringWord s) RING_CONTROL_BYPASS_REQ 1))
         ∧ exec (.bypassReqClear src) s = .next (ringControl s (fput (ringWord s) RING_CONTROL_BYPASS_REQ 0))
         ∧ ∀ v, exec (.forceWrap src v) s = .next (ringControl s (fput (ringWord s) RING_CONTROL_FORCE_WRAP v.toNat)))
     ∧ (s.ring.closeTimer = true → exec .plannedCloseTimer s = .next (closeNow s))
     ∧ (s.ring.closeTimer = false → exec .plannedCloseTimer s = .next s)
     ∧ (bypassed s = false → exec .laneHeartbeatLoss s = .next (closeNow s))
     ∧ (bypassed s = true → exec .laneHeartbeatLoss s = .next s))
  ∧ (∀ s : State,
     (rb s pRing RING_CONTROL_BYPASS_REQ = true → joinRing s = { s with ring := { s.ring with joined := true, joinTimer := false } })
     ∧ (rb s pRing RING_CONTROL_BYPASS_REQ = false → joinRing s = openNow { s with ring := { s.ring with joined := true, joinTimer := false } })
     ∧ (bypassed s = true → heldClosed s = false → bypassed (openNow s) = false)
     ∧ ((bypassed s = false ∨ heldClosed s = true) → openNow s = s))
  ∧ (∀ s : State, bypassed (closeNow s) = true ∧ (closeNow s).ring.closeTimer = false ∧ (closeNow s).ring.leaving = none
     ∧ (∀ d, linkOf (closeNow s) d = if mode s = 1 then 3 else 0) ∧ (closeNow s).ebm = s.ebm ∧ (closeNow s).que = s.que)

/-- Training of a ring port: steps 1 to 3 lead on, step 4 takes the loss and step 5 the delay, step 6 knows the neighbour, a late step counts
and starts again, and a port that does not train takes nothing. Receive lanes that go down: an UP port breaks, or holds its planned wrap, and
trains again. 200 µs after a break without the head's TOPO cell a chip that is not the head is ORPHAN. -/
def Obligations.RingTraining : Prop :=
  (∀ (s : State) (d : Side) (m : Train),
     (linkOf s d = 1 →
       (let x := sideOf s d
        ((x.step = 1 ∨ x.step = 2 ∨ x.step = 3) → exec (.trainingStepDone d m) s = .next (setSide s d { x with step := x.step + 1 }))
        ∧ (x.step = 4 → exec (.trainingStepDone d m) s = .next
            (setSide (wf s pRing (match d with | .east => RING_LOSS_EAST_LOSS | .west => RING_LOSS_WEST_LOSS) m.loss.toNat) d { x with step := 5 }))
        ∧ (x.step = 5 → exec (.trainingStepDone d m) s = .next
            (setSide (wf s pRing (match d with | .east => RING_DELAY_EAST_DELAY | .west => RING_DELAY_WEST_DELAY) m.delay.toNat) d { x with step := 6 }))
        ∧ (x.step = 6 → exec (.trainingStepDone d m) s = .next (identify s d m))
        ∧ (x.step = 0 → exec (.trainingStepDone d m) s = .next s)
        ∧ exec (.trainingStepTimeout d) s = .next (setSide (incF s pRing RING_STATUS_TRAINING_FAIL) d { x with step := 1 })))
     ∧ (linkOf s d ≠ 1 → exec (.trainingStepDone d m) s = .next s ∧ exec (.trainingStepTimeout d) s = .next s))
  ∧ (∀ (s : State) (d : Side),
     (linkOf s d = 2 → (sideOf s d).planned = false → exec (.receiveLanesDown d) s = .next (startTrain (breakAt (setLink s d 0) d) d))
     ∧ (linkOf s d = 2 → (sideOf s d).planned = true → exec (.receiveLanesDown d) s = .next (startTrain (setLink s d 0) d))
     ∧ (linkOf s d ≠ 2 → exec (.receiveLanesDown d) s = .next s))
  ∧ (∀ s : State,
     ((mode s = 3 ∨ mode s = 4) → isHead s = false → headKnown s = true → s.ring.topoSeen = false →
       exec .orphanTimeout s = .next (enterSevered { s with ring := { s.ring with orphanAt := s.clk.uframe } } 2))
     ∧ (((mode s ≠ 3 ∧ mode s ≠ 4) ∨ isHead s = true ∨ headKnown s = false ∨ s.ring.topoSeen = true) → exec .orphanTimeout s = .next s))

/-- A microframe's timing cells on a chip that is not the head. One whose authority no head stamped is discarded and counted; of the usable
ones the one over fewer hops is taken, ring A's when the hops are equal, and with none, or after the microframe's own, nothing more changes.
The cell that is taken makes its head known, shows the offset and clears MISSED and HOLDOVER, steps RCT beyond 64 ns and slews it otherwise;
sixteen in a row within 4 ns lock the time, and one beyond 5 ns loses it. LOCKED is lost after 64 microframes without a cell, and a recovered
clock that a break cuts off gives way to the resonator. A microframe boundary moves the time on to it: the ring's own part first, then the
page checks, then the planner; without a cell it counts MISSED. -/
def Obligations.RingTime : Prop :=
  (∀ (s : State) (a b : Option Timing),
     (isHead s = false → onRing s = true →
       (let s1 := each ([a, b].filter authBad) s (fun s _ => authDrop s)
        (s.clk.seen = true → exec (.timingCellRx ⟨a, b⟩) s = .next s1)
        ∧ (∀ t r, s.clk.seen = false → chosen a b = some (t, r) → exec (.timingCellRx ⟨a, b⟩) s = .next (useTiming s1 t r))
        ∧ (s.clk.seen = false → chosen a b = none → exec (.timingCellRx ⟨a, b⟩) s = .next s1)))
     ∧ ((isHead s = true ∨ onRing s = false) → exec (.timingCellRx ⟨a, b⟩) s = .next s)
     ∧ (∀ x y, usable a = some x → usable b = some y → chosen a b = if y.c.hops.toNat < x.c.hops.toNat then some (y, true) else some (x, false))
     ∧ (∀ x, usable a = some x → usable b = none → chosen a b = some (x, false))
     ∧ (∀ y, usable a = none → usable b = some y → chosen a b = some (y, true))
     ∧ (usable a = none → usable b = none → chosen a b = none))
  ∧ (∀ (s : State) (t : Timing) (r : Bool),
     (let o := timeOffset s t r
      let slot := payNum t.c 21 1 % 64
      let h := foundDup (knowHead s slot) 0 slot
      let now := max (t.atRct.toNat : Int) (rctUnits s)
      let run := if o.natAbs ≤ 4 * 65536 then min 16 (s.clk.lockRun + 1) else 0
      ∃ v : State, v.que = h.que ∧ v.ebm = h.ebm ∧ v.ring = h.ring ∧ v.out = h.out ∧ v.clk.seen = true ∧ v.clk.lockRun = run
        ∧ rf v pRing RING_TIME_STATUS_OFFSET = offsetField o % 2 ^ RING_TIME_STATUS_OFFSET.w
        ∧ rf v pRing RING_TIME_STATUS_MISSED = 0 ∧ rb v pRing RING_TIME_STATUS_HOLDOVER = false
        ∧ (64 * 65536 < o.natAbs → v.clk.uframe = BitVec.ofNat 32 (payNum t.c 16 4) ∧ v.clk.slew = 0
            ∧ rb v pRing RING_TIME_STATUS_STEPPED = true ∧ v.clk.rct = (setRctUnits h (now - o)).clk.rct)
        ∧ (o.natAbs ≤ 64 * 65536 → v.clk.uframe = h.clk.uframe ∧ v.clk.slew = max (-65536) (min 65536 (-o))
            ∧ v.clk.rct = (setRctUnits h now).clk.rct)
        ∧ (o.natAbs ≤ 5 * 65536 → useTiming s t r = if run = 16 then wb v pRing RING_TIME_STATUS_LOCKED true else v)
        ∧ (5 * 65536 < o.natAbs → useTiming s t r = if rb v pRing RING_TIME_STATUS_LOCKED = true then timeLost v else v)))
  ∧ (∀ s : State,
     (rb s pRing RING_TIME_STATUS_LOCKED = true → 64 ≤ rf s pRing RING_TIME_STATUS_MISSED →
         exec .lockLostTimeout s = .next (report (errBit (wb s pRing RING_TIME_STATUS_LOCKED false) pRing 3) (chipLoc s) 0x53))
     ∧ ((rb s pRing RING_TIME_STATUS_LOCKED = false ∨ rf s pRing RING_TIME_STATUS_MISSED < 64) → exec .lockLostTimeout s = .next s)
     ∧ (s.clk.recovered = true → ((mode s = 4 ∧ prevMode s = 3) ∨ orphan s = true) →
         exec .recoveredClockFail s = .next { s with clk := { s.clk with recovered := false } })
     ∧ ((s.clk.recovered = false ∨ ((mode s ≠ 4 ∨ prevMode s ≠ 3) ∧ orphan s = false)) → exec .recoveredClockFail s = .next s))
  ∧ (∀ s : State,
     (let k := nextBoundary s
      let b := toBoundary s k
      exec .microframeBoundary s = .next
         (let s1 := timingBoundary (heardWhole (ringBoundary b (k % 2 ^ 32)))
          farStops (plannerBoundary (dutiesReturn (checkPages { s1 with ring := { s1.ring with crcBurst := [] } })) (k % 2 ^ 32)))
      ∧ b.clk.uframe = BitVec.ofNat 32 k ∧ b.clk.slew = 0 ∧ b.que = s.que ∧ b.ebm = s.ebm ∧ b.regs = s.regs)
     ∧ (isHead s = false → s.clk.seen = false → rb s pRing RING_TIME_STATUS_LOCKED = true →
         rb (timingBoundary s) pRing RING_TIME_STATUS_HOLDOVER = true ∧ (timingBoundary s).clk.lockRun = 0
           ∧ rf (timingBoundary s) pRing RING_TIME_STATUS_MISSED
             = min (2 ^ RING_TIME_STATUS_MISSED.w - 1) (rf s pRing RING_TIME_STATUS_MISSED + 1))
     ∧ (isHead s = false → s.clk.seen = true → timingBoundary s = { s with clk := { s.clk with seen := false } }))

/-- The TOPO cells of an epoch and the head's notices. A cell that comes to its effect: the head completes the live map from its own TOPO
cell, and grants and broadcasts; another chip adds its position and passes the cell on, loads the map that it hears, and lets a grant
replace the credits of its source; the notices of a closing and of a release are kept until their microframe; the head that is asked for a
closing names a wrap microframe two microframes on. -/
def Obligations.EpochCells : Prop :=
  (∀ (s : State) (c : Cell),
     (∀ map dup epoch slot, isHead s = true → onRing s = true → cellOk c = true → c.typ = 11 →
       (epoch.toNat = rf s pRing RING_STATUS_EPOCH → exec (.topoCirculate ⟨c, map⟩ dup epoch slot) s = .next
         (let m := withoutClosing s map
          noteDup (peersLost (sendGrants (loadMap (tellAll { s with ring := { s.ring with mapDue := false, topoSeen := true } } 0
            (.live m dup epoch (BitVec.ofNat 6 (ownSlot s)))) m))) dup (ownSlot s)))
       ∧ (epoch.toNat ≠ rf s pRing RING_STATUS_EPOCH → exec (.topoCirculate ⟨c, map⟩ dup epoch slot) s = .next s))
     ∧ (cellGood s c 11 = true →
       (let u := cellTaken s c
        let ends := fun t => Host.Outcome.next (settleCell u.held.length t c)
        (isHead s = false →
          (∀ map dup epoch slot, exec (.topoCirculate ⟨c, map⟩ dup epoch slot) s = ends (topoPass u c map dup epoch slot.toNat)
            ∧ exec (.liveMapRx ⟨c, map⟩ dup epoch slot) s = ends (takeMap u map dup epoch slot.toNat)))
        ∧ (∀ epoch iso ctrl data, exec (.creditGrantRx c epoch iso ctrl data) s = ends (takeGrant u c.src.toNat epoch iso.toNat ctrl.toNat data.toNat))
        ∧ (∀ pos, exec (.topoLeaveRequestRx ⟨c, pos⟩) s = ends (leaveAsked u pos.toNat))
        ∧ (c.auth = 1 → ∀ w, (∀ pos, exec (.topoClosingNoticeRx ⟨c, pos⟩ w) s = ends (closingTold u pos w))
            ∧ exec (.topoReleaseRx ⟨c, w⟩) s = ends (releaseTold u w)))))
  ∧ (∀ (s : State) (c : Cell) (map dup : BitVec 64) (epoch : BitVec 8) (slot : Nat), isHead s = false →
     (let v := knowHead s slot
      let p := ownPos v
      topoPass s c map dup epoch slot =
        if bits64 map p 1 = 1 then foundDup (passRound v c map (mapWith dup p) epoch slot) (mapWith dup p) slot
        else foundDup (passRound v c (mapWith map p) dup epoch slot) dup slot))
  ∧ (∀ (s : State) (pos : Nat) (epoch : BitVec 8) (iso ctrl data : Nat),
     ((epoch.toNat ≠ rf s pRing RING_STATUS_EPOCH ∨ live s pos = false ∨ pos = ownPos s) → takeGrant s pos epoch iso ctrl data = s)
     ∧ (epoch.toNat = rf s pRing RING_STATUS_EPOCH → live s pos = true → pos ≠ ownPos s →
         ∃ r, takeGrant s pos epoch iso ctrl data = flushCells { s with ring := { s.ring with credits := r } }
           ∧ ∀ b, cnt r (crdKey pos 1 b) = iso ∧ cnt r (crdKey pos 2 b) = ctrl ∧ cnt r (crdKey pos 3 b) = data))
  ∧ (∀ s : State,
     (∀ pos : BitVec 6, isHead s = true → s.ring.closing = none → live s pos.toNat = true → leaveAsked s pos.toNat =
       tellAll { s with ring := { s.ring with closing := some (pos, s.clk.uframe + 2, false) } } 1 (.closing pos (s.clk.uframe + 2)))
     ∧ (∀ pos w, isHead s = false → closingTold s pos w = { s with ring := { s.ring with
         closing := some (pos, w, false), leaving := if pos.toNat = ownPos s then some w else s.ring.leaving } })
     ∧ (∀ w, isHead s = false → releaseTold s w = { s with ring := { s.ring with releaseAt := some w } }))

/-! ### Cells -/

/-- A cell that passes its checks has the effect of its type, and its place in the ingress buffer is freed when that effect is over: data
goes to its transfer, at the head to host memory at an address left open (log entry 17), a read request out at the head, its data back
in DATA cells, a register access to its gate, a completion to the read that waits, an event and a post to the host, relay data and room to
their endpoint, a fault to the funnel; a CREDIT cell has its header's effect alone. -/
def Obligations.CellsArrive : Prop :=
  ∀ (s : State) (c : Cell),
    (let u := cellTaken s c
     let ends := fun t => Host.Outcome.next (settleCell u.held.length t c)
     let off := (cellDword c 0).toNat
     let src := Src.ring c.auth c.src c.tag
     (cellGood s c 1 = true →
        (let v := emit (ringReceive u (tagDoms u c.tag)) (.dataIn c.src c.tag (cellData c))
         (isHead u = true → exec (.dataCellRx c) s = ends (dataOut v (cellData c)))
         ∧ (isHead u = false → exec (.dataCellRx c) s = ends (dataTaken v c.tag (cellData c)))))
     ∧ (cellGood s c 2 = true →
        (let n := (cellDword c 2).toNat
         let read := Out.hostRead (routingId u.mgt.rid (freeOwner u)) (freeOwner u) (join64 (cellDword c 0) (cellDword c 1)) n
         (isHead u = true → exec (.readReqCellRx c) s = ends (readBack (emit (freeStep u) read) c.src.toNat c.tag n))
         ∧ (isHead u = false → exec (.readReqCellRx c) s = ends (readBack u c.src.toNat c.tag n))))
     ∧ (cellGood s c 3 = true →
        (c.auth ≠ 2 → (c.auth = 1 → off < 0x80000000) →
          exec (.regWrCellRx c) s = ends (access u src (off / 4096) (off % 4096) (.write (cellDword c 1))))
        ∧ (c.auth = 1 → 0x80000000 ≤ off → exec (.regWrCellRx c) s = ends (idxArrives u src (off - 0x80000000) (cellDword c 1)))
        ∧ (c.auth = 2 → exec (.regWrCellRx c) s = ends (idxArrives u src off (cellDword c 1))))
     ∧ (cellGood s c 4 = true → exec (.regRdCellRx c) s = ends (access u src (off / 4096) (off % 4096) .read))
     ∧ (cellGood s c 5 = true → exec (.regCplCellRx c) s = ends (cplTaken u c))
     ∧ (cellGood s c 6 = true → exec (.eventCellRx c) s = ends (eventTaken u c))
     ∧ (cellGood s c 7 = true → ∀ p, exec (.postCellRx c p) s = ends (postTaken u p))
     ∧ (cellGood s c 8 = true → c.len ≠ 0 → exec (.relayCellRx c) s = ends (relayTaken u c))
     ∧ (cellGood s c 8 = true → c.len = 0 → exec (.relayRoomReportRx c) s = ends (relayMove
          (updEp u (c.tag.toNat % 8192) (fun e => { e with peerFree := e.peerFree.map (fun p =>
            (p.1, if p.1 / 8192 == c.src.toNat then p.2 + 64 * bits c.tag 16 13 else p.2)) })) (c.tag.toNat % 8192)))
     ∧ (cellGood s c 9 = true → exec (.creditCellRx c) s = ends u)
     ∧ (cellGood s c 12 = true → ∀ loc code, exec (.faultCellRx c loc code) s = ends (faultTaken u loc code)))

/-- A cell of any type for this chip that fails a check has no effect of its own. One that fails its CRC is counted and its transfer fails;
one at HOPS = 127 is discarded and counted; one whose authority no head stamped is discarded with AUTH_VIOL, and its place is freed. The CRC
and HOPS of a broadcast copy are counted where it passes (the model's choice, log entry 75). -/
def Obligations.CellsDiscarded : Prop :=
  ∀ (s : State) (c : Cell) (typ : Nat) (i : Instr) (p : PostMsg) (loc map dup : BitVec 64) (code iso ctrl data : BitVec 16) (ep : BitVec 8)
    (pos : BitVec 6) (w : Word),
    (typ, i) ∈ [(1, .dataCellRx c), (2, .readReqCellRx c), (3, .regWrCellRx c), (4, .regRdCellRx c), (5, .regCplCellRx c), (6, .eventCellRx c),
      (7, .postCellRx c p), (8, if c.len = 0 then .relayRoomReportRx c else .relayCellRx c), (9, .creditCellRx c), (12, .faultCellRx c loc code),
      (11, .creditGrantRx c ep iso ctrl data), (11, .topoLeaveRequestRx ⟨c, pos⟩), (11, .topoClosingNoticeRx ⟨c, pos⟩ w), (11, .topoReleaseRx ⟨c, w⟩),
      (11, if isHead s then .topoReleaseRx ⟨c, w⟩ else .liveMapRx ⟨c, map⟩ dup ep pos),
      (11, if isHead s then .topoReleaseRx ⟨c, w⟩ else .topoCirculate ⟨c, map⟩ dup ep pos)] →
    onRing s = true → c.typ.toNat = typ → cellHere s c = true →
    (cellOk c = false → c.bcast = false → exec i s = .next (cellLost (noteDrop (crcFail s (cellRing c)) c) typ c.tag))
    ∧ (cellOk c = true → c.hops = 127 → c.bcast = false → exec i s = .next
        (cellLost (noteDrop (incF s pRing RING_DROP_CNT_HOP_DROP) c) typ c.tag))
    ∧ ((cellOk c = false ∨ c.hops = 127) → c.bcast = true → exec i s = .next s)
    ∧ (cellOk c = true → c.hops ≠ 127 → c.auth ≠ 0 → c.src ≠ 0 → exec i s = .next
        (cellLost (freeIngress (noteDrop (err (incF (takeIngress s c) pRing RING_DROP_CNT_AUTH_DROP) pRing 4) c) c) typ c.tag))

/-- A cell in transit waits at its egress port with HOPS one higher, whatever the credits; one that fails its CRC is counted and stays as it
is; one at HOPS = 127 is dropped; a chip strips its own, counting a unicast one undelivered; a reserved TYPE is discarded at its
destination; off the ring nothing passes. Credits owed to a position leave in a CREDIT cell, unless none are owed or another cell takes
them. -/
def Obligations.CellTransit : Prop :=
  (∀ (s : State) (b : Bool) (c : Cell) (res : BitVec 32),
     (onRing s = false → exec (.cellTransit b ⟨c, res⟩) s = .next s)
     ∧ (onRing s = true →
       (let s1 := if cellOk c then s else crcFail s b
        let sent := fun u => enqueue u b true (if cellOk c then cellStamp (addDelay u b res.toNat { c with hops := c.hops + 1 }) else c)
        let own := c.src.toNat = ownPos s ∧ headKnown s = true
        (c.bcast = false → c.dst.toNat = ownPos s →
          (reservedType c.typ = false → exec (.cellTransit b ⟨c, res⟩) s = .next s)
          ∧ (reservedType c.typ = true → cellOk c = true → exec (.cellTransit b ⟨c, res⟩) s = .next
              (freeIngress (incF (takeIngress s c) pRing RING_DROP_CNT_NODST) c))
          ∧ (reservedType c.typ = true → cellOk c = false → exec (.cellTransit b ⟨c, res⟩) s = .next (crcFail s b)))
        ∧ ((c.bcast = true ∨ c.dst.toNat ≠ ownPos s) →
          (c.hops = 127 → exec (.cellTransit b ⟨c, res⟩) s = .next (incF s1 pRing RING_DROP_CNT_HOP_DROP))
          ∧ (c.hops ≠ 127 → own → c.bcast = true → exec (.cellTransit b ⟨c, res⟩) s = .next s1)
          ∧ (c.hops ≠ 127 → own → c.bcast = false → exec (.cellTransit b ⟨c, res⟩) s = .next (incF s1 pRing RING_DROP_CNT_NODST))
          ∧ (c.hops ≠ 127 → ¬ own → (c.bcast = false ∨ reservedType c.typ = false ∨ cellOk c = false) →
              exec (.cellTransit b ⟨c, res⟩) s = .next (sent s1))
          ∧ (c.hops ≠ 127 → ¬ own → c.bcast = true → reservedType c.typ = true → cellOk c = true →
              exec (.cellTransit b ⟨c, res⟩) s = .next (sent (incF s pRing RING_DROP_CNT_NODST)))))))
  ∧ (∀ (s : State) (pos : BitVec 6) (cls : BitVec 2) (b : Bool),
     (let n := cnt s.ring.owed (crdKey pos.toNat cls.toNat b)
      ((n = 0 ∨ leavingFor s pos.toNat = true) → exec (.creditReturnTimer pos cls b) s = .next s)
      ∧ (n ≠ 0 → leavingFor s pos.toNat = false → exec (.creditReturnTimer pos cls b) s = .next
          (submit s { mkCell s pos.toNat 9 0 0 0 [] with crdClass := cls, crdRing := b }))))

/-! ### The host link -/

/-- An access over a trained link to a chip whose endpoint is active: window 0 is the chip's own, BAR2 is the manager window, a VF reaches
its own window, and a head forwards another window to its chip, or refuses it; with the link down, or no endpoint, nothing arrives. The
link: training sets it up, captures a routing ID (a free value, log entry 112) and may elect, a reset takes the PCI block to its reset values,
a forwarded read that is late ends as lost. -/
def Obligations.HostAccess : Prop :=
  (∀ s : State,
     (∀ w op, (s.mgt.pcie = false ∨ s.mgt.boot ≠ .running ∨ chipDeep s = true ∨ epActive s = false) → exec (.hostWindowAccess w op) s = .next s)
     ∧ (s.mgt.pcie = true → s.mgt.boot = .running → chipDeep s = false → epActive s = true →
       (∀ (off : BitVec 26) op, off.toNat < 2 ^ 20 →
         exec (.hostWindowAccess (.bar0 off) op) s = .next (access s .pf (off.toNat / 4096) (off.toNat % 4096) op))
       ∧ (∀ i (off : BitVec 14) op, exec (.hostWindowAccess (.vf i off) op) s = .next (winAccess s (.vf i) (.inst i) off.toNat op))
       ∧ (wakePending s .pf = false →
         (∀ (off : BitVec 14) op, exec (.hostWindowAccess (.bar2 off) op) s = .next (winAccess s .pf .mgr off.toNat op))
         ∧ (∀ (off : BitVec 26) op, 2 ^ 20 ≤ off.toNat → off.toNat % 4 = 0 →
             (isHead s = true → live s (off.toNat / 2 ^ 20) = true → exec (.hostWindowAccess (.bar0 off) op) s = .next
               (forwardAccess s .pf (off.toNat / 2 ^ 20) (off.toNat / 4096 % 256) (off.toNat % 4096) op))
             ∧ ((isHead s = false ∨ live s (off.toNat / 2 ^ 20) = false) → exec (.hostWindowAccess (.bar0 off) .read) s = .next
               (refuseAccess s .pf (off.toNat / 4096 % 256) (off.toNat % 4096) false 3 true))))
       ∧ (wakePending s .pf = true → ∀ (off : BitVec 14) op,
         exec (.hostWindowAccess (.bar2 off) op) s = .next { s with held := s.held ++ [⟨.pf, 0x10000, off.toNat, op, none⟩] })))
  ∧ (∀ s : State,
     (s.mgt.pcie = false → linkMayTrain s = true → ∃ rid, exec .pcieLinkTrained s = .next
       (autoElect { freeStep s with mgt := { s.mgt with pcie := true, rid := rid } }))
     ∧ ((s.mgt.pcie = true ∨ linkMayTrain s = false) → exec .pcieLinkTrained s = .next s)
     ∧ (∀ k, s.mgt.boot = .running → exec (.pcieLinkReset k) s = .next (linkReset s))
     ∧ (∀ k, s.mgt.boot ≠ .running → exec (.pcieLinkReset k) s = .next s)
     ∧ (s.mgt.vfs = 0 → (linkReset s).mgt.pcie = false ∧ (linkReset s).mgt.vfs = 0 ∧ (linkReset s).ebm = s.ebm ∧ (linkReset s).que = s.que
        ∧ ∀ k, (instAt (linkReset s) k).msixEn = false ∧ (instAt (linkReset s) k).pending = [])
     ∧ (∀ tag f, s.ring.fwd.find? (fun g => g.tag == tag) = some f → exec (.forwardedReadTimeout tag) s = .next (fwdLost s f))
     ∧ (∀ tag, s.ring.fwd.find? (fun g => g.tag == tag) = none → exec (.forwardedReadTimeout tag) s = .next s))

/-! ### The sideband -/

/-- The election. ELECT_GO, while SBD_CONTROL.ENABLE reads 1, clears WINNER, and in HOLD sends an ELECT; a window that closes on a CANDIDATE
makes it WON; a head's timer sends HEAD_CLAIM, and no other chip's does. -/
def Obligations.Election : Prop :=
  (∀ s : State,
     (∀ src, gate s src pSbd 0x040 true = .ok → exec (.electGo src) s = .next (sbdControl s ((rd s (adr pSbd 0x040) &&& 0x5) ||| 0x2)))
     ∧ (s.sbd.window = true → electState s = 1 → ∃ t, exec .electWindowEnd s = .next t ∧ electState t = 2 ∧ t.sbd.window = false
         ∧ t.sbd.queue = s.sbd.queue ∧ t.ebm = s.ebm ∧ t.out = s.out)
     ∧ ((s.sbd.window = false ∨ electState s ≠ 1) → exec .electWindowEnd s = .next s)
     ∧ (isHead s = true → exec .headClaimTimer s = .next (queueFrame s 2
         [BitVec.ofNat 8 (ownSlot s), BitVec.ofNat 8 (rf s pRing RING_STATUS_EPOCH)] false))
     ∧ (isHead s = false → exec .headClaimTimer s = .next s))
  ∧ (∀ s : State,
     (∀ v, sbdControl s (v ||| 0x2) = electGo (dropSuppressed (writeFields s pSbd 0x040 (v ||| 0x2))))
     ∧ (rb s pSbd SBD_CONTROL_ENABLE = false → electGo s = s)
     ∧ (rb s pSbd SBD_CONTROL_ENABLE = true →
         (let s1 := wb (wf { s with sbd := { s.sbd with claimed := false } } pSbd SBD_ELECT_WINNER 0) pSbd SBD_ELECT_WINNER_VALID false
          (mode s = 0 → electGo s = queueFrame s1 3 [BitVec.ofNat 8 (ownSlot s1), BitVec.ofNat 8 (b2n s1.mgt.pcie)] false)
          ∧ (mode s ≠ 0 → electGo s = s1))))

/-- A frame's way over the line. A start on a free line puts the first frame on it, or finds it beaten, or collided: then it backs off, and
is dropped as FAILED after its eighth attempt unless it is a FAULT frame. The end of the frame on the line takes it from the queue and sends
it: a software frame is DONE, an ELECT makes a CANDIDATE, a HEAD_CLAIM names the head. A back-off ends. GO with a type WAKE or ALARM_SET goes
through SBD_TX as any write of it does. In P3 to P5 only a FAULT frame leaves (the model's reading, log entry 109). -/
def Obligations.FrameLine : Prop :=
  (∀ (s : State) (f : Frame) (rest : List Frame), s.sbd.queue = f :: rest →
     (maySend s f = false → exec .sbdFrameSent s = .next s ∧ ∀ a, exec (.sbdFrameStart a) s = .next s)
     ∧ (s.mgt.boot ≠ .unpowered → s.sbd.onLine = false → s.sbd.backoff = false → maySend s f = true →
       exec (.sbdFrameStart .clean) s = .next (lfsrStep (setFrames s (f :: rest) true false))
       ∧ (∀ typ slot, exec (.sbdFrameStart (.lost typ slot)) s = .next (frameLost s f rest typ.toNat slot.toNat))
       ∧ ((f.tries + 1 < 8 ∨ f.typ = 1) → exec (.sbdFrameStart .collided) s = .next
           (setFrames (lfsrStep (incF s pSbd SBD_COUNTS_COLLIDED)) ({ f with tries := f.tries + 1 } :: rest) false true))
       ∧ (8 ≤ f.tries + 1 → f.typ ≠ 1 → exec (.sbdFrameStart .collided) s = .next
           (wb (incF (setFrames (lfsrStep (incF s pSbd SBD_COUNTS_COLLIDED)) rest false false) pSbd SBD_COUNTS_TX_FAIL) pSbd SBD_TX_FAILED true)))
     ∧ (s.sbd.onLine = true → maySend s f = true →
       (let s1 := emit (setFrames s rest false false) (.frame f.typ f.body (frameWire f.typ s.mgt.pins.toNat Config.dieSerial f.body))
        (f.soft = true → exec .sbdFrameSent s = .next (wb s1 pSbd SBD_TX_DONE true))
        ∧ (f.soft = false → f.typ = 3 → exec .sbdFrameSent s = .next
            (noteElect (wf { s1 with sbd := { s1.sbd with window := true } } pSbd SBD_ELECT_STATE 1) (ownSlot s1)))
        ∧ (f.soft = false → f.typ = 2 → exec .sbdFrameSent s = .next (noteClaim s1 (ownSlot s1)))
        ∧ (f.soft = false → f.typ ≠ 3 → f.typ ≠ 2 → exec .sbdFrameSent s = .next s1))))
  ∧ (∀ s : State,
     (∀ a, (s.mgt.boot = .unpowered ∨ s.sbd.onLine = true ∨ s.sbd.backoff = true ∨ s.sbd.queue = []) → exec (.sbdFrameStart a) s = .next s)
     ∧ ((s.sbd.onLine = false ∨ s.sbd.queue = []) → exec .sbdFrameSent s = .next s)
     ∧ exec .sbdBackoffExpire s = .next { s with sbd := { s.sbd with backoff := false } }
     ∧ (∀ src, gate s src pSbd 0x048 true = .ok →
         exec (.sbdTxWake src) s = .next (sbdTx s 0x104) ∧ exec (.sbdTxAlarmSet src) s = .next (sbdTx s 0x105)))

/-- Frames heard by a chip with power, in every power state: a frame that captured the receiver is counted; a FAULT frame has its effect
where the funnel runs, a claim names the head and makes any chip but a head LOST, a lower slot's ELECT makes it LOST, a WAKE that names the
chip arms the alarm at the present and an ALARM_SET at its time, and a failing CRC is counted. Without power nothing is heard. -/
def Obligations.FramesHeard : Prop :=
  (∀ (s : State) (b : Bool), hears s = true →
     (∀ loc code r, (awake s = true → exec (.faultFrameRx loc code r b) s = .next (hearFault (capture s b) loc code))
       ∧ (awake s = false → exec (.faultFrameRx loc code r b) s = .next (capture s b)))
     ∧ (∀ slot ep, exec (.headClaimFrameRx slot ep b) s = .next (hearClaim (capture s b) slot.toNat))
     ∧ (∀ slot tr, exec (.electFrameRx slot tr b) s = .next (hearElect (capture s b) slot.toNat))
     ∧ (∀ mask, (named s mask = true → exec (.wakeFrameRx mask b) s = .next (armAlarm (capture s b) (rtc (capture s b)) 2))
       ∧ (named s mask = false → exec (.wakeFrameRx mask b) s = .next (capture s b)))
     ∧ (∀ mask alarm, (named s mask = true → exec (.alarmSetFrameRx mask alarm b) s = .next (armAlarm (capture s b) alarm 3))
       ∧ (named s mask = false → exec (.alarmSetFrameRx mask alarm b) s = .next (capture s b)))
     ∧ exec (.sbdFrameCrcFail b) s = .next (incF (capture s b) pSbd SBD_CAPTURED_CRC_ERR))
  ∧ (∀ (s : State) (b tr : Bool) (loc mask alarm : BitVec 64) (code : BitVec 16) (r : Word) (slot : BitVec 6) (ep : BitVec 8),
     hears s = false → exec (.faultFrameRx loc code r b) s = .next s ∧ exec (.headClaimFrameRx slot ep b) s = .next s
       ∧ exec (.electFrameRx slot tr b) s = .next s ∧ exec (.wakeFrameRx mask b) s = .next s
       ∧ exec (.alarmSetFrameRx mask alarm b) s = .next s ∧ exec (.sbdFrameCrcFail b) s = .next s)
  ∧ (∀ (s : State) (slot : Nat), slot < 64 → isHead s = false →
     electState (hearClaim s slot) = 3 ∧ rf (hearClaim s slot) pSbd SBD_ELECT_WINNER = slot
       ∧ rb (hearClaim s slot) pSbd SBD_ELECT_WINNER_VALID = true ∧ (hearClaim s slot).sbd.claimed = true
       ∧ (slot < strapSlot s → electState (hearElect s slot) = 3))
  ∧ (∀ (s : State) (a : BitVec 64) (k : BitVec 3), join64 (rd (armAlarm s a k) (adr pAon 0x048)) (rd (armAlarm s a k) (adr pAon 0x04C)) = a
     ∧ rb (armAlarm s a k) pAon AON_ALARM_CTRL_ARMED = true ∧ (armAlarm s a k).pwr.armedBy = k)

/-! ### Register access -/

/-- A global port identifier is the position times 512 plus the local port, with the port in bits 8 to 0 and the position in bits 14 to 9. -/
def Obligations.PortIdentifiers : Prop :=
  (∀ (pos : BitVec 6) (port : BitVec 9),
    gpPos (BitVec.ofNat 32 (pos.toNat * 512 + port.toNat)) = pos.toNat ∧ gpPort (BitVec.ofNat 32 (pos.toNat * 512 + port.toNat)) = port.toNat)
  ∧ (∀ w : Word, w.toNat < 32768 → w.toNat = gpPos w * 512 + gpPort w ∧ gpPos w < 64 ∧ gpPort w < 512)

/-- Authority, for an access that waits behind no other: a virtual function reaches no chip register, the service port reads all and writes
the lifeline alone, JTAG reaches registers in HOLD, LOOP and RECOVERY alone, and VAULT answers the AON page alone. A ring cell with neither
MANAGER nor MAINTENANCE, one of MAINTENANCE that writes outside the lifeline (the model's reading, log entry 15), and one whose authority no
head stamped are discarded. One that must wait, waits or is discarded. -/
def Obligations.Authority : Prop :=
  ∀ (s : State) (page off : Nat) (w : Bool), off % 4 = 0 → off < 0x1000 → blockOf page ≠ none →
    (∀ src, unanswered s src page off = false → mustWait s src page off = true → gate s src page off w = .hold ∨ gate s src page off w = .drop)
    ∧ (∀ src, unanswered s src page off = false → mustWait s src page off = false →
      (∀ i, src = .vf i → gate s src page off w = .refuse 1 false)
      ∧ (src = .svc → w = true → lifeline page off = false → gate s src page off w = .refuse 1 false)
      ∧ (src = .jtag → quietMode s = false → gate s src page off w = .refuse 2 false)
      ∧ ((src = .pf ∨ src = .jtag) → mode s = 7 → page ≠ pAon → gate s src page off w = .refuse 2 false))
    ∧ (∀ a p tag, unanswered s (.ring a p tag) page off = false →
      (a ≠ 1 → a ≠ 3 → gate s (.ring a p tag) page off w = .drop)
      ∧ (a = 3 → w = true → lifeline page off = false → gate s (.ring a p tag) page off w = .drop)
      ∧ (a ≠ 0 → p ≠ 0 → gate s (.ring a p tag) page off w = .drop))

/-- A misaligned access is refused with REASON SIZE: the count rises, saturating, and MGT_ACCESS_LAST shows it; one that earlier accesses
keep waiting waits like any other, one that the ring discards for its authority is discarded, and one that nothing answers changes
nothing. -/
def Obligations.Misaligned : Prop :=
  (∀ (s : State) (src : Src) (page : BitVec 8) (off : BitVec 12) (w : Bool),
     (unanswered s src page.toNat off.toNat = true → exec (.misalignedAccess src page off w) s = .next s)
     ∧ (unanswered s src page.toNat off.toNat = false →
       (refusedBy s src page.toNat 1 w = some .drop → exec (.misalignedAccess src page off w) s = .next (authDrop s))
       ∧ (refusedBy s src page.toNat 1 w ≠ some .drop →
           (mustWait s src page.toNat off.toNat = false → exec (.misalignedAccess src page off w) s = .next
             (refuseAccess s src page.toNat (off.toNat + 0x1000) w 5 false))
           ∧ (mustWait s src page.toNat off.toNat = true → exec (.misalignedAccess src page off w) s = .next
             { s with held := s.held ++ [⟨src, page.toNat, off.toNat + 0x1000, if w then .write 0 else .read, none⟩] }))))
  ∧ (∀ (s : State) (src : Src) (page off reason : Nat) (w ur : Bool), (∀ a p tag, src ≠ .ring a p tag) → page < 256 → reason < 8 →
     (let t := refuseAccess s src page off w reason ur
      rf t pMgt MGT_ACCESS_REFUSED_COUNT = min 65535 (rf s pMgt MGT_ACCESS_REFUSED_COUNT + 1)
      ∧ rf t pMgt MGT_ACCESS_LAST_OFFSET = off % 0x1000 ∧ rf t pMgt MGT_ACCESS_LAST_PAGE = page
      ∧ rf t pMgt MGT_ACCESS_LAST_PORT = srcPort src ∧ rf t pMgt MGT_ACCESS_LAST_WRITE = b2n w ∧ rf t pMgt MGT_ACCESS_LAST_REASON = reason
      ∧ t.ebm = s.ebm ∧ t.que = s.que ∧ t.ring = s.ring))

/-- An access to a dark block that does not wake is counted in PAGE_DARK and answered with an error; one that wakes casts slot 63 on the
page's domains and waits; the vote is withdrawn when nothing waits for the domain, and stays while something does. -/
def Obligations.DarkBlocks : Prop :=
  ∀ s : State,
    (∀ src page off v, gate s src page.toNat off.toNat true = .dark →
      exec (.darkAccess src page off (.write v)) s = .next (errorAnswer (incF s page.toNat PAGE_DARK_WRITES) src true false))
    ∧ (∀ src page off, gate s src page.toNat off.toNat false = .dark →
      exec (.darkAccess src page off .read) s = .next (errorAnswer (incF s page.toNat PAGE_DARK_READS) src false false))
    ∧ (∀ src page off op w, w = (match op with | .read => false | .write _ => true) → gate s src page.toNat off.toNat w = .wake →
      ∃ t, exec (.wakeOnAccess src page off op) s = .next t
        ∧ t.held = s.held ++ [⟨src, page.toNat, off.toNat, op, none⟩]
        ∧ { t with held := s.held } = each (domsOf page.toNat) (incF s page.toNat PAGE_DARK_WAKES) (fun s d => castHw s 63 d))
    ∧ (∀ dom : BitVec 8, domOk dom.toNat = true →
      (s.held.any (fun h => decide (h.page < 0x100) && (domsOf h.page).contains dom.toNat) = false →
        exec (.registerVoteRelease dom) s = .next (voteHw s 63 dom.toNat false))
      ∧ (s.held.any (fun h => decide (h.page < 0x100) && (domsOf h.page).contains dom.toNat) = true →
        exec (.registerVoteRelease dom) s = .next s))

/-- PAGE_SCRATCH of every page holds any value written, and the write has no other effect. -/
def Obligations.Scratch : Prop :=
  ∀ (s : State) (src : Src) (page : BitVec 8) (v : Word), gate s src page.toNat 0x034 true = .ok →
    exec (.registerWrite src page 0x034 v) s = .next (wr s (adr page.toNat 0x034) v)

/-- The header's commands act on their page: votes on each of its domains, a lock that sets once with its check captured, the event enable,
a soft reset that is accepted, and its end, when the accesses that waited are served. -/
def Obligations.PageHeader : Prop :=
  ∀ (s : State) (src : Src) (page : BitVec 8),
    (∀ v, gate s src page.toNat 0x010 true = .ok → exec (.voteSet src page v) s = .next (each (domsOf page.toNat) s (fun s d => castSw s d v)))
    ∧ (∀ v, gate s src page.toNat 0x014 true = .ok → exec (.voteClear src page v) s = .next (each (domsOf page.toNat) s (fun s d => dropSw s d v)))
    ∧ (gate s src page.toNat 0x038 true = .ok → locked s page.toNat = false → ∃ t, exec (.pageLockSet src page) s = .next t
        ∧ locked t page.toNat = true ∧ tabGet (fun _ => (0 : Word)) t.mgt.checks page.toNat = pageCheck s page.toNat)
    ∧ (gate s src page.toNat 0x038 true = .ok → locked s page.toNat = true → exec (.pageLockSet src page) s = .next s)
    ∧ (∀ v, gate s src page.toNat 0x030 true = .ok → exec (.eventEnableWrite src page v) s = .next (evtEnable s page.toNat v))
    ∧ (gate s src page.toNat 0x00C true = .ok → exec (.softReset src page) s =
        .next (pageControl s src page.toNat ((rd s (adr page.toNat 0x00C) &&& 0x5) ||| 0x2)))
    ∧ (inSoftReset s page.toNat = true → exec (.softResetDone page) s = .next (serveHeld (wb s page.toNat PAGE_CONTROL_SOFT_RESET false)))
    ∧ (inSoftReset s page.toNat = false → exec (.softResetDone page) s = .next s)

/-- The halves of a 64-bit quantity: a read of the low half latches the high half, which the next read of the high half returns; a write of
the low half is held and changes no register; the write of the high half writes both, each in the bits that its register takes. -/
def Obligations.WideAccess : Prop :=
  ∀ (s : State) (page : BitVec 8) (off : BitVec 12),
    (gate s .pf page.toNat off.toNat false = .ok → lowHalf page.toNat off.toNat = true → look s.latch (adr page.toNat off.toNat) = none →
      ∃ t, exec (.wideLowRead .pf page off) s = .next t
        ∧ t.out = s.out ++ [.readDone .pf (regVal s page.toNat off.toNat) false]
        ∧ look t.latch (adr page.toNat (off.toNat + 4)) = some (regVal s page.toNat (off.toNat + 4)))
    ∧ (∀ v (o : BitVec 26), s.mgt.pcie = true → s.mgt.boot = .running → chipDeep s = false → epActive s = true →
      o.toNat = page.toNat * 4096 + off.toNat → gate s .pf page.toNat off.toNat false = .ok →
      look s.latch (adr page.toNat off.toNat) = some v → exec (.hostWindowAccess (.bar0 o) .read) s = .next
        (emit { s with latch := tabDel s.latch (adr page.toNat off.toNat) } (.readDone .pf v false)))
    ∧ (((page = 0x02 ∧ off = 0x048) ∨ (page = 0x08 ∧ off = 0x050 ∧ mode s = 0)
        ∨ (0x1C ≤ page.toNat ∧ page.toNat ≤ 0x1F ∧ isLowHalf page.toNat off.toNat = true
          ∧ cState s ((page.toNat - 0x10) * 4 + (off.toNat - 0x40) / 0x40) = 0)) →
      (∀ src lo, gate s src page.toNat off.toNat true = .ok →
        exec (.registerWrite src page off lo) s = .next { s with lowHeld := put s.lowHeld (adr page.toNat off.toNat) lo })
      ∧ (∀ src lo v l h, gate s src page.toNat (off.toNat + 4) true = .ok → look s.lowHeld (adr page.toNat off.toNat) = some lo →
        locked s page.toNat = false → regDesc page.toNat off.toNat = some l → regDesc page.toNat (off.toNat + 4) = some h →
        ∃ t, exec (.wideHighWrite src page (off + 4) v) s = .next t
          ∧ rd t (adr page.toNat off.toNat) = (rd s (adr page.toNat off.toNat) &&& ~~~ BitVec.ofNat 32 l.rw) ||| (lo &&& BitVec.ofNat 32 l.rw)
          ∧ rd t (adr page.toNat (off.toNat + 4))
              = (rd s (adr page.toNat (off.toNat + 4)) &&& ~~~ BitVec.ofNat 32 h.rw) ||| (v &&& BitVec.ofNat 32 h.rw)
          ∧ look t.lowHeld (adr page.toNat off.toNat) = none ∧ t.ebm = s.ebm ∧ t.out = s.out))

/-- The plain fields of a page whose registers have no operation of their own: an RW bit takes the value written unless the page is locked and
the bit is covered, a W1C bit clears where a 1 is written, every other bit keeps its value, and every other register but the page's
lock word, which counts blocked writes, keeps its own. A read of an RC counter returns it and clears
it: MGT_ACCESS_REFUSED, read by the host. -/
def Obligations.FieldTypes : Prop :=
  (∀ (s : State) (src : Src) (page : BitVec 8) (off : BitVec 12) (v : Word) (r : RegDesc), gate s src page.toNat off.toNat true = .ok →
     (blockOf page.toNat = some .cnd ∨ blockOf page.toNat = some .clu ∨ blockOf page.toNat = some .ebm) → 0x040 ≤ off.toNat →
     regDesc page.toNat off.toNat = some r →
     ∃ t, exec (.registerWrite src page off v) s = .next t
       ∧ (∀ k, k < 32 → (rd t (adr page.toNat off.toNat)).getLsbD k =
           (if (BitVec.ofNat 32 r.w1c).getLsbD k && v.getLsbD k then false
            else if (BitVec.ofNat 32 r.rw).getLsbD k && !(locked s page.toNat && (BitVec.ofNat 32 (covered page.toNat off.toNat)).getLsbD k)
              then v.getLsbD k
            else (rd s (adr page.toNat off.toNat)).getLsbD k))
       ∧ (∀ a, a ≠ adr page.toNat off.toNat → a ≠ adr page.toNat 0x038 → rd t a = rd s a)
       ∧ t.out = s.out ∧ t.ebm = s.ebm ∧ t.prt = s.prt)
  ∧ (∀ s : State, gate s .pf pMgt 0x054 false = .ok → look s.latch (adr pMgt 0x054) = none → ∃ t, exec (.readClear .pf 0x00 0x054) s = .next t
       ∧ t.out = s.out ++ [.readDone .pf (rd s (adr pMgt 0x054) &&& 0xFFFF) false] ∧ rf t pMgt MGT_ACCESS_REFUSED_COUNT = 0
       ∧ (∀ a, a ≠ adr pMgt 0x054 → rd t a = rd s a) ∧ t.ebm = s.ebm ∧ t.ring = s.ring)

/-! ### Queues -/

/-- Index writes that their window serves. On a queue at home a PI in range is taken, but not while the TQ stops, one out of range sets
PI_RANGE; a CI within S and PI is taken and its queue's stops go on, one beyond PI sets CI_RANGE. For a queue of another chip the head's
copy takes the index and the write is forwarded; a number without such a queue changes nothing. -/
def Obligations.IndexWrites : Prop :=
  ∀ (s : State) (o : Owner) (q : BitVec 11) (v : Word), winServes s o 0x1000 = true →
    (let n := bits v 0 16
     (∀ t x, tqOf s o q.toNat = some (t, x) →
       (x.stop = none → n < qSize x.log2 → exec (.tqPiWrite o q v) s = .next (copyPi (setTq s t { x with pi := n }) o q.toNat n))
       ∧ (x.stop ≠ none → n < qSize x.log2 → exec (.tqPiWrite o q v) s = .next s)
       ∧ (qSize x.log2 ≤ n → exec (.tqPiWrite o q v) s = .next (err s (lePage t) 2)))
     ∧ (tqOf s o q.toNat = none →
       (refAt s o q.toNat = none → exec (.tqPiWrite o q v) s = .next s)
       ∧ (∀ r, refAt s o q.toNat = some r →
         ((r.isCq = true ∨ r.pos = ownPos s) → exec (.tqPiWrite o q v) s = .next s)
         ∧ (r.isCq = false → r.pos ≠ ownPos s → exec (.tqPiWrite o q v) s = .next
             (forwardIdx (copyIdx s o q.toNat r true n) r.pos o (0x1000 + 8 * q.toNat) v))))
     ∧ (∀ k c, cqOf s o q.toNat = some (k, c) →
       (qSize c.log2 ≤ n → exec (.cqCiWrite o q v) s = .next (err s pLe 2))
       ∧ (n < qSize c.log2 → span c.log2 c.ci c.pi < span c.log2 c.ci n → exec (.cqCiWrite o q v) s = .next (err s pLe 3))
       ∧ (n < qSize c.log2 → span c.log2 c.ci n ≤ span c.log2 c.ci c.pi →
         (refAt s o q.toNat = none → exec (.cqCiWrite o q v) s = .next (cqFreed (setCq s k { c with ci := n }) k))
         ∧ (∀ r, refAt s o q.toNat = some r → exec (.cqCiWrite o q v) s = .next
             (cqFreed (copyIdx (setCq s k { c with ci := n }) o q.toNat r false n) k))))
     ∧ (cqOf s o q.toNat = none →
       (refAt s o q.toNat = none → exec (.cqCiWrite o q v) s = .next s)
       ∧ (∀ r, refAt s o q.toNat = some r →
         ((r.isCq = false ∨ r.pos = ownPos s) → exec (.cqCiWrite o q v) s = .next s)
         ∧ (r.isCq = true → r.pos ≠ ownPos s → exec (.cqCiWrite o q v) s = .next
             (forwardIdx (copyIdx s o q.toNat r false n) r.pos o (0x1004 + 8 * q.toNat) v)))))

/-- The admin queue, written through a window that serves: a PI and a CI in range are taken and one out of range sets IDX_ERR; ENABLE with
sizes and bases in order starts both queues at 0, otherwise sets CFG_ERR, and changes nothing while they run; ENABLE clears; an entry that
cannot be read completes BAD_DESC, where the submitter's own queue serves (log entry 116). A window write that its window does not serve
waits behind a wake, is refused, finds the window's engine dark (log entry 111), or arrives nowhere. -/
def Obligations.AdminQueue : Prop :=
  (∀ (s : State) (o : Owner), winServes s o 0x108 = true → isMember s = false →
    (let k := ownerKey o
     let i := instAt s k
     (∀ v, v.toNat < aqSize i → exec (.aqPiWrite o v) s = .next (setInst s k { i with aqPi := v.toNat }))
     ∧ (∀ v, aqSize i ≤ v.toNat → exec (.aqPiWrite o v) s = .next (setInst s k { i with idxErr := true }))
     ∧ (∀ v, acqSize i ≤ v.toNat → exec (.acqCiWrite o v) s = .next (setInst s k { i with idxErr := true }))
     ∧ (∀ v, v.toNat < acqSize i →
        ((v.toNat + acqSize i - i.acqCi) % acqSize i ≤ (i.acqPi + acqSize i - i.acqCi) % acqSize i →
          exec (.acqCiWrite o v) s = .next (setInst s k { i with acqCi := v.toNat }))
        ∧ ((i.acqPi + acqSize i - i.acqCi) % acqSize i < (v.toNat + acqSize i - i.acqCi) % acqSize i →
          exec (.acqCiWrite o v) s = .next (setInst s k { i with idxErr := true })))
     ∧ (aqOn i = true → exec (.aqEnable o) s = .next s)
     ∧ (aqOn i = false →
        (let others := fun t => (∀ j, j ≠ k → instAt t j = instAt s j) ∧ t.regs = s.regs ∧ t.que = s.que ∧ t.ebm = s.ebm ∧ t.out = s.out
         (4 ≤ bits i.aqCfg 0 5 ∧ bits i.aqCfg 0 5 ≤ 16 ∧ 4 ≤ bits i.acqCfg 0 5 ∧ bits i.acqCfg 0 5 ≤ 16 ∧ i.aqBase ≠ 0 ∧ i.acqBase ≠ 0 →
           ∃ t w, exec (.aqEnable o) s = .next t ∧ others t ∧ bit w 8 = true ∧ bits w 0 5 = bits i.aqCfg 0 5
             ∧ instAt t k = { i with aqCfg := w, aqPi := 0, aqCi := 0, acqPi := 0, acqCi := 0 })
         ∧ (i.aqBase = 0 ∨ i.acqBase = 0 ∨ bits i.aqCfg 0 5 < 4 ∨ 16 < bits i.aqCfg 0 5 ∨ bits i.acqCfg 0 5 < 4 ∨ 16 < bits i.acqCfg 0 5 →
           ∃ t w, exec (.aqEnable o) s = .next t ∧ others t ∧ bit w 8 = false ∧ bits w 0 5 = bits i.aqCfg 0 5
             ∧ instAt t k = { i with aqCfg := w, cfgErr := true })))
     ∧ (aqOn i = true → exec (.aqDisable o) s = .next (setInst s k { i with aqCfg := i.aqCfg &&& ~~~ bitW 8 }))
     ∧ (aqOn i = false → ∃ w, exec (.aqDisable o) s = .next (setInst s k { i with aqCfg := w }) ∧ bit w 8 = false
          ∧ bits w 0 5 = bits i.aqCfg 0 5)))
  ∧ (∀ (s : State) (o : Owner),
     (admReady s o = true → carried s o = false →
        exec (.aqEntryReadFail o) s = .next (acqWrite s o 0 0 8 0 (BitVec.ofNat 32 (instAt s (ownerKey o)).aqCi) 0))
     ∧ ((admReady s o = false ∨ carried s o = true) → exec (.aqEntryReadFail o) s = .next s))
  ∧ (∀ (s : State) (o : Owner) (q : BitVec 11) (v : Word) (w : BitVec 16) (c : Instr) (off : Nat) (x : Word),
     (c, off, x) ∈ [(.tqPiWrite o q v, 0x1000 + 8 * q.toNat, v), (.cqCiWrite o q v, 0x1004 + 8 * q.toNat, v),
       (.aqPiWrite o w, 0x10C, BitVec.ofNat 32 w.toNat), (.acqCiWrite o w, 0x11C, BitVec.ofNat 32 (w.toNat * 65536)),
       (.aqEnable o, 0x108, (instAt s (ownerKey o)).aqCfg ||| bitW 8), (.aqDisable o, 0x108, (instAt s (ownerKey o)).aqCfg &&& ~~~ bitW 8)] →
     ((s.mgt.boot ≠ .running ∨ chipDeep s = true) → exec c s = .next s)
     ∧ (isMember s = true → off < 0x1000 → exec c s = .next s)
     ∧ (s.mgt.boot = .running → chipDeep s = false → isMember s = false →
       (o = .mgr → mode s = 7 → exec c s = .next s)
       ∧ (o = .mgr → mode s ≠ 7 → wakePending s .pf = true → exec c s = .next { s with held := s.held ++ [⟨.pf, 0x10000, off, .write x, none⟩] })
       ∧ (o = .mgr → mode s ≠ 7 → wakePending s .pf = false → windowMode s off true = false →
           exec c s = .next (refuseAccess s .pf (off / 4096) off true 2 false))
       ∧ (∀ i, o = .inst i → windowOpen s o = false → exec c s = .next (refuseAccess s (.vf i) (off / 4096) off true 3 true))
       ∧ (o = .mgr → wakePending s .pf = false → windowMode s off true = true → tenDown s o = true →
           exec c s = .next (darkRefuse s .pf (tePage s o) true))
       ∧ (∀ i, o = .inst i → windowOpen s o = true → windowMode s off true = true → tenDown s o = true →
           exec c s = .next (darkRefuse s (.vf i) (tePage s o) true))))

/-- The list engines. A poll tick samples PI and fetches, closing a batch that stands idle; a PI moved back over entries that were read
stops the TQ; a dark engine is asked for. A fetch caches the entries that it was for and serves the queue, or LE_READ is set; a refill
fetches what R113 wants; a chain that is late ends with SEQ_ERR or with the status that it has; a post that may go is written and the queue
goes on. -/
def Obligations.ListEngine : Prop :=
  (∀ (s : State) (t : BitVec 12) (x : Tq), tqAt s t.toNat = some x →
    (let page := lePage t.toNat
     let taken := setTq s t.toNat { x with sampled := x.pi, due := false }
     let idle := (x.pi == x.ci % qSize x.log2 && x.batch.isSome && x.posts.isEmpty && mayPost taken x) = true
     let runs := x.error = false ∧ x.stop = none ∧ runsSchedules s = true ∧ pageOn s page = true
     ((x.error = true ∨ x.stop ≠ none ∨ runsSchedules s = false ∨ pageOn s page = false) → exec (.pollTick t) s = .next s)
     ∧ (runs → pageLit s page = false → exec (.pollTick t) s = .next (leVotes (setTq s t.toNat { x with due := true })))
     ∧ (runs → pageLit s page = true → piCovers x = false → exec (.pollTick t) s = .next
         (err (stopTq (setTq s t.toNat { x with sampled := x.pi }) t.toNat .error) page 0))
     ∧ (runs → pageLit s page = true → piCovers x = true →
       (idle → exec (.pollTick t) s = .next (leVotes (fetch (closeBatch taken t.toNat) t.toNat)))
       ∧ (¬ idle → exec (.pollTick t) s = .next (leVotes (fetch taken t.toNat)))))
    ∧ (∀ (idx : BitVec 16) (n : BitVec 5) (e : List Word),
      (let got := fun k => ((List.range k).map (fun j => (idx.toNat + j) % qSize x.log2)).filter (x.fetching.contains ·)
       let cached := fun is c => setTq s t.toNat { x with
         fetching := x.fetching.filter (fun i => !is.contains i), cache := x.cache ++ is.map (fun i => ⟨i, c⟩) }
       (got 1 ≠ [] → exec (.entryFetchDone t idx e) s = .next (noteBp (serve (leVotes (cached (got 1) (some e))) t.toNat)))
       ∧ (got 1 = [] → exec (.entryFetchDone t idx e) s = .next s)
       ∧ (got n.toNat ≠ [] → exec (.entryFetchFail t idx n) s = .next (noteBp (serve (leVotes
           (err (cached (got n.toNat) none) (lePage t.toNat) 1)) t.toNat)))
       ∧ (got n.toNat = [] → exec (.entryFetchFail t idx n) s = .next s)))
    ∧ (let async := match epAt s x.ep with | some e => e.typ == 0 || e.typ == 2 | none => true
       let bars := x.error || x.stop.isSome || ownerStill s x.owner || orphan s || !runsSchedules s
         || (rb s pPln PLN_STATUS_BP_ACTIVE && async) || toHold s || !pageOn s (lePage t.toNat)
       ((bars = true ∨ wanted x = []) → exec (.prefetchRefill t) s = .next (leVotes s))
       ∧ (bars = false → wanted x ≠ [] → (pageLit s (lePage t.toNat) = false ∨ dmaLit s = false) →
           exec (.prefetchRefill t) s = .next (leVotes (noteBusy (setTq s t.toNat { x with due := true }))))
       ∧ (bars = false → wanted x ≠ [] → pageLit s (lePage t.toNat) = true → dmaLit s = true →
           exec (.prefetchRefill t) s = .next (leVotes (each (runs (wanted x))
             (noteBusy (setTq s t.toNat { x with fetching := x.fetching ++ wanted x }))
             (fun s p => hostRead s x.owner (x.base + BitVec.ofNat 64 (32 * p.1)) (32 * p.2))))))
    ∧ (x.chain = none → exec (.chainTimeout t) s = .next s)
    ∧ (∀ c, x.chain = some c →
      (let st := match c.dead with | some d => (if d.1 = 0 then (14, none) else d) | none => (14, none)
       ((epAt s x.ep).bind (·.work) = none → x.next = x.pi → x.stop = none →
           exec (.chainTimeout t) s = .next (goOn (endOpen s t.toNat st.1 st.2) x.ep))
       ∧ ((epAt s x.ep).bind (·.work) = none → (x.next ≠ x.pi ∨ x.stop ≠ none) → exec (.chainTimeout t) s = .next s)
       ∧ (∀ w, (epAt s x.ep).bind (·.work) = some w →
         ((w.idx + 1) % qSize x.log2 = x.pi → x.stop = none → eLast w.e = false → w.inSvc = false → exec (.chainTimeout t) s = .next
           (goOn (endOpen (failWork s x.ep (w.fail.getD (14, none)).1 (w.fail.getD (14, none)).2) t.toNat
             (w.fail.getD (14, none)).1 (w.fail.getD (14, none)).2) x.ep))
         ∧ (((w.idx + 1) % qSize x.log2 ≠ x.pi ∨ x.stop ≠ none ∨ eLast w.e = true ∨ w.inSvc = true) →
           exec (.chainTimeout t) s = .next s))))
    ∧ (x.posts ≠ [] → mayPost s x = true →
        exec (.postDone t) s = .next (noteLists (serve (finishStop (fetch (doPost s t.toNat) t.toNat) t.toNat) t.toNat)))
    ∧ ((x.posts = [] ∨ mayPost s x = false) → exec (.postDone t) s = .next s))
  ∧ (∀ (s : State) (t : BitVec 12), tqAt s t.toNat = none → exec (.pollTick t) s = .next s ∧ exec (.chainTimeout t) s = .next s
     ∧ exec (.postDone t) s = .next s ∧ exec (.prefetchRefill t) s = .next (leVotes s)
     ∧ (∀ idx e, exec (.entryFetchDone t idx e) s = .next s) ∧ (∀ idx n, exec (.entryFetchFail t idx n) s = .next s))

/-- The PI mirror of a CQ: a change that waits is written now, by the head or, from a member, through it, and otherwise the microsecond
ends; a change of a quiesced instance's CQ waits on. Invalidation through TQ_INVAL: GO, with none running, starts it and BUSY
reads 1, on the fields as they are written; its end clears BUSY and shows how many entries were in service, 0 for a number that is no TQ or one that DESTROY_TQ stops, and LE_RANGE for a range that the
queue does not have. -/
def Obligations.MirrorAndInvalidation : Prop :=
  (∀ (s : State) (k : BitVec 10),
     (∀ c a, cqAt s k.toNat = some c → c.mirror = some a → c.mirrorHold = true →
       (let s1 := setCq s k.toNat { c with mirrorDue := false }
        let still := instHeld (instAt s (ownerKey c.owner))
        (c.mirrorDue = false → exec (.piMirrorWrite k) s = .next (setCq s k.toNat { c with mirrorHold := false }))
        ∧ (c.mirrorDue = true → still = true → exec (.piMirrorWrite k) s = .next s)
        ∧ (c.mirrorDue = true → still = false → isMember s1 = false → exec (.piMirrorWrite k) s = .next (hostWrite s1 c.owner a (leBytes 4 (c.pi % 65536))))
        ∧ (c.mirrorDue = true → still = false → isMember s1 = true → exec (.piMirrorWrite k) s = .next
            (sendPost s1 ⟨c.owner, BitVec.ofNat 11 c.q, 0, [], BitVec.ofNat 16 c.pi, some a, none, none⟩))))
     ∧ (∀ c, cqAt s k.toNat = some c → (c.mirror = none ∨ c.mirrorHold = false) → exec (.piMirrorWrite k) s = .next s)
     ∧ (cqAt s k.toNat = none → exec (.piMirrorWrite k) s = .next s))
  ∧ (∀ (s : State) (src : Src) (v : Word), gate s src pLe 0x080 true = .ok →
     (let s1 := writeFields s pLe 0x080 v
      let r := rd s1 (adr pLe 0x084)
      ((bit v 16 = false ∨ s1.que.inval ≠ none) → exec (.tqInvalGo src v) s = .next s1)
      ∧ (bit v 16 = true → s1.que.inval = none → exec (.tqInvalGo src v) s = .next (leVotes (wb { s1 with que := { s1.que with
          inval := some (bits (rd s1 (adr pLe 0x080)) 0 12, bits r 0 16, bits r 16 16) } } pLe TQ_INVAL_BUSY true)))))
  ∧ (∀ s : State,
     (s.que.inval = none → exec .tqInvalDone s = .next s)
     ∧ (∀ t a n, s.que.inval = some (t, a, n) →
       (let s1 := wb { s with que := { s.que with inval := none } } pLe TQ_INVAL_BUSY false
        let shown := fun s k => leVotes (wb (wf s pLe TQ_INVAL_RESULT_IN_SERVICE k) pLe TQ_INVAL_RESULT_DONE true)
        (tqAt s t = none → exec .tqInvalDone s = .next (shown s1 0))
        ∧ (∀ x, tqAt s t = some x →
          (destroying x = true → exec .tqInvalDone s = .next (shown s1 0))
          ∧ (destroying x = false → invalOk x a n = true → exec .tqInvalDone s = .next (shown (invalidate s1 t a n).1 (invalidate s1 t a n).2))
          ∧ (destroying x = false → invalOk x a n = false → exec .tqInvalDone s = .next (shown (err s1 (lePage t) 2) 0))))))

/-! ### Admin commands -/

/-- CREATE_TQ and CREATE_CQ. Here: the lowest free queue number, on a member one that is not in use (log entry 18), and the queue itself,
with the results of R133. For an object of another
chip: the head judges what it knows, the number is drawn, and the command is carried there. Every refusal names its detail. -/
def Obligations.CreateQueues : Prop :=
  ∀ (s : State) (o : Owner) (e : List Word), admPasses s o e false 7 = true →
    (let a := acting o e
     let formTq := queueForm e = true ∧ bits (dw e 4) 6 2 = 0 ∧ bits (dw e 4) 12 4 = 0 ∧ epBad (dw e 5) = false ∧ bits (dw e 6) 11 21 = 0
     let full := queueQuota s a ≤ queuesHeld s a
     (¬ formTq → exec (.createTq o e) s = .next (bad s o e 2))
     ∧ (formTq → epPos (dw e 5) = ownPos s →
       (epAt s (epCtx (dw e 5)) = none → exec (.createTq o e) s = .next (bad s o e 4))
       ∧ (∀ x, epAt s (epCtx (dw e 5)) = some x →
         (a ≠ .mgr → a ≠ x.owner → exec (.createTq o e) s = .next (bad s o e 5))
         ∧ ((a = .mgr ∨ a = x.owner) →
           (cqOf s a (bits (dw e 6) 0 11) = none →
             (refAt s a (bits (dw e 6) 0 11) = none → exec (.createTq o e) s = .next (bad s o e 4))
             ∧ (∀ r, refAt s a (bits (dw e 6) 0 11) = some r → exec (.createTq o e) s = .next (bad s o e (if r.isCq then 13 else 4))))
           ∧ (∀ k c, cqOf s a (bits (dw e 6) 0 11) = some (k, c) →
             (x.tq ≠ none → exec (.createTq o e) s = .next (bad s o e 6))
             ∧ (x.tq = none → (full ∨ freeQueue s a = none ∨ tabFree s.que.tqs 4096 0 = none) → exec (.createTq o e) s = .next (bad s o e 7))
             ∧ (∀ q t, x.tq = none → ¬ full → freeQueue s a = some q → tabFree s.que.tqs 4096 0 = some t →
                exec (.createTq o e) s = .next (good (updEp (setRef (setTq (drawn s) t (newTq a q e k)) (refKey a q)
                  (newRef false (ownPos s) t (bits (dw e 4) 0 5))) (epCtx (dw e 5)) (fun x => { x with tq := some t })) o e
                  (q + t * 2 ^ 16) 0))))))
     ∧ (formTq → epPos (dw e 5) ≠ ownPos s →
       (reachable s (epPos (dw e 5)) = false → exec (.createTq o e) s = .next (bad s o e 12))
       ∧ (reachable s (epPos (dw e 5)) = true → farAt s (dw e 5) = none → exec (.createTq o e) s = .next (bad s o e 4))
       ∧ (∀ x, reachable s (epPos (dw e 5)) = true → farAt s (dw e 5) = some x →
         (a ≠ .mgr → a ≠ x.ep.owner → exec (.createTq o e) s = .next (bad s o e 5))
         ∧ ((a = .mgr ∨ a = x.ep.owner) →
           (refAt s a (bits (dw e 6) 0 11) = none → exec (.createTq o e) s = .next (bad s o e 4))
           ∧ (∀ r, refAt s a (bits (dw e 6) 0 11) = some r →
             (r.isCq = false → exec (.createTq o e) s = .next (bad s o e 4))
             ∧ (r.isCq = true → r.pos ≠ epPos (dw e 5) → exec (.createTq o e) s = .next (bad s o e 13))
             ∧ (r.isCq = true → r.pos = epPos (dw e 5) →
               (x.ep.tq ≠ none → exec (.createTq o e) s = .next (bad s o e 6))
               ∧ (x.ep.tq = none → (full ∨ freeQueue s a = none) → exec (.createTq o e) s = .next (bad s o e 7))
               ∧ (∀ q, x.ep.tq = none → ¬ full → freeQueue s a = some q → exec (.createTq o e) s = .next
                   (elsewhere s o e (epPos (dw e 5)) (fun w => BitVec.ofNat 32 (q + bits w 16 12 * 2 ^ 16)) (fun s r0 =>
                     updFar (setRef s (refKey a q) (newRef false (epPos (dw e 5)) (bits r0 16 12) (bits (dw e 4) 0 5))) (dw e 5)
                       (fun x => { x with tq := some (bits r0 16 12) }))))))))))
    ∧ (let a := acting o e
       let pos := bits (dw e 4) 16 6
       let formCq := queueForm e = true ∧ bit (dw e 4) 7 = false ∧ bits (dw e 4) 22 10 = 0 ∧ (a ≠ .mgr → bits (dw e 4) 8 8 ≤ 63)
         ∧ (bit (dw e 4) 5 = true → bits (dw e 5) 0 2 = 0)
       let full := queueQuota s a ≤ queuesHeld s a
       (¬ formCq → exec (.createCq o e) s = .next (bad s o e 2))
       ∧ (formCq → pos = ownPos s → (full ∨ freeQueue s a = none ∨ tabFree s.que.cqs 1024 0 = none) →
           exec (.createCq o e) s = .next (bad s o e 7))
       ∧ (∀ q k, formCq → pos = ownPos s → ¬ full → freeQueue s a = some q → tabFree s.que.cqs 1024 0 = some k →
           exec (.createCq o e) s = .next (good (setRef (setCq (drawn s) k (newCq a q e)) (refKey a q)
             (newRef true pos k (bits (dw e 4) 0 5))) o e q 0))
       ∧ (formCq → pos ≠ ownPos s → reachable s pos = false → exec (.createCq o e) s = .next (bad s o e 12))
       ∧ (formCq → pos ≠ ownPos s → reachable s pos = true → (full ∨ freeQueue s a = none) → exec (.createCq o e) s = .next (bad s o e 7))
       ∧ (∀ q, formCq → pos ≠ ownPos s → reachable s pos = true → ¬ full → freeQueue s a = some q → exec (.createCq o e) s = .next
           (elsewhere s o e pos (fun _ => BitVec.ofNat 32 q) (fun s _ => setRef s (refKey a q) (newRef true pos 0 (bits (dw e 4) 0 5))))))

/-- The other commands on a queue. Here: a stop begins for DESTROY_TQ and RESET_TQ, unless a command stops the TQ already, INVALIDATE_TQ
answers the entries in service, or NOT_FOUND while DESTROY_TQ stops the TQ, and DESTROY_CQ frees a CQ that no TQ posts to. On another chip:
the command is carried to the queue's home; DESTROY_TQ and RESET_TQ wait for its answer. A number that is no such queue is NOT_FOUND. -/
def Obligations.QueueCommands : Prop :=
  (∀ (s : State) (o : Owner) (e : List Word) (n : Nat) (isCq : Bool) (c : Instr),
     (n, isCq, c) ∈ [(3, false, .destroyTq o e), (3, false, .resetTq o e), (4, false, .invalidateTq o e), (3, true, .destroyCq o e)] →
     admPasses s o e false n = true →
     (let a := acting o e
      let q := bits (dw e 2) 0 11
      (bits (dw e 2) 11 21 ≠ 0 → exec c s = .next (bad s o e 2))
      ∧ (bits (dw e 2) 11 21 = 0 → (isCq = false → tqOf s a q = none) → (isCq = true → cqOf s a q = none) →
        (refAt s a q = none → exec c s = .next (bad s o e 4))
        ∧ (∀ r, refAt s a q = some r →
          ((r.isCq ≠ isCq ∨ r.pos = ownPos s) → exec c s = .next (bad s o e 4))
          ∧ (r.isCq = isCq → r.pos ≠ ownPos s → reachable s r.pos = false → exec c s = .next (bad s o e 12))
          ∧ (r.isCq = isCq → r.pos ≠ ownPos s → reachable s r.pos = true →
            ((c = .destroyTq o e ∨ c = .resetTq o e) → exec c s = .next (waitFar s o e r.pos))
            ∧ (c = .invalidateTq o e → exec c s = .next (elsewhere s o e r.pos (fun w => BitVec.ofNat 32 (bits w 0 16)) (fun s _ => s)))
            ∧ (c = .destroyCq o e → exec c s = .next (elsewhere s o e r.pos id (fun s _ => dropRef s a q))))))))
  ∧ (∀ (s : State) (o : Owner) (e : List Word), bits (dw e 2) 11 21 = 0 →
     (let a := acting o e
      let q := bits (dw e 2) 0 11
      (∀ t x, admPasses s o e false 3 = true → tqOf s a q = some (t, x) →
        ((∀ p d, x.stop ≠ some (.destroy p d)) → (∀ p d, x.stop ≠ some (.reset p d)) →
          exec (.destroyTq o e) s = .next (stopTq s t (.destroy o e)) ∧ exec (.resetTq o e) s = .next (stopTq s t (.reset o e)))
        ∧ (∀ p d, (x.stop = some (.destroy p d) ∨ x.stop = some (.reset p d)) →
          exec (.destroyTq o e) s = .next s ∧ exec (.resetTq o e) s = .next s))
      ∧ (∀ t x, admPasses s o e false 4 = true → tqOf s a q = some (t, x) →
        (let start := bits (dw e 3) 0 16
         let n := bits (dw e 3) 16 16
         (destroying x = true → exec (.invalidateTq o e) s = .next (bad s o e 4))
         ∧ (destroying x = false → invalOk x start n = false → exec (.invalidateTq o e) s = .next (bad s o e 2))
         ∧ (destroying x = false → invalOk x start n = true → exec (.invalidateTq o e) s = .next
             (good (invalidate s t start n).1 o e (invalidate s t start n).2 0))))
      ∧ (∀ k c, admPasses s o e false 3 = true → cqOf s a q = some (k, c) →
        (s.que.tqs.any (fun t => t.2.cq == k) = true → exec (.destroyCq o e) s = .next (bad s o e 6))
        ∧ (s.que.tqs.any (fun t => t.2.cq == k) = false → exec (.destroyCq o e) s = .next
            (good (dropRef { s with que := { s.que with cqs := tabDel s.que.cqs k } } a q) o e 0 0)))))

/-- Commands on an endpoint. Here: BIND makes the context, of a new device with the lowest free handle or of one bound already, UNBIND frees a
context without a TQ, RESERVE_BW that is granted records the reservation, RELEASE_BW withdraws it. On another chip the head judges what it
knows and carries the command there. Every refusal names its detail. -/
def Obligations.EndpointCommands : Prop :=
  (∀ (s : State) (o : Owner) (e : List Word), admPasses s o e false 6 = true →
     (let p := gpPort (dw e 2)
      let full := epQuota s (acting o e) ≤ epsHeld s (acting o e)
      (bindForm e = false → exec (.bindEndpoint o e) s = .next (bad s o e 2))
      ∧ (bindForm e = true → gpPos (dw e 2) = ownPos s →
        (mayPort s o e p = false → exec (.bindEndpoint o e) s = .next (bad s o e 5))
        ∧ (mayPort s o e p = true → bindFits s p e = false → exec (.bindEndpoint o e) s = .next (bad s o e 2))
        ∧ (mayPort s o e p = true → bindFits s p e = true → bNew e = true →
          (let taken := (devsOn s p).any (fun h => (devAt s h).any (fun d => d.addr.toNat == bAddr e)) = true
           (taken → exec (.bindEndpoint o e) s = .next (bad s o e 2))
           ∧ (¬ taken → (full ∨ tabFree s.ctx.devs 2048 0 = none) → exec (.bindEndpoint o e) s = .next (bad s o e 7))
           ∧ (∀ h, ¬ taken → ¬ full → tabFree s.ctx.devs 2048 0 = some h → exec (.bindEndpoint o e) s = .next (bindMake s o e p h))))
        ∧ (mayPort s o e p = true → bindFits s p e = true → bNew e = false →
          (devAt s (bHandle e) = none → exec (.bindEndpoint o e) s = .next (bad s o e 4))
          ∧ (∀ d, devAt s (bHandle e) = some d →
            (let same := d.addr.toNat = bAddr e ∧ d.route = bRoute e ∧ d.speed = bSpeed e
             (d.port ≠ p → exec (.bindEndpoint o e) s = .next (bad s o e 4))
             ∧ (d.port = p → (¬ same ∨ numTaken s (bHandle e) e = true) → exec (.bindEndpoint o e) s = .next (bad s o e 2))
             ∧ (d.port = p → same → numTaken s (bHandle e) e = false → full → exec (.bindEndpoint o e) s = .next (bad s o e 7))
             ∧ (d.port = p → same → numTaken s (bHandle e) e = false → ¬ full →
                 exec (.bindEndpoint o e) s = .next (bindMake s o e p (bHandle e)))))))
      ∧ (bindForm e = true → gpPos (dw e 2) ≠ ownPos s →
        (reachable s (gpPos (dw e 2)) = false → exec (.bindEndpoint o e) s = .next (bad s o e 12))
        ∧ (reachable s (gpPos (dw e 2)) = true → full → exec (.bindEndpoint o e) s = .next (bad s o e 7))
        ∧ (reachable s (gpPos (dw e 2)) = true → ¬ full → exec (.bindEndpoint o e) s = .next (elsewhere s o e (gpPos (dw e 2))
            (fun w => BitVec.ofNat 32 (bits w 0 13 + (if bNew e then bits w 16 11 else bHandle e) * 2 ^ 16))
            (fun s r0 => setFar s (gpPos (dw e 2) * 8192 + bits r0 0 13) ⟨newEp (acting o e) (bits r0 16 11) 0 e, newDev (acting o e) p e⟩))))))
  ∧ (∀ (s : State) (o : Owner) (e : List Word) (c : Nat) (b : Nat),
     ((allocBuf s.ctx (bCls e) = none ∨ tabFree s.ctx.eps 8192 0 = none) → ∀ p h, bindMake s o e p h = bad s o e 7)
     ∧ (∀ x p h, allocBuf s.ctx (bCls e) = some (b, x) → tabFree s.ctx.eps 8192 0 = some c → bindMake s o e p h =
         (let s1 : State := { s with ctx := x }
          good (noteFree (setEp (if bNew e then setDev s1 h (newDev (acting o e) p e) else s1) c (newEp (acting o e) h b e))) o e
            (c + h * 2 ^ 16) 0)))
  ∧ (∀ (s : State) (o : Owner) (e : List Word) (n : Nat) (i : Instr),
     (n, i) ∈ [(3, .unbindEndpoint o e), (3, .releaseBw o e), (4, .reserveBw o e)] → admPasses s o e false n = true →
     (let w := dw e 2
      let a := acting o e
      (epBad w = true → exec i s = .next (bad s o e 2))
      ∧ (epBad w = false → epPos w = ownPos s →
        (epAt s (epCtx w) = none → exec i s = .next (bad s o e 4))
        ∧ (∀ x, epAt s (epCtx w) = some x → a ≠ .mgr → a ≠ x.owner → exec i s = .next (bad s o e 5)))
      ∧ (epBad w = false → epPos w ≠ ownPos s →
        (reachable s (epPos w) = false → exec i s = .next (bad s o e 12))
        ∧ (reachable s (epPos w) = true → farAt s w = none → exec i s = .next (bad s o e 4))
        ∧ (∀ x, reachable s (epPos w) = true → farAt s w = some x → a ≠ .mgr → a ≠ x.ep.owner → exec i s = .next (bad s o e 5)))))
  ∧ (∀ (s : State) (o : Owner) (e : List Word), epBad (dw e 2) = false →
     (let w := dw e 2
      let a := acting o e
      let bytes := bits (dw e 3) 0 16
      let phase := bits (dw e 3) 16 16
      (∀ x, epPos w = ownPos s → epAt s (epCtx w) = some x → (a = .mgr ∨ a = x.owner) →
        (admPasses s o e false 3 = true →
          (x.tq = none → exec (.unbindEndpoint o e) s = .next (good (unbind s (epCtx w)) o e 0 0))
          ∧ (x.tq ≠ none → exec (.unbindEndpoint o e) s = .next (bad s o e 6))
          ∧ exec (.releaseBw o e) s = .next (good (releaseRsv s (epCtx w)) o e 0 0))
        ∧ (admPasses s o e false 4 = true →
          (reserveBad (slowDev s x) x bytes phase = true → exec (.reserveBw o e) s = .next (bad s o e 2))
          ∧ (reserveBad (slowDev s x) x bytes phase = false → wheelBase s = 0 → exec (.reserveBw o e) s = .next (noBw s o e 11))
          ∧ (reserveBad (slowDev s x) x bytes phase = false → wheelBase s ≠ 0 →
            (∀ d, grant s x bytes phase (admitted s (epCtx w)) = .error d → exec (.reserveBw o e) s = .next (noBw s o e d))
            ∧ (∀ p, grant s x bytes phase (admitted s (epCtx w)) = .ok p → ∃ t, exec (.reserveBw o e) s = .next
                (good t o e p (portBudget (portKind s x) - worstLoad s ⟨x, bytes, p⟩ (admitted s (epCtx w))))
                ∧ (∃ y, epAt t (epCtx w) = some y ∧ y.rsv = some ⟨bytes, p, ufAdd (lastOpen s) 1, none⟩ ∧ y.cohort = x.cohort)))))
      ∧ (∀ x, epPos w ≠ ownPos s → reachable s (epPos w) = true → farAt s w = some x → (a = .mgr ∨ a = x.ep.owner) →
        (admPasses s o e false 3 = true →
          (x.ep.tq = none → exec (.unbindEndpoint o e) s = .next (elsewhere s o e (epPos w) id (fun s _ =>
            { s with ctx := { s.ctx with far := tabDel s.ctx.far (farKey w) } })))
          ∧ (x.ep.tq ≠ none → exec (.unbindEndpoint o e) s = .next (bad s o e 6))
          ∧ exec (.releaseBw o e) s = .next (elsewhere s o e (epPos w) id (fun s _ =>
              updFar s w (fun y => { y with rsv := none, cohort := none }))))
        ∧ (admPasses s o e false 4 = true →
          (let slow := decide (x.dev.speed < 2)
           let ps := (if phase = 0xFFFF then (List.range (2 ^ x.ep.log2i)).filter (fun p => !slow || p % 8 == 0) else [phase]).filter (fun p =>
             linksHold s (farKey w) (epPos w) ⟨x.ep, bytes, p⟩)
           let s1 := forwardCmd s (epPos w) o e
           let v := freeNow s1
           let s2 := freeStep (freeStep s1)
           let p := ps.getD (bits v 8 24 % ps.length) 0
           (reserveBad slow x.ep bytes phase = true → exec (.reserveBw o e) s = .next (bad s o e 2))
           ∧ (reserveBad slow x.ep bytes phase = false → ps ≠ [] → bit v 0 = false → exec (.reserveBw o e) s = .next
               (good (updFar s2 w (fun y => { y with rsv := some ⟨bytes, p, 0, none⟩ })) o e p (bits (freeNow (freeStep s1)) 0 24)))
           ∧ (reserveBad slow x.ep bytes phase = false → (ps = [] ∨ bit v 0 = true) →
               (bits v 1 2 = 0 → exec (.reserveBw o e) s = .next (noBw s2 o e 9))
               ∧ (bits v 1 2 = 1 → exec (.reserveBw o e) s = .next (noBw s2 o e (if x.dev.ttHub = 0 then 9 else 10)))
               ∧ (2 ≤ bits v 1 2 → exec (.reserveBw o e) s = .next (noBw s2 o e 11))))))))

/-- SET_PORT, in each of its forms. On a port of this chip, when the form, the owner and the state allow it: the owner first, then the
action, then SUCCESS. A RESET in RESUMING waits for the end of the resume, and a RESUME there changes nothing. On another chip the command is
carried there; every refusal names its detail, and a command with another ACTION changes nothing. -/
def Obligations.SetPort : Prop :=
  (∀ (s : State) (o : Owner) (e : List Word) (c : Instr) (mine : Bool),
     (c, mine) ∈ [(.setPortPowerOn o e, pAction e == 1), (.setPortPowerOff o e, pAction e == 2), (.setPortReset o e, pAction e == 3),
       (.setPortDisable o e, pAction e == 4), (.setPortSuspend o e, pAction e == 5), (.setPortResume o e, pAction e == 6),
       (.setPortSetLpm o e, pAction e == 7), (.setPortTest o e, pAction e == 8),
       (.setPortSetOwner o e, pSetOwner e && (pAction e == 0 || decide (8 < pAction e))),
       (.setPortNoOwner o e, !pSetOwner e && (pAction e == 0 || decide (8 < pAction e)))] →
     (mine = false → exec c s = .next s)
     ∧ (mine = true → admPasses s o e false 5 = true →
       (let p := gpPort (dw e 2)
        let own := (pSetOwner e || pNoOwner e) = true
        (setPortForm e = false → exec c s = .next (bad s o e 2))
        ∧ (setPortForm e = true → own → o ≠ .mgr → exec c s = .next (bad s o e 3))
        ∧ (setPortForm e = true → (own → o = .mgr) → gpPos (dw e 2) ≠ ownPos s →
          (reachable s (gpPos (dw e 2)) = false → exec c s = .next (bad s o e 12))
          ∧ (reachable s (gpPos (dw e 2)) = true → exec c s = .next (elsewhere s o e (gpPos (dw e 2)) id (fun s _ => s))))
        ∧ (setPortForm e = true → (own → o = .mgr) → gpPos (dw e 2) = ownPos s →
          (mayPort s o e p = false → exec c s = .next (bad s o e 5))
          ∧ (mayPort s o e p = true → actionOk s p (pAction e) = false → exec c s = .next (bad s o e 8))
          ∧ (mayPort s o e p = true → actionOk s p (pAction e) = true → newOwner s p e ≠ portOwner s p → devsOn s p ≠ [] →
              exec c s = .next (bad s o e 8))))))
  ∧ (∀ (s : State) (o : Owner) (e : List Word), admPasses s o e false 5 = true → setPortForm e = true →
     ((pSetOwner e || pNoOwner e) = true → o = .mgr) → gpPos (dw e 2) = ownPos s →
     mayPort s o e (gpPort (dw e 2)) = true → actionOk s (gpPort (dw e 2)) (pAction e) = true →
     (newOwner s (gpPort (dw e 2)) e = portOwner s (gpPort (dw e 2)) ∨ devsOn s (gpPort (dw e 2)) = []) →
     (let p := gpPort (dw e 2)
      let s1 := ownPort s p (newOwner s p e)
      (pAction e = 1 → exec (.setPortPowerOn o e) s = .next (good (powerOn s1 p) o e 0 0))
      ∧ (pAction e = 2 → exec (.setPortPowerOff o e) s = .next (good (portOff s1 p none) o e 0 0))
      ∧ (pAction e = 3 → portState s1 p ≠ 6 → exec (.setPortReset o e) s = .next (good (startReset s1 p (bit (dw e 4) 0)) o e 0 0))
      ∧ (pAction e = 3 → portState s1 p = 6 → exec (.setPortReset o e) s = .next
          (good (setPort s1 p { portAt s1 p with resetWaits := some (dw e 4) }) o e 0 0))
      ∧ (pAction e = 4 → exec (.setPortDisable o e) s = .next (good (disablePort s1 p none) o e 0 0))
      ∧ (pAction e = 5 → exec (.setPortSuspend o e) s = .next (good (suspendPort s1 p) o e 0 0))
      ∧ (pAction e = 6 → portState s1 p = 4 → exec (.setPortResume o e) s = .next (good (startResume s1 p false) o e 0 0))
      ∧ (pAction e = 6 → portState s1 p ≠ 4 → exec (.setPortResume o e) s = .next (good s1 o e 0 0))
      ∧ (pAction e = 7 → exec (.setPortSetLpm o e) s = .next (good (wr s1 (adr (cluPage p) (0x084 + p % 8 * 0x10)) (dw e 4)) o e 0 0))
      ∧ (pAction e = 8 → exec (.setPortTest o e) s = .next
          (good (emit (noteLink (pwf s1 p PRT_STATE_TEST 1) p) (.portTest p (bits (dw e 4) 0 3))) o e 0 0))
      ∧ (pAction e = 0 → pSetOwner e = true → exec (.setPortSetOwner o e) s = .next (good (ownPort s p (.inst (pOwner e))) o e 0 0))
      ∧ (pAction e = 0 → pSetOwner e = false → pNoOwner e = true → exec (.setPortNoOwner o e) s = .next (good (ownPort s p .mgr) o e 0 0))
      ∧ (pAction e = 0 → pSetOwner e = false → pNoOwner e = false → exec (.setPortNoOwner o e) s = .next (good s1 o e 0 0))))

/-- The commands that only look, and the votes, in each of their forms: GET_PORT answers from the port, GET_TOPOLOGY writes a record for each
device that there is room for and answers how many, SET_VOTE allocates a slot, the lowest free one for 63, and casts, CLEAR_VOTE withdraws
and frees. On another chip they are carried there; every refusal names its detail. -/
def Obligations.PortQueries : Prop :=
  (∀ (s : State) (o : Owner) (e : List Word) (m : Bool) (n pos : Nat) (form : Bool) (c : Instr),
     (n, m, pos, form, c) ∈ [
       (3, false, gpPos (dw e 2), bits (dw e 2) 15 17 == 0, .getPort o e),
       (6, false, gpPos (dw e 2), bits (dw e 2) 15 17 == 0 && bits (dw e 5) 16 16 == 0 && bits (dw e 5) 0 16 % 16 == 0, .getTopology o e),
       (4, true, bits (dw e 2) 8 6, bits (dw e 2) 14 18 == 0 && bits (dw e 3) 6 26 == 0 && domOk (bits (dw e 2) 0 8)
         && (decide (bits (dw e 3) 0 6 ≤ 31) || bits (dw e 3) 0 6 == 63), .setVote o e),
       (4, true, bits (dw e 2) 8 6, bits (dw e 2) 14 18 == 0 && bits (dw e 3) 6 26 == 0 && domOk (bits (dw e 2) 0 8)
         && decide (bits (dw e 3) 0 6 ≤ 31), .clearVote o e)] → admPasses s o e m n = true →
     (form = false → exec c s = .next (bad s o e 2))
     ∧ (form = true → pos ≠ ownPos s → reachable s pos = false → exec c s = .next (bad s o e 12))
     ∧ (form = true → pos ≠ ownPos s → reachable s pos = true → exec c s = .next (elsewhere s o e pos id (fun s _ => s)))
     ∧ (form = true → pos = ownPos s → m = false → mayPort s o e (gpPort (dw e 2)) = false → exec c s = .next (bad s o e 5)))
  ∧ (∀ (s : State) (o : Owner) (e : List Word),
     (let p := gpPort (dw e 2)
      let hs := devsOn s p
      let len := bits (dw e 5) 0 16
      (admPasses s o e false 3 = true → bits (dw e 2) 15 17 = 0 → gpPos (dw e 2) = ownPos s → mayPort s o e p = true →
        exec (.getPort o e) s = .next (good s o e (rd s (adr (cluPage p) (0x080 + p % 8 * 0x10))).toNat
          (prf s p PRT_STATE_OWNER + prf s p PRT_STATE_OWNED * 2 ^ 10 + hs.length * 2 ^ 16)))
      ∧ (admPasses s o e false 6 = true → bits (dw e 2) 15 17 = 0 → bits (dw e 5) 16 16 = 0 → len % 16 = 0 →
        gpPos (dw e 2) = ownPos s → mayPort s o e p = true →
        ((hs = [] ∨ len = 0) → exec (.getTopology o e) s = .next (good s o e (b2n (decide (0 < hs.length)) * 2 ^ 16) 0))
        ∧ (hs ≠ [] → len ≠ 0 → exec (.getTopology o e) s = .next
            (good (hostWrite s o (join64 (dw e 3) (dw e 4)) (wordBytes ((hs.take (len / 16)).flatMap (topoRecord s)))) o e
              (min (len / 16) hs.length + b2n (decide (len / 16 < hs.length)) * 2 ^ 16) 0)))))
  ∧ (∀ (s : State) (o : Owner) (e : List Word), admPasses s o e true 4 = true → bits (dw e 2) 14 18 = 0 → bits (dw e 3) 6 26 = 0 →
     domOk (bits (dw e 2) 0 8) = true → bits (dw e 2) 8 6 = ownPos s →
     (let d := bits (dw e 2) 0 8
      let n := bits (dw e 3) 0 6
      let taken := fun k => good (castSw (setDom s d { domAt s d with alloc := (domAt s d).alloc ||| bitW k }) d (bitW k)) o e k 0
      (n ≤ 31 → bit (domAt s d).alloc n = false → exec (.setVote o e) s = .next (taken n))
      ∧ (n ≤ 31 → bit (domAt s d).alloc n = true → exec (.setVote o e) s = .next (bad s o e 6))
      ∧ (∀ k, n = 63 → k ≤ 31 → bit (domAt s d).alloc k = false → (∀ j, j < k → bit (domAt s d).alloc j = true) →
          exec (.setVote o e) s = .next (taken k))
      ∧ (n = 63 → (∀ j, j ≤ 31 → bit (domAt s d).alloc j = true) → exec (.setVote o e) s = .next (bad s o e 7))
      ∧ (n ≤ 31 → bit (domAt s d).alloc n = true → ∃ t, exec (.clearVote o e) s = .next (good t o e 0 0)
           ∧ bit (domAt t d).alloc n = false ∧ bit (domAt t d).sw n = false ∧ t.que = s.que ∧ t.ebm = s.ebm)
      ∧ (n ≤ 31 → bit (domAt s d).alloc n = false → exec (.clearVote o e) s = .next (bad s o e 4))))

/-- Quiesce, resume and the dirty log of an instance. QUIESCE begins on an ACTIVE instance, on a member on one that the head has not
quiesced there, and is told to the other homes of its TQs; RESUME lets go of what was held, in the order in which it was held;
SWAP_DIRTY_LOG hands over the old log's marks and starts the new one. Without a target, or in another state, they are refused. -/
def Obligations.InstanceCommands : Prop :=
  ∀ (s : State) (o : Owner) (e : List Word),
    (let t := aTarget e
     let n := t.toNat
     let i := instAt s n
     let addr := join64 (dw e 2) (dw e 3)
     let old := match i.dirty with | some (b, _) => b | none => 0
     (aBehalf e = false →
       (admPasses s o e true 2 = true → exec (.quiesceInstance o e) s = .next (bad s o e 2) ∧ exec (.resumeInstance o e) s = .next (bad s o e 2))
       ∧ (admPasses s o e true 5 = true → exec (.swapDirtyLog o e) s = .next (bad s o e 2)))
     ∧ (aBehalf e = true → admPasses s o e true 2 = true →
       (phaseHere s i = 1 → exec (.quiesceInstance o e) s = .next (tellHomes (quiesceTqs
         (setInst s n (setPhase s { i with quiesce := some (o, e, postedEntries s (.inst t)) } 2)) (.inst t)) (.inst t) o e))
       ∧ (phaseHere s i ≠ 1 → exec (.quiesceInstance o e) s = .next (bad s o e 8))
       ∧ (phaseHere s i ≠ 3 → exec (.resumeInstance o e) s = .next (bad s o e 8))
       ∧ (phaseHere s i = 3 →
         (let s1 := untilPoll (tellHomes (setInst s n (setPhase s i 1)) (.inst t) o e) (.inst t)
          exec (.resumeInstance o e) s = .next
            (good (msixFlush (mirrorsDue (lateDrain (drainHeld s1 (tqsOf s1 (.inst t))) (.inst t)) (.inst t)) (.inst t)) o e 0 0))))
     ∧ (isMember s = false → phaseHere s i = i.state ∧ ∀ v, setPhase s i v = { i with state := v })
     ∧ (isMember s = true → phaseHere s i = (if i.away = 0 then 1 else i.away)
         ∧ ∀ v, setPhase s i v = { i with away := if v = 1 then 0 else v })
     ∧ (aBehalf e = true → admPasses s o e true 5 = true →
       (swapForm addr (dw e 4).toNat = false → exec (.swapDirtyLog o e) s = .next (bad s o e 2))
       ∧ (swapForm addr (dw e 4).toNat = true → (i.state = 0 ∨ i.state = 4) → exec (.swapDirtyLog o e) s = .next (bad s o e 8))
       ∧ (swapForm addr (dw e 4).toNat = true → i.state ≠ 0 → i.state ≠ 4 → exec (.swapDirtyLog o e) s = .next
           (good (setInst (emits s (dirtyOuts s.mgt.rid old i.marks)) n { i with
             dirty := if addr = 0 then none else some (addr, (dw e 4).toNat), marks := [], dirtyOvf := false }) o e
             ((lo32 old).toNat / 4096 * 4096 + b2n i.dirtyOvf) (hi32 old).toNat))))

/-- The update stages. On the admin path a stage acts on this chip's own store and answers with its status, or waits for the chip that it
names; RECOVERY serves its own chip alone, and a page that is off answers STATE (log entry 104). On the register path GO, where the page is
on, runs the stage that OP names and shows its status; NVM_UPD_DATA writes at the offset, which advances, or is dropped with its reason; keys
are revoked for good. BEGIN opens the session on the slot that is not running, which becomes WRITING, WRITE puts the bytes there, VERIFY makes
the slot VERIFIED and ends the session or names why not, ACTIVATE starts the trial and the restart, or finds the image's key revoked, CONFIRM
ends the trial; each is refused with STATE in VAULT, and where its slot or the session is in another state. -/
def Obligations.UpdateStages : Prop :=
  (∀ (s : State) (o : Owner) (e : List Word) (n : Nat) (c : Instr) (d : List Byte),
     (n, c) ∈ [(4, .updateBegin o e), (7, .updateWrite o e d), (3, .updateVerify o e), (3, .updateActivate o e), (3, .updateConfirm o e)] →
     admPasses s o e true n = true →
     (let pos := bits (dw e 2) 0 6
      let len := (dw e 6).toNat
      (bits (dw e 2) 6 26 ≠ 0 → exec c s = .next (bad s o e 2))
      ∧ (bits (dw e 2) 6 26 = 0 → mode s = 6 → pos ≠ ownPos s → exec c s = .next (bad s o e 8))
      ∧ (bits (dw e 2) 6 26 = 0 → mode s ≠ 6 → pos ≠ ownPos s → exec c s = .next (waitFar s o e pos))
      ∧ (bits (dw e 2) 6 26 = 0 → pos = ownPos s → pageOn s pNvm = false → exec c s = .next (bad s o e 8))
      ∧ (bits (dw e 2) 6 26 = 0 → pos = ownPos s → pageOn s pNvm = true →
        (c = .updateBegin o e → exec c s = .next (updDone o e (updBegin s false (dw e 3).toNat)))
        ∧ (c = .updateWrite o e d →
          ((len < 4 ∨ 65536 < len ∨ len % 4 ≠ 0 ∨ d.length ≠ len) → exec c s = .next (updDone o e (.field, s)))
          ∧ (4 ≤ len → len ≤ 65536 → len % 4 = 0 → d.length = len → exec c s = .next (updDone o e
              (updWrite (hostRead s o (join64 (dw e 4) (dw e 5)) len) false (dw e 3).toNat d))))
        ∧ (c = .updateVerify o e → exec c s = .next (updDone o e (updVerify s false)))
        ∧ (c = .updateActivate o e → exec c s = .next (updDone o e (updActivate s false)))
        ∧ (c = .updateConfirm o e → exec c s = .next (updDone o e (updConfirm s false))))))
  ∧ (∀ (s : State) (src : Src),
     (gate s src pNvm 0x05C true = .ok → pageOn s pNvm = true → locked s pNvm = false →
       (let set := fun v => writeFields s pNvm 0x05C v
        exec (.nvmUpdBegin src) s = .next (updShow (updBegin (set 0x9) true (rf s pNvm NVM_UPD_LEN_LENGTH)))
        ∧ exec (.nvmUpdVerify src) s = .next (updShow (updVerify (set 0xA) true))
        ∧ exec (.nvmUpdActivate src) s = .next (updShow (updActivate (set 0xB) true))
        ∧ exec (.nvmUpdConfirm src) s = .next (updShow (updConfirm (set 0xC) true))))
     ∧ (gate s src pNvm 0x05C true = .ok → ∀ v c, (v, c) ∈ [(0x9, .nvmUpdBegin src), (0xA, .nvmUpdVerify src), (0xB, .nvmUpdActivate src),
         (0xC, .nvmUpdConfirm src)] → exec c s = .next (if pageOn s pNvm = true then updOp (writeFields s pNvm 0x05C v)
           else writeFields s pNvm 0x05C v))
     ∧ (∀ v, gate s src pNvm 0x068 true = .ok →
       (pageOn s pNvm = false → exec (.nvmUpdData src v) s = .next s)
       ∧ (pageOn s pNvm = true →
         (∀ len, s.nvm.session = some (true, len) → mode s ≠ 7 → 4 * rf s pNvm NVM_UPD_OFFSET_OFFSET + 4 ≤ len →
           ∃ t, exec (.nvmUpdData src v) s = .next t
             ∧ rf t pNvm NVM_UPD_OFFSET_OFFSET = (rf s pNvm NVM_UPD_OFFSET_OFFSET + 1) % 2 ^ NVM_UPD_OFFSET_OFFSET.w
             ∧ (∀ k, k < 4 → memGet (slotAt t.nvm (target s)).bytes (4 * rf s pNvm NVM_UPD_OFFSET_OFFSET + k) = (leBytes 4 v.toNat).getD k 0)
             ∧ (∀ a, (a < 4 * rf s pNvm NVM_UPD_OFFSET_OFFSET ∨ 4 * rf s pNvm NVM_UPD_OFFSET_OFFSET + 4 ≤ a) →
                 memGet (slotAt t.nvm (target s)).bytes a = memGet (slotAt s.nvm (target s)).bytes a)
             ∧ slotAt t.nvm (booted s) = slotAt s.nvm (booted s) ∧ t.ebm = s.ebm ∧ t.out = s.out)
         ∧ (∀ len, s.nvm.session = some (true, len) → mode s ≠ 7 → len < 4 * rf s pNvm NVM_UPD_OFFSET_OFFSET + 4 →
             exec (.nvmUpdData src v) s = .next (wf s pNvm NVM_UPD_CTRL_REASON 3))
         ∧ ((s.nvm.session = none ∨ (mode s = 7 ∧ ∃ len, s.nvm.session = some (true, len))) →
             exec (.nvmUpdData src v) s = .next (wf s pNvm NVM_UPD_CTRL_REASON 8))
         ∧ (∀ len, s.nvm.session = some (false, len) →
             exec (.nvmUpdData src v) s = .next (wf (wf s pNvm NVM_UPD_CTRL_STATUS 8) pNvm NVM_UPD_CTRL_REASON 8))))
     ∧ (∀ keys, gate s src pNvm 0x058 true = .ok →
       (pageOn s pNvm = false → exec (.keyRevoke src keys) s = .next s)
       ∧ (pageOn s pNvm = true → ∃ t, exec (.keyRevoke src keys) s = .next t
           ∧ rf t pNvm NVM_MIN_SECVER_KEY_REVOKED = Nat.lor (rf s pNvm NVM_MIN_SECVER_KEY_REVOKED) keys.toNat
           ∧ t.nvm = s.nvm ∧ t.ebm = s.ebm ∧ t.out = s.out)))
  ∧ (∀ (s : State) (reg : Bool),
     (let r := bootRec s.nvm
      let tgt := target s
      let x := slotAt s.nvm tgt
      let revoked := x.factory = false ∧ rf s pNvm NVM_MIN_SECVER_KEY_REVOKED / 2 ^ imgNum x.bytes 10 1 % 2 = 1
      (∀ len, (mode s = 7 ∨ r.stA = 3 ∨ r.stB = 3) → updBegin s reg len = (.state, s))
      ∧ (∀ len, mode s ≠ 7 → r.stA ≠ 3 → r.stB ≠ 3 → (len = 0 ∨ 4194304 < len) → updBegin s reg len = (.field, s))
      ∧ (∀ len, mode s ≠ 7 → r.stA ≠ 3 → r.stB ≠ 3 → 0 < len → len ≤ 4194304 → updBegin s reg len =
          (.ok, { s with nvm := { commit s.nvm (fun r => withSlot r tgt 1) with session := some (reg, len) } }))
      ∧ (∀ off d, (s.nvm.session = none ∨ mode s = 7 ∨ ∃ l, s.nvm.session = some (!reg, l)) → updWrite s reg off d = (.state, s))
      ∧ (∀ off d len, s.nvm.session = some (reg, len) → mode s ≠ 7 →
        ((off % 4 ≠ 0 ∨ len < off + d.length) → updWrite s reg off d = (.field, s))
        ∧ (off % 4 = 0 → off + d.length ≤ len → updWrite s reg off d = (.ok, { s with
            nvm := setSlot s.nvm tgt { bytes := memWrite x.bytes off d, factory := false } })))
      ∧ ((mode s = 7 ∨ otherHolds s reg = true ∨ (slotState r tgt ≠ 1 ∧ slotState r tgt ≠ 6)) → updVerify s reg = (.state, s))
      ∧ (mode s ≠ 7 → otherHolds s reg = false → (slotState r tgt = 1 ∨ slotState r tgt = 6) →
        (verifyReason s = 0 → updVerify s reg = (.ok, { s with nvm := { commit s.nvm (fun r => withSlot r tgt 2) with session := none } }))
        ∧ (verifyReason s ≠ 0 → updVerify s reg = (⟨0xF, 0, verifyReason s⟩, err { s with
            nvm := if slotState r tgt = 1 then s.nvm else commit s.nvm (fun r => withSlot r tgt 1) } pNvm 1)))
      ∧ ((quietMode s = false ∨ otherHolds s reg = true ∨ slotState r tgt ≠ 2) → updActivate s reg = (.state, s))
      ∧ (quietMode s = true → otherHolds s reg = false → slotState r tgt = 2 →
        (revoked → updActivate s reg = (⟨0xF, 0, 7⟩, s))
        ∧ (¬ revoked → updActivate s reg = (.ok, { s with nvm := { commit s.nvm (fun r =>
            { withSlot (withSlot r tgt 3) (!tgt) 5 with trial := true, count := 0, active := !tgt }) with restart := true, session := none } })))
      ∧ ((mode s = 7 ∨ otherHolds s reg = true ∨ r.trial = false ∨ slotState r (booted s) ≠ 3) → updConfirm s reg = (.state, s))
      ∧ (mode s ≠ 7 → otherHolds s reg = false → r.trial = true → slotState r (booted s) = 3 →
          (let n := commit s.nvm (fun r => { withSlot r (booted s) 4 with trial := false, active := booted s })
           updConfirm s reg = (.ok, wf { s with nvm := n } pNvm NVM_MIN_SECVER_SECVER
             (max (rf s pNvm NVM_MIN_SECVER_SECVER) (slotSecver n (booted s))))))))

/-- Cohorts: FORM_COHORT reads the members, judges them and takes effect here, or on every chip that holds one; DISSOLVE_COHORT ends the
cohort with the last plan that is open, and tells the other chips. An opcode that R133 does not list is refused. What every admin command is
checked for before it comes to its own effect: the queue that serves it, a quiesced submitter, authority, RECOVERY, the reserved fields. -/
def Obligations.CohortCommands : Prop :=
  (∀ (s : State) (o : Owner) (e : List Word) (d : List Word), admPasses s o e false 6 = true →
     (let a := acting o e
      let count := bits (dw e 4) 0 11
      let start := (dw e 5).toNat
      let s1 := hostRead s o (join64 (dw e 2) (dw e 3)) (4 * count)
      let here := d.filter (fun w => epPos w == ownPos s1)
      let far := d.filter (fun w => epPos w != ownPos s1)
      let form := bits (dw e 4) 11 21 = 0 ∧ 2 ≤ count ∧ count ≤ 1024 ∧ d.length = count ∧ d.any epBad = false
      let near := far.any (fun w => !reachable s1 (epPos w)) = false
      let judged := cohortRefusal s1 a (if isMember s1 then here else d) start
      (¬ form → exec (.formCohort o e d) s = .next (bad s o e 2))
      ∧ (form → ¬ near → exec (.formCohort o e d) s = .next (bad s1 o e 12))
      ∧ (∀ k, form → near → judged = some k → exec (.formCohort o e d) s = .next (bad s1 o e k))
      ∧ (form → near → judged = none → rf s1 pPln PLN_COHORT_CAP_BYTES < cohortBytes s1 here →
          exec (.formCohort o e d) s = .next (noBw s1 o e 11))
      ∧ (form → near → judged = none → cohortBytes s1 here ≤ rf s1 pPln PLN_COHORT_CAP_BYTES →
        (freeCohort s1 = none → exec (.formCohort o e d) s = .next (bad s1 o e 7))
        ∧ (∀ n, freeCohort s1 = some n →
          ((far = [] ∨ isMember s1 = true) → exec (.formCohort o e d) s = .next (good (makeCohort s1 a n here [] start) o e n 0))
          ∧ (far ≠ [] → isMember s1 = false → exec (.formCohort o e d) s = .next (cohortFar s1 o e n here far start))))))
  ∧ (∀ (s : State) (o : Owner) (e : List Word), admPasses s o e false 3 = true →
     (let n := bits (dw e 2) 0 12
      let a := acting o e
      (bits (dw e 2) 12 20 ≠ 0 → exec (.dissolveCohort o e) s = .next (bad s o e 2))
      ∧ (bits (dw e 2) 12 20 = 0 → look s.pln.cohorts n = none → exec (.dissolveCohort o e) s = .next (bad s o e 4))
      ∧ (∀ k, bits (dw e 2) 12 20 = 0 → look s.pln.cohorts n = some k →
        (k.last ≠ none → exec (.dissolveCohort o e) s = .next (bad s o e 4))
        ∧ (k.last = none → a ≠ .mgr → a ≠ k.owner → exec (.dissolveCohort o e) s = .next (bad s o e 5))
        ∧ (k.last = none → (a = .mgr ∨ a = k.owner) →
          (let s1 := { s with pln := { s.pln with cohorts := put s.pln.cohorts n { k with last := some (lastOpen s) } } }
           let s2 := each k.members s1 (fun s c => updEp s c (fun x => if x.cohort == some n then { x with cohort := none } else x))
           let s3 := { s2 with ctx := { s2.ctx with far := s2.ctx.far.map (fun p =>
             if p.2.ep.cohort == some n then (p.1, { p.2 with ep := { p.2.ep with cohort := none } }) else p) } }
           exec (.dissolveCohort o e) s = .next
             (good (each k.far s3 (fun s p => if reachable s p then forwardCmd s p o e else s)) o e 0 0))))))
  ∧ (∀ (s : State) (o : Owner) (e d : List Word) (b : List Byte) (c : Instr) (m : Bool) (n : Nat),
     (c, m, n) ∈ [(.createTq o e, false, 7), (.destroyTq o e, false, 3), (.resetTq o e, false, 3), (.invalidateTq o e, false, 4),
       (.createCq o e, false, 7), (.destroyCq o e, false, 3), (.bindEndpoint o e, false, 6), (.unbindEndpoint o e, false, 3),
       (.reserveBw o e, false, 4), (.releaseBw o e, false, 3), (.getPort o e, false, 3), (.getTopology o e, false, 6),
       (.setVote o e, true, 4), (.clearVote o e, true, 4), (.quiesceInstance o e, true, 2), (.resumeInstance o e, true, 2),
       (.swapDirtyLog o e, true, 5), (.updateBegin o e, true, 4), (.updateWrite o e b, true, 7), (.updateVerify o e, true, 3),
       (.updateActivate o e, true, 3), (.updateConfirm o e, true, 3), (.formCohort o e d, false, 6), (.dissolveCohort o e, false, 3)] →
     (let st := (instAt s (ownerKey o)).state
      let quiesced := o ≠ .mgr ∧ (st = 2 ∨ st = 3)
      let denied := o ≠ .mgr ∧ (m = true ∨ aBehalf e = true)
      let update := 0x60 ≤ aOp e ∧ aOp e ≤ 0x64
      (admReady s o = false → exec c s = .next s)
      ∧ (admReady s o = true → quiesced → exec c s = .next (done s o e 0xD 0 0 0))
      ∧ (admReady s o = true → ¬ quiesced → denied → exec c s = .next (bad s o e 3))
      ∧ (admReady s o = true → ¬ quiesced → ¬ denied → mode s = 6 → ¬ update → exec c s = .next (bad s o e 8))
      ∧ (admReady s o = true → ¬ quiesced → ¬ denied → (mode s = 6 → update) → (aHeadReserved e = true ∨ aTail e n = true) →
          exec c s = .next (bad s o e 2))))
  ∧ (∀ (s : State) (o : Owner) (e : List Word),
     (let st := (instAt s (ownerKey o)).state
      let quiesced := o ≠ .mgr ∧ (st = 2 ∨ st = 3)
      (admReady s o = false → exec (.reservedOpcode o e) s = .next s)
      ∧ (admReady s o = true → quiesced → exec (.reservedOpcode o e) s = .next (done s o e 0xD 0 0 0))
      ∧ (admReady s o = true → ¬ quiesced → mode s = 6 → exec (.reservedOpcode o e) s = .next (bad s o e 8))
      ∧ (admReady s o = true → ¬ quiesced → mode s ≠ 6 → exec (.reservedOpcode o e) s = .next (bad s o e 1))))

/-! ### The planner -/

/-- The walk of the wheel. The slot's word is read first, and the walk goes where it points (log entry 86). The block that the walk waits for,
without an error, gives its PSEs, and the walk follows NEXT or ends with its time in PLN_WALK; a bad count, or an address outside the pool,
ends it with WHEEL_BAD, and a failed read with WHEEL_READ. Any other block changes nothing. The cohort
check takes every cohort that is due: one whose members all have their graphs and their data, on a chip in time, is served, and otherwise its
services are suppressed; an ORPHAN checks none. -/
def Obligations.Walk : Prop :=
  (∀ (s : State) (n : Word) (a : Addr) (b : List Word) (took : BitVec 16),
     (let m := n.toNat
      let next := (join64 (dw b 0) (dw b 1)).toNat
      let count := bits (dw b 2) 0 11
      let fin := fun s => endWalk (wf (wf s pPln PLN_WALK_LAST took.toNat) pPln PLN_WALK_MAX
        (max took.toNat (rf (wf s pPln PLN_WALK_LAST took.toNat) pPln PLN_WALK_MAX))) m
      let taken := each ((b.drop 4).take count) s (fun s w => takePse s m (bits (dw b 2) 16 4) (bits (dw b 2) 20 11) w)
      (planOf s m = none → exec (.wheelBlockReadDone n a b took) s = .next s ∧ exec (.wheelReadFail n) s = .next s)
      ∧ (∀ p, planOf s m = some p →
        ((p.walked = true ∨ p.block = 0) → exec (.wheelBlockReadDone n a b took) s = .next s ∧ exec (.wheelReadFail n) s = .next s)
        ∧ (a.toNat ≠ p.block → exec (.wheelBlockReadDone n a b took) s = .next s)
        ∧ (p.walked = false → p.block ≠ 0 → a.toNat = p.block →
          (p.block = slotAddr s m → exec (.wheelBlockReadDone n a b took) s = .next (walkTo s m next fin))
          ∧ (p.block ≠ slotAddr s m →
            ((1020 < count ∨ (next ≠ 0 ∧ inPool s next = false)) → exec (.wheelBlockReadDone n a b took) s = .next (fin (err s pPln 1)))
            ∧ (count ≤ 1020 → (next = 0 ∨ inPool s next = true) → exec (.wheelBlockReadDone n a b took) s = .next (walkTo taken m next fin))))
        ∧ (p.walked = false → p.block ≠ 0 → exec (.wheelReadFail n) s = .next (endWalk (err s pPln 2) m)))))
  ∧ (∀ (s : State) (n a : Nat) (fin : State → State),
     (a = 0 → walkTo s n a fin = fin s)
     ∧ (a ≠ 0 → inPool s a = false → walkTo s n a fin = fin (err s pPln 1))
     ∧ (a ≠ 0 → inPool s a = true → walkTo s n a fin =
         hostRead (updPlan s n (fun p => { p with block := a })) .mgr (BitVec.ofNat 64 a) 4096))
  ∧ (∀ (s : State) (n : Word),
     (let s1 := { s with pln := { s.pln with cohortNow := [] } }
      (orphan s = true → exec (.cohortCheck n) s = .next s)
      ∧ (orphan s = false → exec (.cohortCheck n) s = .next (each (s.pln.cohorts.filter (fun k => cohortDue s1 k.2 n.toNat)) s1
        (fun s k => checkCohort s n.toNat k.2)))))
  ∧ (∀ (s : State) (n : Nat) (k : Cohort),
     (let ms := (k.members.filterMap (fun c => (epAt s c).map (fun e => (c, e)))).filter (fun p => memberIn k n p.1 && rsvIn p.2 n)
      (ms = [] → checkCohort s n k = s)
      ∧ (ms ≠ [] → timeLocked s = true → (∀ p, p ∈ ms → hasGraph p.2 n = true ∧ staged p.2 n = true) → checkCohort s n k =
          incF { s with pln := { s.pln with cohortNow := s.pln.cohortNow ++ ms.map (·.1) } } pPln PLN_COHORT_CNT_SERVED)
      ∧ (ms ≠ [] → (timeLocked s = false ∨ ∃ p, p ∈ ms ∧ (hasGraph p.2 n = false ∨ staged p.2 n = false)) → checkCohort s n k =
          evt (incF (each (ms.map (·.1)) s (fun s c => suppress s n c)) pPln PLN_COHORT_CNT_SUPPRESSED) pPln 1)))

/-- Operations, while the planner runs. One in service goes on if it is a relay's DRAIN. One that may go: an ISSUE that its port may start
starts there, a periodic one that cannot end in its microframe or finds its link outside U0 ends its service, an isochronous entry with the
status of `lateEnd`, and a STAGE or DRAIN takes a channel where it can. A deferred graph and a spilled record come back when their lists are
low. Nothing else changes anything. -/
def Obligations.Dispatching : Prop :=
  (∀ (s : State) (ctx : BitVec 13) (t : Nat),
     (epAt s ctx.toNat = none → exec (.operationDispatch ctx t) s = .next s)
     ∧ (∀ e, epAt s ctx.toNat = some e → e.work = none → exec (.operationDispatch ctx t) s = .next s)
     ∧ (∀ e w, epAt s ctx.toNat = some e → e.work = some w →
       (let runs := runsSchedules s = true ∧ rb s pPln PLN_STATUS_RUNNING = true
        let goes := runs ∧ w.inSvc = false ∧ waits s ctx.toNat w = true
        let first := portNext s (epPort s e) t = some ctx.toNat
        let lost := isPer e = true ∧ issueReady s ctx.toNat e = true ∧ mayLapse s = true ∧ (fitsNow s e t = false ∨ asleep s (epPort s e) = true)
        (¬ runs → exec (.operationDispatch ctx t) s = .next s)
        ∧ (runs → w.inSvc = true → exec (.operationDispatch ctx t) s = .next (relayMove s ctx.toNat))
        ∧ (runs → w.inSvc = false → waits s ctx.toNat w = false → exec (.operationDispatch ctx t) s = .next s)
        ∧ (goes → w.op = .issue → first → exec (.operationDispatch ctx t) s = .next (noteLists (startTxn s (epPort s e) t ctx.toNat)))
        ∧ (goes → w.op = .issue → ¬ first → lost →
          (isIsoc e = true → exec (.operationDispatch ctx t) s = .next (failLater s ctx.toNat (lateEnd w).1 (lateEnd w).2))
          ∧ (isIsoc e = false → asleep s (epPort s e) = true → exec (.operationDispatch ctx t) s = .next (endService s ctx.toNat))
          ∧ (isIsoc e = false → asleep s (epPort s e) = false → exec (.operationDispatch ctx t) s = .next s))
        ∧ (goes → w.op = .issue → ¬ first → ¬ lost → exec (.operationDispatch ctx t) s = .next s)
        ∧ (goes → w.op ≠ .issue → exec (.operationDispatch ctx t) s = .next (noteLists (startMove s ctx.toNat e w))))))
  ∧ (∀ (s : State) (ctx : BitVec 13),
     (s.pln.deferred.contains ctx.toNat = true → graphLow s ctx.toNat = true → exec (.graphReoffer ctx) s = .next
       (noteLists { s with pln := { s.pln with deferred := s.pln.deferred.filter (· != ctx.toNat) } }))
     ∧ ((s.pln.deferred.contains ctx.toNat = false ∨ graphLow s ctx.toNat = false) → exec (.graphReoffer ctx) s = .next s)
     ∧ ((s.pln.spill = [] ∨ epAt s ctx.toNat = none) → exec (.spillReturn ctx) s = .next s)
     ∧ (∀ d k rest e, s.pln.spill = (d, k) :: rest → epAt s ctx.toNat = some e →
       (d = ctx.toNat → listLow (listOf s e k) = true → exec (.spillReturn ctx) s = .next
         (noteLists (noteSpill { s with pln := { s.pln with spill := rest } })))
       ∧ ((d ≠ ctx.toNat ∨ listLow (listOf s e k) = false) → exec (.spillReturn ctx) s = .next s)))

/-- Data moved for an entry, and transactions. A STAGE that ends hands its bytes on, a DRAIN that ends lets go of the segment, or of the whole
entry with INTERNAL over a word known to be bad; neither acts on a context without its own work in service on a channel that goes, and a
relay's DRAIN ends only when all of it has moved. A
transaction starts at the port's first offset when nothing has been sent in the microframe. The end of one frees the wire after its time at
least, and its handshake or data decides what follows: a babble fails the entry, a split error counts toward its failure. A time-out or an
error retries, or ends with XACT_ERR; two chains in a row lose the device. With no transaction on the wire nothing follows but a SUSPEND that
waited. -/
def Obligations.OperationsOnWire : Prop :=
  (∀ (s : State) (ctx : BitVec 13) (d : List Byte) (ce : Option (BitVec 25)) (ws : List (BitVec 16)),
     ((epAt s ctx.toNat).bind (·.work) = none → exec (.stageDone ctx d ce ws) s = .next s ∧ exec (.drainDone ctx ce ws) s = .next s)
     ∧ (∀ e w, epAt s ctx.toNat = some e → e.work = some w →
       (w.chan = none → exec (.stageDone ctx d ce ws) s = .next s ∧ exec (.drainDone ctx ce ws) s = .next s)
       ∧ (∀ ch, w.chan = some ch →
         (let mine := w.inSvc = true ∧ (chanAt s ch).flow = some ctx.toNat ∧ chanGoes s ch = true
          let ended := bankDone (eccCe s ce) (dmaReq ch) (banksOf e.buf (clsSize e.cls))
          let staged := arbGrants ended (dmaReq ch) (bufRanges e (bufAddr e e.fill) w.segLen) ws
          let drained := arbGrants ended (dmaReq ch) (bufRanges e (cpair s ch 0x40).toNat (crf s ch DMA_COUNT_COUNT)) ws
          let stays := cellsWait s ctx.toNat w = true ∨ (eType w.e = 4 ∧ w.seg ≠ 0)
          let size := d.length = hostBytes w.cnd false w.segLen
          ((¬ mine ∨ w.op ≠ .stage ∨ ¬ size) → exec (.stageDone ctx d ce ws) s = .next s)
          ∧ (mine → w.op = .stage → size → exec (.stageDone ctx d ce ws) s = .next
              (flowOn (stageEnd staged ctx.toNat w d) ctx.toNat))
          ∧ ((¬ mine ∨ w.op ≠ .drain ∨ stays) → exec (.drainDone ctx ce ws) s = .next s)
          ∧ (mine → w.op = .drain → ¬ stays →
            (firstBad drained (bufRanges e e.head w.seg) = none → exec (.drainDone ctx ce ws) s = .next
              (flowOn (drainEnd drained ctx.toNat e w) ctx.toNat))
            ∧ (∀ a, firstBad drained (bufRanges e e.head w.seg) = some a → exec (.drainDone ctx ce ws) s = .next
              (flowOn (eccFail drained ctx.toNat a) ctx.toNat)))))))
  ∧ (∀ (s : State) (p : BitVec 9),
     (let first := firstToken (speedOf s p.toNat)
      (portNext s p.toNat first = none → exec (.firstTransactionStart p) s = .next s)
      ∧ (∀ c, portNext s p.toNat first = some c →
        ((portAt s p.toNat).lastT = 0 → exec (.firstTransactionStart p) s = .next (startTxn s p.toNat first c))
        ∧ ((portAt s p.toNat).lastT ≠ 0 → exec (.firstTransactionStart p) s = .next s))))
  ∧ (∀ (s : State) (p : BitVec 9) (r : Reply) (t : Nat),
     (let n := p.toNat
      ((portAt s n).wire = none → exec (.transactionEnd p r t) s = .next s)
      ∧ (∀ w, (portAt s n).wire = some w → (epAt s w.ctx).bind (·.work) = none → exec (.transactionEnd p r t) s = .next s)
      ∧ (∀ w e k, (portAt s n).wire = some w → epAt s w.ctx = some e → e.work = some k →
        (let len := match r with | .data d => d.length | _ => (nextPacket s e k).length
         let free := max t (w.start + holdTime (speedOf s n) (isIsoc e) false (inTxn e k) len)
         let s2 := updWork (setPort s n { portAt s n with wire := none, lastT := free }) w.ctx (fun w => { w with inSvc := false })
         let k2 := { k with inSvc := false }
         let e2 := { e with work := some k2 }
         let err := txnErr s n false t
         (r = .splitErr → viaTt s e = false → exec (.transactionEnd p r t) s = .next s)
         ∧ (r = .splitErr → viaTt s e = true → isPer e = true → k.split = 0 → exec (.transactionEnd p r t) s = .next s)
         ∧ (r = .splitErr → viaTt s e = true → isPer e = true → k.split ≠ 0 → exec (.transactionEnd p r t) s = .next
             (afterTxn (splitFail s2 w.ctx e2 false).1 n w.ctx))
         ∧ (r = .splitErr → viaTt s e = true → isPer e = false → err.2 = none → exec (.transactionEnd p r t) s = .next (afterTxn err.1 n w.ctx))
         ∧ (∀ h, r = .splitErr → viaTt s e = true → isPer e = false → err.2 = some h → exec (.transactionEnd p r t) s = .next
             (afterTxn (loseDev err.1 h) n w.ctx))
         ∧ (r = .babble true → exec (.transactionEnd p r t) s = .next (afterTxn (babblePort (failLater s2 w.ctx 3 none) n) n w.ctx))
         ∧ (r = .babble false → exec (.transactionEnd p r t) s = .next (afterTxn (failLater s2 w.ctx 3 none) n w.ctx))
         ∧ (r ≠ .splitErr → r ≠ .babble true → r ≠ .babble false →
           (viaTt s e = true → exec (.transactionEnd p r t) s = .next (afterTxn (endHeld (splitPart s2 n w.ctx e2 k2 r) w.ctx) n w.ctx))
           ∧ (viaTt s e = false → exec (.transactionEnd p r t) s = .next (afterTxn (endHeld (txnDone s2 n w.ctx e2 k2 r) w.ctx) n w.ctx)))))))
  ∧ (∀ (s : State) (p : BitVec 9) (k : TErr) (t : Nat),
     (let n := p.toNat
      let err := txnErr s n (k == .timeout) t
      ((portAt s n).wire = none → exec (.transactionTimeout p k t) s = .next (suspendDue s n))
      ∧ (∀ w, (portAt s n).wire = some w →
        (err.2 = none → exec (.transactionTimeout p k t) s = .next (afterTxn (endHeld err.1 w.ctx) n w.ctx))
        ∧ (∀ h, err.2 = some h → exec (.transactionTimeout p k t) s = .next (afterTxn (loseDev (endHeld err.1 w.ctx) h) n w.ctx)))))
  ∧ (∀ (s : State) (p t : Nat) (late : Bool) (w : Wire) (e : Ep) (k : Work), (portAt s p).wire = some w → epAt s w.ctx = some e → e.work = some k →
     (let free := max t (w.start + holdTime (speedOf s p) (isIsoc e) late (inTxn e k) (nextPacket s e k).length)
      let s2 := updWork (setPort s p { portAt s p with wire := none, lastT := free }) w.ctx (fun w => { w with inSvc := false })
      let s3 := updWork (incF s2 (cluPage p) (pfld p PRT_COUNTS_RETRIES)) w.ctx (fun w => { w with retries := w.retries + 1 })
      let lost := fun (r : State × Bool) => (r.1, if r.2 then some e.dev else none)
      (viaTt s e = true → isPer e = true → txnErr s p late t = lost (splitFail s2 w.ctx e late))
      ∧ (viaTt s e = false → isIsoc e = true → txnErr s p late t = lost (isocErr s2 w.ctx e k late))
      ∧ ((viaTt s e = false ∨ isPer e = false) → isIsoc e = false → 3 ≤ k.retries → txnErr s p late t = lost (retriesGone s2 w.ctx late))
      ∧ (∀ e3, (viaTt s e = false ∨ isPer e = false) → isIsoc e = false → k.retries < 3 → epAt s3 w.ctx = some e3 →
        ((fitsNow s3 e3 free && portRuns s3 p) = true → txnErr s p late t = (issueRead (emit (updWork
          (setPort s3 p { portAt s3 p with wire := some ⟨w.ctx, free⟩ }) w.ctx (fun w => { w with inSvc := true })) (txnOut s p w.ctx e k)) p e k, none))
        ∧ ((fitsNow s3 e3 free && portRuns s3 p) = false →
            txnErr s p late t = (endVisit (if isIntr e then endService s3 w.ctx else s3) p e, none)))))

/-- Bytes put in an endpoint's buffer stand at the addresses after those it holds, and every other byte of EBM keeps its value. -/
def Obligations.BufferBytes : Prop :=
  ∀ (s : State) (c : Nat) (e : Ep) (d : List Byte), epAt s c = some e → e.buf ≤ e.head → e.head < e.buf + clsSize e.cls →
    e.fill + d.length ≤ clsSize e.cls →
    (∀ k, k < d.length → memGet (bufPut s c d).ebm (bufAddr e (e.fill + k)) = d.getD k 0)
    ∧ (∀ a, (∀ k, k < d.length → a ≠ bufAddr e (e.fill + k)) → memGet (bufPut s c d).ebm a = memGet s.ebm a)
    ∧ ∃ e', epAt (bufPut s c d) c = some e' ∧ e'.fill = e.fill + d.length ∧ e'.head = e.head

/-! ### Ports -/

/-- Connect and bus reset on the USB 2.0 path. A changed line on a POWERED port starts the debounce again, is latched while the cluster is
forced down, and wakes a dark one; where a disconnect is latched, the line that comes after it is latched too; the end of the debounce connects a port without a SuperSpeed path, and leaves one with it stable; a chirp of
a device on D+ and the host's own are seen within a reset. The end of the reset: ENABLED at the speed of the handshake, a failure when both
chirps were seen and the line is neither. Transactions are allowed when the recovery of a reset or a resume ends. Elsewhere nothing changes. -/
def Obligations.PortConnect : Prop :=
  (∀ (s : State) (p : BitVec 9),
     (let n := p.toNat
      let x := portAt s n
      (∀ l, goneLatched s n = true → exec (.lineChange p l) s = .next (latchEvent (setPort s n { x with line := l }) n .connect))
      ∧ (∀ l, goneLatched s n = false → portState s n = 1 → x.ss ≠ .up → x.line ≠ l →
        (let s1 := setPort s n { x with line := l, debouncing := l != .se0 && !portForced s n, stable := false }
         (portForced s n = true → exec (.lineChange p l) s = .next (latchEvent s1 n .connect))
         ∧ (portForced s n = false → exec (.lineChange p l) s = .next (detect s1 n))))
      ∧ (∀ l, goneLatched s n = false → (portState s n ≠ 1 ∨ x.ss = .up ∨ x.line = l) → exec (.lineChange p l) s = .next s)
      ∧ (portState s n = 1 → x.debouncing = true → portDark s n = false →
        (let s1 := setPort s n { x with debouncing := false, stable := true }
         (ssPath s n = true → exec (.connectDebounceDone p) s = .next s1)
         ∧ (ssPath s n = false → exec (.connectDebounceDone p) s = .next (connectUsb2 s1 n))))
      ∧ ((portState s n ≠ 1 ∨ x.debouncing = false ∨ portDark s n = true) → exec (.connectDebounceDone p) s = .next s)
      ∧ (∀ d h, x.reset = some (.usb2 d h) → x.line = .dPlus → exec (.deviceChirpEnd p) s =
          .next (setPort s n { x with reset := some (.usb2 true h) }))
      ∧ ((x.line ≠ .dPlus ∨ ∀ d h, x.reset ≠ some (.usb2 d h)) → exec (.deviceChirpEnd p) s = .next s)
      ∧ (x.reset = some (.usb2 true false) → exec (.hostChirpStart p) s =
          .next (emit (setPort s n { x with reset := some (.usb2 true true) }) (.port n "chirp")))
      ∧ (x.reset ≠ some (.usb2 true false) → exec (.hostChirpStart p) s = .next s)))
  ∧ (∀ (s : State) (p : BitVec 9),
     (let n := p.toNat
      let x := portAt s n
      (∀ d h l, x.reset = some (.usb2 d h) → portState s n = 5 →
        ((d = true → h = true → l ≠ .neither) →
          exec (.busResetEnd p l) s = .next (setPortState (pwf (setPort s n { x with reset := none, allowTxn := false })
            n PRT_STATE_SPEED (if d && h && l == .hsIdle then 2 else if x.line == .dMinus then 0 else 1)) n 3))
        ∧ (d = true → h = true → l = .neither → exec (.busResetEnd p l) s = .next (linkFail s n)))
      ∧ (∀ l, (portState s n ≠ 5 ∨ ∀ d h, x.reset ≠ some (.usb2 d h)) → exec (.busResetEnd p l) s = .next s)
      ∧ (portState s n = 3 → x.reset = none →
        exec (.resetRecoveryEnd p) s = .next (setPort s n { x with allowTxn := true })
        ∧ exec (.resumeRecoveryEnd p) s = .next (setPort s n { x with allowTxn := true }))
      ∧ ((portState s n ≠ 3 ∨ x.reset ≠ none) → exec (.resetRecoveryEnd p) s = .next s ∧ exec (.resumeRecoveryEnd p) s = .next s)))

/-- The SuperSpeed side of a port: its termination found, and latched by a dark cluster; U0 reached out of training, a reset, a resume or an
exit from U1 and U2; training failed, resets and a resume late, a failed link. Disconnect, remote wake and the end of a resume, latched by a
dark cluster where they would act. In any other state nothing changes. -/
def Obligations.SuperSpeed : Prop :=
  (∀ (s : State) (p : BitVec 9),
     (let n := p.toNat
      let x := portAt s n
      let seen := portState s n = 1 ∧ x.ss = .detect ∧ ¬ (goneLatched s n = true ∧ n < 64)
      (goneLatched s n = true → n < 64 → exec (.farEndTerminationFound p) s = .next (latchEvent s n .term))
      ∧ (seen → portDark s n = false → exec (.farEndTerminationFound p) s =
          .next (detect (noteLink (setPort s n { x with ss := .training }) n) n))
      ∧ (seen → portDark s n = true → exec (.farEndTerminationFound p) s = .next (latchEvent s n .term))
      ∧ (¬ seen → ¬ (goneLatched s n = true ∧ n < 64) → exec (.farEndTerminationFound p) s = .next s)
      ∧ (∀ g, portDark s n = false →
        (let go := fun s => setPort s n { portAt s n with ss := .up, reset := none, allowTxn := true, debouncing := false, stable := false }
         let fast := pwf s n PRT_STATE_SPEED (if g then 4 else 3)
         (portState s n = 1 → x.ss = .training → exec (.ssLinkU0 p g) s = .next (setConnected (setPortState (go fast) n 3) n true))
         ∧ (portState s n = 5 → x.reset = some .hot → exec (.ssLinkU0 p g) s = .next (setPortState (go fast) n 3))
         ∧ (portState s n = 6 → x.ss = .up → exec (.ssLinkU0 p g) s = .next (resetAfter (setPortState (go (wakeEvt s n)) n 3) n))
         ∧ (portState s n = 3 → x.ss = .exiting → exec (.ssLinkU0 p g) s = .next (pwf (go s) n PRT_STATE_LINK 1))))
      ∧ (∀ g, (portDark s n = true ∨ (portState s n = 1 ∧ x.ss ≠ .training) ∨ (portState s n = 5 ∧ x.reset ≠ some .hot)
          ∨ (portState s n = 6 ∧ x.ss ≠ .up) ∨ (portState s n = 3 ∧ x.ss ≠ .exiting)
          ∨ (portState s n ≠ 1 ∧ portState s n ≠ 5 ∧ portState s n ≠ 6 ∧ portState s n ≠ 3)) → exec (.ssLinkU0 p g) s = .next s)
      ∧ (let trains := portState s n = 1 ∧ (x.ss = .detect ∨ x.ss = .training) ∧ portDark s n = false
         let failed := noteLink (setPort s n { x with ss := .failed }) n
         (trains → x.stable = false → exec (.ssTrainingFail p) s = .next failed)
         ∧ (trains → x.stable = true → exec (.ssTrainingFail p) s = .next (connectUsb2 failed n))
         ∧ (¬ trains → exec (.ssTrainingFail p) s = .next s))
      ∧ (let hot := portState s n = 5 ∧ (x.reset = some .hot ∨ x.reset = some .warm)
         let warm := portState s n = 5 ∧ x.reset = some .warm
         let resumes := portState s n = 6 ∧ x.ss = .up
         (hot → exec (.ssResetTimeout p) s = .next (linkFail s n)) ∧ (¬ hot → exec (.ssResetTimeout p) s = .next s)
         ∧ (warm → exec (.ssWarmResetLfpsEnd p) s = .next (setPort s n { x with reset := some .hot }))
         ∧ (¬ warm → exec (.ssWarmResetLfpsEnd p) s = .next s)
         ∧ (resumes → exec (.ssResumeTimeout p) s = .next (linkFail s n)) ∧ (¬ resumes → exec (.ssResumeTimeout p) s = .next s))
      ∧ (portState s n = 3 → 3 ≤ speedOf s n → exec (.ssLinkFailure p) s = .next (disablePort
          (reportRef (errBit s (cluPage n) 5) (portLoc (errBit s (cluPage n) 5) n) 0x03).1 n
          (some (reportRef (errBit s (cluPage n) 5) (portLoc (errBit s (cluPage n) 5) n) 0x03).2)))
      ∧ ((portState s n ≠ 3 ∨ speedOf s n < 3) → exec (.ssLinkFailure p) s = .next s)))
  ∧ (∀ (s : State) (p : BitVec 9),
     (let n := p.toNat
      let gone := 2 ≤ portState s n ∧ prf s n PRT_STATE_TEST ≠ 1
      let resumes := portState s n = 6 ∧ (portAt s n).ss ≠ .up
      (gone → portDark s n = false → exec (.disconnect p) s = .next (doDisconnect (detect s n) n))
      ∧ (gone → portDark s n = true → exec (.disconnect p) s = .next (latchGone s n))
      ∧ (¬ gone → exec (.disconnect p) s = .next s)
      ∧ (portState s n = 4 → portDark s n = false → exec (.remoteWake p) s = .next (startResume (detect s n) n true))
      ∧ (portState s n = 4 → portDark s n = true → exec (.remoteWake p) s = .next (latchEvent s n .wake))
      ∧ (portState s n ≠ 4 → exec (.remoteWake p) s = .next s)
      ∧ (resumes → exec (.resumeSignalEnd p) s = .next
          (resetAfter (setPortState (setPort (wakeEvt s n) n { portAt s n with allowTxn := false }) n 3) n))
      ∧ (¬ resumes → exec (.resumeSignalEnd p) s = .next s)))

/-- Signal-VBUS: a charged port is POWERED and the next one may charge, a charge that is late or a fault turns the port off. Link power
management: the LPM token that enters L1 and its answer, the exit by a ready transaction or the device and its latency, U1 and U2 entered
where they are enabled and left early, with LINK as R358 codes it. Elsewhere nothing changes. -/
def Obligations.LinkPower : Prop :=
  (∀ (s : State) (p : BitVec 9),
     (let n := p.toNat
      let x := portAt s n
      (x.charging = true → exec (.vbusCharged p) s = .next (nextCharge (setPortState (setPort s n { x with charging := false }) n 1))
        ∧ exec (.vbusChargeTimeout p) s = .next (vbusDown s n))
      ∧ (x.charging = false → exec (.vbusCharged p) s = .next s ∧ exec (.vbusChargeTimeout p) s = .next s)
      ∧ ((portState s n ≠ 0 ∨ x.charging = true) → exec (.vbusFault p) s = .next (vbusDown s n))
      ∧ (portState s n = 0 → x.charging = false → exec (.vbusFault p) s = .next s)))
  ∧ (∀ (s : State) (p : BitVec 9),
     (let n := p.toNat
      let x := portAt s n
      let link := prf s n PRT_STATE_LINK
      let ready := s.ctx.eps.any (fun e => epPort s e.2 == n && issueReady s e.1 e.2) = true
      let direct := (devsOn s n).all (fun h => (devAt s h).any (fun d => d.route == 0)) = true
      let idle := (s.ctx.eps.filter (fun e => epPort s e.2 == n)).all (fun e => e.2.rsv.isNone && !issueReady s e.1 e.2) = true
      let enters := portState s n = 3 ∧ link = 1 ∧ speedOf s n = 2 ∧ prf s n PRT_LPM_L1_EN = 1 ∧ direct ∧ idle ∧ x.wire = none
      let token := emit s (.lpm n (prf s n PRT_LPM_BESL) true)
      (enters → exec (.l1Entry p true) s = .next (pwf token n PRT_STATE_LINK 2) ∧ exec (.l1Entry p false) s = .next token)
      ∧ (¬ enters → ∀ ack, exec (.l1Entry p ack) s = .next s)
      ∧ (∀ dev, link = 2 → (ready ∨ dev = true) → exec (.l1Exit p dev) s = .next (emit (setPort s n { x with l1Exit := true }) (.port n "drive K")))
      ∧ (∀ dev, (link ≠ 2 ∨ (¬ ready ∧ dev = false)) → exec (.l1Exit p dev) s = .next s)
      ∧ (link = 2 → x.l1Exit = true → exec (.l1ExitLatencyEnd p) s = .next (pwf (setPort s n { x with l1Exit := false }) n PRT_STATE_LINK 1))
      ∧ ((link ≠ 2 ∨ x.l1Exit = false) → exec (.l1ExitLatencyEnd p) s = .next s)
      ∧ (let idle1 := portState s n = 3 ∧ x.ss = .up ∧ x.wire = none ∧ prf s n PRT_LPM_U1_EN = 1 ∧ link = 1
         let idle2 := portState s n = 3 ∧ x.ss = .up ∧ x.wire = none ∧ prf s n PRT_LPM_U2_EN = 1 ∧ (link = 1 ∨ link = 3)
         (idle1 → exec (.u1U2Entry p false) s = .next (emit (pwf s n PRT_STATE_LINK 3) (.port n "u1")))
         ∧ (¬ idle1 → exec (.u1U2Entry p false) s = .next s)
         ∧ (idle2 → exec (.u1U2Entry p true) s = .next (emit (pwf s n PRT_STATE_LINK 4) (.port n "u2")))
         ∧ (¬ idle2 → exec (.u1U2Entry p true) s = .next s))
      ∧ (let asleep := portState s n = 3 ∧ x.ss = .up ∧ (link = 3 ∨ link = 4)
         (asleep → exec (.uExitEarly p) s = .next (emit (setPort s n { x with ss := .exiting }) (.port n "exit to u0")))
         ∧ (¬ asleep → exec (.uExitEarly p) s = .next s))))

/-- Port engines and the termination: an expiry of a running engine, a self-check passed, after which a partner that has stopped is covered,
and a calibration, in a microframe of its own, trimmed by one step at the most (log entry 123), with the largest deviation shown, the first of
equals. -/
def Obligations.PortEngines : Prop :=
  (∀ (s : State) (pe : BitVec 7),
     (let n := pe.toNat
      let s1 := peSet s n CLU_PE_STATUS_STATE 1
      (peState s n = 1 → exec (.peWatchdogExpire pe) s = .next (peExpire s n))
      ∧ (peState s n ≠ 1 → exec (.peWatchdogExpire pe) s = .next s)
      ∧ (peState s n = 2 → peState s1 (peMate n) = 1 → exec (.peSelfCheckPass pe) s = .next s1)
      ∧ (peState s n = 2 → peState s1 (peMate n) ≠ 1 → exec (.peSelfCheckPass pe) s = .next (takeOver (handBack s1 n) (peMate n)))
      ∧ (peState s n ≠ 2 → exec (.peSelfCheckPass pe) s = .next s)))
  ∧ (∀ (s : State) (p : BitVec 9) (v : BitVec 8),
     (let s1 := setPort s p.toNat { portAt s p.toNat with termDev := trimmed v }
      let mag := fun v => if v < 128 then v else 256 - v
      let best := s1.prt.tab.foldl (fun b q => if mag b.2 < mag q.2.termDev then (q.1, q.2.termDev) else b) (0, 0)
      let due := s.mgt.boot = .running ∧ chipDeep s = false ∧ s.clk.uframe.toNat % 8 = 0
      (due → exec (.terminationCal p v) s = .next (wf (wf s1 pFlt FLT_CAL_TERM_PORT best.1) pFlt FLT_CAL_TERM_DEV best.2))
      ∧ (¬ due → exec (.terminationCal p v) s = .next s)))

/-! ### The service port -/

/-- The service port. VBUS attaches the pull-up where the chip has power for it, and detaches it. A request is taken when its endpoint is
ready: OUT_BUSY, and its dwords in order until one waits or the response is ready; one that is too long halts the endpoint too; while the
endpoint is not ready it stalls, and none is taken while the page works nothing. Records and responses are read out, halts clear, the standard
requests act on the attached device and answer its descriptors. -/
def Obligations.ServicePort : Prop :=
  (∀ (s : State) (hs : Bool),
     (s.mgt.boot = .unpowered → ∀ b, exec (.svcVbusChange b hs) s = .next s)
     ∧ (s.mgt.boot ≠ .unpowered →
       (let s1 := fun b => wb { s with prt := { s.prt with svcHs := hs } } pSvc SVC_STATUS_VBUS b
        (exec (.svcVbusChange false hs) s = .next (svcDetach (s1 false)))
        ∧ (rb s pSvc SVC_STATUS_VBUS = true → exec (.svcVbusChange true hs) s = .next s)
        ∧ (rb s pSvc SVC_STATUS_VBUS = false → svcPowered s = true → exec (.svcVbusChange true hs) s = .next (svcAttach (s1 true)))
        ∧ (rb s pSvc SVC_STATUS_VBUS = false → svcPowered s = false → exec (.svcVbusChange true hs) s = .next (s1 true)))))
  ∧ (∀ (s : State) (req : List Word) (c : Instr), (c = .svcRequestRead req ∧ bits (dw req 0) 0 8 ≠ 2) ∨ (c = .svcRequestWrite req ∧ bits (dw req 0) 0 8 ≠ 1) →
     (let ready := s.svc.haltOut = false ∧ s.svc.job = none ∧ s.svc.resp = none
      let busy := fun n j => wb { s with svc := { s.svc with job := some j, togOut := togAfter s.svc.togOut (bulkPackets s n) } }
        pSvc SVC_STATUS_OUT_BUSY true
      ((svcUp s = false ∨ pageOn s pSvc = false) → exec c s = .next s)
      ∧ (svcUp s = true → pageOn s pSvc = true → ¬ ready → exec c s = .next (svcStalls s 0x01))
      ∧ (svcUp s = true → pageOn s pSvc = true → ready → req.length ≤ 4100 → exec c s = .next (svcGo (busy (4 * req.length) (reqJob req))))
      ∧ (svcUp s = true → pageOn s pSvc = true → ready → 4100 < req.length → exec c s = .next (svcGo (svcStalls
          (busy 16400 { reqJob (req.take 4) with next := bits (dw req 3) 0 13, bad := some 0 }) 0x01)))))
  ∧ (∀ (s : State) (req : List Word), (bits (dw req 0) 0 8 = 2 → exec (.svcRequestRead req) s = .next s)
     ∧ (bits (dw req 0) 0 8 = 1 → exec (.svcRequestWrite req) s = .next s))
  ∧ (∀ s : State,
     (svcUp s = true → s.svc.evt ≠ 0 → exec .svcEventRead s = .next (wb (emit { s with svc := { s.svc with
         evt := 0, newRecs := 0, togEvt := !s.svc.togEvt } } (.svc (wordBytes (evtRecord s)))) pSvc SVC_STATUS_EVT_PENDING false))
     ∧ ((svcUp s = false ∨ s.svc.evt = 0) → exec .svcEventRead s = .next s)
     ∧ (∀ r, svcUp s = true → s.svc.resp = some r → s.svc.haltIn = false → exec .svcResponseRead s = .next (wb (wb (emit { s with
         svc := { s.svc with resp := none, togIn := togAfter s.svc.togIn (bulkPackets s (4 * r.length)) } } (.svc (wordBytes r)))
           pSvc SVC_STATUS_OUT_BUSY false) pSvc SVC_STATUS_IN_READY false))
     ∧ (svcUp s = true → (s.svc.resp = none ∨ s.svc.haltIn = true) → exec .svcResponseRead s = .next (svcStalls s 0x81))
     ∧ (svcUp s = false → exec .svcResponseRead s = .next s))
  ∧ (∀ s : State,
     (svcUp s = true → exec (.svcClearHalt 0x01) s = .next { s with svc := { s.svc with haltOut := false, togOut := false } }
       ∧ exec (.svcClearHalt 0x81) s = .next { s with svc := { s.svc with haltIn := false, togIn := false } }
       ∧ exec (.svcClearHalt 0x82) s = .next { s with svc := { s.svc with togEvt := false } })
     ∧ (∀ ep, svcUp s = true → ep ≠ 0x01 → ep ≠ 0x81 → ep ≠ 0x82 → exec (.svcClearHalt ep) s = .next (emit s (.svcStall 0x00)))
     ∧ (∀ ep, svcUp s = false → exec (.svcClearHalt ep) s = .next s)
     ∧ (∀ b, (rb s pSvc SVC_STATUS_ATTACHED = true → exec (.svcHostSuspend b) s = .next (svcVotes (wb s pSvc SVC_STATUS_SUSPENDED b)))
       ∧ (rb s pSvc SVC_STATUS_ATTACHED = false → exec (.svcHostSuspend b) s = .next s))
     ∧ (∀ r, (rb s pSvc SVC_STATUS_ATTACHED = false ∨ rb s pSvc SVC_STATUS_SUSPENDED = true) → exec (.svcStandardRequest r) s = .next s)
     ∧ (rb s pSvc SVC_STATUS_ATTACHED = true → rb s pSvc SVC_STATUS_SUSPENDED = false →
       exec (.svcStandardRequest .deviceDescriptor) s = .next (emit s (.svcDevice Config.vendorId))
       ∧ exec (.svcStandardRequest .interfaceDescriptor) s = .next (emit s (.svcInterface 0xFF 0x01 0x01 true))
       ∧ exec (.svcStandardRequest .serialString) s = .next (emit s (.svcSerial (serialDigits Config.dieSerial)))
       ∧ (∀ a : BitVec 7, exec (.svcStandardRequest (.setAddress a)) s = .next (wf s pSvc SVC_STATUS_ADDRESS a.toNat))
       ∧ (∀ v, exec (.svcStandardRequest (.setConfiguration v)) s = .next (svcVotes (wb { s with svc := { s.svc with
           haltOut := false, haltIn := false, togOut := false, togIn := false, togEvt := false } } pSvc SVC_STATUS_CONFIGURED (v != 0))))
       ∧ exec (.svcStandardRequest .other) s = .next s
       ∧ exec (.svcStandardRequest .unsupported) s = .next (emit s (.svcStall 0x00))))

/-! ### DMA -/

/-- Writes of DMA_CTRL: a planner channel refuses them; a software channel that is idle or in error takes its fields and starts, single or
chained, a busy one takes PAUSE, RESUME and STOP. What ends a transfer: its bytes, a word known to be bad, a descriptor that is lost or bad, a
barrier, a bus error, of a channel or of a planner's flow, and a pause at a beat, which no count below what the bank has read can name (log
entry 117); a chain without its descriptor takes the one that comes; a pace event starts one or is counted. Each acts in its own state of the
channel alone. -/
def Obligations.DmaChannels : Prop :=
  (∀ (s : State) (src : Src) (ch : BitVec 6) (v : Word) (d : Option (List Word)), gate s src (dmaPage ch.toNat) (0x54 + ch.toNat % 4 * 0x40) true = .ok →
     (let n := ch.toNat
      let cs : List (Instr × Word × Option (List Word)) := [(.dmaStartSingle src ch v, (v ||| bitW 0) &&& ~~~ bitW 2, none),
        (.dmaStartChain src ch v d, v ||| bitW 0 ||| bitW 2, d), (.dmaPause src ch, ctrlWord s n ||| bitW 1, none),
        (.dmaResume src ch, ctrlWord s n &&& ~~~ bitW 1, none), (.dmaStop src ch, ctrlWord s n ||| bitW 11, none)]
      ∀ c w x, (c, w, x) ∈ cs →
        (let set := writeFields s (dmaPage n) (0x54 + n % 4 * 0x40) w
         let free := cState s n = 0 ∨ cState s n = 7
         (n < 48 → exec c s = .next (refuseAccess s src (dmaPage n) (0x54 + n % 4 * 0x40) true 1 false))
         ∧ (48 ≤ n → free → bit w 0 = true → bit w 11 = false → exec c s = .next (chanStart set n x))
         ∧ (48 ≤ n → free → (bit w 0 = false ∨ bit w 11 = true) → exec c s = .next set)
         ∧ (48 ≤ n → ¬ free → exec c s = .next (ctrlBusy s n w)))))
  ∧ (∀ (s : State) (ch : BitVec 6) (next : Option (List Word)) (d : List Byte) (ws : List (BitVec 16)),
     (let n := ch.toNat
      let k := chanAt s n
      let count := crf s n DMA_COUNT_COUNT
      (n < 48 → exec (.dmaBarrierArrived ch next) s = .next s ∧ exec (.dmaDescReadFail ch) s = .next s ∧ exec (.dmaPaceTimer ch) s = .next s
        ∧ exec (.dmaDescriptorDone ch d next ws) s = .next s)
      ∧ (48 ≤ n →
        (cState s n ≠ 5 → exec (.dmaBarrierArrived ch next) s = .next s)
        ∧ (cState s n = 5 → k.chain = true → exec (.dmaBarrierArrived ch next) s = .next (descFinish s n k.barrier next))
        ∧ (cState s n = 5 → k.chain = false → k.barrier = 0 → exec (.dmaBarrierArrived ch next) s = .next
            (chanDone (if ctl s n DMA_CTRL_IRQ then chanEvt s n 1 else s) n))
        ∧ (cState s n = 5 → k.chain = false → k.barrier ≠ 0 → exec (.dmaBarrierArrived ch next) s = .next (chanError (chanErr s n 0) n))
        ∧ (chanGoes s n = true → k.chain = true → k.desc = none →
            exec (.dmaDescReadFail ch) s = .next (chanError (chanErr (setChan s n { k with chain := false }) n 1) n))
        ∧ ((chanGoes s n = false ∨ k.chain = false ∨ k.desc ≠ none) → exec (.dmaDescReadFail ch) s = .next s)
        ∧ (crf s n DMA_PACE_SRC = 1 →
          ((cState s n = 0 ∨ cState s n = 7) → exec (.dmaPaceTimer ch) s = .next s)
          ∧ (cState s n = 4 → exec (.dmaPaceTimer ch) s = .next (chanRun s n))
          ∧ (cState s n ≠ 0 → cState s n ≠ 7 → cState s n ≠ 4 →
            (crf s n DMA_STATUS_PACE_PENDING = 255 → exec (.dmaPaceTimer ch) s = .next (chanErr s n 3))
            ∧ (crf s n DMA_STATUS_PACE_PENDING ≠ 255 → exec (.dmaPaceTimer ch) s = .next
                (cwf s n DMA_STATUS_PACE_PENDING (crf s n DMA_STATUS_PACE_PENDING + 1)))))
        ∧ (crf s n DMA_PACE_SRC ≠ 1 → exec (.dmaPaceTimer ch) s = .next s)
        ∧ (let bad := if ctl s n DMA_CTRL_SRC_EBM then firstBad s (srcRanges s n count k.cnd) else none
           let held := (chanLit s n = false ∧ cState s n = 1) ∨ bytesFit s n count d = false
           let goes := chanGoes s n = true ∧ ¬ (k.chain = true ∧ k.desc = none)
           let formed := ¬ (k.chain = true ∧ xferBad s n = true)
           (chanGoes s n = false → exec (.dmaDescriptorDone ch d next ws) s = .next s)
           ∧ (chanGoes s n = true → k.chain = true → k.desc = none → exec (.dmaDescriptorDone ch d next ws) s = .next (takeNext s n next))
           ∧ (goes → ¬ formed → exec (.dmaDescriptorDone ch d next ws) s = .next (xferEnd s n 8 next))
           ∧ (goes → formed → held → exec (.dmaDescriptorDone ch d next ws) s = .next s)
           ∧ (goes → formed → ¬ held → bad = none → exec (.dmaDescriptorDone ch d next ws) s = .next
               (xferEnd (moveBytes (endBeats s n) n count d ws) n 0 next))
           ∧ (∀ a, goes → formed → ¬ held → bad = some a →
             (beforeBad s n count k.cnd = 0 → exec (.dmaDescriptorDone ch d next ws) s = .next (xferEnd (eccLog s a true) n 8 next))
             ∧ (beforeBad s n count k.cnd ≠ 0 → exec (.dmaDescriptorDone ch d next ws) s = .next
                 (xferEnd (eccLog (moveBytes s n (beforeBad s n count k.cnd) [] ws) a true) n 8 next)))))))
  ∧ (∀ (s : State) (ch : BitVec 6) (moved : BitVec 24) (d : List Byte),
     (let n := ch.toNat
      let k := chanAt s n
      let m := moved.toNat
      let count := crf s n DMA_COUNT_COUNT
      let beat := m = 0 ∨ m = count ∨ (k.cnd = [] ∧ ((cpair s n 0x40).toNat + m) % 64 = 0) ∨ (k.cnd ≠ [] ∧ m % frameBytes k.cnd = 0)
      let ends := cState s n = 2 ∧ m ≤ count ∧ beat
      (¬ ends → exec (.dmaPaused ch moved d) s = .next s)
      ∧ (ends → pausedReads s n m = none → exec (.dmaPaused ch moved d) s = .next s)
      ∧ (∀ t, ends → pausedReads s n m = some t →
        (let u := drainParked t n
         let fits := bytesFit u n m d = true ∧ (m = 0 ∨ (xferBad u n = false ∧ ¬ (k.chain = true ∧ k.desc = none)))
         let bad := if ctl u n DMA_CTRL_SRC_EBM && !xferBad u n then firstBad u (srcRanges u n m k.cnd) else none
         let good := beforeBad u n m k.cnd
         (48 ≤ n → ¬ fits → exec (.dmaPaused ch moved d) s = .next s)
         ∧ (48 ≤ n → fits → bad = none → exec (.dmaPaused ch moved d) s = .next (resumePowered (pausedNow (moveBytes u n m d []) n)))
         ∧ (∀ a, 48 ≤ n → fits → bad = some a → exec (.dmaPaused ch moved d) s = .next
             (resumePowered (xferEnd (eccLog (if good = 0 then u else moveBytes u n good [] []) a true) n 8 none)))
         ∧ (n < 48 → exec (.dmaPaused ch moved d) s = .next (resumePowered (pausedNow (advancePlan u n m k.cnd) n)))))))
  ∧ (∀ (s : State) (ch : BitVec 6) (k : BusErr) (moved : BitVec 24) (d : List Byte) (next : Option (List Word)),
     (let n := ch.toNat
      let m := moved.toNat
      let goes := 48 ≤ n ∧ chanGoes s n = true ∧ ¬ ((chanAt s n).chain = true ∧ (chanAt s n).desc = none)
      let got := m ≠ 0 ∧ m ≤ crf s n DMA_COUNT_COUNT ∧ m % frameBytes (chanAt s n).cnd = 0 ∧ bytesFit s n m d = true ∧ xferBad s n = false
      let logged := fun s => match k with | .eccUe a => eccLog s a.toNat true | _ => s
      (¬ goes → exec (.dmaBusError (.chan ch) ⟨k, moved, d⟩ next) s = .next s)
      ∧ (goes → got → exec (.dmaBusError (.chan ch) ⟨k, moved, d⟩ next) s = .next (xferEnd (logged (moveBytes s n m d [])) n 8 next))
      ∧ (goes → ¬ got → exec (.dmaBusError (.chan ch) ⟨k, moved, d⟩ next) s = .next (xferEnd (logged s) n 8 next))))
  ∧ (∀ (s : State) (ctx : BitVec 13) (moved : BitVec 24) (d : List Byte) (next : Option (List Word)),
     (let c := ctx.toNat
      let serves := ∃ w, (epAt s c).bind (·.work) = some w ∧ w.inSvc = true ∧ w.op ≠ .issue
      let waiting := ∀ w, (epAt s c).bind (·.work) = some w → w.inSvc = false
      (waiting → ∀ k, (∀ a : BitVec 25, k = .eccUe a → a.toNat < 0x1FC0000) → exec (.dmaBusError (.flow ctx) ⟨k, moved, d⟩ next) s = .next s)
      ∧ (∀ e w, epAt s c = some e → e.work = some w → w.inSvc = true → w.op = .issue →
        exec (.dmaBusError (.flow ctx) ⟨.cellLost, moved, d⟩ next) s = .next s
        ∧ exec (.dmaBusError (.flow ctx) ⟨.other, moved, d⟩ next) s = .next s
        ∧ ∀ a : BitVec 25, a.toNat < 0x1FC0000 → exec (.dmaBusError (.flow ctx) ⟨.eccUe a, moved, d⟩ next) s = .next
            (emit (eccLog s a.toNat true) (.port (epPort s e) "bit-stuff error")))
      ∧ (serves →
        exec (.dmaBusError (.flow ctx) ⟨.cellLost, moved, d⟩ next) s = .next
          (flowOn (goOn (failWork (lostCell s).1 c 4 (some (lostCell s).2)) c) c)
        ∧ exec (.dmaBusError (.flow ctx) ⟨.other, moved, d⟩ next) s = .next (flowOn (goOn (failWork s c 8 none) c) c)
        ∧ ∀ a : BitVec 25, a.toNat < 0x1FC0000 → exec (.dmaBusError (.flow ctx) ⟨.eccUe a, moved, d⟩ next) s = .next (flowOn (eccFail s c a.toNat) c))
      ∧ (∀ a : BitVec 25, 0x1FC0000 ≤ a.toNat → exec (.dmaBusError (.flow ctx) ⟨.eccUe a, moved, d⟩ next) s = .next (spillFail s c a.toNat))))

/-! ### EBM -/

/-- Scrubbing, refresh and the sensors of EBM: a scrub tick reads a group of each lit bank, meets the words known to be bad again beside the
errors that the groups hold, and counts on, 65,536 ticks to a pass; a row's refresh moves to the next row and takes up the interval that the
sensor wants; a sample shows its bank's temperature, and TJ_HIGH above 105 °C; the arbiters' counters clear. Without refresh, or with the
scrubber off, nothing changes. -/
def Obligations.EbmCare : Prop :=
  (∀ (s : State) (errs : List EccHit) (ws : List (BitVec 16)),
     (let on := s.mgt.boot = .running ∧ chipDeep s = false ∧ rb s pEbm EBM_SCRUB_ENABLE = true
      let lit := (List.range 8).filter (bankLit s)
      let bad := lit.flatMap (fun b => badWords s (scrubGroup s.seq.scrub b) 64)
      let new := errs.filter (fun h => lit.any (fun b => h.addr.toNat / 64 * 64 == scrubGroup s.seq.scrub b) && !bad.contains (h.addr.toNat / 8))
      let asked := each lit s (fun s b => bankAsk s ⟨b, 255, 0, 1, (ws.getD b 0).toNat, false⟩)
      let met := each new (each bad asked (fun s w => eccLog s (8 * w) true)) (fun s h => eccLog s h.addr.toNat h.ue)
      (¬ on → exec (.scrubTick errs ws) s = .next s)
      ∧ (on → met.seq.scrub + 1 < 65536 → exec (.scrubTick errs ws) s = .next { met with seq := { met.seq with scrub := met.seq.scrub + 1 } })
      ∧ (on → 65536 ≤ met.seq.scrub + 1 → exec (.scrubTick errs ws) s = .next
          (incF { met with seq := { met.seq with scrub := 0 } } pEbm EBM_SCRUB_PASSES))))
  ∧ (∀ (s : State) (b : BitVec 3) (w : BitVec 16) (tj : BitVec 8),
     (refreshes s = false → exec (.refreshRow b w) s = .next s ∧ exec (.tempSample b tj) s = .next s)
     ∧ (refreshes s = true →
       (∃ t, exec (.refreshRow b w) s = .next t ∧ cnt t.seq.rows b.toNat = (cnt s.seq.rows b.toNat + 1) % 2048
         ∧ cnt t.seq.used b.toNat = cnt s.seq.want b.toNat ∧ t.ebm = s.ebm)
       ∧ (∃ t, exec (.tempSample b tj) s = .next t ∧ bankTj t b.toNat = tj.toInt
         ∧ cnt t.seq.want b.toNat = ivalNext (cnt s.seq.want b.toNat) tj.toInt ∧ t.ebm = s.ebm
         ∧ (tj.toInt ≤ 105 → t.out = s.out)
         ∧ (105 < tj.toInt → chipDeep s = false → bankTj s b.toNat ≤ 105 → bit (rd t (adr pEbm 0x020)) 2 = true))))
  ∧ (∀ (s : State) (src : Src), gate s src pArb 0x050 true = .ok → exec (.arbClear src) s = .next { s with arb := [] })

/-! ### Instances -/

/-- Enabling and removing functions, their resets, on a member also (log entry 98), and the end of a quiesce. Mailboxes and masks: a release of
a full mailbox empties it, a post of an empty one fills it and interrupts where it is asked to, and the end of a mask sends what waited. A
function that is not there reaches nothing. -/
def Obligations.InstanceLife : Prop :=
  (∀ s : State,
     (epActive s = false → ∀ n i o k, exec (.vfEnable n) s = .next s ∧ exec (.vfRemoval n) s = .next s
       ∧ exec (.functionLevelReset i) s = .next s ∧ exec (.msixUnmask o k) s = .next s)
     ∧ (epActive s = true →
       (∀ n, exec (.vfEnable n) s = .next (setVfs s n.toNat))
       ∧ (∀ n, (n.toNat ≤ s.mgt.vfs → exec (.vfRemoval n) s = .next (setVfs s n.toNat))
         ∧ (s.mgt.vfs < n.toNat → exec (.vfRemoval n) s = .next s))
       ∧ (∀ i : BitVec 10,
         (((instAt s i.toNat).state = 1 ∨ (instAt s i.toNat).state = 2 ∨ (instAt s i.toNat).state = 3) →
           exec (.functionLevelReset i) s = .next (beginReset s i.toNat false))
         ∧ (((instAt s i.toNat).state = 0 ∨ (instAt s i.toNat).state = 4) → exec (.functionLevelReset i) s = .next s))
       ∧ (∀ o,
         (let k := ownerKey o
          let i := instAt s k
          exec (.msixUnmask o .enable) s = .next (msixFlush (setInst s k { i with msixEn := true }) o)
          ∧ exec (.msixUnmask o .func) s = .next (msixFlush (setInst s k { i with fmask := false }) o)
          ∧ (∀ v : BitVec 8, v.toNat < vectors o → i.unmasked.contains v = false → exec (.msixUnmask o (.vector v)) s = .next
              (msixFlush (setInst s k { i with unmasked := i.unmasked ++ [v] }) o))
          ∧ (∀ v : BitVec 8, (vectors o ≤ v.toNat ∨ i.unmasked.contains v = true) →
              exec (.msixUnmask o (.vector v)) s = .next (msixFlush (setInst s k i) o)))))
     ∧ (∀ i : BitVec 10,
       (isMember s = false → (instAt s i.toNat).state ≠ 4 → exec (.instanceResetDone i) s = .next s)
       ∧ (isMember s = true → exec (.instanceResetDone i) s = .next
           (let s1 := dropObjects (setInst s i.toNat { instAt s i.toNat with away := 0, quiesce := none }) i.toNat
            if bit (freeNow s) 0 then dropPorts (freeStep s1) i.toNat else freeStep s1))
       ∧ (isMember s = false → (instAt s i.toNat).state = 4 → exec (.instanceResetDone i) s = .next (endReset s i.toNat)
         ∧ (instAt (endReset s i.toNat) i.toNat).state
             = (if (instAt s i.toNat).removing = false ∨ i.toNat < s.mgt.vfs then 1 else 0))
       ∧ (phaseHere s (instAt s i.toNat) = 2 → instStill s (.inst i) = true → exec (.quiesceDone i) s = .next (endQuiesce s i.toNat))
       ∧ ((phaseHere s (instAt s i.toNat) ≠ 2 ∨ instStill s (.inst i) = false) → exec (.quiesceDone i) s = .next s)))
  ∧ (∀ (s : State) (i : BitVec 10),
     (let n := i.toNat
      let x := instAt s n
      let posted := evt (setInst s n { x with outFull := true }) pTen 0
      (windowOpen s (.inst i) = false → exec (.tenantInRelease i) s = .next s ∧ exec (.tenantOutPost i) s = .next s)
      ∧ (windowOpen s (.inst i) = true →
        (x.inFull = true → exec (.tenantInRelease i) s = .next (evt (setInst s n { x with inFull := false }) pTen 1))
        ∧ (x.inFull = false → exec (.tenantInRelease i) s = .next s)
        ∧ (x.outFull = true → exec (.tenantOutPost i) s = .next s)
        ∧ (x.outFull = false →
          (rb posted pTen TEN_MBX_CFG_EN = true → exec (.tenantOutPost i) s = .next
            (msix posted .mgr (BitVec.ofNat 8 (rf posted pTen TEN_MBX_CFG_VECTOR))))
          ∧ (rb posted pTen TEN_MBX_CFG_EN = false → exec (.tenantOutPost i) s = .next posted)))))
  ∧ (∀ (s : State) (src : Src), gate s src pTen 0x090 true = .ok →
     (let n := selInst s
      let x := instAt s n
      let filled := setInst s n { x with inFull := true }
      let freed := setInst s n { x with outFull := false }
      (x.inFull = true → exec (.managerInPost src) s = .next (err s pTen 4))
      ∧ (x.inFull = false → bit x.mbxCtl 2 = false → exec (.managerInPost src) s = .next filled)
      ∧ (x.inFull = false → bit x.mbxCtl 2 = true → exec (.managerInPost src) s = .next (msix filled (ownerOf n) (mbxVec x)))
      ∧ (x.outFull = true → bit x.mbxCtl 3 = false → exec (.managerOutRelease src) s = .next freed)
      ∧ (x.outFull = true → bit x.mbxCtl 3 = true → exec (.managerOutRelease src) s = .next (msix freed (ownerOf n) (mbxVec x)))
      ∧ (x.outFull = false → exec (.managerOutRelease src) s = .next s)))

/-! ### Power -/

/-- Requests for a deep state, while page PWR works (log entry 104): out of another mode or while the chip is on its way they are refused, as
they are by an instance that is enabled, by a vote that is not forced and by a busy channel that is, and otherwise the entry begins;
AON_FORCE_P5 acts on its key alone. A deep entry and exit go on by their steps, each from its phase alone. -/
def Obligations.DeepStates : Prop :=
  (∀ (s : State) (src : Src) (f : Bool) (n : Nat) (c : Instr), (n, c) ∈ [(3, .chipRequestP3 src f), (4, .chipRequestP4 src f), (5, .chipRequestP5 src f)] →
     gate s src pPwr 0x040 true = .ok → (pageOn s pPwr = false → exec c s = .next s) ∧ (pageOn s pPwr = true →
     (let still := pwrIdle s = true ∧ mode s = 0 ∧ pendingMode s = false
      let used := s.inst.any (fun i => decide (i.1 < 1024) && i.2.state != 0) = true
      (¬ still → exec c s = .next (chipRefuse s 1))
      ∧ (still → used → exec c s = .next (chipRefuse s 2))
      ∧ (still → ¬ used → f = false → anyVote s = true → exec c s = .next (refuseByVote s allDoms true))
      ∧ (still → ¬ used → (f = true ∨ anyVote s = false) → busyChan s = none → exec c s = .next (enterDeep s n))
      ∧ (∀ ch, still → ¬ used → busyChan s = some ch →
        (f = true → exec c s = .next (powerRefuse s (32 + ch / 16) 0 (0x58 + ch / 16) (0x8020 + ch / 16)))
        ∧ (f = false → anyVote s = false → exec c s = .next (enterDeep s n))))))
  ∧ (∀ (s : State) (src : Src) (v : Word), gate s src pAon 0x05C true = .ok →
     (bits v 0 8 ≠ 0xC5 → exec (.forceP5 src v) s = .next s) ∧ (bits v 0 8 = 0xC5 → exec (.forceP5 src v) s = .next (forceDown s)))
  ∧ (∀ s : State,
     (∀ ok, s.pwr.phase ≠ .copying → exec (.recordCopyDone ok) s = .next s)
     ∧ (s.pwr.phase = .copying → exec (.recordCopyDone true) s = .next (closeStep s)
         ∧ exec (.recordCopyDone false) s = .next { s with pwr := { s.pwr with phase := .undoing } })
     ∧ (s.pwr.phase ≠ .closing → exec .bypassCloseTimeout s = .next s)
     ∧ (s.pwr.phase = .closing → exec .bypassCloseTimeout s = .next
         (report { s with pwr := { s.pwr with phase := .undoing } } (blockLoc s pRing 0) 0xFF))
     ∧ (s.pwr.phase ≠ .undoing → exec .entryUndone s = .next s)
     ∧ (s.pwr.phase = .undoing → ∃ t, exec .entryUndone s = .next t ∧ t.pwr.phase = .idle ∧ rb t pPwr PWR_CHIP_ENTERING = false
         ∧ rf t pPwr PWR_REFUSE_COUNT_ABORTED = min 65535 (rf s pPwr PWR_REFUSE_COUNT_ABORTED + 1) ∧ t.ebm = s.ebm))
  ∧ (∀ s : State,
     (let ends := s.pwr.phase = .closing ∨ s.pwr.phase = .entering
      (¬ ends → exec .chipEntryDone s = .next (serveHeld s))
      ∧ (ends → s.pwr.wake = none → s.held = [] → 3 ≤ s.pwr.target → s.pwr.target ≤ 5 →
          ∃ t, exec .chipEntryDone s = .next t ∧ t.pwr.phase = .deep ∧ rf t pPwr PWR_CHIP_STATE = s.pwr.target
            ∧ rb t pPwr PWR_CHIP_ENTERING = false)
      ∧ (∀ w, ends → s.pwr.wake = some w → s.held = [] → 3 ≤ s.pwr.target → s.pwr.target ≤ 5 →
          ∃ t, exec .chipEntryDone s = .next t
            ∧ (s.pwr.target = 5 → t.mgt.boot = .inReset ∧ rf t pAon AON_RESET_CAUSE_CAUSE = 4)
            ∧ (s.pwr.target ≠ 5 → t.pwr.phase = .exiting ∧ rb t pPwr PWR_CHIP_EXITING = true ∧ rf t pAon AON_WAKE_CAUSE = w.toNat))
      ∧ (s.pwr.phase ≠ .exiting → exec .chipExitDone s = .next (serveHeld s))
      ∧ (s.pwr.phase = .exiting → s.held = [] → ∃ t, exec .chipExitDone s = .next t ∧ t.pwr.phase = .idle ∧ rf t pPwr PWR_CHIP_STATE = 0
          ∧ rb t pPwr PWR_CHIP_EXITING = false ∧ t.ring.joinTimer = true ∧ t.mgt.wdogAt = (rct s).toNat)))

/-- Domains: a release, a request by the selected domain's votes, the ends of transits with what then follows for a domain that is forced or
voted for, and the timers that withdraw votes, each where its profile and an idle chip or cluster have it. -/
def Obligations.Domains : Prop :=
  (∀ (s : State) (src : Src) (f : Bool) (n : Nat) (c : Instr),
     (n, f, c) ∈ [(0, false, .domainRelease src), (1, f, .domainRequestP1 src f), (2, f, .domainRequestP2 src f)] →
     gate s src pPwr 0x04C true = .ok →
     (let d := s.pwr.sel
      let on := pageOn s pPwr = true
      let can := on ∧ pwrIdle s = true ∧ domOk d = true
      (¬ on → exec c s = .next s)
      ∧ (on → (pwrIdle s = false ∨ domOk d = false) → exec c s = .next (powerRefuse s 0 1 d 0))
      ∧ (can → n = 0 → exec c s = .next (releaseDom s d))
      ∧ (can → n ≠ 0 → f = true → forceOk s d = true → exec c s = .next (forceDom s d n))
      ∧ (can → n ≠ 0 → f = true → forceOk s d = false → exec c s = .next (powerRefuse s 0 1 d 0))
      ∧ (can → n ≠ 0 → f = false → voted (domAt s d) = true → exec c s = .next (refuseByVote s [d] false))
      ∧ (can → n ≠ 0 → f = false → voted (domAt s d) = false → (domAt s d).forced ≠ none →
          exec c s = .next (setDom s d (domForce (domAt s d) n (entryWaits s d))))
      ∧ (can → n ≠ 0 → f = false → voted (domAt s d) = false → (domAt s d).forced = none →
          exec c s = .next (setDom s d (domTo (domAt s d) n)))))
  ∧ (∀ (s : State) (d : BitVec 8),
     (let x := domAt s d.toNat
      let y := { x with pstate := 2, transit := .none, level := min 20 (rf s pPwr PWR_CARAMEL_LEVEL) }
      ((x.transit ≠ .toP2 ∨ (x.forced ≠ none ∧ drained s d.toNat = false)) → exec (.domainP2EntryDone d) s = .next s)
      ∧ (x.transit = .toP2 → x.forced = none → exec (.domainP2EntryDone d) s = .next (islandVotes (setDom s d.toNat (settledAsked y)) d.toNat))
      ∧ (∀ t, x.transit = .toP2 → x.forced = some t → drained s d.toNat = true →
          exec (.domainP2EntryDone d) s = .next (islandVotes (setDom s d.toNat (domForce y t false)) d.toNat))
      ∧ (x.transit ≠ .exit → exec (.domainExitDone d) s = .next (serveHeld (dueTicks s)))
      ∧ (x.transit = .exit →
        (let z := { x with pstate := 0, transit := .none }
         let s1 := (match z.forced with
           | some t => forceP1 (setDom s d.toNat (domForce z t false)) d.toNat
           | none => setDom s d.toNat (settledAsked z))
         let s2 := resumePowered (islandVotes s1 d.toNat)
         let lit := d.toNat < 64 ∧ domClosed s2 d.toNat = false
         (lit → exec (.domainExitDone d) s = .next (serveHeld (dueTicks (wakeCluster s2 d.toNat))))
         ∧ (¬ lit → exec (.domainExitDone d) s = .next (serveHeld (dueTicks s2)))))
      ∧ (let quits := domOk d.toNat = true ∧ quiet s = true ∧ chipDeep s = false ∧ voted x = false ∧ x.pstate = 1 ∧ x.transit = .none
           ∧ x.forced = none
         (quits → exec (.quietIdleTimer d) s = .next (setDom s d.toNat { x with transit := .toP2 }))
         ∧ (¬ quits → exec (.quietIdleTimer d) s = .next s))))
  ∧ (∀ s : State,
     (let p := rf s pPln PLN_PROFILE_ACTIVE
      let rests := chipIdle s = true ∧ (p = 0 ∨ p = 3) ∧ chipDeep s = false
      (rests → exec .autoP1Delay s = .next
        (each allDoms { s with pwr := { s.pwr with idle := true } } (fun s d => settle (voteHw s 36 d false) d)))
      ∧ (¬ rests → exec .autoP1Delay s = .next s)
      ∧ (∀ c : BitVec 6,
        (let idle := quiet s = true ∧ clIdle s c.toNat = true ∧ chipDeep s = false
         let s1 := voteHw s 36 c.toNat false
         (idle → s1.pwr.clidle.contains c.toNat = true → exec (.clusterIdleTimer c) s = .next s1)
         ∧ (idle → s1.pwr.clidle.contains c.toNat = false → exec (.clusterIdleTimer c) s = .next
             { s1 with pwr := { s1.pwr with clidle := s1.pwr.clidle ++ [c.toNat] } })
         ∧ (¬ idle → exec (.clusterIdleTimer c) s = .next s)))
      ∧ (∀ c : BitVec 6, exec (.detectorVoteExpire c) s = .next (voteHw s 40 c.toNat false))))

/-- The RTC and its alarm: a tick counts on, in a deep state also on RCT, and fires an alarm that is due; ALARM_NOW arms the alarm at the
present. The feeds: the loss of both takes the power away, and one lost for 1 ms leaves the other to carry the chip (log entry 114), reported
outside a deep state. The DCO steps down to 2 while the chip has power, and up to 16. -/
def Obligations.AlwaysOn : Prop :=
  (∀ s : State,
     (s.mgt.boot = .unpowered → exec .rtcTick s = .next s)
     ∧ (s.mgt.boot ≠ .unpowered →
       (let now := rtc s + 1
        let k := s.clk.tick.toNat
        let s1 := wrPair s pAon 0x040 now
        let s2 := if chipDeep s1 then { s1 with clk := { s1.clk with
            rct := s1.clk.rct + BitVec.ofNat 64 ((k + 1) * 1953125 / 64 - k * 1953125 / 64), tick := s1.clk.tick + 1 } } else s1
        let due := rb s2 pAon AON_ALARM_CTRL_ARMED = true ∧ (join64 (rd s2 (adr pAon 0x048)) (rd s2 (adr pAon 0x04C))).toNat ≤ now.toNat
        (¬ due → exec .rtcTick s = .next s2) ∧ (due → exec .rtcTick s = .next (fire s2)) ∧ rtc s2 = now)))
  ∧ (∀ (s : State) (src : Src), gate s src pAon 0x050 true = .ok → ∃ t, exec (.alarmNow src) s = .next t
       ∧ join64 (rd t (adr pAon 0x048)) (rd t (adr pAon 0x04C)) = rtc s ∧ rb t pAon AON_ALARM_CTRL_ARMED = true ∧ t.pwr.armedBy = 1
       ∧ t.ebm = s.ebm ∧ t.que = s.que)
  ∧ (∀ s : State,
     (∃ t, exec .phantomFeedLoss s = .next t ∧ t.mgt.boot = .unpowered ∧ t.ring.east.feed = false ∧ t.ring.west.feed = false ∧ t.ebm = []
       ∧ t.pending = s.pending)
     ∧ (∀ d, ∃ t, exec (.feedLostTimer d) s = .next t
        ∧ (s.mgt.boot = .unpowered → t = s)
        ∧ (s.mgt.boot ≠ .unpowered →
          (let s1 := match d with
             | .east => setSide (setSide s .east { s.ring.east with feed := false }) .west { s.ring.west with feed := true }
             | .west => setSide (setSide s .west { s.ring.west with feed := false }) .east { s.ring.east with feed := true }
           t = if chipDeep s then s1 else report s1 (chipLoc s) 0x62)))
     ∧ (let down := s.mgt.boot ≠ .unpowered ∧ 2 < s.pwr.dco
        (down → exec .dcoStepDown s = .next { s with pwr := { s.pwr with dco := s.pwr.dco - 1 } }) ∧ (¬ down → exec .dcoStepDown s = .next s))
     ∧ (s.pwr.dco < 16 → exec .dcoStepUp s = .next { s with pwr := { s.pwr with dco := s.pwr.dco + 1 } })
     ∧ (16 ≤ s.pwr.dco → exec .dcoStepUp s = .next s))

/-! ### Faults -/

/-- The Fault Funnel: a report while it runs; the end of a hush window raises an open record, with its root cause, or retires a remote one;
retiring, of record 63 with its counts; freezing, which starts the snapshot once, and thawing; the snapshot's end. A frozen log stays as it
is. -/
def Obligations.Funnel : Prop :=
  (∀ (s : State) (loc : BitVec 64) (code : BitVec 16) (i : BitVec 6),
     (let r := recAt s i.toNat
      (funnelRuns s = false → exec (.faultReport loc code) s = .next s ∧ exec (.hushWindowEnd i) s = .next s)
      ∧ (funnelRuns s = true → exec (.faultReport loc code) s = .next (report s loc code))
      ∧ (funnelRuns s = true →
        ((r.state ≠ 1 ∨ frozen s = true) → exec (.hushWindowEnd i) s = .next s)
        ∧ (r.state = 1 → frozen s = false → r.remote = true → exec (.hushWindowEnd i) s = .next (setRec s i.toNat { r with state := 3 }))
        ∧ (r.state = 1 → frozen s = false → r.remote = false → exec (.hushWindowEnd i) s = .next
            (rootCause (setRec s i.toNat { r with state := 2 }))))))
  ∧ (∀ (s : State) (src : Src) (i : BitVec 6), gate s src pFlt 0x048 true = .ok →
     (let r := recAt s i.toNat
      (r.state = 2 → frozen s = false → i ≠ 63 → exec (.fltRetire src i) s = .next (setRec s i.toNat { r with state := 3 }))
      ∧ (r.state = 2 → frozen s = false → i = 63 → exec (.fltRetire src i) s = .next
          (setRec s i.toNat { r with state := 3, suppressed := 0, affected := 0, moves := 0 }))
      ∧ ((r.state ≠ 2 ∨ frozen s = true) → exec (.fltRetire src i) s = .next s)))
  ∧ (∀ (s : State) (src : Src), gate s src pFlt 0x044 true = .ok →
     (frozen s = false → exec (.fltFreeze src) s = .next (wb (wb s pFlt FLT_FREEZE_FREEZE true) pNvm NVM_SNAPSHOT_BUSY true))
     ∧ (frozen s = true → exec (.fltFreeze src) s = .next s)
     ∧ exec (.fltThaw src) s = .next (wb s pFlt FLT_FREEZE_FREEZE false))
  ∧ (∀ s : State,
     (rb s pNvm NVM_SNAPSHOT_BUSY = false → ∀ b, exec (.snapshotDone b) s = .next s)
     ∧ (rb s pNvm NVM_SNAPSHOT_BUSY = true →
       (let s1 := wb s pNvm NVM_SNAPSHOT_BUSY false
        exec (.snapshotDone true) s = .next (wb { s1 with nvm := { s.nvm with snapshot := snapshotOf s } } pNvm NVM_SNAPSHOT_VALID true)
        ∧ exec (.snapshotDone false) s = .next (err s1 pNvm 3))))

/-- Watchers: a heartbeat check counts the engines that miss it and clears the others, an engine's watchdog expires while it runs and its
restart ends, the margins are shown and reported below their thresholds, and the thermal shutdown reports, tells the sideband and forces
P5. -/
def Obligations.Watchers : Prop :=
  (∀ s : State,
     (funnelRuns s = false → (∀ l, exec (.heartbeatCheck l) s = .next s) ∧ (∀ e, exec (.engineWatchdogExpire e) s = .next s)
       ∧ (∀ a b c d, exec (.eqAdaptTick a b c d) s = .next s) ∧ (∀ k, exec (.calMarginTimer k) s = .next s))
     ∧ (funnelRuns s = true →
       (∀ l, exec (.heartbeatCheck l) s = .next (heartbeats s l))
       ∧ (∀ e, (engRuns s e = true → exec (.engineWatchdogExpire e) s = .next (engExpire s e))
         ∧ (engRuns s e = false → exec (.engineWatchdogExpire e) s = .next s))
       ∧ (∀ em wm eu wu : BitVec 8, ∃ t, exec (.eqAdaptTick em wm eu wu) s = .next t
         ∧ rf t pFlt FLT_CAL_RING_EAST_MV = em.toNat ∧ rf t pFlt FLT_CAL_RING_WEST_MV = wm.toNat
         ∧ rf t pFlt FLT_CAL_RING_EAST_UI = eu.toNat ∧ rf t pFlt FLT_CAL_RING_WEST_UI = wu.toNat
         ∧ (∀ a, a ≠ adr pFlt 0x054 → rd t a = rd s a) ∧ t.out = s.out ∧ t.ebm = s.ebm)
       ∧ (∀ k, marginLow s k = false → exec (.calMarginTimer k) s = .next s)
       ∧ (∀ p : BitVec 9, marginLow s (.term p) = true →
           exec (.calMarginTimer (.term p)) s = .next (report (errBit s pFlt 2) (portLoc s p.toNat) 0x63))
       ∧ (∀ d, marginLow s (.eye d) = true →
           exec (.calMarginTimer (.eye d)) s = .next (report (errBit s pFlt 2) (chipLoc s) 0x63))))
  ∧ (∀ (s : State) (e : Engine),
     (e.n.toNat < kindCount e.kind → engState s e = 2 → exec (.engineRestartDone e) s = .next (setEngState s e 1))
     ∧ ((kindCount e.kind ≤ e.n.toNat ∨ engState s e ≠ 2) → exec (.engineRestartDone e) s = .next s))
  ∧ (∀ s : State,
     (s.mgt.boot = .unpowered → exec .thermalShutdown s = .next s)
     ∧ (s.mgt.boot ≠ .unpowered → exec .thermalShutdown s = .next (thermalP5 (sbdFault (report s (chipLoc s) 0x61) (chipLoc s) 0x61))))

/-! ### The test port and the module -/

/-- The test port, with power and outside a deep state: TAP_RESET and IDCODE select 0x01, SAMPLE_PRELOAD and the drivers load the cells and
capture the balls, driving what the enable and the ring cells let out, CLAMP drives what was loaded and HIGHZ nothing, BYPASS captures 0 and
is no other instruction's value, DEBUG reaches the registers; an instruction that takes the balls cuts the chip off from them, and one that
does not gives them back. Otherwise nothing acts. -/
def Obligations.TestPort : Prop :=
  (∀ (s : State) (c : Instr) (d p : Scan) (v : BitVec 8) (page : BitVec 8) (off : BitVec 12) (op : Op),
     c ∈ [.tapReset, .idcode, .extest d p, .samplePreload d p, .clamp, .highz, .extestPulse d p, .extestTrain d p, .bypass v, .debug page off op] →
     tapOff s = true → exec c s = .next s)
  ∧ (∀ s : State, tapOff s = false →
     (exec .tapReset s = .next (select s 0x01))
     ∧ (exec .idcode s = .next (emit (select s 0x01) (.tdo 0x20512D47)))
     ∧ (∀ pre pins,
       (let s1 := select s 0x02
        exec (.samplePreload pre pins) s = .next
          (emit { s1 with jtag := { s1.jtag with preload := pre, bound := scanOf s1 pins } } (.tdo (scanOf s1 pins).toNat))))
     ∧ (∀ d p ir c, (ir, c) ∈ [((0x00 : BitVec 8), Instr.extest d p), (0x05, .extestPulse d p), (0x06, .extestTrain d p)] →
       (let s1 := select s ir
        exec c s = .next (emits { s1 with jtag := { s1.jtag with preload := d, bound := scanOf s1 p } }
          [.balls ir (driven s1 d), .tdo (scanOf s1 p).toNat])))
     ∧ (exec .clamp s = .next (emit (emit (select s 0x03) (.tdo 0)) (.balls 0x03 (driven s s.jtag.preload))))
     ∧ (exec .highz s = .next (emit (emit (select s 0x04) (.tdo 0)) (.balls 0x04 0)))
     ∧ (∀ v, tapDefined v = false → exec (.bypass v) s = .next (emit (select s v) (.tdo 0)))
     ∧ (∀ v, tapDefined v = true → exec (.bypass v) s = .next s)
     ∧ (∀ page off op, exec (.debug page off op) s = .next (access (select s 0x10) .jtag page.toNat off.toNat op)))
  ∧ (∀ (s : State) (ir : BitVec 8),
     (let s1 := { s with jtag := { s.jtag with ir := ir } }
      (ballsTaken s = ballsTaken s1 → select s ir = s1)
      ∧ (ballsTaken s = false → ballsTaken s1 = true → select s ir = takeBalls s1)
      ∧ (ballsTaken s = true → ballsTaken s1 = false → select s ir = freeBalls s1)))
end

