-- ==== Sys2Proof/Laws/State.lean ====
section
/-!
SUPPORT. The fields of the state over the named operations: one lemma for each field that an operation leaves, all true by definition;
and what a table, a register or a field reads after it has been written.
-/
namespace Sys2Proof.Machine

/-! ### The fields that an operation leaves -/

@[simp] theorem wr_pending (s : State) (a : Nat) (v : Word) : (wr s a v).pending = s.pending := rfl
@[simp] theorem wr_latch (s : State) (a : Nat) (v : Word) : (wr s a v).latch = s.latch := rfl
@[simp] theorem wr_lowHeld (s : State) (a : Nat) (v : Word) : (wr s a v).lowHeld = s.lowHeld := rfl
@[simp] theorem wr_held (s : State) (a : Nat) (v : Word) : (wr s a v).held = s.held := rfl
@[simp] theorem wr_mgt (s : State) (a : Nat) (v : Word) : (wr s a v).mgt = s.mgt := rfl
@[simp] theorem wr_clk (s : State) (a : Nat) (v : Word) : (wr s a v).clk = s.clk := rfl
@[simp] theorem wr_ring (s : State) (a : Nat) (v : Word) : (wr s a v).ring = s.ring := rfl
@[simp] theorem wr_sbd (s : State) (a : Nat) (v : Word) : (wr s a v).sbd = s.sbd := rfl
@[simp] theorem wr_que (s : State) (a : Nat) (v : Word) : (wr s a v).que = s.que := rfl
@[simp] theorem wr_ctx (s : State) (a : Nat) (v : Word) : (wr s a v).ctx = s.ctx := rfl
@[simp] theorem wr_pln (s : State) (a : Nat) (v : Word) : (wr s a v).pln = s.pln := rfl
@[simp] theorem wr_prt (s : State) (a : Nat) (v : Word) : (wr s a v).prt = s.prt := rfl
@[simp] theorem wr_ebm (s : State) (a : Nat) (v : Word) : (wr s a v).ebm = s.ebm := rfl
@[simp] theorem wr_ebmBad (s : State) (a : Nat) (v : Word) : (wr s a v).ebmBad = s.ebmBad := rfl
@[simp] theorem wr_banks (s : State) (a : Nat) (v : Word) : (wr s a v).banks = s.banks := rfl
@[simp] theorem wr_seq (s : State) (a : Nat) (v : Word) : (wr s a v).seq = s.seq := rfl
@[simp] theorem wr_dma (s : State) (a : Nat) (v : Word) : (wr s a v).dma = s.dma := rfl
@[simp] theorem wr_inst (s : State) (a : Nat) (v : Word) : (wr s a v).inst = s.inst := rfl
@[simp] theorem wr_pwr (s : State) (a : Nat) (v : Word) : (wr s a v).pwr = s.pwr := rfl
@[simp] theorem wr_flt (s : State) (a : Nat) (v : Word) : (wr s a v).flt = s.flt := rfl
@[simp] theorem wr_nvm (s : State) (a : Nat) (v : Word) : (wr s a v).nvm = s.nvm := rfl
@[simp] theorem wr_jtag (s : State) (a : Nat) (v : Word) : (wr s a v).jtag = s.jtag := rfl
@[simp] theorem wr_svc (s : State) (a : Nat) (v : Word) : (wr s a v).svc = s.svc := rfl
@[simp] theorem wr_arb (s : State) (a : Nat) (v : Word) : (wr s a v).arb = s.arb := rfl
@[simp] theorem wr_out (s : State) (a : Nat) (v : Word) : (wr s a v).out = s.out := rfl
@[simp] theorem wr_fresh (s : State) (a : Nat) (v : Word) : (wr s a v).fresh = s.fresh := rfl

@[simp] theorem wf_pending (s : State) (p : Nat) (f : Fld) (v : Nat) : (wf s p f v).pending = s.pending := rfl
@[simp] theorem wf_latch (s : State) (p : Nat) (f : Fld) (v : Nat) : (wf s p f v).latch = s.latch := rfl
@[simp] theorem wf_lowHeld (s : State) (p : Nat) (f : Fld) (v : Nat) : (wf s p f v).lowHeld = s.lowHeld := rfl
@[simp] theorem wf_held (s : State) (p : Nat) (f : Fld) (v : Nat) : (wf s p f v).held = s.held := rfl
@[simp] theorem wf_mgt (s : State) (p : Nat) (f : Fld) (v : Nat) : (wf s p f v).mgt = s.mgt := rfl
@[simp] theorem wf_clk (s : State) (p : Nat) (f : Fld) (v : Nat) : (wf s p f v).clk = s.clk := rfl
@[simp] theorem wf_ring (s : State) (p : Nat) (f : Fld) (v : Nat) : (wf s p f v).ring = s.ring := rfl
@[simp] theorem wf_sbd (s : State) (p : Nat) (f : Fld) (v : Nat) : (wf s p f v).sbd = s.sbd := rfl
@[simp] theorem wf_que (s : State) (p : Nat) (f : Fld) (v : Nat) : (wf s p f v).que = s.que := rfl
@[simp] theorem wf_ctx (s : State) (p : Nat) (f : Fld) (v : Nat) : (wf s p f v).ctx = s.ctx := rfl
@[simp] theorem wf_pln (s : State) (p : Nat) (f : Fld) (v : Nat) : (wf s p f v).pln = s.pln := rfl
@[simp] theorem wf_prt (s : State) (p : Nat) (f : Fld) (v : Nat) : (wf s p f v).prt = s.prt := rfl
@[simp] theorem wf_ebm (s : State) (p : Nat) (f : Fld) (v : Nat) : (wf s p f v).ebm = s.ebm := rfl
@[simp] theorem wf_ebmBad (s : State) (p : Nat) (f : Fld) (v : Nat) : (wf s p f v).ebmBad = s.ebmBad := rfl
@[simp] theorem wf_banks (s : State) (p : Nat) (f : Fld) (v : Nat) : (wf s p f v).banks = s.banks := rfl
@[simp] theorem wf_seq (s : State) (p : Nat) (f : Fld) (v : Nat) : (wf s p f v).seq = s.seq := rfl
@[simp] theorem wf_dma (s : State) (p : Nat) (f : Fld) (v : Nat) : (wf s p f v).dma = s.dma := rfl
@[simp] theorem wf_inst (s : State) (p : Nat) (f : Fld) (v : Nat) : (wf s p f v).inst = s.inst := rfl
@[simp] theorem wf_pwr (s : State) (p : Nat) (f : Fld) (v : Nat) : (wf s p f v).pwr = s.pwr := rfl
@[simp] theorem wf_flt (s : State) (p : Nat) (f : Fld) (v : Nat) : (wf s p f v).flt = s.flt := rfl
@[simp] theorem wf_nvm (s : State) (p : Nat) (f : Fld) (v : Nat) : (wf s p f v).nvm = s.nvm := rfl
@[simp] theorem wf_jtag (s : State) (p : Nat) (f : Fld) (v : Nat) : (wf s p f v).jtag = s.jtag := rfl
@[simp] theorem wf_svc (s : State) (p : Nat) (f : Fld) (v : Nat) : (wf s p f v).svc = s.svc := rfl
@[simp] theorem wf_arb (s : State) (p : Nat) (f : Fld) (v : Nat) : (wf s p f v).arb = s.arb := rfl
@[simp] theorem wf_out (s : State) (p : Nat) (f : Fld) (v : Nat) : (wf s p f v).out = s.out := rfl
@[simp] theorem wf_fresh (s : State) (p : Nat) (f : Fld) (v : Nat) : (wf s p f v).fresh = s.fresh := rfl

@[simp] theorem wb_pending (s : State) (p : Nat) (f : Fld) (b : Bool) : (wb s p f b).pending = s.pending := rfl
@[simp] theorem wb_latch (s : State) (p : Nat) (f : Fld) (b : Bool) : (wb s p f b).latch = s.latch := rfl
@[simp] theorem wb_lowHeld (s : State) (p : Nat) (f : Fld) (b : Bool) : (wb s p f b).lowHeld = s.lowHeld := rfl
@[simp] theorem wb_held (s : State) (p : Nat) (f : Fld) (b : Bool) : (wb s p f b).held = s.held := rfl
@[simp] theorem wb_mgt (s : State) (p : Nat) (f : Fld) (b : Bool) : (wb s p f b).mgt = s.mgt := rfl
@[simp] theorem wb_clk (s : State) (p : Nat) (f : Fld) (b : Bool) : (wb s p f b).clk = s.clk := rfl
@[simp] theorem wb_ring (s : State) (p : Nat) (f : Fld) (b : Bool) : (wb s p f b).ring = s.ring := rfl
@[simp] theorem wb_sbd (s : State) (p : Nat) (f : Fld) (b : Bool) : (wb s p f b).sbd = s.sbd := rfl
@[simp] theorem wb_que (s : State) (p : Nat) (f : Fld) (b : Bool) : (wb s p f b).que = s.que := rfl
@[simp] theorem wb_ctx (s : State) (p : Nat) (f : Fld) (b : Bool) : (wb s p f b).ctx = s.ctx := rfl
@[simp] theorem wb_pln (s : State) (p : Nat) (f : Fld) (b : Bool) : (wb s p f b).pln = s.pln := rfl
@[simp] theorem wb_prt (s : State) (p : Nat) (f : Fld) (b : Bool) : (wb s p f b).prt = s.prt := rfl
@[simp] theorem wb_ebm (s : State) (p : Nat) (f : Fld) (b : Bool) : (wb s p f b).ebm = s.ebm := rfl
@[simp] theorem wb_ebmBad (s : State) (p : Nat) (f : Fld) (b : Bool) : (wb s p f b).ebmBad = s.ebmBad := rfl
@[simp] theorem wb_banks (s : State) (p : Nat) (f : Fld) (b : Bool) : (wb s p f b).banks = s.banks := rfl
@[simp] theorem wb_seq (s : State) (p : Nat) (f : Fld) (b : Bool) : (wb s p f b).seq = s.seq := rfl
@[simp] theorem wb_dma (s : State) (p : Nat) (f : Fld) (b : Bool) : (wb s p f b).dma = s.dma := rfl
@[simp] theorem wb_inst (s : State) (p : Nat) (f : Fld) (b : Bool) : (wb s p f b).inst = s.inst := rfl
@[simp] theorem wb_pwr (s : State) (p : Nat) (f : Fld) (b : Bool) : (wb s p f b).pwr = s.pwr := rfl
@[simp] theorem wb_flt (s : State) (p : Nat) (f : Fld) (b : Bool) : (wb s p f b).flt = s.flt := rfl
@[simp] theorem wb_nvm (s : State) (p : Nat) (f : Fld) (b : Bool) : (wb s p f b).nvm = s.nvm := rfl
@[simp] theorem wb_jtag (s : State) (p : Nat) (f : Fld) (b : Bool) : (wb s p f b).jtag = s.jtag := rfl
@[simp] theorem wb_svc (s : State) (p : Nat) (f : Fld) (b : Bool) : (wb s p f b).svc = s.svc := rfl
@[simp] theorem wb_arb (s : State) (p : Nat) (f : Fld) (b : Bool) : (wb s p f b).arb = s.arb := rfl
@[simp] theorem wb_out (s : State) (p : Nat) (f : Fld) (b : Bool) : (wb s p f b).out = s.out := rfl
@[simp] theorem wb_fresh (s : State) (p : Nat) (f : Fld) (b : Bool) : (wb s p f b).fresh = s.fresh := rfl

@[simp] theorem addF_pending (s : State) (p : Nat) (f : Fld) (n : Nat) : (addF s p f n).pending = s.pending := rfl
@[simp] theorem addF_latch (s : State) (p : Nat) (f : Fld) (n : Nat) : (addF s p f n).latch = s.latch := rfl
@[simp] theorem addF_lowHeld (s : State) (p : Nat) (f : Fld) (n : Nat) : (addF s p f n).lowHeld = s.lowHeld := rfl
@[simp] theorem addF_held (s : State) (p : Nat) (f : Fld) (n : Nat) : (addF s p f n).held = s.held := rfl
@[simp] theorem addF_mgt (s : State) (p : Nat) (f : Fld) (n : Nat) : (addF s p f n).mgt = s.mgt := rfl
@[simp] theorem addF_clk (s : State) (p : Nat) (f : Fld) (n : Nat) : (addF s p f n).clk = s.clk := rfl
@[simp] theorem addF_ring (s : State) (p : Nat) (f : Fld) (n : Nat) : (addF s p f n).ring = s.ring := rfl
@[simp] theorem addF_sbd (s : State) (p : Nat) (f : Fld) (n : Nat) : (addF s p f n).sbd = s.sbd := rfl
@[simp] theorem addF_que (s : State) (p : Nat) (f : Fld) (n : Nat) : (addF s p f n).que = s.que := rfl
@[simp] theorem addF_ctx (s : State) (p : Nat) (f : Fld) (n : Nat) : (addF s p f n).ctx = s.ctx := rfl
@[simp] theorem addF_pln (s : State) (p : Nat) (f : Fld) (n : Nat) : (addF s p f n).pln = s.pln := rfl
@[simp] theorem addF_prt (s : State) (p : Nat) (f : Fld) (n : Nat) : (addF s p f n).prt = s.prt := rfl
@[simp] theorem addF_ebm (s : State) (p : Nat) (f : Fld) (n : Nat) : (addF s p f n).ebm = s.ebm := rfl
@[simp] theorem addF_ebmBad (s : State) (p : Nat) (f : Fld) (n : Nat) : (addF s p f n).ebmBad = s.ebmBad := rfl
@[simp] theorem addF_banks (s : State) (p : Nat) (f : Fld) (n : Nat) : (addF s p f n).banks = s.banks := rfl
@[simp] theorem addF_seq (s : State) (p : Nat) (f : Fld) (n : Nat) : (addF s p f n).seq = s.seq := rfl
@[simp] theorem addF_dma (s : State) (p : Nat) (f : Fld) (n : Nat) : (addF s p f n).dma = s.dma := rfl
@[simp] theorem addF_inst (s : State) (p : Nat) (f : Fld) (n : Nat) : (addF s p f n).inst = s.inst := rfl
@[simp] theorem addF_pwr (s : State) (p : Nat) (f : Fld) (n : Nat) : (addF s p f n).pwr = s.pwr := rfl
@[simp] theorem addF_flt (s : State) (p : Nat) (f : Fld) (n : Nat) : (addF s p f n).flt = s.flt := rfl
@[simp] theorem addF_nvm (s : State) (p : Nat) (f : Fld) (n : Nat) : (addF s p f n).nvm = s.nvm := rfl
@[simp] theorem addF_jtag (s : State) (p : Nat) (f : Fld) (n : Nat) : (addF s p f n).jtag = s.jtag := rfl
@[simp] theorem addF_svc (s : State) (p : Nat) (f : Fld) (n : Nat) : (addF s p f n).svc = s.svc := rfl
@[simp] theorem addF_arb (s : State) (p : Nat) (f : Fld) (n : Nat) : (addF s p f n).arb = s.arb := rfl
@[simp] theorem addF_out (s : State) (p : Nat) (f : Fld) (n : Nat) : (addF s p f n).out = s.out := rfl
@[simp] theorem addF_fresh (s : State) (p : Nat) (f : Fld) (n : Nat) : (addF s p f n).fresh = s.fresh := rfl

@[simp] theorem incF_pending (s : State) (p : Nat) (f : Fld) : (incF s p f).pending = s.pending := rfl
@[simp] theorem incF_latch (s : State) (p : Nat) (f : Fld) : (incF s p f).latch = s.latch := rfl
@[simp] theorem incF_lowHeld (s : State) (p : Nat) (f : Fld) : (incF s p f).lowHeld = s.lowHeld := rfl
@[simp] theorem incF_held (s : State) (p : Nat) (f : Fld) : (incF s p f).held = s.held := rfl
@[simp] theorem incF_mgt (s : State) (p : Nat) (f : Fld) : (incF s p f).mgt = s.mgt := rfl
@[simp] theorem incF_clk (s : State) (p : Nat) (f : Fld) : (incF s p f).clk = s.clk := rfl
@[simp] theorem incF_ring (s : State) (p : Nat) (f : Fld) : (incF s p f).ring = s.ring := rfl
@[simp] theorem incF_sbd (s : State) (p : Nat) (f : Fld) : (incF s p f).sbd = s.sbd := rfl
@[simp] theorem incF_que (s : State) (p : Nat) (f : Fld) : (incF s p f).que = s.que := rfl
@[simp] theorem incF_ctx (s : State) (p : Nat) (f : Fld) : (incF s p f).ctx = s.ctx := rfl
@[simp] theorem incF_pln (s : State) (p : Nat) (f : Fld) : (incF s p f).pln = s.pln := rfl
@[simp] theorem incF_prt (s : State) (p : Nat) (f : Fld) : (incF s p f).prt = s.prt := rfl
@[simp] theorem incF_ebm (s : State) (p : Nat) (f : Fld) : (incF s p f).ebm = s.ebm := rfl
@[simp] theorem incF_ebmBad (s : State) (p : Nat) (f : Fld) : (incF s p f).ebmBad = s.ebmBad := rfl
@[simp] theorem incF_banks (s : State) (p : Nat) (f : Fld) : (incF s p f).banks = s.banks := rfl
@[simp] theorem incF_seq (s : State) (p : Nat) (f : Fld) : (incF s p f).seq = s.seq := rfl
@[simp] theorem incF_dma (s : State) (p : Nat) (f : Fld) : (incF s p f).dma = s.dma := rfl
@[simp] theorem incF_inst (s : State) (p : Nat) (f : Fld) : (incF s p f).inst = s.inst := rfl
@[simp] theorem incF_pwr (s : State) (p : Nat) (f : Fld) : (incF s p f).pwr = s.pwr := rfl
@[simp] theorem incF_flt (s : State) (p : Nat) (f : Fld) : (incF s p f).flt = s.flt := rfl
@[simp] theorem incF_nvm (s : State) (p : Nat) (f : Fld) : (incF s p f).nvm = s.nvm := rfl
@[simp] theorem incF_jtag (s : State) (p : Nat) (f : Fld) : (incF s p f).jtag = s.jtag := rfl
@[simp] theorem incF_svc (s : State) (p : Nat) (f : Fld) : (incF s p f).svc = s.svc := rfl
@[simp] theorem incF_arb (s : State) (p : Nat) (f : Fld) : (incF s p f).arb = s.arb := rfl
@[simp] theorem incF_out (s : State) (p : Nat) (f : Fld) : (incF s p f).out = s.out := rfl
@[simp] theorem incF_fresh (s : State) (p : Nat) (f : Fld) : (incF s p f).fresh = s.fresh := rfl

@[simp] theorem pwf_pending (s : State) (p : Nat) (f : Fld) (v : Nat) : (pwf s p f v).pending = s.pending := rfl
@[simp] theorem pwf_latch (s : State) (p : Nat) (f : Fld) (v : Nat) : (pwf s p f v).latch = s.latch := rfl
@[simp] theorem pwf_lowHeld (s : State) (p : Nat) (f : Fld) (v : Nat) : (pwf s p f v).lowHeld = s.lowHeld := rfl
@[simp] theorem pwf_held (s : State) (p : Nat) (f : Fld) (v : Nat) : (pwf s p f v).held = s.held := rfl
@[simp] theorem pwf_mgt (s : State) (p : Nat) (f : Fld) (v : Nat) : (pwf s p f v).mgt = s.mgt := rfl
@[simp] theorem pwf_clk (s : State) (p : Nat) (f : Fld) (v : Nat) : (pwf s p f v).clk = s.clk := rfl
@[simp] theorem pwf_ring (s : State) (p : Nat) (f : Fld) (v : Nat) : (pwf s p f v).ring = s.ring := rfl
@[simp] theorem pwf_sbd (s : State) (p : Nat) (f : Fld) (v : Nat) : (pwf s p f v).sbd = s.sbd := rfl
@[simp] theorem pwf_que (s : State) (p : Nat) (f : Fld) (v : Nat) : (pwf s p f v).que = s.que := rfl
@[simp] theorem pwf_ctx (s : State) (p : Nat) (f : Fld) (v : Nat) : (pwf s p f v).ctx = s.ctx := rfl
@[simp] theorem pwf_pln (s : State) (p : Nat) (f : Fld) (v : Nat) : (pwf s p f v).pln = s.pln := rfl
@[simp] theorem pwf_prt (s : State) (p : Nat) (f : Fld) (v : Nat) : (pwf s p f v).prt = s.prt := rfl
@[simp] theorem pwf_ebm (s : State) (p : Nat) (f : Fld) (v : Nat) : (pwf s p f v).ebm = s.ebm := rfl
@[simp] theorem pwf_ebmBad (s : State) (p : Nat) (f : Fld) (v : Nat) : (pwf s p f v).ebmBad = s.ebmBad := rfl
@[simp] theorem pwf_banks (s : State) (p : Nat) (f : Fld) (v : Nat) : (pwf s p f v).banks = s.banks := rfl
@[simp] theorem pwf_seq (s : State) (p : Nat) (f : Fld) (v : Nat) : (pwf s p f v).seq = s.seq := rfl
@[simp] theorem pwf_dma (s : State) (p : Nat) (f : Fld) (v : Nat) : (pwf s p f v).dma = s.dma := rfl
@[simp] theorem pwf_inst (s : State) (p : Nat) (f : Fld) (v : Nat) : (pwf s p f v).inst = s.inst := rfl
@[simp] theorem pwf_pwr (s : State) (p : Nat) (f : Fld) (v : Nat) : (pwf s p f v).pwr = s.pwr := rfl
@[simp] theorem pwf_flt (s : State) (p : Nat) (f : Fld) (v : Nat) : (pwf s p f v).flt = s.flt := rfl
@[simp] theorem pwf_nvm (s : State) (p : Nat) (f : Fld) (v : Nat) : (pwf s p f v).nvm = s.nvm := rfl
@[simp] theorem pwf_jtag (s : State) (p : Nat) (f : Fld) (v : Nat) : (pwf s p f v).jtag = s.jtag := rfl
@[simp] theorem pwf_svc (s : State) (p : Nat) (f : Fld) (v : Nat) : (pwf s p f v).svc = s.svc := rfl
@[simp] theorem pwf_arb (s : State) (p : Nat) (f : Fld) (v : Nat) : (pwf s p f v).arb = s.arb := rfl
@[simp] theorem pwf_out (s : State) (p : Nat) (f : Fld) (v : Nat) : (pwf s p f v).out = s.out := rfl
@[simp] theorem pwf_fresh (s : State) (p : Nat) (f : Fld) (v : Nat) : (pwf s p f v).fresh = s.fresh := rfl

@[simp] theorem cwf_pending (s : State) (c : Nat) (f : Fld) (v : Nat) : (cwf s c f v).pending = s.pending := rfl
@[simp] theorem cwf_latch (s : State) (c : Nat) (f : Fld) (v : Nat) : (cwf s c f v).latch = s.latch := rfl
@[simp] theorem cwf_lowHeld (s : State) (c : Nat) (f : Fld) (v : Nat) : (cwf s c f v).lowHeld = s.lowHeld := rfl
@[simp] theorem cwf_held (s : State) (c : Nat) (f : Fld) (v : Nat) : (cwf s c f v).held = s.held := rfl
@[simp] theorem cwf_mgt (s : State) (c : Nat) (f : Fld) (v : Nat) : (cwf s c f v).mgt = s.mgt := rfl
@[simp] theorem cwf_clk (s : State) (c : Nat) (f : Fld) (v : Nat) : (cwf s c f v).clk = s.clk := rfl
@[simp] theorem cwf_ring (s : State) (c : Nat) (f : Fld) (v : Nat) : (cwf s c f v).ring = s.ring := rfl
@[simp] theorem cwf_sbd (s : State) (c : Nat) (f : Fld) (v : Nat) : (cwf s c f v).sbd = s.sbd := rfl
@[simp] theorem cwf_que (s : State) (c : Nat) (f : Fld) (v : Nat) : (cwf s c f v).que = s.que := rfl
@[simp] theorem cwf_ctx (s : State) (c : Nat) (f : Fld) (v : Nat) : (cwf s c f v).ctx = s.ctx := rfl
@[simp] theorem cwf_pln (s : State) (c : Nat) (f : Fld) (v : Nat) : (cwf s c f v).pln = s.pln := rfl
@[simp] theorem cwf_prt (s : State) (c : Nat) (f : Fld) (v : Nat) : (cwf s c f v).prt = s.prt := rfl
@[simp] theorem cwf_ebm (s : State) (c : Nat) (f : Fld) (v : Nat) : (cwf s c f v).ebm = s.ebm := rfl
@[simp] theorem cwf_ebmBad (s : State) (c : Nat) (f : Fld) (v : Nat) : (cwf s c f v).ebmBad = s.ebmBad := rfl
@[simp] theorem cwf_banks (s : State) (c : Nat) (f : Fld) (v : Nat) : (cwf s c f v).banks = s.banks := rfl
@[simp] theorem cwf_seq (s : State) (c : Nat) (f : Fld) (v : Nat) : (cwf s c f v).seq = s.seq := rfl
@[simp] theorem cwf_dma (s : State) (c : Nat) (f : Fld) (v : Nat) : (cwf s c f v).dma = s.dma := rfl
@[simp] theorem cwf_inst (s : State) (c : Nat) (f : Fld) (v : Nat) : (cwf s c f v).inst = s.inst := rfl
@[simp] theorem cwf_pwr (s : State) (c : Nat) (f : Fld) (v : Nat) : (cwf s c f v).pwr = s.pwr := rfl
@[simp] theorem cwf_flt (s : State) (c : Nat) (f : Fld) (v : Nat) : (cwf s c f v).flt = s.flt := rfl
@[simp] theorem cwf_nvm (s : State) (c : Nat) (f : Fld) (v : Nat) : (cwf s c f v).nvm = s.nvm := rfl
@[simp] theorem cwf_jtag (s : State) (c : Nat) (f : Fld) (v : Nat) : (cwf s c f v).jtag = s.jtag := rfl
@[simp] theorem cwf_svc (s : State) (c : Nat) (f : Fld) (v : Nat) : (cwf s c f v).svc = s.svc := rfl
@[simp] theorem cwf_arb (s : State) (c : Nat) (f : Fld) (v : Nat) : (cwf s c f v).arb = s.arb := rfl
@[simp] theorem cwf_out (s : State) (c : Nat) (f : Fld) (v : Nat) : (cwf s c f v).out = s.out := rfl
@[simp] theorem cwf_fresh (s : State) (c : Nat) (f : Fld) (v : Nat) : (cwf s c f v).fresh = s.fresh := rfl

@[simp] theorem cpairW_pending (s : State) (c o : Nat) (v : BitVec 64) : (cpairW s c o v).pending = s.pending := rfl
@[simp] theorem cpairW_latch (s : State) (c o : Nat) (v : BitVec 64) : (cpairW s c o v).latch = s.latch := rfl
@[simp] theorem cpairW_lowHeld (s : State) (c o : Nat) (v : BitVec 64) : (cpairW s c o v).lowHeld = s.lowHeld := rfl
@[simp] theorem cpairW_held (s : State) (c o : Nat) (v : BitVec 64) : (cpairW s c o v).held = s.held := rfl
@[simp] theorem cpairW_mgt (s : State) (c o : Nat) (v : BitVec 64) : (cpairW s c o v).mgt = s.mgt := rfl
@[simp] theorem cpairW_clk (s : State) (c o : Nat) (v : BitVec 64) : (cpairW s c o v).clk = s.clk := rfl
@[simp] theorem cpairW_ring (s : State) (c o : Nat) (v : BitVec 64) : (cpairW s c o v).ring = s.ring := rfl
@[simp] theorem cpairW_sbd (s : State) (c o : Nat) (v : BitVec 64) : (cpairW s c o v).sbd = s.sbd := rfl
@[simp] theorem cpairW_que (s : State) (c o : Nat) (v : BitVec 64) : (cpairW s c o v).que = s.que := rfl
@[simp] theorem cpairW_ctx (s : State) (c o : Nat) (v : BitVec 64) : (cpairW s c o v).ctx = s.ctx := rfl
@[simp] theorem cpairW_pln (s : State) (c o : Nat) (v : BitVec 64) : (cpairW s c o v).pln = s.pln := rfl
@[simp] theorem cpairW_prt (s : State) (c o : Nat) (v : BitVec 64) : (cpairW s c o v).prt = s.prt := rfl
@[simp] theorem cpairW_ebm (s : State) (c o : Nat) (v : BitVec 64) : (cpairW s c o v).ebm = s.ebm := rfl
@[simp] theorem cpairW_ebmBad (s : State) (c o : Nat) (v : BitVec 64) : (cpairW s c o v).ebmBad = s.ebmBad := rfl
@[simp] theorem cpairW_banks (s : State) (c o : Nat) (v : BitVec 64) : (cpairW s c o v).banks = s.banks := rfl
@[simp] theorem cpairW_seq (s : State) (c o : Nat) (v : BitVec 64) : (cpairW s c o v).seq = s.seq := rfl
@[simp] theorem cpairW_dma (s : State) (c o : Nat) (v : BitVec 64) : (cpairW s c o v).dma = s.dma := rfl
@[simp] theorem cpairW_inst (s : State) (c o : Nat) (v : BitVec 64) : (cpairW s c o v).inst = s.inst := rfl
@[simp] theorem cpairW_pwr (s : State) (c o : Nat) (v : BitVec 64) : (cpairW s c o v).pwr = s.pwr := rfl
@[simp] theorem cpairW_flt (s : State) (c o : Nat) (v : BitVec 64) : (cpairW s c o v).flt = s.flt := rfl
@[simp] theorem cpairW_nvm (s : State) (c o : Nat) (v : BitVec 64) : (cpairW s c o v).nvm = s.nvm := rfl
@[simp] theorem cpairW_jtag (s : State) (c o : Nat) (v : BitVec 64) : (cpairW s c o v).jtag = s.jtag := rfl
@[simp] theorem cpairW_svc (s : State) (c o : Nat) (v : BitVec 64) : (cpairW s c o v).svc = s.svc := rfl
@[simp] theorem cpairW_arb (s : State) (c o : Nat) (v : BitVec 64) : (cpairW s c o v).arb = s.arb := rfl
@[simp] theorem cpairW_out (s : State) (c o : Nat) (v : BitVec 64) : (cpairW s c o v).out = s.out := rfl
@[simp] theorem cpairW_fresh (s : State) (c o : Nat) (v : BitVec 64) : (cpairW s c o v).fresh = s.fresh := rfl

@[simp] theorem emit_pending (s : State) (o : Out) : (emit s o).pending = s.pending := rfl
@[simp] theorem emit_regs (s : State) (o : Out) : (emit s o).regs = s.regs := rfl
@[simp] theorem emit_latch (s : State) (o : Out) : (emit s o).latch = s.latch := rfl
@[simp] theorem emit_lowHeld (s : State) (o : Out) : (emit s o).lowHeld = s.lowHeld := rfl
@[simp] theorem emit_held (s : State) (o : Out) : (emit s o).held = s.held := rfl
@[simp] theorem emit_mgt (s : State) (o : Out) : (emit s o).mgt = s.mgt := rfl
@[simp] theorem emit_clk (s : State) (o : Out) : (emit s o).clk = s.clk := rfl
@[simp] theorem emit_ring (s : State) (o : Out) : (emit s o).ring = s.ring := rfl
@[simp] theorem emit_sbd (s : State) (o : Out) : (emit s o).sbd = s.sbd := rfl
@[simp] theorem emit_que (s : State) (o : Out) : (emit s o).que = s.que := rfl
@[simp] theorem emit_ctx (s : State) (o : Out) : (emit s o).ctx = s.ctx := rfl
@[simp] theorem emit_pln (s : State) (o : Out) : (emit s o).pln = s.pln := rfl
@[simp] theorem emit_prt (s : State) (o : Out) : (emit s o).prt = s.prt := rfl
@[simp] theorem emit_ebm (s : State) (o : Out) : (emit s o).ebm = s.ebm := rfl
@[simp] theorem emit_ebmBad (s : State) (o : Out) : (emit s o).ebmBad = s.ebmBad := rfl
@[simp] theorem emit_banks (s : State) (o : Out) : (emit s o).banks = s.banks := rfl
@[simp] theorem emit_seq (s : State) (o : Out) : (emit s o).seq = s.seq := rfl
@[simp] theorem emit_dma (s : State) (o : Out) : (emit s o).dma = s.dma := rfl
@[simp] theorem emit_inst (s : State) (o : Out) : (emit s o).inst = s.inst := rfl
@[simp] theorem emit_pwr (s : State) (o : Out) : (emit s o).pwr = s.pwr := rfl
@[simp] theorem emit_flt (s : State) (o : Out) : (emit s o).flt = s.flt := rfl
@[simp] theorem emit_nvm (s : State) (o : Out) : (emit s o).nvm = s.nvm := rfl
@[simp] theorem emit_jtag (s : State) (o : Out) : (emit s o).jtag = s.jtag := rfl
@[simp] theorem emit_svc (s : State) (o : Out) : (emit s o).svc = s.svc := rfl
@[simp] theorem emit_arb (s : State) (o : Out) : (emit s o).arb = s.arb := rfl
@[simp] theorem emit_fresh (s : State) (o : Out) : (emit s o).fresh = s.fresh := rfl

@[simp] theorem emits_pending (s : State) (o : List Out) : (emits s o).pending = s.pending := rfl
@[simp] theorem emits_regs (s : State) (o : List Out) : (emits s o).regs = s.regs := rfl
@[simp] theorem emits_latch (s : State) (o : List Out) : (emits s o).latch = s.latch := rfl
@[simp] theorem emits_lowHeld (s : State) (o : List Out) : (emits s o).lowHeld = s.lowHeld := rfl
@[simp] theorem emits_held (s : State) (o : List Out) : (emits s o).held = s.held := rfl
@[simp] theorem emits_mgt (s : State) (o : List Out) : (emits s o).mgt = s.mgt := rfl
@[simp] theorem emits_clk (s : State) (o : List Out) : (emits s o).clk = s.clk := rfl
@[simp] theorem emits_ring (s : State) (o : List Out) : (emits s o).ring = s.ring := rfl
@[simp] theorem emits_sbd (s : State) (o : List Out) : (emits s o).sbd = s.sbd := rfl
@[simp] theorem emits_que (s : State) (o : List Out) : (emits s o).que = s.que := rfl
@[simp] theorem emits_ctx (s : State) (o : List Out) : (emits s o).ctx = s.ctx := rfl
@[simp] theorem emits_pln (s : State) (o : List Out) : (emits s o).pln = s.pln := rfl
@[simp] theorem emits_prt (s : State) (o : List Out) : (emits s o).prt = s.prt := rfl
@[simp] theorem emits_ebm (s : State) (o : List Out) : (emits s o).ebm = s.ebm := rfl
@[simp] theorem emits_ebmBad (s : State) (o : List Out) : (emits s o).ebmBad = s.ebmBad := rfl
@[simp] theorem emits_banks (s : State) (o : List Out) : (emits s o).banks = s.banks := rfl
@[simp] theorem emits_seq (s : State) (o : List Out) : (emits s o).seq = s.seq := rfl
@[simp] theorem emits_dma (s : State) (o : List Out) : (emits s o).dma = s.dma := rfl
@[simp] theorem emits_inst (s : State) (o : List Out) : (emits s o).inst = s.inst := rfl
@[simp] theorem emits_pwr (s : State) (o : List Out) : (emits s o).pwr = s.pwr := rfl
@[simp] theorem emits_flt (s : State) (o : List Out) : (emits s o).flt = s.flt := rfl
@[simp] theorem emits_nvm (s : State) (o : List Out) : (emits s o).nvm = s.nvm := rfl
@[simp] theorem emits_jtag (s : State) (o : List Out) : (emits s o).jtag = s.jtag := rfl
@[simp] theorem emits_svc (s : State) (o : List Out) : (emits s o).svc = s.svc := rfl
@[simp] theorem emits_arb (s : State) (o : List Out) : (emits s o).arb = s.arb := rfl
@[simp] theorem emits_fresh (s : State) (o : List Out) : (emits s o).fresh = s.fresh := rfl

@[simp] theorem freeStep_pending (s : State) : (freeStep s).pending = s.pending := rfl
@[simp] theorem freeStep_regs (s : State) : (freeStep s).regs = s.regs := rfl
@[simp] theorem freeStep_latch (s : State) : (freeStep s).latch = s.latch := rfl
@[simp] theorem freeStep_lowHeld (s : State) : (freeStep s).lowHeld = s.lowHeld := rfl
@[simp] theorem freeStep_held (s : State) : (freeStep s).held = s.held := rfl
@[simp] theorem freeStep_mgt (s : State) : (freeStep s).mgt = s.mgt := rfl
@[simp] theorem freeStep_clk (s : State) : (freeStep s).clk = s.clk := rfl
@[simp] theorem freeStep_ring (s : State) : (freeStep s).ring = s.ring := rfl
@[simp] theorem freeStep_sbd (s : State) : (freeStep s).sbd = s.sbd := rfl
@[simp] theorem freeStep_que (s : State) : (freeStep s).que = s.que := rfl
@[simp] theorem freeStep_ctx (s : State) : (freeStep s).ctx = s.ctx := rfl
@[simp] theorem freeStep_pln (s : State) : (freeStep s).pln = s.pln := rfl
@[simp] theorem freeStep_prt (s : State) : (freeStep s).prt = s.prt := rfl
@[simp] theorem freeStep_ebm (s : State) : (freeStep s).ebm = s.ebm := rfl
@[simp] theorem freeStep_ebmBad (s : State) : (freeStep s).ebmBad = s.ebmBad := rfl
@[simp] theorem freeStep_banks (s : State) : (freeStep s).banks = s.banks := rfl
@[simp] theorem freeStep_seq (s : State) : (freeStep s).seq = s.seq := rfl
@[simp] theorem freeStep_dma (s : State) : (freeStep s).dma = s.dma := rfl
@[simp] theorem freeStep_inst (s : State) : (freeStep s).inst = s.inst := rfl
@[simp] theorem freeStep_pwr (s : State) : (freeStep s).pwr = s.pwr := rfl
@[simp] theorem freeStep_flt (s : State) : (freeStep s).flt = s.flt := rfl
@[simp] theorem freeStep_nvm (s : State) : (freeStep s).nvm = s.nvm := rfl
@[simp] theorem freeStep_jtag (s : State) : (freeStep s).jtag = s.jtag := rfl
@[simp] theorem freeStep_svc (s : State) : (freeStep s).svc = s.svc := rfl
@[simp] theorem freeStep_arb (s : State) : (freeStep s).arb = s.arb := rfl
@[simp] theorem freeStep_out (s : State) : (freeStep s).out = s.out := rfl

@[simp] theorem setInst_pending (s : State) (k : Nat) (x : Inst) : (setInst s k x).pending = s.pending := rfl
@[simp] theorem setInst_regs (s : State) (k : Nat) (x : Inst) : (setInst s k x).regs = s.regs := rfl
@[simp] theorem setInst_latch (s : State) (k : Nat) (x : Inst) : (setInst s k x).latch = s.latch := rfl
@[simp] theorem setInst_lowHeld (s : State) (k : Nat) (x : Inst) : (setInst s k x).lowHeld = s.lowHeld := rfl
@[simp] theorem setInst_held (s : State) (k : Nat) (x : Inst) : (setInst s k x).held = s.held := rfl
@[simp] theorem setInst_mgt (s : State) (k : Nat) (x : Inst) : (setInst s k x).mgt = s.mgt := rfl
@[simp] theorem setInst_clk (s : State) (k : Nat) (x : Inst) : (setInst s k x).clk = s.clk := rfl
@[simp] theorem setInst_ring (s : State) (k : Nat) (x : Inst) : (setInst s k x).ring = s.ring := rfl
@[simp] theorem setInst_sbd (s : State) (k : Nat) (x : Inst) : (setInst s k x).sbd = s.sbd := rfl
@[simp] theorem setInst_que (s : State) (k : Nat) (x : Inst) : (setInst s k x).que = s.que := rfl
@[simp] theorem setInst_ctx (s : State) (k : Nat) (x : Inst) : (setInst s k x).ctx = s.ctx := rfl
@[simp] theorem setInst_pln (s : State) (k : Nat) (x : Inst) : (setInst s k x).pln = s.pln := rfl
@[simp] theorem setInst_prt (s : State) (k : Nat) (x : Inst) : (setInst s k x).prt = s.prt := rfl
@[simp] theorem setInst_ebm (s : State) (k : Nat) (x : Inst) : (setInst s k x).ebm = s.ebm := rfl
@[simp] theorem setInst_ebmBad (s : State) (k : Nat) (x : Inst) : (setInst s k x).ebmBad = s.ebmBad := rfl
@[simp] theorem setInst_banks (s : State) (k : Nat) (x : Inst) : (setInst s k x).banks = s.banks := rfl
@[simp] theorem setInst_seq (s : State) (k : Nat) (x : Inst) : (setInst s k x).seq = s.seq := rfl
@[simp] theorem setInst_dma (s : State) (k : Nat) (x : Inst) : (setInst s k x).dma = s.dma := rfl
@[simp] theorem setInst_pwr (s : State) (k : Nat) (x : Inst) : (setInst s k x).pwr = s.pwr := rfl
@[simp] theorem setInst_flt (s : State) (k : Nat) (x : Inst) : (setInst s k x).flt = s.flt := rfl
@[simp] theorem setInst_nvm (s : State) (k : Nat) (x : Inst) : (setInst s k x).nvm = s.nvm := rfl
@[simp] theorem setInst_jtag (s : State) (k : Nat) (x : Inst) : (setInst s k x).jtag = s.jtag := rfl
@[simp] theorem setInst_svc (s : State) (k : Nat) (x : Inst) : (setInst s k x).svc = s.svc := rfl
@[simp] theorem setInst_arb (s : State) (k : Nat) (x : Inst) : (setInst s k x).arb = s.arb := rfl
@[simp] theorem setInst_out (s : State) (k : Nat) (x : Inst) : (setInst s k x).out = s.out := rfl
@[simp] theorem setInst_fresh (s : State) (k : Nat) (x : Inst) : (setInst s k x).fresh = s.fresh := rfl

@[simp] theorem setPort_pending (s : State) (k : Nat) (x : Port) : (setPort s k x).pending = s.pending := rfl
@[simp] theorem setPort_regs (s : State) (k : Nat) (x : Port) : (setPort s k x).regs = s.regs := rfl
@[simp] theorem setPort_latch (s : State) (k : Nat) (x : Port) : (setPort s k x).latch = s.latch := rfl
@[simp] theorem setPort_lowHeld (s : State) (k : Nat) (x : Port) : (setPort s k x).lowHeld = s.lowHeld := rfl
@[simp] theorem setPort_held (s : State) (k : Nat) (x : Port) : (setPort s k x).held = s.held := rfl
@[simp] theorem setPort_mgt (s : State) (k : Nat) (x : Port) : (setPort s k x).mgt = s.mgt := rfl
@[simp] theorem setPort_clk (s : State) (k : Nat) (x : Port) : (setPort s k x).clk = s.clk := rfl
@[simp] theorem setPort_ring (s : State) (k : Nat) (x : Port) : (setPort s k x).ring = s.ring := rfl
@[simp] theorem setPort_sbd (s : State) (k : Nat) (x : Port) : (setPort s k x).sbd = s.sbd := rfl
@[simp] theorem setPort_que (s : State) (k : Nat) (x : Port) : (setPort s k x).que = s.que := rfl
@[simp] theorem setPort_ctx (s : State) (k : Nat) (x : Port) : (setPort s k x).ctx = s.ctx := rfl
@[simp] theorem setPort_pln (s : State) (k : Nat) (x : Port) : (setPort s k x).pln = s.pln := rfl
@[simp] theorem setPort_ebm (s : State) (k : Nat) (x : Port) : (setPort s k x).ebm = s.ebm := rfl
@[simp] theorem setPort_ebmBad (s : State) (k : Nat) (x : Port) : (setPort s k x).ebmBad = s.ebmBad := rfl
@[simp] theorem setPort_banks (s : State) (k : Nat) (x : Port) : (setPort s k x).banks = s.banks := rfl
@[simp] theorem setPort_seq (s : State) (k : Nat) (x : Port) : (setPort s k x).seq = s.seq := rfl
@[simp] theorem setPort_dma (s : State) (k : Nat) (x : Port) : (setPort s k x).dma = s.dma := rfl
@[simp] theorem setPort_inst (s : State) (k : Nat) (x : Port) : (setPort s k x).inst = s.inst := rfl
@[simp] theorem setPort_pwr (s : State) (k : Nat) (x : Port) : (setPort s k x).pwr = s.pwr := rfl
@[simp] theorem setPort_flt (s : State) (k : Nat) (x : Port) : (setPort s k x).flt = s.flt := rfl
@[simp] theorem setPort_nvm (s : State) (k : Nat) (x : Port) : (setPort s k x).nvm = s.nvm := rfl
@[simp] theorem setPort_jtag (s : State) (k : Nat) (x : Port) : (setPort s k x).jtag = s.jtag := rfl
@[simp] theorem setPort_svc (s : State) (k : Nat) (x : Port) : (setPort s k x).svc = s.svc := rfl
@[simp] theorem setPort_arb (s : State) (k : Nat) (x : Port) : (setPort s k x).arb = s.arb := rfl
@[simp] theorem setPort_out (s : State) (k : Nat) (x : Port) : (setPort s k x).out = s.out := rfl
@[simp] theorem setPort_fresh (s : State) (k : Nat) (x : Port) : (setPort s k x).fresh = s.fresh := rfl

@[simp] theorem setChan_pending (s : State) (k : Nat) (x : Chan) : (setChan s k x).pending = s.pending := rfl
@[simp] theorem setChan_regs (s : State) (k : Nat) (x : Chan) : (setChan s k x).regs = s.regs := rfl
@[simp] theorem setChan_latch (s : State) (k : Nat) (x : Chan) : (setChan s k x).latch = s.latch := rfl
@[simp] theorem setChan_lowHeld (s : State) (k : Nat) (x : Chan) : (setChan s k x).lowHeld = s.lowHeld := rfl
@[simp] theorem setChan_held (s : State) (k : Nat) (x : Chan) : (setChan s k x).held = s.held := rfl
@[simp] theorem setChan_mgt (s : State) (k : Nat) (x : Chan) : (setChan s k x).mgt = s.mgt := rfl
@[simp] theorem setChan_clk (s : State) (k : Nat) (x : Chan) : (setChan s k x).clk = s.clk := rfl
@[simp] theorem setChan_ring (s : State) (k : Nat) (x : Chan) : (setChan s k x).ring = s.ring := rfl
@[simp] theorem setChan_sbd (s : State) (k : Nat) (x : Chan) : (setChan s k x).sbd = s.sbd := rfl
@[simp] theorem setChan_que (s : State) (k : Nat) (x : Chan) : (setChan s k x).que = s.que := rfl
@[simp] theorem setChan_ctx (s : State) (k : Nat) (x : Chan) : (setChan s k x).ctx = s.ctx := rfl
@[simp] theorem setChan_pln (s : State) (k : Nat) (x : Chan) : (setChan s k x).pln = s.pln := rfl
@[simp] theorem setChan_prt (s : State) (k : Nat) (x : Chan) : (setChan s k x).prt = s.prt := rfl
@[simp] theorem setChan_ebm (s : State) (k : Nat) (x : Chan) : (setChan s k x).ebm = s.ebm := rfl
@[simp] theorem setChan_ebmBad (s : State) (k : Nat) (x : Chan) : (setChan s k x).ebmBad = s.ebmBad := rfl
@[simp] theorem setChan_banks (s : State) (k : Nat) (x : Chan) : (setChan s k x).banks = s.banks := rfl
@[simp] theorem setChan_seq (s : State) (k : Nat) (x : Chan) : (setChan s k x).seq = s.seq := rfl
@[simp] theorem setChan_inst (s : State) (k : Nat) (x : Chan) : (setChan s k x).inst = s.inst := rfl
@[simp] theorem setChan_pwr (s : State) (k : Nat) (x : Chan) : (setChan s k x).pwr = s.pwr := rfl
@[simp] theorem setChan_flt (s : State) (k : Nat) (x : Chan) : (setChan s k x).flt = s.flt := rfl
@[simp] theorem setChan_nvm (s : State) (k : Nat) (x : Chan) : (setChan s k x).nvm = s.nvm := rfl
@[simp] theorem setChan_jtag (s : State) (k : Nat) (x : Chan) : (setChan s k x).jtag = s.jtag := rfl
@[simp] theorem setChan_svc (s : State) (k : Nat) (x : Chan) : (setChan s k x).svc = s.svc := rfl
@[simp] theorem setChan_arb (s : State) (k : Nat) (x : Chan) : (setChan s k x).arb = s.arb := rfl
@[simp] theorem setChan_out (s : State) (k : Nat) (x : Chan) : (setChan s k x).out = s.out := rfl
@[simp] theorem setChan_fresh (s : State) (k : Nat) (x : Chan) : (setChan s k x).fresh = s.fresh := rfl

@[simp] theorem setDom_pending (s : State) (k : Nat) (x : Dom) : (setDom s k x).pending = s.pending := rfl
@[simp] theorem setDom_regs (s : State) (k : Nat) (x : Dom) : (setDom s k x).regs = s.regs := rfl
@[simp] theorem setDom_latch (s : State) (k : Nat) (x : Dom) : (setDom s k x).latch = s.latch := rfl
@[simp] theorem setDom_lowHeld (s : State) (k : Nat) (x : Dom) : (setDom s k x).lowHeld = s.lowHeld := rfl
@[simp] theorem setDom_held (s : State) (k : Nat) (x : Dom) : (setDom s k x).held = s.held := rfl
@[simp] theorem setDom_mgt (s : State) (k : Nat) (x : Dom) : (setDom s k x).mgt = s.mgt := rfl
@[simp] theorem setDom_clk (s : State) (k : Nat) (x : Dom) : (setDom s k x).clk = s.clk := rfl
@[simp] theorem setDom_ring (s : State) (k : Nat) (x : Dom) : (setDom s k x).ring = s.ring := rfl
@[simp] theorem setDom_sbd (s : State) (k : Nat) (x : Dom) : (setDom s k x).sbd = s.sbd := rfl
@[simp] theorem setDom_que (s : State) (k : Nat) (x : Dom) : (setDom s k x).que = s.que := rfl
@[simp] theorem setDom_ctx (s : State) (k : Nat) (x : Dom) : (setDom s k x).ctx = s.ctx := rfl
@[simp] theorem setDom_pln (s : State) (k : Nat) (x : Dom) : (setDom s k x).pln = s.pln := rfl
@[simp] theorem setDom_prt (s : State) (k : Nat) (x : Dom) : (setDom s k x).prt = s.prt := rfl
@[simp] theorem setDom_ebm (s : State) (k : Nat) (x : Dom) : (setDom s k x).ebm = s.ebm := rfl
@[simp] theorem setDom_ebmBad (s : State) (k : Nat) (x : Dom) : (setDom s k x).ebmBad = s.ebmBad := rfl
@[simp] theorem setDom_banks (s : State) (k : Nat) (x : Dom) : (setDom s k x).banks = s.banks := rfl
@[simp] theorem setDom_seq (s : State) (k : Nat) (x : Dom) : (setDom s k x).seq = s.seq := rfl
@[simp] theorem setDom_dma (s : State) (k : Nat) (x : Dom) : (setDom s k x).dma = s.dma := rfl
@[simp] theorem setDom_inst (s : State) (k : Nat) (x : Dom) : (setDom s k x).inst = s.inst := rfl
@[simp] theorem setDom_flt (s : State) (k : Nat) (x : Dom) : (setDom s k x).flt = s.flt := rfl
@[simp] theorem setDom_nvm (s : State) (k : Nat) (x : Dom) : (setDom s k x).nvm = s.nvm := rfl
@[simp] theorem setDom_jtag (s : State) (k : Nat) (x : Dom) : (setDom s k x).jtag = s.jtag := rfl
@[simp] theorem setDom_svc (s : State) (k : Nat) (x : Dom) : (setDom s k x).svc = s.svc := rfl
@[simp] theorem setDom_arb (s : State) (k : Nat) (x : Dom) : (setDom s k x).arb = s.arb := rfl
@[simp] theorem setDom_out (s : State) (k : Nat) (x : Dom) : (setDom s k x).out = s.out := rfl
@[simp] theorem setDom_fresh (s : State) (k : Nat) (x : Dom) : (setDom s k x).fresh = s.fresh := rfl

@[simp] theorem setRec_pending (s : State) (k : Nat) (x : Rec) : (setRec s k x).pending = s.pending := rfl
@[simp] theorem setRec_regs (s : State) (k : Nat) (x : Rec) : (setRec s k x).regs = s.regs := rfl
@[simp] theorem setRec_latch (s : State) (k : Nat) (x : Rec) : (setRec s k x).latch = s.latch := rfl
@[simp] theorem setRec_lowHeld (s : State) (k : Nat) (x : Rec) : (setRec s k x).lowHeld = s.lowHeld := rfl
@[simp] theorem setRec_held (s : State) (k : Nat) (x : Rec) : (setRec s k x).held = s.held := rfl
@[simp] theorem setRec_mgt (s : State) (k : Nat) (x : Rec) : (setRec s k x).mgt = s.mgt := rfl
@[simp] theorem setRec_clk (s : State) (k : Nat) (x : Rec) : (setRec s k x).clk = s.clk := rfl
@[simp] theorem setRec_ring (s : State) (k : Nat) (x : Rec) : (setRec s k x).ring = s.ring := rfl
@[simp] theorem setRec_sbd (s : State) (k : Nat) (x : Rec) : (setRec s k x).sbd = s.sbd := rfl
@[simp] theorem setRec_que (s : State) (k : Nat) (x : Rec) : (setRec s k x).que = s.que := rfl
@[simp] theorem setRec_ctx (s : State) (k : Nat) (x : Rec) : (setRec s k x).ctx = s.ctx := rfl
@[simp] theorem setRec_pln (s : State) (k : Nat) (x : Rec) : (setRec s k x).pln = s.pln := rfl
@[simp] theorem setRec_prt (s : State) (k : Nat) (x : Rec) : (setRec s k x).prt = s.prt := rfl
@[simp] theorem setRec_ebm (s : State) (k : Nat) (x : Rec) : (setRec s k x).ebm = s.ebm := rfl
@[simp] theorem setRec_ebmBad (s : State) (k : Nat) (x : Rec) : (setRec s k x).ebmBad = s.ebmBad := rfl
@[simp] theorem setRec_banks (s : State) (k : Nat) (x : Rec) : (setRec s k x).banks = s.banks := rfl
@[simp] theorem setRec_seq (s : State) (k : Nat) (x : Rec) : (setRec s k x).seq = s.seq := rfl
@[simp] theorem setRec_dma (s : State) (k : Nat) (x : Rec) : (setRec s k x).dma = s.dma := rfl
@[simp] theorem setRec_inst (s : State) (k : Nat) (x : Rec) : (setRec s k x).inst = s.inst := rfl
@[simp] theorem setRec_pwr (s : State) (k : Nat) (x : Rec) : (setRec s k x).pwr = s.pwr := rfl
@[simp] theorem setRec_nvm (s : State) (k : Nat) (x : Rec) : (setRec s k x).nvm = s.nvm := rfl
@[simp] theorem setRec_jtag (s : State) (k : Nat) (x : Rec) : (setRec s k x).jtag = s.jtag := rfl
@[simp] theorem setRec_svc (s : State) (k : Nat) (x : Rec) : (setRec s k x).svc = s.svc := rfl
@[simp] theorem setRec_arb (s : State) (k : Nat) (x : Rec) : (setRec s k x).arb = s.arb := rfl
@[simp] theorem setRec_out (s : State) (k : Nat) (x : Rec) : (setRec s k x).out = s.out := rfl
@[simp] theorem setRec_fresh (s : State) (k : Nat) (x : Rec) : (setRec s k x).fresh = s.fresh := rfl

@[simp] theorem setTq_pending (s : State) (k : Nat) (x : Tq) : (setTq s k x).pending = s.pending := rfl
@[simp] theorem setTq_regs (s : State) (k : Nat) (x : Tq) : (setTq s k x).regs = s.regs := rfl
@[simp] theorem setTq_latch (s : State) (k : Nat) (x : Tq) : (setTq s k x).latch = s.latch := rfl
@[simp] theorem setTq_lowHeld (s : State) (k : Nat) (x : Tq) : (setTq s k x).lowHeld = s.lowHeld := rfl
@[simp] theorem setTq_held (s : State) (k : Nat) (x : Tq) : (setTq s k x).held = s.held := rfl
@[simp] theorem setTq_mgt (s : State) (k : Nat) (x : Tq) : (setTq s k x).mgt = s.mgt := rfl
@[simp] theorem setTq_clk (s : State) (k : Nat) (x : Tq) : (setTq s k x).clk = s.clk := rfl
@[simp] theorem setTq_ring (s : State) (k : Nat) (x : Tq) : (setTq s k x).ring = s.ring := rfl
@[simp] theorem setTq_sbd (s : State) (k : Nat) (x : Tq) : (setTq s k x).sbd = s.sbd := rfl
@[simp] theorem setTq_ctx (s : State) (k : Nat) (x : Tq) : (setTq s k x).ctx = s.ctx := rfl
@[simp] theorem setTq_pln (s : State) (k : Nat) (x : Tq) : (setTq s k x).pln = s.pln := rfl
@[simp] theorem setTq_prt (s : State) (k : Nat) (x : Tq) : (setTq s k x).prt = s.prt := rfl
@[simp] theorem setTq_ebm (s : State) (k : Nat) (x : Tq) : (setTq s k x).ebm = s.ebm := rfl
@[simp] theorem setTq_ebmBad (s : State) (k : Nat) (x : Tq) : (setTq s k x).ebmBad = s.ebmBad := rfl
@[simp] theorem setTq_banks (s : State) (k : Nat) (x : Tq) : (setTq s k x).banks = s.banks := rfl
@[simp] theorem setTq_seq (s : State) (k : Nat) (x : Tq) : (setTq s k x).seq = s.seq := rfl
@[simp] theorem setTq_dma (s : State) (k : Nat) (x : Tq) : (setTq s k x).dma = s.dma := rfl
@[simp] theorem setTq_inst (s : State) (k : Nat) (x : Tq) : (setTq s k x).inst = s.inst := rfl
@[simp] theorem setTq_pwr (s : State) (k : Nat) (x : Tq) : (setTq s k x).pwr = s.pwr := rfl
@[simp] theorem setTq_flt (s : State) (k : Nat) (x : Tq) : (setTq s k x).flt = s.flt := rfl
@[simp] theorem setTq_nvm (s : State) (k : Nat) (x : Tq) : (setTq s k x).nvm = s.nvm := rfl
@[simp] theorem setTq_jtag (s : State) (k : Nat) (x : Tq) : (setTq s k x).jtag = s.jtag := rfl
@[simp] theorem setTq_svc (s : State) (k : Nat) (x : Tq) : (setTq s k x).svc = s.svc := rfl
@[simp] theorem setTq_arb (s : State) (k : Nat) (x : Tq) : (setTq s k x).arb = s.arb := rfl
@[simp] theorem setTq_out (s : State) (k : Nat) (x : Tq) : (setTq s k x).out = s.out := rfl
@[simp] theorem setTq_fresh (s : State) (k : Nat) (x : Tq) : (setTq s k x).fresh = s.fresh := rfl

@[simp] theorem setCq_pending (s : State) (k : Nat) (x : Cq) : (setCq s k x).pending = s.pending := rfl
@[simp] theorem setCq_regs (s : State) (k : Nat) (x : Cq) : (setCq s k x).regs = s.regs := rfl
@[simp] theorem setCq_latch (s : State) (k : Nat) (x : Cq) : (setCq s k x).latch = s.latch := rfl
@[simp] theorem setCq_lowHeld (s : State) (k : Nat) (x : Cq) : (setCq s k x).lowHeld = s.lowHeld := rfl
@[simp] theorem setCq_held (s : State) (k : Nat) (x : Cq) : (setCq s k x).held = s.held := rfl
@[simp] theorem setCq_mgt (s : State) (k : Nat) (x : Cq) : (setCq s k x).mgt = s.mgt := rfl
@[simp] theorem setCq_clk (s : State) (k : Nat) (x : Cq) : (setCq s k x).clk = s.clk := rfl
@[simp] theorem setCq_ring (s : State) (k : Nat) (x : Cq) : (setCq s k x).ring = s.ring := rfl
@[simp] theorem setCq_sbd (s : State) (k : Nat) (x : Cq) : (setCq s k x).sbd = s.sbd := rfl
@[simp] theorem setCq_ctx (s : State) (k : Nat) (x : Cq) : (setCq s k x).ctx = s.ctx := rfl
@[simp] theorem setCq_pln (s : State) (k : Nat) (x : Cq) : (setCq s k x).pln = s.pln := rfl
@[simp] theorem setCq_prt (s : State) (k : Nat) (x : Cq) : (setCq s k x).prt = s.prt := rfl
@[simp] theorem setCq_ebm (s : State) (k : Nat) (x : Cq) : (setCq s k x).ebm = s.ebm := rfl
@[simp] theorem setCq_ebmBad (s : State) (k : Nat) (x : Cq) : (setCq s k x).ebmBad = s.ebmBad := rfl
@[simp] theorem setCq_banks (s : State) (k : Nat) (x : Cq) : (setCq s k x).banks = s.banks := rfl
@[simp] theorem setCq_seq (s : State) (k : Nat) (x : Cq) : (setCq s k x).seq = s.seq := rfl
@[simp] theorem setCq_dma (s : State) (k : Nat) (x : Cq) : (setCq s k x).dma = s.dma := rfl
@[simp] theorem setCq_inst (s : State) (k : Nat) (x : Cq) : (setCq s k x).inst = s.inst := rfl
@[simp] theorem setCq_pwr (s : State) (k : Nat) (x : Cq) : (setCq s k x).pwr = s.pwr := rfl
@[simp] theorem setCq_flt (s : State) (k : Nat) (x : Cq) : (setCq s k x).flt = s.flt := rfl
@[simp] theorem setCq_nvm (s : State) (k : Nat) (x : Cq) : (setCq s k x).nvm = s.nvm := rfl
@[simp] theorem setCq_jtag (s : State) (k : Nat) (x : Cq) : (setCq s k x).jtag = s.jtag := rfl
@[simp] theorem setCq_svc (s : State) (k : Nat) (x : Cq) : (setCq s k x).svc = s.svc := rfl
@[simp] theorem setCq_arb (s : State) (k : Nat) (x : Cq) : (setCq s k x).arb = s.arb := rfl
@[simp] theorem setCq_out (s : State) (k : Nat) (x : Cq) : (setCq s k x).out = s.out := rfl
@[simp] theorem setCq_fresh (s : State) (k : Nat) (x : Cq) : (setCq s k x).fresh = s.fresh := rfl

@[simp] theorem setRef_pending (s : State) (k : Nat) (x : QRef) : (setRef s k x).pending = s.pending := rfl
@[simp] theorem setRef_regs (s : State) (k : Nat) (x : QRef) : (setRef s k x).regs = s.regs := rfl
@[simp] theorem setRef_latch (s : State) (k : Nat) (x : QRef) : (setRef s k x).latch = s.latch := rfl
@[simp] theorem setRef_lowHeld (s : State) (k : Nat) (x : QRef) : (setRef s k x).lowHeld = s.lowHeld := rfl
@[simp] theorem setRef_held (s : State) (k : Nat) (x : QRef) : (setRef s k x).held = s.held := rfl
@[simp] theorem setRef_mgt (s : State) (k : Nat) (x : QRef) : (setRef s k x).mgt = s.mgt := rfl
@[simp] theorem setRef_clk (s : State) (k : Nat) (x : QRef) : (setRef s k x).clk = s.clk := rfl
@[simp] theorem setRef_ring (s : State) (k : Nat) (x : QRef) : (setRef s k x).ring = s.ring := rfl
@[simp] theorem setRef_sbd (s : State) (k : Nat) (x : QRef) : (setRef s k x).sbd = s.sbd := rfl
@[simp] theorem setRef_ctx (s : State) (k : Nat) (x : QRef) : (setRef s k x).ctx = s.ctx := rfl
@[simp] theorem setRef_pln (s : State) (k : Nat) (x : QRef) : (setRef s k x).pln = s.pln := rfl
@[simp] theorem setRef_prt (s : State) (k : Nat) (x : QRef) : (setRef s k x).prt = s.prt := rfl
@[simp] theorem setRef_ebm (s : State) (k : Nat) (x : QRef) : (setRef s k x).ebm = s.ebm := rfl
@[simp] theorem setRef_ebmBad (s : State) (k : Nat) (x : QRef) : (setRef s k x).ebmBad = s.ebmBad := rfl
@[simp] theorem setRef_banks (s : State) (k : Nat) (x : QRef) : (setRef s k x).banks = s.banks := rfl
@[simp] theorem setRef_seq (s : State) (k : Nat) (x : QRef) : (setRef s k x).seq = s.seq := rfl
@[simp] theorem setRef_dma (s : State) (k : Nat) (x : QRef) : (setRef s k x).dma = s.dma := rfl
@[simp] theorem setRef_inst (s : State) (k : Nat) (x : QRef) : (setRef s k x).inst = s.inst := rfl
@[simp] theorem setRef_pwr (s : State) (k : Nat) (x : QRef) : (setRef s k x).pwr = s.pwr := rfl
@[simp] theorem setRef_flt (s : State) (k : Nat) (x : QRef) : (setRef s k x).flt = s.flt := rfl
@[simp] theorem setRef_nvm (s : State) (k : Nat) (x : QRef) : (setRef s k x).nvm = s.nvm := rfl
@[simp] theorem setRef_jtag (s : State) (k : Nat) (x : QRef) : (setRef s k x).jtag = s.jtag := rfl
@[simp] theorem setRef_svc (s : State) (k : Nat) (x : QRef) : (setRef s k x).svc = s.svc := rfl
@[simp] theorem setRef_arb (s : State) (k : Nat) (x : QRef) : (setRef s k x).arb = s.arb := rfl
@[simp] theorem setRef_out (s : State) (k : Nat) (x : QRef) : (setRef s k x).out = s.out := rfl
@[simp] theorem setRef_fresh (s : State) (k : Nat) (x : QRef) : (setRef s k x).fresh = s.fresh := rfl

@[simp] theorem setDev_pending (s : State) (k : Nat) (x : Dev) : (setDev s k x).pending = s.pending := rfl
@[simp] theorem setDev_regs (s : State) (k : Nat) (x : Dev) : (setDev s k x).regs = s.regs := rfl
@[simp] theorem setDev_latch (s : State) (k : Nat) (x : Dev) : (setDev s k x).latch = s.latch := rfl
@[simp] theorem setDev_lowHeld (s : State) (k : Nat) (x : Dev) : (setDev s k x).lowHeld = s.lowHeld := rfl
@[simp] theorem setDev_held (s : State) (k : Nat) (x : Dev) : (setDev s k x).held = s.held := rfl
@[simp] theorem setDev_mgt (s : State) (k : Nat) (x : Dev) : (setDev s k x).mgt = s.mgt := rfl
@[simp] theorem setDev_clk (s : State) (k : Nat) (x : Dev) : (setDev s k x).clk = s.clk := rfl
@[simp] theorem setDev_ring (s : State) (k : Nat) (x : Dev) : (setDev s k x).ring = s.ring := rfl
@[simp] theorem setDev_sbd (s : State) (k : Nat) (x : Dev) : (setDev s k x).sbd = s.sbd := rfl
@[simp] theorem setDev_que (s : State) (k : Nat) (x : Dev) : (setDev s k x).que = s.que := rfl
@[simp] theorem setDev_pln (s : State) (k : Nat) (x : Dev) : (setDev s k x).pln = s.pln := rfl
@[simp] theorem setDev_prt (s : State) (k : Nat) (x : Dev) : (setDev s k x).prt = s.prt := rfl
@[simp] theorem setDev_ebm (s : State) (k : Nat) (x : Dev) : (setDev s k x).ebm = s.ebm := rfl
@[simp] theorem setDev_ebmBad (s : State) (k : Nat) (x : Dev) : (setDev s k x).ebmBad = s.ebmBad := rfl
@[simp] theorem setDev_banks (s : State) (k : Nat) (x : Dev) : (setDev s k x).banks = s.banks := rfl
@[simp] theorem setDev_seq (s : State) (k : Nat) (x : Dev) : (setDev s k x).seq = s.seq := rfl
@[simp] theorem setDev_dma (s : State) (k : Nat) (x : Dev) : (setDev s k x).dma = s.dma := rfl
@[simp] theorem setDev_inst (s : State) (k : Nat) (x : Dev) : (setDev s k x).inst = s.inst := rfl
@[simp] theorem setDev_pwr (s : State) (k : Nat) (x : Dev) : (setDev s k x).pwr = s.pwr := rfl
@[simp] theorem setDev_flt (s : State) (k : Nat) (x : Dev) : (setDev s k x).flt = s.flt := rfl
@[simp] theorem setDev_nvm (s : State) (k : Nat) (x : Dev) : (setDev s k x).nvm = s.nvm := rfl
@[simp] theorem setDev_jtag (s : State) (k : Nat) (x : Dev) : (setDev s k x).jtag = s.jtag := rfl
@[simp] theorem setDev_svc (s : State) (k : Nat) (x : Dev) : (setDev s k x).svc = s.svc := rfl
@[simp] theorem setDev_arb (s : State) (k : Nat) (x : Dev) : (setDev s k x).arb = s.arb := rfl
@[simp] theorem setDev_out (s : State) (k : Nat) (x : Dev) : (setDev s k x).out = s.out := rfl
@[simp] theorem setDev_fresh (s : State) (k : Nat) (x : Dev) : (setDev s k x).fresh = s.fresh := rfl

@[simp] theorem setEp_pending (s : State) (k : Nat) (x : Ep) : (setEp s k x).pending = s.pending := rfl
@[simp] theorem setEp_regs (s : State) (k : Nat) (x : Ep) : (setEp s k x).regs = s.regs := rfl
@[simp] theorem setEp_latch (s : State) (k : Nat) (x : Ep) : (setEp s k x).latch = s.latch := rfl
@[simp] theorem setEp_lowHeld (s : State) (k : Nat) (x : Ep) : (setEp s k x).lowHeld = s.lowHeld := rfl
@[simp] theorem setEp_held (s : State) (k : Nat) (x : Ep) : (setEp s k x).held = s.held := rfl
@[simp] theorem setEp_mgt (s : State) (k : Nat) (x : Ep) : (setEp s k x).mgt = s.mgt := rfl
@[simp] theorem setEp_clk (s : State) (k : Nat) (x : Ep) : (setEp s k x).clk = s.clk := rfl
@[simp] theorem setEp_ring (s : State) (k : Nat) (x : Ep) : (setEp s k x).ring = s.ring := rfl
@[simp] theorem setEp_sbd (s : State) (k : Nat) (x : Ep) : (setEp s k x).sbd = s.sbd := rfl
@[simp] theorem setEp_que (s : State) (k : Nat) (x : Ep) : (setEp s k x).que = s.que := rfl
@[simp] theorem setEp_pln (s : State) (k : Nat) (x : Ep) : (setEp s k x).pln = s.pln := rfl
@[simp] theorem setEp_prt (s : State) (k : Nat) (x : Ep) : (setEp s k x).prt = s.prt := rfl
@[simp] theorem setEp_ebm (s : State) (k : Nat) (x : Ep) : (setEp s k x).ebm = s.ebm := rfl
@[simp] theorem setEp_ebmBad (s : State) (k : Nat) (x : Ep) : (setEp s k x).ebmBad = s.ebmBad := rfl
@[simp] theorem setEp_banks (s : State) (k : Nat) (x : Ep) : (setEp s k x).banks = s.banks := rfl
@[simp] theorem setEp_seq (s : State) (k : Nat) (x : Ep) : (setEp s k x).seq = s.seq := rfl
@[simp] theorem setEp_dma (s : State) (k : Nat) (x : Ep) : (setEp s k x).dma = s.dma := rfl
@[simp] theorem setEp_inst (s : State) (k : Nat) (x : Ep) : (setEp s k x).inst = s.inst := rfl
@[simp] theorem setEp_pwr (s : State) (k : Nat) (x : Ep) : (setEp s k x).pwr = s.pwr := rfl
@[simp] theorem setEp_flt (s : State) (k : Nat) (x : Ep) : (setEp s k x).flt = s.flt := rfl
@[simp] theorem setEp_nvm (s : State) (k : Nat) (x : Ep) : (setEp s k x).nvm = s.nvm := rfl
@[simp] theorem setEp_jtag (s : State) (k : Nat) (x : Ep) : (setEp s k x).jtag = s.jtag := rfl
@[simp] theorem setEp_svc (s : State) (k : Nat) (x : Ep) : (setEp s k x).svc = s.svc := rfl
@[simp] theorem setEp_arb (s : State) (k : Nat) (x : Ep) : (setEp s k x).arb = s.arb := rfl
@[simp] theorem setEp_out (s : State) (k : Nat) (x : Ep) : (setEp s k x).out = s.out := rfl
@[simp] theorem setEp_fresh (s : State) (k : Nat) (x : Ep) : (setEp s k x).fresh = s.fresh := rfl

/-! ### Register reads over operations on other state -/

theorem rd_of {s t : State} (h : s.regs = t.regs) (a : Nat) : rd s a = rd t a := by unfold rd; rw [h]
theorem rf_of {s t : State} (h : s.regs = t.regs) (p : Nat) (f : Fld) : rf s p f = rf t p f := by unfold rf; rw [rd_of h]
theorem rb_of {s t : State} (h : s.regs = t.regs) (p : Nat) (f : Fld) : rb s p f = rb t p f := by unfold rb; rw [rf_of h]
theorem prf_of {s t : State} (h : s.regs = t.regs) (p : Nat) (f : Fld) : prf s p f = prf t p f := by unfold prf; rw [rf_of h]
theorem crf_of {s t : State} (h : s.regs = t.regs) (c : Nat) (f : Fld) : crf s c f = crf t c f := by unfold crf; rw [rf_of h]
theorem pageOn_of {s t : State} (h : s.regs = t.regs) (p : Nat) : pageOn s p = pageOn t p := by unfold pageOn; rw [rb_of h]

@[simp] theorem rd_emit (s : State) (o : Out) (z : Nat) : rd (emit s o) z = rd s z := rd_of rfl z
@[simp] theorem rf_emit (s : State) (o : Out) (q : Nat) (g : Fld) : rf (emit s o) q g = rf s q g := rf_of rfl q g
@[simp] theorem rb_emit (s : State) (o : Out) (q : Nat) (g : Fld) : rb (emit s o) q g = rb s q g := rb_of rfl q g
@[simp] theorem prf_emit (s : State) (o : Out) (q : Nat) (g : Fld) : prf (emit s o) q g = prf s q g := prf_of rfl q g
@[simp] theorem crf_emit (s : State) (o : Out) (q : Nat) (g : Fld) : crf (emit s o) q g = crf s q g := crf_of rfl q g
@[simp] theorem pageOn_emit (s : State) (o : Out) (q : Nat) : pageOn (emit s o) q = pageOn s q := pageOn_of rfl q
@[simp] theorem mode_emit (s : State) (o : Out) : mode (emit s o) = mode s := rf_of rfl _ _

@[simp] theorem rd_emits (s : State) (o : List Out) (z : Nat) : rd (emits s o) z = rd s z := rd_of rfl z
@[simp] theorem rf_emits (s : State) (o : List Out) (q : Nat) (g : Fld) : rf (emits s o) q g = rf s q g := rf_of rfl q g
@[simp] theorem rb_emits (s : State) (o : List Out) (q : Nat) (g : Fld) : rb (emits s o) q g = rb s q g := rb_of rfl q g
@[simp] theorem prf_emits (s : State) (o : List Out) (q : Nat) (g : Fld) : prf (emits s o) q g = prf s q g := prf_of rfl q g
@[simp] theorem crf_emits (s : State) (o : List Out) (q : Nat) (g : Fld) : crf (emits s o) q g = crf s q g := crf_of rfl q g
@[simp] theorem pageOn_emits (s : State) (o : List Out) (q : Nat) : pageOn (emits s o) q = pageOn s q := pageOn_of rfl q
@[simp] theorem mode_emits (s : State) (o : List Out) : mode (emits s o) = mode s := rf_of rfl _ _

@[simp] theorem rd_freeStep (s : State) (z : Nat) : rd (freeStep s) z = rd s z := rd_of rfl z
@[simp] theorem rf_freeStep (s : State) (q : Nat) (g : Fld) : rf (freeStep s) q g = rf s q g := rf_of rfl q g
@[simp] theorem rb_freeStep (s : State) (q : Nat) (g : Fld) : rb (freeStep s) q g = rb s q g := rb_of rfl q g
@[simp] theorem prf_freeStep (s : State) (q : Nat) (g : Fld) : prf (freeStep s) q g = prf s q g := prf_of rfl q g
@[simp] theorem crf_freeStep (s : State) (q : Nat) (g : Fld) : crf (freeStep s) q g = crf s q g := crf_of rfl q g
@[simp] theorem pageOn_freeStep (s : State) (q : Nat) : pageOn (freeStep s) q = pageOn s q := pageOn_of rfl q
@[simp] theorem mode_freeStep (s : State) : mode (freeStep s) = mode s := rf_of rfl _ _

@[simp] theorem rd_setInst (s : State) (k : Nat) (x : Inst) (z : Nat) : rd (setInst s k x) z = rd s z := rd_of rfl z
@[simp] theorem rf_setInst (s : State) (k : Nat) (x : Inst) (q : Nat) (g : Fld) : rf (setInst s k x) q g = rf s q g := rf_of rfl q g
@[simp] theorem rb_setInst (s : State) (k : Nat) (x : Inst) (q : Nat) (g : Fld) : rb (setInst s k x) q g = rb s q g := rb_of rfl q g
@[simp] theorem prf_setInst (s : State) (k : Nat) (x : Inst) (q : Nat) (g : Fld) : prf (setInst s k x) q g = prf s q g := prf_of rfl q g
@[simp] theorem crf_setInst (s : State) (k : Nat) (x : Inst) (q : Nat) (g : Fld) : crf (setInst s k x) q g = crf s q g := crf_of rfl q g
@[simp] theorem pageOn_setInst (s : State) (k : Nat) (x : Inst) (q : Nat) : pageOn (setInst s k x) q = pageOn s q := pageOn_of rfl q
@[simp] theorem mode_setInst (s : State) (k : Nat) (x : Inst) : mode (setInst s k x) = mode s := rf_of rfl _ _

@[simp] theorem rd_setPort (s : State) (k : Nat) (x : Port) (z : Nat) : rd (setPort s k x) z = rd s z := rd_of rfl z
@[simp] theorem rf_setPort (s : State) (k : Nat) (x : Port) (q : Nat) (g : Fld) : rf (setPort s k x) q g = rf s q g := rf_of rfl q g
@[simp] theorem rb_setPort (s : State) (k : Nat) (x : Port) (q : Nat) (g : Fld) : rb (setPort s k x) q g = rb s q g := rb_of rfl q g
@[simp] theorem prf_setPort (s : State) (k : Nat) (x : Port) (q : Nat) (g : Fld) : prf (setPort s k x) q g = prf s q g := prf_of rfl q g
@[simp] theorem crf_setPort (s : State) (k : Nat) (x : Port) (q : Nat) (g : Fld) : crf (setPort s k x) q g = crf s q g := crf_of rfl q g
@[simp] theorem pageOn_setPort (s : State) (k : Nat) (x : Port) (q : Nat) : pageOn (setPort s k x) q = pageOn s q := pageOn_of rfl q
@[simp] theorem mode_setPort (s : State) (k : Nat) (x : Port) : mode (setPort s k x) = mode s := rf_of rfl _ _

@[simp] theorem rd_setChan (s : State) (k : Nat) (x : Chan) (z : Nat) : rd (setChan s k x) z = rd s z := rd_of rfl z
@[simp] theorem rf_setChan (s : State) (k : Nat) (x : Chan) (q : Nat) (g : Fld) : rf (setChan s k x) q g = rf s q g := rf_of rfl q g
@[simp] theorem rb_setChan (s : State) (k : Nat) (x : Chan) (q : Nat) (g : Fld) : rb (setChan s k x) q g = rb s q g := rb_of rfl q g
@[simp] theorem prf_setChan (s : State) (k : Nat) (x : Chan) (q : Nat) (g : Fld) : prf (setChan s k x) q g = prf s q g := prf_of rfl q g
@[simp] theorem crf_setChan (s : State) (k : Nat) (x : Chan) (q : Nat) (g : Fld) : crf (setChan s k x) q g = crf s q g := crf_of rfl q g
@[simp] theorem pageOn_setChan (s : State) (k : Nat) (x : Chan) (q : Nat) : pageOn (setChan s k x) q = pageOn s q := pageOn_of rfl q
@[simp] theorem mode_setChan (s : State) (k : Nat) (x : Chan) : mode (setChan s k x) = mode s := rf_of rfl _ _

@[simp] theorem rd_setDom (s : State) (k : Nat) (x : Dom) (z : Nat) : rd (setDom s k x) z = rd s z := rd_of rfl z
@[simp] theorem rf_setDom (s : State) (k : Nat) (x : Dom) (q : Nat) (g : Fld) : rf (setDom s k x) q g = rf s q g := rf_of rfl q g
@[simp] theorem rb_setDom (s : State) (k : Nat) (x : Dom) (q : Nat) (g : Fld) : rb (setDom s k x) q g = rb s q g := rb_of rfl q g
@[simp] theorem prf_setDom (s : State) (k : Nat) (x : Dom) (q : Nat) (g : Fld) : prf (setDom s k x) q g = prf s q g := prf_of rfl q g
@[simp] theorem crf_setDom (s : State) (k : Nat) (x : Dom) (q : Nat) (g : Fld) : crf (setDom s k x) q g = crf s q g := crf_of rfl q g
@[simp] theorem pageOn_setDom (s : State) (k : Nat) (x : Dom) (q : Nat) : pageOn (setDom s k x) q = pageOn s q := pageOn_of rfl q
@[simp] theorem mode_setDom (s : State) (k : Nat) (x : Dom) : mode (setDom s k x) = mode s := rf_of rfl _ _

@[simp] theorem rd_setRec (s : State) (k : Nat) (x : Rec) (z : Nat) : rd (setRec s k x) z = rd s z := rd_of rfl z
@[simp] theorem rf_setRec (s : State) (k : Nat) (x : Rec) (q : Nat) (g : Fld) : rf (setRec s k x) q g = rf s q g := rf_of rfl q g
@[simp] theorem rb_setRec (s : State) (k : Nat) (x : Rec) (q : Nat) (g : Fld) : rb (setRec s k x) q g = rb s q g := rb_of rfl q g
@[simp] theorem prf_setRec (s : State) (k : Nat) (x : Rec) (q : Nat) (g : Fld) : prf (setRec s k x) q g = prf s q g := prf_of rfl q g
@[simp] theorem crf_setRec (s : State) (k : Nat) (x : Rec) (q : Nat) (g : Fld) : crf (setRec s k x) q g = crf s q g := crf_of rfl q g
@[simp] theorem pageOn_setRec (s : State) (k : Nat) (x : Rec) (q : Nat) : pageOn (setRec s k x) q = pageOn s q := pageOn_of rfl q
@[simp] theorem mode_setRec (s : State) (k : Nat) (x : Rec) : mode (setRec s k x) = mode s := rf_of rfl _ _

@[simp] theorem rd_setTq (s : State) (k : Nat) (x : Tq) (z : Nat) : rd (setTq s k x) z = rd s z := rd_of rfl z
@[simp] theorem rf_setTq (s : State) (k : Nat) (x : Tq) (q : Nat) (g : Fld) : rf (setTq s k x) q g = rf s q g := rf_of rfl q g
@[simp] theorem rb_setTq (s : State) (k : Nat) (x : Tq) (q : Nat) (g : Fld) : rb (setTq s k x) q g = rb s q g := rb_of rfl q g
@[simp] theorem prf_setTq (s : State) (k : Nat) (x : Tq) (q : Nat) (g : Fld) : prf (setTq s k x) q g = prf s q g := prf_of rfl q g
@[simp] theorem crf_setTq (s : State) (k : Nat) (x : Tq) (q : Nat) (g : Fld) : crf (setTq s k x) q g = crf s q g := crf_of rfl q g
@[simp] theorem pageOn_setTq (s : State) (k : Nat) (x : Tq) (q : Nat) : pageOn (setTq s k x) q = pageOn s q := pageOn_of rfl q
@[simp] theorem mode_setTq (s : State) (k : Nat) (x : Tq) : mode (setTq s k x) = mode s := rf_of rfl _ _

@[simp] theorem rd_setCq (s : State) (k : Nat) (x : Cq) (z : Nat) : rd (setCq s k x) z = rd s z := rd_of rfl z
@[simp] theorem rf_setCq (s : State) (k : Nat) (x : Cq) (q : Nat) (g : Fld) : rf (setCq s k x) q g = rf s q g := rf_of rfl q g
@[simp] theorem rb_setCq (s : State) (k : Nat) (x : Cq) (q : Nat) (g : Fld) : rb (setCq s k x) q g = rb s q g := rb_of rfl q g
@[simp] theorem prf_setCq (s : State) (k : Nat) (x : Cq) (q : Nat) (g : Fld) : prf (setCq s k x) q g = prf s q g := prf_of rfl q g
@[simp] theorem crf_setCq (s : State) (k : Nat) (x : Cq) (q : Nat) (g : Fld) : crf (setCq s k x) q g = crf s q g := crf_of rfl q g
@[simp] theorem pageOn_setCq (s : State) (k : Nat) (x : Cq) (q : Nat) : pageOn (setCq s k x) q = pageOn s q := pageOn_of rfl q
@[simp] theorem mode_setCq (s : State) (k : Nat) (x : Cq) : mode (setCq s k x) = mode s := rf_of rfl _ _

@[simp] theorem rd_setRef (s : State) (k : Nat) (x : QRef) (z : Nat) : rd (setRef s k x) z = rd s z := rd_of rfl z
@[simp] theorem rf_setRef (s : State) (k : Nat) (x : QRef) (q : Nat) (g : Fld) : rf (setRef s k x) q g = rf s q g := rf_of rfl q g
@[simp] theorem rb_setRef (s : State) (k : Nat) (x : QRef) (q : Nat) (g : Fld) : rb (setRef s k x) q g = rb s q g := rb_of rfl q g
@[simp] theorem prf_setRef (s : State) (k : Nat) (x : QRef) (q : Nat) (g : Fld) : prf (setRef s k x) q g = prf s q g := prf_of rfl q g
@[simp] theorem crf_setRef (s : State) (k : Nat) (x : QRef) (q : Nat) (g : Fld) : crf (setRef s k x) q g = crf s q g := crf_of rfl q g
@[simp] theorem pageOn_setRef (s : State) (k : Nat) (x : QRef) (q : Nat) : pageOn (setRef s k x) q = pageOn s q := pageOn_of rfl q
@[simp] theorem mode_setRef (s : State) (k : Nat) (x : QRef) : mode (setRef s k x) = mode s := rf_of rfl _ _

@[simp] theorem rd_setDev (s : State) (k : Nat) (x : Dev) (z : Nat) : rd (setDev s k x) z = rd s z := rd_of rfl z
@[simp] theorem rf_setDev (s : State) (k : Nat) (x : Dev) (q : Nat) (g : Fld) : rf (setDev s k x) q g = rf s q g := rf_of rfl q g
@[simp] theorem rb_setDev (s : State) (k : Nat) (x : Dev) (q : Nat) (g : Fld) : rb (setDev s k x) q g = rb s q g := rb_of rfl q g
@[simp] theorem prf_setDev (s : State) (k : Nat) (x : Dev) (q : Nat) (g : Fld) : prf (setDev s k x) q g = prf s q g := prf_of rfl q g
@[simp] theorem crf_setDev (s : State) (k : Nat) (x : Dev) (q : Nat) (g : Fld) : crf (setDev s k x) q g = crf s q g := crf_of rfl q g
@[simp] theorem pageOn_setDev (s : State) (k : Nat) (x : Dev) (q : Nat) : pageOn (setDev s k x) q = pageOn s q := pageOn_of rfl q
@[simp] theorem mode_setDev (s : State) (k : Nat) (x : Dev) : mode (setDev s k x) = mode s := rf_of rfl _ _

@[simp] theorem rd_setEp (s : State) (k : Nat) (x : Ep) (z : Nat) : rd (setEp s k x) z = rd s z := rd_of rfl z
@[simp] theorem rf_setEp (s : State) (k : Nat) (x : Ep) (q : Nat) (g : Fld) : rf (setEp s k x) q g = rf s q g := rf_of rfl q g
@[simp] theorem rb_setEp (s : State) (k : Nat) (x : Ep) (q : Nat) (g : Fld) : rb (setEp s k x) q g = rb s q g := rb_of rfl q g
@[simp] theorem prf_setEp (s : State) (k : Nat) (x : Ep) (q : Nat) (g : Fld) : prf (setEp s k x) q g = prf s q g := prf_of rfl q g
@[simp] theorem crf_setEp (s : State) (k : Nat) (x : Ep) (q : Nat) (g : Fld) : crf (setEp s k x) q g = crf s q g := crf_of rfl q g
@[simp] theorem pageOn_setEp (s : State) (k : Nat) (x : Ep) (q : Nat) : pageOn (setEp s k x) q = pageOn s q := pageOn_of rfl q
@[simp] theorem mode_setEp (s : State) (k : Nat) (x : Ep) : mode (setEp s k x) = mode s := rf_of rfl _ _

/-! ### Reads of the tables over operations on other state -/

theorem instAt_of {s t : State} (h : s.inst = t.inst) (k : Nat) : instAt s k = instAt t k := by unfold instAt; rw [h]
theorem portAt_of {s t : State} (h : s.prt = t.prt) (k : Nat) : portAt s k = portAt t k := by unfold portAt; rw [h]
theorem chanAt_of {s t : State} (h : s.dma = t.dma) (k : Nat) : chanAt s k = chanAt t k := by unfold chanAt; rw [h]
theorem domAt_of {s t : State} (h : s.pwr = t.pwr) (k : Nat) : domAt s k = domAt t k := by unfold domAt; rw [h]
theorem recAt_of {s t : State} (h : s.flt = t.flt) (k : Nat) : recAt s k = recAt t k := by unfold recAt; rw [h]
theorem tqAt_of {s t : State} (h : s.que = t.que) (k : Nat) : tqAt s k = tqAt t k := by unfold tqAt; rw [h]
theorem cqAt_of {s t : State} (h : s.que = t.que) (k : Nat) : cqAt s k = cqAt t k := by unfold cqAt; rw [h]
theorem devAt_of {s t : State} (h : s.ctx = t.ctx) (k : Nat) : devAt s k = devAt t k := by unfold devAt; rw [h]
theorem epAt_of {s t : State} (h : s.ctx = t.ctx) (k : Nat) : epAt s k = epAt t k := by unfold epAt; rw [h]

@[simp] theorem instAt_wr (s : State) (a : Nat) (v : Word) (j : Nat) : instAt (wr s a v) j = instAt s j := instAt_of rfl j
@[simp] theorem instAt_wf (s : State) (p : Nat) (f : Fld) (v : Nat) (j : Nat) : instAt (wf s p f v) j = instAt s j := instAt_of rfl j
@[simp] theorem instAt_wb (s : State) (p : Nat) (f : Fld) (b : Bool) (j : Nat) : instAt (wb s p f b) j = instAt s j := instAt_of rfl j
@[simp] theorem instAt_addF (s : State) (p : Nat) (f : Fld) (n : Nat) (j : Nat) : instAt (addF s p f n) j = instAt s j := instAt_of rfl j
@[simp] theorem instAt_incF (s : State) (p : Nat) (f : Fld) (j : Nat) : instAt (incF s p f) j = instAt s j := instAt_of rfl j
@[simp] theorem instAt_pwf (s : State) (p : Nat) (f : Fld) (v : Nat) (j : Nat) : instAt (pwf s p f v) j = instAt s j := instAt_of rfl j
@[simp] theorem instAt_cwf (s : State) (c : Nat) (f : Fld) (v : Nat) (j : Nat) : instAt (cwf s c f v) j = instAt s j := instAt_of rfl j
@[simp] theorem instAt_cpairW (s : State) (c o : Nat) (v : BitVec 64) (j : Nat) : instAt (cpairW s c o v) j = instAt s j := instAt_of rfl j
@[simp] theorem instAt_emit (s : State) (o : Out) (j : Nat) : instAt (emit s o) j = instAt s j := instAt_of rfl j
@[simp] theorem instAt_emits (s : State) (o : List Out) (j : Nat) : instAt (emits s o) j = instAt s j := instAt_of rfl j
@[simp] theorem instAt_freeStep (s : State) (j : Nat) : instAt (freeStep s) j = instAt s j := instAt_of rfl j
@[simp] theorem instAt_setPort (s : State) (k : Nat) (x : Port) (j : Nat) : instAt (setPort s k x) j = instAt s j := instAt_of rfl j
@[simp] theorem instAt_setChan (s : State) (k : Nat) (x : Chan) (j : Nat) : instAt (setChan s k x) j = instAt s j := instAt_of rfl j
@[simp] theorem instAt_setDom (s : State) (k : Nat) (x : Dom) (j : Nat) : instAt (setDom s k x) j = instAt s j := instAt_of rfl j
@[simp] theorem instAt_setRec (s : State) (k : Nat) (x : Rec) (j : Nat) : instAt (setRec s k x) j = instAt s j := instAt_of rfl j
@[simp] theorem instAt_setTq (s : State) (k : Nat) (x : Tq) (j : Nat) : instAt (setTq s k x) j = instAt s j := instAt_of rfl j
@[simp] theorem instAt_setCq (s : State) (k : Nat) (x : Cq) (j : Nat) : instAt (setCq s k x) j = instAt s j := instAt_of rfl j
@[simp] theorem instAt_setRef (s : State) (k : Nat) (x : QRef) (j : Nat) : instAt (setRef s k x) j = instAt s j := instAt_of rfl j
@[simp] theorem instAt_setDev (s : State) (k : Nat) (x : Dev) (j : Nat) : instAt (setDev s k x) j = instAt s j := instAt_of rfl j
@[simp] theorem instAt_setEp (s : State) (k : Nat) (x : Ep) (j : Nat) : instAt (setEp s k x) j = instAt s j := instAt_of rfl j

@[simp] theorem portAt_wr (s : State) (a : Nat) (v : Word) (j : Nat) : portAt (wr s a v) j = portAt s j := portAt_of rfl j
@[simp] theorem portAt_wf (s : State) (p : Nat) (f : Fld) (v : Nat) (j : Nat) : portAt (wf s p f v) j = portAt s j := portAt_of rfl j
@[simp] theorem portAt_wb (s : State) (p : Nat) (f : Fld) (b : Bool) (j : Nat) : portAt (wb s p f b) j = portAt s j := portAt_of rfl j
@[simp] theorem portAt_addF (s : State) (p : Nat) (f : Fld) (n : Nat) (j : Nat) : portAt (addF s p f n) j = portAt s j := portAt_of rfl j
@[simp] theorem portAt_incF (s : State) (p : Nat) (f : Fld) (j : Nat) : portAt (incF s p f) j = portAt s j := portAt_of rfl j
@[simp] theorem portAt_pwf (s : State) (p : Nat) (f : Fld) (v : Nat) (j : Nat) : portAt (pwf s p f v) j = portAt s j := portAt_of rfl j
@[simp] theorem portAt_cwf (s : State) (c : Nat) (f : Fld) (v : Nat) (j : Nat) : portAt (cwf s c f v) j = portAt s j := portAt_of rfl j
@[simp] theorem portAt_cpairW (s : State) (c o : Nat) (v : BitVec 64) (j : Nat) : portAt (cpairW s c o v) j = portAt s j := portAt_of rfl j
@[simp] theorem portAt_emit (s : State) (o : Out) (j : Nat) : portAt (emit s o) j = portAt s j := portAt_of rfl j
@[simp] theorem portAt_emits (s : State) (o : List Out) (j : Nat) : portAt (emits s o) j = portAt s j := portAt_of rfl j
@[simp] theorem portAt_freeStep (s : State) (j : Nat) : portAt (freeStep s) j = portAt s j := portAt_of rfl j
@[simp] theorem portAt_setInst (s : State) (k : Nat) (x : Inst) (j : Nat) : portAt (setInst s k x) j = portAt s j := portAt_of rfl j
@[simp] theorem portAt_setChan (s : State) (k : Nat) (x : Chan) (j : Nat) : portAt (setChan s k x) j = portAt s j := portAt_of rfl j
@[simp] theorem portAt_setDom (s : State) (k : Nat) (x : Dom) (j : Nat) : portAt (setDom s k x) j = portAt s j := portAt_of rfl j
@[simp] theorem portAt_setRec (s : State) (k : Nat) (x : Rec) (j : Nat) : portAt (setRec s k x) j = portAt s j := portAt_of rfl j
@[simp] theorem portAt_setTq (s : State) (k : Nat) (x : Tq) (j : Nat) : portAt (setTq s k x) j = portAt s j := portAt_of rfl j
@[simp] theorem portAt_setCq (s : State) (k : Nat) (x : Cq) (j : Nat) : portAt (setCq s k x) j = portAt s j := portAt_of rfl j
@[simp] theorem portAt_setRef (s : State) (k : Nat) (x : QRef) (j : Nat) : portAt (setRef s k x) j = portAt s j := portAt_of rfl j
@[simp] theorem portAt_setDev (s : State) (k : Nat) (x : Dev) (j : Nat) : portAt (setDev s k x) j = portAt s j := portAt_of rfl j
@[simp] theorem portAt_setEp (s : State) (k : Nat) (x : Ep) (j : Nat) : portAt (setEp s k x) j = portAt s j := portAt_of rfl j

@[simp] theorem chanAt_wr (s : State) (a : Nat) (v : Word) (j : Nat) : chanAt (wr s a v) j = chanAt s j := chanAt_of rfl j
@[simp] theorem chanAt_wf (s : State) (p : Nat) (f : Fld) (v : Nat) (j : Nat) : chanAt (wf s p f v) j = chanAt s j := chanAt_of rfl j
@[simp] theorem chanAt_wb (s : State) (p : Nat) (f : Fld) (b : Bool) (j : Nat) : chanAt (wb s p f b) j = chanAt s j := chanAt_of rfl j
@[simp] theorem chanAt_addF (s : State) (p : Nat) (f : Fld) (n : Nat) (j : Nat) : chanAt (addF s p f n) j = chanAt s j := chanAt_of rfl j
@[simp] theorem chanAt_incF (s : State) (p : Nat) (f : Fld) (j : Nat) : chanAt (incF s p f) j = chanAt s j := chanAt_of rfl j
@[simp] theorem chanAt_pwf (s : State) (p : Nat) (f : Fld) (v : Nat) (j : Nat) : chanAt (pwf s p f v) j = chanAt s j := chanAt_of rfl j
@[simp] theorem chanAt_cwf (s : State) (c : Nat) (f : Fld) (v : Nat) (j : Nat) : chanAt (cwf s c f v) j = chanAt s j := chanAt_of rfl j
@[simp] theorem chanAt_cpairW (s : State) (c o : Nat) (v : BitVec 64) (j : Nat) : chanAt (cpairW s c o v) j = chanAt s j := chanAt_of rfl j
@[simp] theorem chanAt_emit (s : State) (o : Out) (j : Nat) : chanAt (emit s o) j = chanAt s j := chanAt_of rfl j
@[simp] theorem chanAt_emits (s : State) (o : List Out) (j : Nat) : chanAt (emits s o) j = chanAt s j := chanAt_of rfl j
@[simp] theorem chanAt_freeStep (s : State) (j : Nat) : chanAt (freeStep s) j = chanAt s j := chanAt_of rfl j
@[simp] theorem chanAt_setInst (s : State) (k : Nat) (x : Inst) (j : Nat) : chanAt (setInst s k x) j = chanAt s j := chanAt_of rfl j
@[simp] theorem chanAt_setPort (s : State) (k : Nat) (x : Port) (j : Nat) : chanAt (setPort s k x) j = chanAt s j := chanAt_of rfl j
@[simp] theorem chanAt_setDom (s : State) (k : Nat) (x : Dom) (j : Nat) : chanAt (setDom s k x) j = chanAt s j := chanAt_of rfl j
@[simp] theorem chanAt_setRec (s : State) (k : Nat) (x : Rec) (j : Nat) : chanAt (setRec s k x) j = chanAt s j := chanAt_of rfl j
@[simp] theorem chanAt_setTq (s : State) (k : Nat) (x : Tq) (j : Nat) : chanAt (setTq s k x) j = chanAt s j := chanAt_of rfl j
@[simp] theorem chanAt_setCq (s : State) (k : Nat) (x : Cq) (j : Nat) : chanAt (setCq s k x) j = chanAt s j := chanAt_of rfl j
@[simp] theorem chanAt_setRef (s : State) (k : Nat) (x : QRef) (j : Nat) : chanAt (setRef s k x) j = chanAt s j := chanAt_of rfl j
@[simp] theorem chanAt_setDev (s : State) (k : Nat) (x : Dev) (j : Nat) : chanAt (setDev s k x) j = chanAt s j := chanAt_of rfl j
@[simp] theorem chanAt_setEp (s : State) (k : Nat) (x : Ep) (j : Nat) : chanAt (setEp s k x) j = chanAt s j := chanAt_of rfl j

@[simp] theorem domAt_wr (s : State) (a : Nat) (v : Word) (j : Nat) : domAt (wr s a v) j = domAt s j := domAt_of rfl j
@[simp] theorem domAt_wf (s : State) (p : Nat) (f : Fld) (v : Nat) (j : Nat) : domAt (wf s p f v) j = domAt s j := domAt_of rfl j
@[simp] theorem domAt_wb (s : State) (p : Nat) (f : Fld) (b : Bool) (j : Nat) : domAt (wb s p f b) j = domAt s j := domAt_of rfl j
@[simp] theorem domAt_addF (s : State) (p : Nat) (f : Fld) (n : Nat) (j : Nat) : domAt (addF s p f n) j = domAt s j := domAt_of rfl j
@[simp] theorem domAt_incF (s : State) (p : Nat) (f : Fld) (j : Nat) : domAt (incF s p f) j = domAt s j := domAt_of rfl j
@[simp] theorem domAt_pwf (s : State) (p : Nat) (f : Fld) (v : Nat) (j : Nat) : domAt (pwf s p f v) j = domAt s j := domAt_of rfl j
@[simp] theorem domAt_cwf (s : State) (c : Nat) (f : Fld) (v : Nat) (j : Nat) : domAt (cwf s c f v) j = domAt s j := domAt_of rfl j
@[simp] theorem domAt_cpairW (s : State) (c o : Nat) (v : BitVec 64) (j : Nat) : domAt (cpairW s c o v) j = domAt s j := domAt_of rfl j
@[simp] theorem domAt_emit (s : State) (o : Out) (j : Nat) : domAt (emit s o) j = domAt s j := domAt_of rfl j
@[simp] theorem domAt_emits (s : State) (o : List Out) (j : Nat) : domAt (emits s o) j = domAt s j := domAt_of rfl j
@[simp] theorem domAt_freeStep (s : State) (j : Nat) : domAt (freeStep s) j = domAt s j := domAt_of rfl j
@[simp] theorem domAt_setInst (s : State) (k : Nat) (x : Inst) (j : Nat) : domAt (setInst s k x) j = domAt s j := domAt_of rfl j
@[simp] theorem domAt_setPort (s : State) (k : Nat) (x : Port) (j : Nat) : domAt (setPort s k x) j = domAt s j := domAt_of rfl j
@[simp] theorem domAt_setChan (s : State) (k : Nat) (x : Chan) (j : Nat) : domAt (setChan s k x) j = domAt s j := domAt_of rfl j
@[simp] theorem domAt_setRec (s : State) (k : Nat) (x : Rec) (j : Nat) : domAt (setRec s k x) j = domAt s j := domAt_of rfl j
@[simp] theorem domAt_setTq (s : State) (k : Nat) (x : Tq) (j : Nat) : domAt (setTq s k x) j = domAt s j := domAt_of rfl j
@[simp] theorem domAt_setCq (s : State) (k : Nat) (x : Cq) (j : Nat) : domAt (setCq s k x) j = domAt s j := domAt_of rfl j
@[simp] theorem domAt_setRef (s : State) (k : Nat) (x : QRef) (j : Nat) : domAt (setRef s k x) j = domAt s j := domAt_of rfl j
@[simp] theorem domAt_setDev (s : State) (k : Nat) (x : Dev) (j : Nat) : domAt (setDev s k x) j = domAt s j := domAt_of rfl j
@[simp] theorem domAt_setEp (s : State) (k : Nat) (x : Ep) (j : Nat) : domAt (setEp s k x) j = domAt s j := domAt_of rfl j

@[simp] theorem recAt_wr (s : State) (a : Nat) (v : Word) (j : Nat) : recAt (wr s a v) j = recAt s j := recAt_of rfl j
@[simp] theorem recAt_wf (s : State) (p : Nat) (f : Fld) (v : Nat) (j : Nat) : recAt (wf s p f v) j = recAt s j := recAt_of rfl j
@[simp] theorem recAt_wb (s : State) (p : Nat) (f : Fld) (b : Bool) (j : Nat) : recAt (wb s p f b) j = recAt s j := recAt_of rfl j
@[simp] theorem recAt_addF (s : State) (p : Nat) (f : Fld) (n : Nat) (j : Nat) : recAt (addF s p f n) j = recAt s j := recAt_of rfl j
@[simp] theorem recAt_incF (s : State) (p : Nat) (f : Fld) (j : Nat) : recAt (incF s p f) j = recAt s j := recAt_of rfl j
@[simp] theorem recAt_pwf (s : State) (p : Nat) (f : Fld) (v : Nat) (j : Nat) : recAt (pwf s p f v) j = recAt s j := recAt_of rfl j
@[simp] theorem recAt_cwf (s : State) (c : Nat) (f : Fld) (v : Nat) (j : Nat) : recAt (cwf s c f v) j = recAt s j := recAt_of rfl j
@[simp] theorem recAt_cpairW (s : State) (c o : Nat) (v : BitVec 64) (j : Nat) : recAt (cpairW s c o v) j = recAt s j := recAt_of rfl j
@[simp] theorem recAt_emit (s : State) (o : Out) (j : Nat) : recAt (emit s o) j = recAt s j := recAt_of rfl j
@[simp] theorem recAt_emits (s : State) (o : List Out) (j : Nat) : recAt (emits s o) j = recAt s j := recAt_of rfl j
@[simp] theorem recAt_freeStep (s : State) (j : Nat) : recAt (freeStep s) j = recAt s j := recAt_of rfl j
@[simp] theorem recAt_setInst (s : State) (k : Nat) (x : Inst) (j : Nat) : recAt (setInst s k x) j = recAt s j := recAt_of rfl j
@[simp] theorem recAt_setPort (s : State) (k : Nat) (x : Port) (j : Nat) : recAt (setPort s k x) j = recAt s j := recAt_of rfl j
@[simp] theorem recAt_setChan (s : State) (k : Nat) (x : Chan) (j : Nat) : recAt (setChan s k x) j = recAt s j := recAt_of rfl j
@[simp] theorem recAt_setDom (s : State) (k : Nat) (x : Dom) (j : Nat) : recAt (setDom s k x) j = recAt s j := recAt_of rfl j
@[simp] theorem recAt_setTq (s : State) (k : Nat) (x : Tq) (j : Nat) : recAt (setTq s k x) j = recAt s j := recAt_of rfl j
@[simp] theorem recAt_setCq (s : State) (k : Nat) (x : Cq) (j : Nat) : recAt (setCq s k x) j = recAt s j := recAt_of rfl j
@[simp] theorem recAt_setRef (s : State) (k : Nat) (x : QRef) (j : Nat) : recAt (setRef s k x) j = recAt s j := recAt_of rfl j
@[simp] theorem recAt_setDev (s : State) (k : Nat) (x : Dev) (j : Nat) : recAt (setDev s k x) j = recAt s j := recAt_of rfl j
@[simp] theorem recAt_setEp (s : State) (k : Nat) (x : Ep) (j : Nat) : recAt (setEp s k x) j = recAt s j := recAt_of rfl j

@[simp] theorem tqAt_wr (s : State) (a : Nat) (v : Word) (j : Nat) : tqAt (wr s a v) j = tqAt s j := tqAt_of rfl j
@[simp] theorem tqAt_wf (s : State) (p : Nat) (f : Fld) (v : Nat) (j : Nat) : tqAt (wf s p f v) j = tqAt s j := tqAt_of rfl j
@[simp] theorem tqAt_wb (s : State) (p : Nat) (f : Fld) (b : Bool) (j : Nat) : tqAt (wb s p f b) j = tqAt s j := tqAt_of rfl j
@[simp] theorem tqAt_addF (s : State) (p : Nat) (f : Fld) (n : Nat) (j : Nat) : tqAt (addF s p f n) j = tqAt s j := tqAt_of rfl j
@[simp] theorem tqAt_incF (s : State) (p : Nat) (f : Fld) (j : Nat) : tqAt (incF s p f) j = tqAt s j := tqAt_of rfl j
@[simp] theorem tqAt_pwf (s : State) (p : Nat) (f : Fld) (v : Nat) (j : Nat) : tqAt (pwf s p f v) j = tqAt s j := tqAt_of rfl j
@[simp] theorem tqAt_cwf (s : State) (c : Nat) (f : Fld) (v : Nat) (j : Nat) : tqAt (cwf s c f v) j = tqAt s j := tqAt_of rfl j
@[simp] theorem tqAt_cpairW (s : State) (c o : Nat) (v : BitVec 64) (j : Nat) : tqAt (cpairW s c o v) j = tqAt s j := tqAt_of rfl j
@[simp] theorem tqAt_emit (s : State) (o : Out) (j : Nat) : tqAt (emit s o) j = tqAt s j := tqAt_of rfl j
@[simp] theorem tqAt_emits (s : State) (o : List Out) (j : Nat) : tqAt (emits s o) j = tqAt s j := tqAt_of rfl j
@[simp] theorem tqAt_freeStep (s : State) (j : Nat) : tqAt (freeStep s) j = tqAt s j := tqAt_of rfl j
@[simp] theorem tqAt_setInst (s : State) (k : Nat) (x : Inst) (j : Nat) : tqAt (setInst s k x) j = tqAt s j := tqAt_of rfl j
@[simp] theorem tqAt_setPort (s : State) (k : Nat) (x : Port) (j : Nat) : tqAt (setPort s k x) j = tqAt s j := tqAt_of rfl j
@[simp] theorem tqAt_setChan (s : State) (k : Nat) (x : Chan) (j : Nat) : tqAt (setChan s k x) j = tqAt s j := tqAt_of rfl j
@[simp] theorem tqAt_setDom (s : State) (k : Nat) (x : Dom) (j : Nat) : tqAt (setDom s k x) j = tqAt s j := tqAt_of rfl j
@[simp] theorem tqAt_setRec (s : State) (k : Nat) (x : Rec) (j : Nat) : tqAt (setRec s k x) j = tqAt s j := tqAt_of rfl j
@[simp] theorem tqAt_setDev (s : State) (k : Nat) (x : Dev) (j : Nat) : tqAt (setDev s k x) j = tqAt s j := tqAt_of rfl j
@[simp] theorem tqAt_setEp (s : State) (k : Nat) (x : Ep) (j : Nat) : tqAt (setEp s k x) j = tqAt s j := tqAt_of rfl j

@[simp] theorem cqAt_wr (s : State) (a : Nat) (v : Word) (j : Nat) : cqAt (wr s a v) j = cqAt s j := cqAt_of rfl j
@[simp] theorem cqAt_wf (s : State) (p : Nat) (f : Fld) (v : Nat) (j : Nat) : cqAt (wf s p f v) j = cqAt s j := cqAt_of rfl j
@[simp] theorem cqAt_wb (s : State) (p : Nat) (f : Fld) (b : Bool) (j : Nat) : cqAt (wb s p f b) j = cqAt s j := cqAt_of rfl j
@[simp] theorem cqAt_addF (s : State) (p : Nat) (f : Fld) (n : Nat) (j : Nat) : cqAt (addF s p f n) j = cqAt s j := cqAt_of rfl j
@[simp] theorem cqAt_incF (s : State) (p : Nat) (f : Fld) (j : Nat) : cqAt (incF s p f) j = cqAt s j := cqAt_of rfl j
@[simp] theorem cqAt_pwf (s : State) (p : Nat) (f : Fld) (v : Nat) (j : Nat) : cqAt (pwf s p f v) j = cqAt s j := cqAt_of rfl j
@[simp] theorem cqAt_cwf (s : State) (c : Nat) (f : Fld) (v : Nat) (j : Nat) : cqAt (cwf s c f v) j = cqAt s j := cqAt_of rfl j
@[simp] theorem cqAt_cpairW (s : State) (c o : Nat) (v : BitVec 64) (j : Nat) : cqAt (cpairW s c o v) j = cqAt s j := cqAt_of rfl j
@[simp] theorem cqAt_emit (s : State) (o : Out) (j : Nat) : cqAt (emit s o) j = cqAt s j := cqAt_of rfl j
@[simp] theorem cqAt_emits (s : State) (o : List Out) (j : Nat) : cqAt (emits s o) j = cqAt s j := cqAt_of rfl j
@[simp] theorem cqAt_freeStep (s : State) (j : Nat) : cqAt (freeStep s) j = cqAt s j := cqAt_of rfl j
@[simp] theorem cqAt_setInst (s : State) (k : Nat) (x : Inst) (j : Nat) : cqAt (setInst s k x) j = cqAt s j := cqAt_of rfl j
@[simp] theorem cqAt_setPort (s : State) (k : Nat) (x : Port) (j : Nat) : cqAt (setPort s k x) j = cqAt s j := cqAt_of rfl j
@[simp] theorem cqAt_setChan (s : State) (k : Nat) (x : Chan) (j : Nat) : cqAt (setChan s k x) j = cqAt s j := cqAt_of rfl j
@[simp] theorem cqAt_setDom (s : State) (k : Nat) (x : Dom) (j : Nat) : cqAt (setDom s k x) j = cqAt s j := cqAt_of rfl j
@[simp] theorem cqAt_setRec (s : State) (k : Nat) (x : Rec) (j : Nat) : cqAt (setRec s k x) j = cqAt s j := cqAt_of rfl j
@[simp] theorem cqAt_setDev (s : State) (k : Nat) (x : Dev) (j : Nat) : cqAt (setDev s k x) j = cqAt s j := cqAt_of rfl j
@[simp] theorem cqAt_setEp (s : State) (k : Nat) (x : Ep) (j : Nat) : cqAt (setEp s k x) j = cqAt s j := cqAt_of rfl j

@[simp] theorem devAt_wr (s : State) (a : Nat) (v : Word) (j : Nat) : devAt (wr s a v) j = devAt s j := devAt_of rfl j
@[simp] theorem devAt_wf (s : State) (p : Nat) (f : Fld) (v : Nat) (j : Nat) : devAt (wf s p f v) j = devAt s j := devAt_of rfl j
@[simp] theorem devAt_wb (s : State) (p : Nat) (f : Fld) (b : Bool) (j : Nat) : devAt (wb s p f b) j = devAt s j := devAt_of rfl j
@[simp] theorem devAt_addF (s : State) (p : Nat) (f : Fld) (n : Nat) (j : Nat) : devAt (addF s p f n) j = devAt s j := devAt_of rfl j
@[simp] theorem devAt_incF (s : State) (p : Nat) (f : Fld) (j : Nat) : devAt (incF s p f) j = devAt s j := devAt_of rfl j
@[simp] theorem devAt_pwf (s : State) (p : Nat) (f : Fld) (v : Nat) (j : Nat) : devAt (pwf s p f v) j = devAt s j := devAt_of rfl j
@[simp] theorem devAt_cwf (s : State) (c : Nat) (f : Fld) (v : Nat) (j : Nat) : devAt (cwf s c f v) j = devAt s j := devAt_of rfl j
@[simp] theorem devAt_cpairW (s : State) (c o : Nat) (v : BitVec 64) (j : Nat) : devAt (cpairW s c o v) j = devAt s j := devAt_of rfl j
@[simp] theorem devAt_emit (s : State) (o : Out) (j : Nat) : devAt (emit s o) j = devAt s j := devAt_of rfl j
@[simp] theorem devAt_emits (s : State) (o : List Out) (j : Nat) : devAt (emits s o) j = devAt s j := devAt_of rfl j
@[simp] theorem devAt_freeStep (s : State) (j : Nat) : devAt (freeStep s) j = devAt s j := devAt_of rfl j
@[simp] theorem devAt_setInst (s : State) (k : Nat) (x : Inst) (j : Nat) : devAt (setInst s k x) j = devAt s j := devAt_of rfl j
@[simp] theorem devAt_setPort (s : State) (k : Nat) (x : Port) (j : Nat) : devAt (setPort s k x) j = devAt s j := devAt_of rfl j
@[simp] theorem devAt_setChan (s : State) (k : Nat) (x : Chan) (j : Nat) : devAt (setChan s k x) j = devAt s j := devAt_of rfl j
@[simp] theorem devAt_setDom (s : State) (k : Nat) (x : Dom) (j : Nat) : devAt (setDom s k x) j = devAt s j := devAt_of rfl j
@[simp] theorem devAt_setRec (s : State) (k : Nat) (x : Rec) (j : Nat) : devAt (setRec s k x) j = devAt s j := devAt_of rfl j
@[simp] theorem devAt_setTq (s : State) (k : Nat) (x : Tq) (j : Nat) : devAt (setTq s k x) j = devAt s j := devAt_of rfl j
@[simp] theorem devAt_setCq (s : State) (k : Nat) (x : Cq) (j : Nat) : devAt (setCq s k x) j = devAt s j := devAt_of rfl j
@[simp] theorem devAt_setRef (s : State) (k : Nat) (x : QRef) (j : Nat) : devAt (setRef s k x) j = devAt s j := devAt_of rfl j

@[simp] theorem epAt_wr (s : State) (a : Nat) (v : Word) (j : Nat) : epAt (wr s a v) j = epAt s j := epAt_of rfl j
@[simp] theorem epAt_wf (s : State) (p : Nat) (f : Fld) (v : Nat) (j : Nat) : epAt (wf s p f v) j = epAt s j := epAt_of rfl j
@[simp] theorem epAt_wb (s : State) (p : Nat) (f : Fld) (b : Bool) (j : Nat) : epAt (wb s p f b) j = epAt s j := epAt_of rfl j
@[simp] theorem epAt_addF (s : State) (p : Nat) (f : Fld) (n : Nat) (j : Nat) : epAt (addF s p f n) j = epAt s j := epAt_of rfl j
@[simp] theorem epAt_incF (s : State) (p : Nat) (f : Fld) (j : Nat) : epAt (incF s p f) j = epAt s j := epAt_of rfl j
@[simp] theorem epAt_pwf (s : State) (p : Nat) (f : Fld) (v : Nat) (j : Nat) : epAt (pwf s p f v) j = epAt s j := epAt_of rfl j
@[simp] theorem epAt_cwf (s : State) (c : Nat) (f : Fld) (v : Nat) (j : Nat) : epAt (cwf s c f v) j = epAt s j := epAt_of rfl j
@[simp] theorem epAt_cpairW (s : State) (c o : Nat) (v : BitVec 64) (j : Nat) : epAt (cpairW s c o v) j = epAt s j := epAt_of rfl j
@[simp] theorem epAt_emit (s : State) (o : Out) (j : Nat) : epAt (emit s o) j = epAt s j := epAt_of rfl j
@[simp] theorem epAt_emits (s : State) (o : List Out) (j : Nat) : epAt (emits s o) j = epAt s j := epAt_of rfl j
@[simp] theorem epAt_freeStep (s : State) (j : Nat) : epAt (freeStep s) j = epAt s j := epAt_of rfl j
@[simp] theorem epAt_setInst (s : State) (k : Nat) (x : Inst) (j : Nat) : epAt (setInst s k x) j = epAt s j := epAt_of rfl j
@[simp] theorem epAt_setPort (s : State) (k : Nat) (x : Port) (j : Nat) : epAt (setPort s k x) j = epAt s j := epAt_of rfl j
@[simp] theorem epAt_setChan (s : State) (k : Nat) (x : Chan) (j : Nat) : epAt (setChan s k x) j = epAt s j := epAt_of rfl j
@[simp] theorem epAt_setDom (s : State) (k : Nat) (x : Dom) (j : Nat) : epAt (setDom s k x) j = epAt s j := epAt_of rfl j
@[simp] theorem epAt_setRec (s : State) (k : Nat) (x : Rec) (j : Nat) : epAt (setRec s k x) j = epAt s j := epAt_of rfl j
@[simp] theorem epAt_setTq (s : State) (k : Nat) (x : Tq) (j : Nat) : epAt (setTq s k x) j = epAt s j := epAt_of rfl j
@[simp] theorem epAt_setCq (s : State) (k : Nat) (x : Cq) (j : Nat) : epAt (setCq s k x) j = epAt s j := epAt_of rfl j
@[simp] theorem epAt_setRef (s : State) (k : Nat) (x : QRef) (j : Nat) : epAt (setRef s k x) j = epAt s j := epAt_of rfl j

/-! ### Tables -/

theorem tabGet_del_ne {α : Type} (d : Nat → α) (t : Tab α) (k j : Nat) (h : j ≠ k) : tabGet d (tabDel t k) j = tabGet d t j := by
  induction t with
  | nil => rfl
  | cons p t ih =>
    unfold tabDel at ih ⊢
    by_cases hp : p.1 = k
    · rw [List.filter_cons_of_neg (by simp [hp]), ih]
      simp only [tabGet]
      rw [if_neg (by omega)]
    · rw [List.filter_cons_of_pos (by simp [hp])]
      simp only [tabGet, ih]

theorem tabGet_del_self {α : Type} (d : Nat → α) (t : Tab α) (k : Nat) : tabGet d (tabDel t k) k = d k := by
  induction t with
  | nil => rfl
  | cons p t ih =>
    unfold tabDel at ih ⊢
    by_cases hp : p.1 = k
    · rw [List.filter_cons_of_neg (by simp [hp]), ih]
    · rw [List.filter_cons_of_pos (by simp [hp])]
      simp only [tabGet, ih, if_neg hp]

theorem tabGet_ins_ne {α : Type} (d : Nat → α) (t : Tab α) (k j : Nat) (v : α) (h : j ≠ k) :
    tabGet d (tabIns k v t) j = tabGet d t j := by
  induction t with
  | nil => simp [tabIns, tabGet, Ne.symm h]
  | cons p t ih =>
    unfold tabIns
    split
    · simp [tabGet, Ne.symm h]
    · simp only [tabGet, ih]

theorem tabGet_ins_self {α : Type} (d : Nat → α) (t : Tab α) (k : Nat) (v : α) (h : ∀ p ∈ t, p.1 ≠ k) :
    tabGet d (tabIns k v t) k = v := by
  induction t with
  | nil => simp [tabIns, tabGet]
  | cons p t ih =>
    unfold tabIns
    split
    · simp [tabGet]
    · simp only [tabGet, if_neg (h p List.mem_cons_self)]
      exact ih (fun q hq => h q (List.mem_cons_of_mem _ hq))

/-- A table reads what was put into it. -/
@[simp] theorem tabGet_set_self {α : Type} [DecidableEq α] (d : Nat → α) (t : Tab α) (k : Nat) (v : α) :
    tabGet d (tabSet d t k v) k = v := by
  unfold tabSet
  split
  · rename_i h
    rw [tabGet_del_self, h]
  · exact tabGet_ins_self d _ k v (fun p hp => by
      have := (List.mem_filter.1 hp).2
      simpa using this)

/-- An entry put into a table leaves every other key. -/
theorem tabGet_set_ne {α : Type} [DecidableEq α] (d : Nat → α) (t : Tab α) (k j : Nat) (v : α) (h : j ≠ k) :
    tabGet d (tabSet d t k v) j = tabGet d t j := by
  unfold tabSet
  split
  · exact tabGet_del_ne d t k j h
  · rw [tabGet_ins_ne d _ k j v h, tabGet_del_ne d t k j h]

theorem tabGet_set {α : Type} [DecidableEq α] (d : Nat → α) (t : Tab α) (k j : Nat) (v : α) :
    tabGet d (tabSet d t k v) j = if j = k then v else tabGet d t j := by
  split
  · rename_i h
    rw [h, tabGet_set_self]
  · rename_i h
    exact tabGet_set_ne d t k j v h

/-! ### Memories (R209) -/

theorem memGet_set (m : Tab Byte) (a b : Nat) (v : Byte) : memGet (memSet m a v) b = if b = a then v else memGet m b :=
  tabGet_set _ m a b v

theorem memGet_write (m : Tab Byte) (a b : Nat) (bs : List Byte) :
    memGet (memWrite m a bs) b = if a ≤ b ∧ b < a + bs.length then bs.getD (b - a) 0 else memGet m b := by
  induction bs generalizing m a with
  | nil => simp [memWrite]
  | cons x bs ih =>
    simp only [memWrite, ih, memGet_set, List.length_cons]
    by_cases h : b = a
    · subst h
      simp
    · by_cases h2 : a + 1 ≤ b ∧ b < a + 1 + bs.length
      · rw [if_pos h2, if_pos (by omega)]
        obtain ⟨n, hn⟩ : ∃ n, b - a = n + 1 := ⟨b - a - 1, by omega⟩
        have : b - (a + 1) = n := by omega
        simp [hn, this]
      · rw [if_neg h2, if_neg h, if_neg (by omega)]

/-! ### Registers and their fields -/

/-- A register reads what was written to it. -/
@[simp] theorem rd_wr_self (s : State) (a : Nat) (v : Word) : rd (wr s a v) a = v := tabGet_set_self _ _ _ _

/-- A write leaves every other register. -/
theorem rd_wr_ne (s : State) (a b : Nat) (v : Word) (h : b ≠ a) : rd (wr s a v) b = rd s b := tabGet_set_ne _ _ _ _ _ h

theorem rd_wr (s : State) (a b : Nat) (v : Word) : rd (wr s a v) b = if b = a then v else rd s b := tabGet_set _ _ _ _ _

/-- A field that fits a word. -/
def Fld.ok (f : Fld) : Bool := decide (f.lo + f.w ≤ 32)

/-- Two fields that share no bit. -/
def Fld.apart (f g : Fld) : Bool := decide (f.lo + f.w ≤ g.lo ∨ g.lo + g.w ≤ f.lo)

theorem fmask_bit (f : Fld) (i : Nat) (hi : i < 32) :
    (fmask f).getLsbD i = (decide (f.lo ≤ i) && decide (i < f.lo + f.w)) := by
  unfold fmask
  rw [BitVec.getLsbD_ofNat]
  have : (2 ^ f.w - 1) * 2 ^ f.lo = (2 ^ f.w - 1) <<< f.lo := by rw [Nat.shiftLeft_eq]
  rw [this, Nat.testBit_shiftLeft, Nat.testBit_two_pow_sub_one]
  by_cases h1 : f.lo ≤ i <;> by_cases h2 : i < f.lo + f.w <;> simp [hi, h1, h2] <;> omega

/-- Bit i of a field of a word. -/
theorem fget_bit (x : Word) (f : Fld) (i : Nat) : (fget x f).testBit i = (decide (i < f.w) && x.getLsbD (f.lo + i)) := by
  unfold fget
  rw [Nat.testBit_mod_two_pow, Nat.testBit_div_two_pow, BitVec.getLsbD, Nat.add_comm i f.lo]

theorem fput_bit (x : Word) (f : Fld) (v i : Nat) (hi : i < 32) :
    (fput x f v).getLsbD i =
      if f.lo ≤ i ∧ i < f.lo + f.w then v.testBit (i - f.lo) else x.getLsbD i := by
  unfold fput
  rw [BitVec.getLsbD_or, BitVec.getLsbD_and, BitVec.getLsbD_not, fmask_bit f i hi, BitVec.getLsbD_ofNat]
  have : v % 2 ^ f.w * 2 ^ f.lo = (v % 2 ^ f.w) <<< f.lo := by rw [Nat.shiftLeft_eq]
  rw [this, Nat.testBit_shiftLeft, Nat.testBit_mod_two_pow]
  by_cases h1 : f.lo ≤ i <;> by_cases h2 : i < f.lo + f.w
  · have h3 : i - f.lo < f.w := by omega
    simp [hi, h1, h2, h3]
  · have h3 : ¬ i - f.lo < f.w := by omega
    simp [hi, h1, h2, h3]
  · simp [hi, h1]
  · simp [hi, h1]

/-- A field reads what was put into it, cut to its width. -/
theorem fget_fput_self (x : Word) (f : Fld) (v : Nat) (h : f.ok = true) : fget (fput x f v) f = v % 2 ^ f.w := by
  simp only [Fld.ok, decide_eq_true_eq] at h
  apply Nat.eq_of_testBit_eq
  intro i
  rw [fget_bit, Nat.testBit_mod_two_pow]
  by_cases hi : i < f.w
  · rw [fput_bit _ _ _ _ (by omega), if_pos (by omega)]
    simp [hi]
  · simp [hi]

/-- A field put leaves the fields that share no bit with it. -/
theorem fget_fput_ne (x : Word) (f g : Fld) (v : Nat) (hg : g.ok = true) (h : f.apart g = true) :
    fget (fput x f v) g = fget x g := by
  simp only [Fld.ok, Fld.apart, decide_eq_true_eq] at h hg
  apply Nat.eq_of_testBit_eq
  intro i
  rw [fget_bit, fget_bit]
  by_cases hi : i < g.w
  · rw [fput_bit _ _ _ _ (by omega), if_neg (by omega)]
  · simp [hi]

theorem fget_lt (x : Word) (f : Fld) : fget x f < 2 ^ f.w := Nat.mod_lt _ (Nat.two_pow_pos _)

/-- A field reads what was written to it. -/
theorem rf_wf_self (s : State) (p : Nat) (f : Fld) (v : Nat) (h : f.ok = true) : rf (wf s p f v) p f = v % 2 ^ f.w := by
  unfold rf wf
  rw [rd_wr_self, fget_fput_self _ _ _ h]

/-- A field written leaves the other fields of its register. -/
theorem rf_wf_same (s : State) (p : Nat) (f g : Fld) (v : Nat) (ho : g.off = f.off) (hg : g.ok = true) (h : f.apart g = true) :
    rf (wf s p f v) p g = rf s p g := by
  unfold rf wf
  rw [ho, rd_wr_self, fget_fput_ne _ _ _ _ hg h]

/-- A field written leaves the fields of every other register. -/
theorem rf_wf_ne (s : State) (p q : Nat) (f g : Fld) (v : Nat) (h : adr q g.off ≠ adr p f.off) :
    rf (wf s p f v) q g = rf s q g := by
  unfold rf wf
  rw [rd_wr_ne _ _ _ _ h]

/-- A field written leaves every other register. -/
theorem rd_wf_ne (s : State) (p a : Nat) (f : Fld) (v : Nat) (h : a ≠ adr p f.off) : rd (wf s p f v) a = rd s a :=
  rd_wr_ne _ _ _ _ h

theorem rf_wr_ne (s : State) (a q : Nat) (g : Fld) (v : Word) (h : adr q g.off ≠ a) : rf (wr s a v) q g = rf s q g := by
  unfold rf
  rw [rd_wr_ne _ _ _ _ h]

theorem rf_wr_self (s : State) (p : Nat) (g : Fld) (v : Word) : rf (wr s (adr p g.off) v) p g = fget v g := by
  unfold rf
  rw [rd_wr_self]

theorem b2n_mod (b : Bool) (w : Nat) (h : 0 < w) : b2n b % 2 ^ w = b2n b := by
  cases b
  · simp [b2n]
  · exact Nat.mod_eq_of_lt (Nat.one_lt_two_pow (by omega))

/-- A one-bit field reads what was written to it. -/
theorem rb_wb_self (s : State) (p : Nat) (f : Fld) (b : Bool) (h : f.ok = true) (hw : 0 < f.w) : rb (wb s p f b) p f = b := by
  unfold rb wb
  rw [rf_wf_self _ _ _ _ h, b2n_mod _ _ hw]
  cases b <;> rfl

/-! ### The tables of the state -/

@[simp] theorem instAt_setInst (s : State) (k : Nat) (x : Inst) : instAt (setInst s k x) k = x := tabGet_set_self _ _ _ _
theorem instAt_setInst_ne (s : State) (k j : Nat) (x : Inst) (h : j ≠ k) : instAt (setInst s k x) j = instAt s j :=
  tabGet_set_ne _ _ _ _ _ h
@[simp] theorem portAt_setPort (s : State) (k : Nat) (x : Port) : portAt (setPort s k x) k = x := tabGet_set_self _ _ _ _
theorem portAt_setPort_ne (s : State) (k j : Nat) (x : Port) (h : j ≠ k) : portAt (setPort s k x) j = portAt s j :=
  tabGet_set_ne _ _ _ _ _ h
@[simp] theorem chanAt_setChan (s : State) (k : Nat) (x : Chan) : chanAt (setChan s k x) k = x := tabGet_set_self _ _ _ _
theorem chanAt_setChan_ne (s : State) (k j : Nat) (x : Chan) (h : j ≠ k) : chanAt (setChan s k x) j = chanAt s j :=
  tabGet_set_ne _ _ _ _ _ h
@[simp] theorem domAt_setDom (s : State) (k : Nat) (x : Dom) : domAt (setDom s k x) k = x := tabGet_set_self _ _ _ _
theorem domAt_setDom_ne (s : State) (k j : Nat) (x : Dom) (h : j ≠ k) : domAt (setDom s k x) j = domAt s j :=
  tabGet_set_ne _ _ _ _ _ h
@[simp] theorem recAt_setRec (s : State) (k : Nat) (x : Rec) : recAt (setRec s k x) k = x := tabGet_set_self _ _ _ _
theorem recAt_setRec_ne (s : State) (k j : Nat) (x : Rec) (h : j ≠ k) : recAt (setRec s k x) j = recAt s j :=
  tabGet_set_ne _ _ _ _ _ h

end Sys2Proof.Machine
end

