-- ==== Sys2Proof/Laws/Gate.lean ====
section
/-!
SUPPORT. What the gate does to an access, once for each of its answers (R93 to R101), what the checks of arrival do to a cell, once for
each of their answers (R46 to R49), and what the shared checks do to an admin command that passes them (R130).
-/
namespace Sys2Proof.Machine

/-- Whether an operation is a write. -/
theorem gated_of {s : State} {src : Src} {page off : Nat} {op : Op} {eff : State → State} {b : Bool}
    (hb : (match op with | .read => false | .write _ => true) = b) :
    gated s src page off op eff =
      match gate s src page off b with
      | .ok => eff s
      | .refuse r ur => refuseAccess s src page off b r ur
      | .drop => authDrop s
      | .dark => darkRefuse s src page b
      | .wake => wakeHold s src page off op
      | .hold => { s with held := s.held ++ [⟨src, page, off, op, none⟩] }
      | .absent => s := by
  subst hb
  rfl

/-- A write that the gate lets through has its effect. -/
theorem gatedW_ok {s : State} {src : Src} {page off : Nat} {v : Word} {eff : State → State}
    (h : gate s src page off true = .ok) : gatedW s src page off v eff = eff s := by
  unfold gatedW
  rw [gated_of (b := true) rfl, h]

/-- An access that the gate lets through is served. -/
theorem access_ok {s : State} {src : Src} {page off : Nat} {op : Op} {b : Bool}
    (hb : (match op with | .read => false | .write _ => true) = b) (h : gate s src page off b = .ok) :
    access s src page off op = serveOp s src page off op := by
  unfold access
  rw [gated_of hb, h]

/-- A write that the gate lets through is served. -/
theorem access_write {s : State} {src : Src} {page off : Nat} {v : Word} (h : gate s src page off true = .ok) :
    access s src page off (.write v) = serveWrite s src page off v := by
  rw [access_ok (b := true) rfl h]
  rfl

/-- A read that the gate lets through is served and answered. -/
theorem access_read {s : State} {src : Src} {page off : Nat} (h : gate s src page off false = .ok) :
    access s src page off .read = answer (serveRead s page off).1 src (serveRead s page off).2 := by
  rw [access_ok (b := false) rfl h]
  rfl

/-- An access to a dark block that does not wake is refused and counted. -/
theorem access_dark {s : State} {src : Src} {page off : Nat} {op : Op} {b : Bool}
    (hb : (match op with | .read => false | .write _ => true) = b) (h : gate s src page off b = .dark) :
    access s src page off op = darkRefuse s src page b := by
  unfold access
  rw [gated_of hb, h]

/-- An access to a dark block that wakes waits. -/
theorem access_wake {s : State} {src : Src} {page off : Nat} {op : Op} {b : Bool}
    (hb : (match op with | .read => false | .write _ => true) = b) (h : gate s src page off b = .wake) :
    access s src page off op = wakeHold s src page off op := by
  unfold access
  rw [gated_of hb, h]

/-! ### Cells -/

/-- A cell that passes its checks has its effect, and gives up its place in the ingress buffer. -/
theorem arrive_good {s : State} {c : Cell} {typ : Nat} {eff : State → State} (h : cellGood s c typ = true) :
    arrive s c typ eff = settleCell (cellTaken s c).held.length (eff (cellTaken s c)) c := by
  simp only [cellGood, Bool.and_eq_true, Bool.not_eq_true', beq_iff_eq] at h
  obtain ⟨⟨⟨⟨⟨h1, h2⟩, h3⟩, h4⟩, h5⟩, h6⟩ := h
  have h7 : (c.hops == 127) = false := by simpa using h5
  unfold arrive cellTaken
  simp only [h1, h2, h3, h4, h6, h7, bne_self_eq_false, Bool.not_true, Bool.or_self, Bool.false_eq_true, if_false]

/-- A cell for another chip, of another type, or off the ring does nothing here. -/
theorem arrive_other {s : State} {c : Cell} {typ : Nat} {eff : State → State}
    (h : onRing s = false ∨ c.typ.toNat ≠ typ ∨ cellHere s c = false) : arrive s c typ eff = s := by
  unfold arrive
  rcases h with h | h | h <;> simp [h]

/-- A cell that fails its CRC is counted, and what it carried is lost. -/
theorem arrive_crc {s : State} {c : Cell} {typ : Nat} {eff : State → State} (h1 : onRing s = true) (h2 : c.typ.toNat = typ)
    (h3 : cellHere s c = true) (h4 : cellOk c = false) :
    arrive s c typ eff = if c.bcast then s else cellLost (noteDrop (crcFail s (cellRing c)) c) typ c.tag := by
  unfold arrive
  simp [h1, h2, h3, h4]

/-- A cell at HOPS = 127 is discarded, and what it carried is lost. -/
theorem arrive_hops {s : State} {c : Cell} {typ : Nat} {eff : State → State} (h1 : onRing s = true) (h2 : c.typ.toNat = typ)
    (h3 : cellHere s c = true) (h4 : cellOk c = true) (h5 : c.hops = 127) :
    arrive s c typ eff = if c.bcast then s else cellLost (noteDrop (hopDrop s) c) typ c.tag := by
  unfold arrive
  simp [h1, h2, h3, h4, h5]

/-- A cell with an authority that no head stamped is discarded, and what it carried is lost. -/
theorem arrive_auth {s : State} {c : Cell} {typ : Nat} {eff : State → State} (h1 : onRing s = true) (h2 : c.typ.toNat = typ)
    (h3 : cellHere s c = true) (h4 : cellOk c = true) (h5 : c.hops ≠ 127) (h6 : c.auth ≠ 0) (h7 : c.src ≠ 0) :
    arrive s c typ eff = cellLost (freeIngress (noteDrop (authDrop (takeIngress s c)) c) c) typ c.tag := by
  have h8 : (c.hops == 127) = false := by simpa using h5
  have h9 : (c.auth != 0 && c.src != 0) = true := by simpa using ⟨h6, h7⟩
  unfold arrive
  simp only [h1, h2, h3, h4, h8, h9, bne_self_eq_false, Bool.not_true, Bool.or_self, Bool.false_eq_true, if_false, if_true]

/-! ### Admin commands -/

/-- A command that passes the shared checks comes to its own effect. -/
theorem adm_passes {s : State} {o : Owner} {e : List Word} {m : Bool} {n : Nat} {f : State → State}
    (h : admPasses s o e m n = true) : adm s o e m n f = f s := by
  simp only [admPasses, Bool.and_eq_true, Bool.not_eq_true'] at h
  obtain ⟨⟨⟨⟨h1, h2⟩, h3⟩, h4⟩, h5⟩ := h
  unfold adm
  simp only [h1, h2, h3, h4, h5, Bool.not_true, Bool.false_eq_true, if_false]

end Sys2Proof.Machine
end

