-- ==== Sys2Proof/Laws/Kept.lean ====
section
/-!
SUPPORT. What every operation on the state keeps: the queue of waiting commands, what the chip has already sent, the counter of free
values, and the canonical form of the register file and of EBM (`Kept`); with one lemma for each operation in the files Kept*.lean.
-/
namespace Sys2Proof.Machine

/-! ### The canonical form of tables -/

theorem tabSorted_cons {α : Type} (p : Nat × α) (t : Tab α) :
    tabSorted (p :: t) = true ↔ (∀ q ∈ t, p.1 < q.1) ∧ tabSorted t = true := by
  induction t generalizing p with
  | nil => simp [tabSorted]
  | cons q t ih =>
    simp only [tabSorted, Bool.and_eq_true, decide_eq_true_eq, List.mem_cons, forall_eq_or_imp]
    constructor
    · rintro ⟨h, ht⟩
      exact ⟨⟨h, fun r hr => lt_trans h ((ih q).1 ht |>.1 r hr)⟩, ht⟩
    · rintro ⟨⟨h, _⟩, ht⟩
      exact ⟨h, ht⟩

theorem tabSorted_filter {α : Type} (f : Nat × α → Bool) (t : Tab α) (h : tabSorted t = true) : tabSorted (t.filter f) = true := by
  induction t with
  | nil => rfl
  | cons p t ih =>
    obtain ⟨h1, h2⟩ := (tabSorted_cons p t).1 h
    by_cases hp : f p = true
    · rw [List.filter_cons_of_pos hp, tabSorted_cons]
      exact ⟨fun q hq => h1 q (List.mem_of_mem_filter hq), ih h2⟩
    · rw [List.filter_cons_of_neg hp]
      exact ih h2

theorem mem_tabIns {α : Type} (k : Nat) (v : α) (t : Tab α) (q : Nat × α) : q ∈ tabIns k v t ↔ q = (k, v) ∨ q ∈ t := by
  induction t with
  | nil => simp [tabIns]
  | cons p t ih =>
    unfold tabIns
    split
    · simp
    · simp only [List.mem_cons, ih]
      tauto

theorem tabSorted_ins {α : Type} (k : Nat) (v : α) (t : Tab α) (h : tabSorted t = true) (hk : ∀ q ∈ t, q.1 ≠ k) :
    tabSorted (tabIns k v t) = true := by
  induction t with
  | nil => rfl
  | cons p t ih =>
    obtain ⟨h1, h2⟩ := (tabSorted_cons p t).1 h
    unfold tabIns
    split
    · rename_i hlt
      rw [tabSorted_cons]
      refine ⟨fun q hq => ?_, h⟩
      rcases List.mem_cons.1 hq with rfl | hq
      · exact hlt
      · exact lt_trans hlt (h1 q hq)
    · rename_i hlt
      rw [tabSorted_cons]
      refine ⟨fun q hq => ?_, ih h2 (fun q hq => hk q (List.mem_cons_of_mem _ hq))⟩
      rcases (mem_tabIns k v t q).1 hq with rfl | hq
      · have := hk p List.mem_cons_self
        dsimp only
        omega
      · exact h1 q hq

theorem tabWf_filter {α : Type} [DecidableEq α] (d : Nat → α) (f : Nat × α → Bool) (t : Tab α) (h : tabWf d t = true) :
    tabWf d (t.filter f) = true := by
  simp only [tabWf, Bool.and_eq_true, List.all_eq_true] at h ⊢
  exact ⟨tabSorted_filter f t h.1, fun p hp => h.2 p (List.mem_of_mem_filter hp)⟩

theorem tabWf_del {α : Type} [DecidableEq α] (d : Nat → α) (t : Tab α) (k : Nat) (h : tabWf d t = true) :
    tabWf d (tabDel t k) = true := tabWf_filter d _ t h

/-- A replaced entry keeps the canonical form. -/
theorem tabWf_set {α : Type} [DecidableEq α] (d : Nat → α) (t : Tab α) (k : Nat) (v : α) (h : tabWf d t = true) :
    tabWf d (tabSet d t k v) = true := by
  have hd := tabWf_del d t k h
  unfold tabSet
  split
  · exact hd
  · rename_i hv
    simp only [tabWf, Bool.and_eq_true, List.all_eq_true] at hd ⊢
    refine ⟨tabSorted_ins k v _ hd.1 (fun q hq => ?_), fun p hp => ?_⟩
    · have := (List.mem_filter.1 hq).2
      simpa using this
    · rcases (mem_tabIns k v _ p).1 hp with rfl | hp
      · simpa using hv
      · exact hd.2 p hp

/-- A table whose entries are put through a function is in the canonical form. -/
theorem tabWf_map {α : Type} [DecidableEq α] (d : Nat → α) (f : Nat → α → α) (t : Tab α) : tabWf d (tabMap d f t) = true := by
  have : ∀ (l acc : Tab α), tabWf d acc = true → tabWf d (l.foldl (fun acc p => tabSet d acc p.1 (f p.1 p.2)) acc) = true := by
    intro l
    induction l with
    | nil => exact fun _ h => h
    | cons p l ih => exact fun acc h => ih _ (tabWf_set d acc _ _ h)
  exact this t [] rfl

/-- A byte written keeps the canonical form of a memory. -/
theorem wf_memSet (m : Tab Byte) (a : Nat) (b : Byte) (h : Memory.wf m = true) : Memory.wf (memSet m a b) = true :=
  tabWf_set _ m a b h

/-- Bytes written keep the canonical form of a memory. -/
theorem wf_memWrite (m : Tab Byte) (a : Nat) (bs : List Byte) (h : Memory.wf m = true) : Memory.wf (memWrite m a bs) = true := by
  induction bs generalizing m a with
  | nil => exact h
  | cons b bs ih => exact ih _ _ (wf_memSet m a b h)

/-- The register file after a soft reset of a page is in its canonical form. -/
theorem wf_pageRegs (t : Tab Word) (page : Nat) : tabWf regReset (pageRegs t page) = true := tabWf_map _ _ _

/-- Bytes written one by one keep the canonical form of a memory. -/
theorem wf_memFold {α : Type} (l : List α) (m : Tab Byte) (a : α → Nat) (b : α → Byte) (h : Memory.wf m = true) :
    Memory.wf (l.foldl (fun m p => memSet m (a p) (b p)) m) = true := by
  induction l generalizing m with
  | nil => exact h
  | cons p l ih => exact ih _ (wf_memSet m _ _ h)

/-- A memory put through a filter keeps its canonical form. -/
theorem wf_memFilter (m : Tab Byte) (f : Nat × Byte → Bool) (h : Memory.wf m = true) : Memory.wf (m.filter f) = true :=
  tabWf_filter _ f m h

/-! ### What is kept -/

/-- From a state to another: the queue is the same, what was sent stays sent, no free value is used twice, and the register file and
EBM keep their canonical form. -/
structure Kept (z s : State) : Prop where
  pending : s.pending = z.pending
  out : z.out <+: s.out
  fresh : z.fresh ≤ s.fresh
  regs : z.regsWf = true → s.regsWf = true
  ebm : z.ebmWf = true → s.ebmWf = true

theorem Kept.refl (s : State) : Kept s s := ⟨rfl, List.prefix_refl _, le_refl _, id, id⟩

theorem Kept.trans {a b c : State} (h : Kept a b) (k : Kept b c) : Kept a c :=
  ⟨k.pending.trans h.pending, h.out.trans k.out, h.fresh.trans k.fresh, k.regs ∘ h.regs, k.ebm ∘ h.ebm⟩

/-- A change of the other fields keeps. -/
theorem kept_mk {z s : State} (h : Kept z s)
    {latch lowHeld held mgt clk ring sbd que ctx pln prt ebmBad banks seq dma inst pwr flt nvm jtag svc arb} :
    Kept z ⟨s.pending, s.regs, latch, lowHeld, held, mgt, clk, ring, sbd, que, ctx, pln, prt, s.ebm, ebmBad, banks, seq, dma, inst, pwr,
      flt, nvm, jtag, svc, arb, s.out, s.fresh⟩ := ⟨h.pending, h.out, h.fresh, h.regs, h.ebm⟩

/-- A change of the other fields, with a register file in its canonical form, keeps. -/
theorem kept_mkRegs {z s : State} (h : Kept z s) {regs} (hr : tabWf regReset regs = true)
    {latch lowHeld held mgt clk ring sbd que ctx pln prt ebmBad banks seq dma inst pwr flt nvm jtag svc arb} :
    Kept z ⟨s.pending, regs, latch, lowHeld, held, mgt, clk, ring, sbd, que, ctx, pln, prt, s.ebm, ebmBad, banks, seq, dma, inst, pwr,
      flt, nvm, jtag, svc, arb, s.out, s.fresh⟩ := ⟨h.pending, h.out, h.fresh, fun _ => hr, h.ebm⟩

/-- EBM replaced by a memory in its canonical form keeps. -/
theorem kept_ebm {z s : State} (h : Kept z s) {m : Tab Byte} (hm : Memory.wf s.ebm = true → Memory.wf m = true) :
    Kept z { s with ebm := m } := ⟨h.pending, h.out, h.fresh, h.regs, fun w => hm (h.ebm w)⟩

theorem kept_ite {z a b : State} {c : Prop} [Decidable c] (h : Kept z a) (k : Kept z b) : Kept z (if c then a else b) := by
  split <;> assumption

theorem kept_wr {z s : State} (h : Kept z s) (a : Nat) (v : Word) : Kept z (wr s a v) :=
  ⟨h.pending, h.out, h.fresh, fun w => tabWf_set _ _ _ _ (h.regs w), h.ebm⟩

theorem kept_emit {z s : State} (h : Kept z s) (o : Out) : Kept z (emit s o) :=
  ⟨h.pending, h.out.trans (List.prefix_append _ _), h.fresh, h.regs, h.ebm⟩

theorem kept_emits {z s : State} (h : Kept z s) (o : List Out) : Kept z (emits s o) :=
  ⟨h.pending, h.out.trans (List.prefix_append _ _), h.fresh, h.regs, h.ebm⟩

theorem kept_freeStep {z s : State} (h : Kept z s) : Kept z (freeStep s) :=
  ⟨h.pending, h.out, h.fresh.trans (Nat.le_succ _), h.regs, h.ebm⟩

theorem kept_each {α : Type} {z s : State} {l : List α} {f : State → α → State} (h : Kept z s)
    (hf : ∀ s a, Kept z s → Kept z (f s a)) : Kept z (each l s f) := by
  unfold each
  induction l generalizing s with
  | nil => exact h
  | cons a l ih => exact ih (hf s a h)

theorem kept_foldl {α : Type} {z s : State} {l : List α} {f : State → α → State} (h : Kept z s)
    (hf : ∀ s a, Kept z s → Kept z (f s a)) : Kept z (l.foldl f s) := kept_each h hf

theorem kept_fst {α : Type} {z s : State} {a : α} {p : State × α} (e : p = (s, a)) (h : Kept z p.1) : Kept z s := by
  subst e; exact h

theorem kept_snd {α : Type} {z s : State} {a : α} {p : α × State} (e : p = (a, s)) (h : Kept z p.2) : Kept z s := by
  subst e; exact h

/-- What an operation keeps that answers a state, or with a number, or nothing. -/
def KeptIn {α : Type} (z : State) (f : α → State) (o : Option α) : Prop := ∀ u, o = some u → Kept z (f u)

theorem keptIn_some {α : Type} {z : State} {f : α → State} {a : α} (h : Kept z (f a)) : KeptIn z f (some a) := by
  rintro u ⟨⟩
  exact h

theorem keptIn_none {α : Type} {z : State} {f : α → State} : KeptIn z f none := by
  rintro u ⟨⟩

theorem keptIn_ite {α : Type} {z : State} {f : α → State} {a b : Option α} {c : Prop} [Decidable c] (h : KeptIn z f a)
    (k : KeptIn z f b) : KeptIn z f (if c then a else b) := by
  split <;> assumption

/-- What a command's answer keeps. -/
def KeptBy (z : State) (o : Host.Outcome State Fault Refusal) : Prop := ∀ t, o = .next t → Kept z t

theorem keptBy_next {z s : State} (h : Kept z s) : KeptBy z (.next s) := by
  rintro t ⟨⟩
  exact h

end Sys2Proof.Machine
end

