-- ==== Sys2Proof/Laws/KeptState.lean ====
section
/-!
SUPPORT. One lemma for each operation: what every operation on registers, interrupts, power and queues keeps
(`Kept`: the queue, the outputs, the free values, the canonical form of the register file and of EBM).
-/
namespace Sys2Proof.Machine

/-! ### Machine/Ops.lean -/

theorem kept_wf {z s : State} (page : Nat) (f : Fld) (v : Nat) (hk : Kept z s) : Kept z (wf s page f v) := by
  unfold wf
  repeat' first
    | with_reducible assumption
    | with_reducible apply kept_wr

theorem kept_wb {z s : State} (page : Nat) (f : Fld) (b : Bool) (hk : Kept z s) : Kept z (wb s page f b) := by
  unfold wb
  repeat' first
    | with_reducible assumption
    | with_reducible apply kept_wf

theorem kept_addF {z s : State} (page : Nat) (f : Fld) (n : Nat) (hk : Kept z s) : Kept z (addF s page f n) := by
  unfold addF
  repeat' first
    | with_reducible assumption
    | with_reducible apply kept_wf

theorem kept_incF {z s : State} (page : Nat) (f : Fld) (hk : Kept z s) : Kept z (incF s page f) := by
  unfold incF
  repeat' first
    | with_reducible assumption
    | with_reducible apply kept_addF

theorem kept_pwf {z s : State} (p : Nat) (f : Fld) (v : Nat) (hk : Kept z s) : Kept z (pwf s p f v) := by
  unfold pwf
  repeat' first
    | with_reducible assumption
    | with_reducible apply kept_wf

theorem kept_cwf {z s : State} (ch : Nat) (f : Fld) (v : Nat) (hk : Kept z s) : Kept z (cwf s ch f v) := by
  unfold cwf
  repeat' first
    | with_reducible assumption
    | with_reducible apply kept_wf

theorem kept_cpairW {z s : State} (ch : Nat) (off : Nat) (v : BitVec 64) (hk : Kept z s) : Kept z (cpairW s ch off v) := by
  unfold cpairW
  repeat' first
    | with_reducible assumption
    | with_reducible apply kept_wr

theorem kept_setInst {z s : State} (k : Nat) (i : Inst) (hk : Kept z s) : Kept z (setInst s k i) := by
  unfold setInst
  repeat' first
    | with_reducible assumption
    | with_reducible refine kept_ite ?_ ?_
    | (fail_if_no_progress (with_reducible refine kept_mk ?_))

theorem kept_setPort {z s : State} (p : Nat) (x : Port) (hk : Kept z s) : Kept z (setPort s p x) := by
  unfold setPort
  repeat' first
    | with_reducible assumption
    | with_reducible refine kept_ite ?_ ?_
    | (fail_if_no_progress (with_reducible refine kept_mk ?_))

theorem kept_setChan {z s : State} (ch : Nat) (c : Chan) (hk : Kept z s) : Kept z (setChan s ch c) := by
  unfold setChan
  repeat' first
    | with_reducible assumption
    | with_reducible refine kept_ite ?_ ?_
    | (fail_if_no_progress (with_reducible refine kept_mk ?_))

theorem kept_setDom {z s : State} (d : Nat) (x : Dom) (hk : Kept z s) : Kept z (setDom s d x) := by
  unfold setDom
  repeat' first
    | with_reducible assumption
    | with_reducible refine kept_ite ?_ ?_
    | (fail_if_no_progress (with_reducible refine kept_mk ?_))

theorem kept_setRec {z s : State} (i : Nat) (r : Rec) (hk : Kept z s) : Kept z (setRec s i r) := by
  unfold setRec
  repeat' first
    | with_reducible assumption
    | with_reducible refine kept_ite ?_ ?_
    | (fail_if_no_progress (with_reducible refine kept_mk ?_))

theorem kept_setTq {z s : State} (t : Nat) (x : Tq) (hk : Kept z s) : Kept z (setTq s t x) := by
  unfold setTq
  repeat' first
    | with_reducible assumption
    | with_reducible refine kept_ite ?_ ?_
    | (fail_if_no_progress (with_reducible refine kept_mk ?_))

theorem kept_setCq {z s : State} (c : Nat) (x : Cq) (hk : Kept z s) : Kept z (setCq s c x) := by
  unfold setCq
  repeat' first
    | with_reducible assumption
    | with_reducible refine kept_ite ?_ ?_
    | (fail_if_no_progress (with_reducible refine kept_mk ?_))

theorem kept_setRef {z s : State} (k : Nat) (x : QRef) (hk : Kept z s) : Kept z (setRef s k x) := by
  unfold setRef
  repeat' first
    | with_reducible assumption
    | with_reducible refine kept_ite ?_ ?_
    | (fail_if_no_progress (with_reducible refine kept_mk ?_))

theorem kept_setDev {z s : State} (h : Nat) (x : Dev) (hk : Kept z s) : Kept z (setDev s h x) := by
  unfold setDev
  repeat' first
    | with_reducible assumption
    | with_reducible refine kept_ite ?_ ?_
    | (fail_if_no_progress (with_reducible refine kept_mk ?_))

theorem kept_setEp {z s : State} (c : Nat) (x : Ep) (hk : Kept z s) : Kept z (setEp s c x) := by
  unfold setEp
  repeat' first
    | with_reducible assumption
    | with_reducible refine kept_ite ?_ ?_
    | (fail_if_no_progress (with_reducible refine kept_mk ?_))

theorem kept_updTq {z s : State} (t : Nat) (f : Tq → Tq) (hk : Kept z s) : Kept z (updTq s t f) := by
  unfold updTq
  repeat' first
    | with_reducible assumption
    | with_reducible apply kept_setTq
    | with_reducible refine kept_ite ?_ ?_
    | (fail_if_no_progress (with_reducible refine kept_mk ?_))
    | split

theorem kept_updEp {z s : State} (c : Nat) (f : Ep → Ep) (hk : Kept z s) : Kept z (updEp s c f) := by
  unfold updEp
  repeat' first
    | with_reducible assumption
    | with_reducible apply kept_setEp
    | with_reducible refine kept_ite ?_ ?_
    | (fail_if_no_progress (with_reducible refine kept_mk ?_))
    | split

theorem kept_msix {z s : State} (o : Owner) (v : BitVec 8) (hk : Kept z s) : Kept z (msix s o v) := by
  unfold msix
  repeat' first
    | with_reducible assumption
    | with_reducible apply kept_setInst
    | with_reducible apply kept_emit
    | with_reducible refine kept_ite ?_ ?_

theorem kept_msixFlush {z s : State} (o : Owner) (hk : Kept z s) : Kept z (msixFlush s o) := by
  unfold msixFlush
  repeat' first
    | with_reducible assumption
    | with_reducible apply kept_emits
    | with_reducible apply kept_setInst

theorem kept_dirtyEvict {z s : State} (k : Nat) (x2 : Nat) (hk : Kept z s) : Kept z (dirtyEvict s k x2) := by
  induction x2 generalizing s with
  | zero => exact hk
  | succ n ih =>
    unfold dirtyEvict
    repeat' first
      | with_reducible assumption
      | with_reducible apply ih
      | with_reducible apply kept_emits
      | with_reducible apply kept_setInst
      | with_reducible refine kept_ite ?_ ?_
      | split
      | dsimp only

theorem kept_dirtyLog {z s : State} (o : Owner) (a : Addr) (n : Nat) (hk : Kept z s) : Kept z (dirtyLog s o a n) := by
  unfold dirtyLog
  repeat' first
    | with_reducible assumption
    | with_reducible apply kept_dirtyEvict
    | with_reducible apply kept_setInst
    | with_reducible refine kept_ite ?_ ?_
    | (fail_if_no_progress (with_reducible refine kept_mk ?_))
    | split
    | dsimp only

theorem kept_setEgress {z s : State} (ringB : Bool) (e : Egress) (hk : Kept z s) : Kept z (setEgress s ringB e) := by
  unfold setEgress
  repeat' first
    | with_reducible assumption
    | with_reducible refine kept_ite ?_ ?_
    | (fail_if_no_progress (with_reducible refine kept_mk ?_))

theorem kept_queueCell {z s : State} (ringB : Bool) (transit : Bool) (c : Cell) (hk : Kept z s) : Kept z (queueCell s ringB transit c) := by
  unfold queueCell
  repeat' first
    | with_reducible assumption
    | with_reducible apply kept_setEgress

theorem kept_enqueue {z s : State} (ringB : Bool) (transit : Bool) (c : Cell) (hk : Kept z s) : Kept z (enqueue s ringB transit c) := by
  unfold enqueue
  repeat' first
    | with_reducible assumption
    | with_reducible apply kept_queueCell
    | with_reducible apply kept_incF
    | with_reducible refine kept_ite ?_ ?_

theorem kept_turnQueue {z s : State} (ringB : Bool) (hk : Kept z s) : Kept z (turnQueue s ringB) := by
  unfold turnQueue
  repeat' first
    | with_reducible assumption
    | with_reducible apply kept_each
    | with_reducible apply kept_setEgress
    | with_reducible apply kept_enqueue
    | with_reducible refine kept_ite ?_ ?_
    | (fail_if_no_progress (with_reducible refine kept_mk ?_))
    | split
    | dsimp only
    | intro _

theorem kept_leaveOwn {z s : State} (ringB : Bool) (c : Cell) (hk : Kept z s) : Kept z (leaveOwn s ringB c) := by
  unfold leaveOwn
  repeat' first
    | with_reducible assumption
    | with_reducible apply kept_emit
    | with_reducible refine kept_ite ?_ ?_
    | (fail_if_no_progress (with_reducible refine kept_mk ?_))
    | split

theorem kept_cellSlot {z s : State} (ringB : Bool) (hk : Kept z s) : Kept z (cellSlot s ringB) := by
  unfold cellSlot
  repeat' first
    | with_reducible assumption
    | with_reducible apply kept_setEgress
    | with_reducible apply kept_emit
    | with_reducible apply kept_leaveOwn
    | with_reducible refine kept_ite ?_ ?_
    | (fail_if_no_progress (with_reducible refine kept_mk ?_))
    | split
    | dsimp only

theorem kept_cellSlots {z s : State} (hk : Kept z s) : Kept z (cellSlots s) := by
  unfold cellSlots
  repeat' first
    | with_reducible assumption
    | with_reducible apply kept_cellSlot

theorem kept_inject {z s : State} (c : Cell) (hk : Kept z s) : Kept z (inject s c) := by
  unfold inject
  repeat' first
    | with_reducible assumption
    | with_reducible apply kept_enqueue
    | with_reducible refine kept_ite ?_ ?_
    | (fail_if_no_progress (with_reducible refine kept_mk ?_))

theorem kept_waitCell {z s : State} (c : Cell) (hk : Kept z s) : Kept z (waitCell s c) := by
  unfold waitCell
  repeat' first
    | with_reducible assumption
    | with_reducible refine kept_ite ?_ ?_
    | (fail_if_no_progress (with_reducible refine kept_mk ?_))

theorem kept_submit {z s : State} (c : Cell) (hk : Kept z s) : Kept z (submit s c) := by
  unfold submit
  repeat' first
    | with_reducible assumption
    | with_reducible apply kept_waitCell
    | with_reducible apply kept_inject
    | with_reducible refine kept_ite ?_ ?_
    | (fail_if_no_progress (with_reducible refine kept_mk ?_))

theorem kept_sendCell {z s : State} (dst : Nat) (typ : Nat) (cls : Nat) (auth : Nat) (tag : Word) (d : List Byte) (hk : Kept z s) : Kept z (sendCell s dst typ cls auth tag d) := by
  unfold sendCell
  repeat' first
    | with_reducible assumption
    | with_reducible apply kept_submit

theorem kept_broadcast {z s : State} (typ : Nat) (auth : Nat) (d : List Byte) (hk : Kept z s) : Kept z (broadcast s typ auth d) := by
  unfold broadcast
  repeat' first
    | with_reducible assumption
    | with_reducible apply kept_submit

theorem kept_tellAll {z s : State} (auth : Nat) (m : TopoMsg) (hk : Kept z s) : Kept z (tellAll s auth m) := by
  unfold tellAll
  repeat' first
    | with_reducible assumption
    | with_reducible apply kept_broadcast

theorem kept_tellOne {z s : State} (dst : Nat) (m : TopoMsg) (hk : Kept z s) : Kept z (tellOne s dst m) := by
  unfold tellOne
  repeat' first
    | with_reducible assumption
    | with_reducible apply kept_sendCell

theorem kept_sendFault {z s : State} (loc : BitVec 64) (code : BitVec 16) (hk : Kept z s) : Kept z (sendFault s loc code) := by
  unfold sendFault
  repeat' first
    | with_reducible assumption
    | with_reducible apply kept_sendCell

theorem kept_sendPost {z s : State} (p : PostMsg) (hk : Kept z s) : Kept z (sendPost s p) := by
  unfold sendPost
  repeat' first
    | with_reducible assumption
    | with_reducible apply kept_sendCell

theorem kept_flushCells {z s : State} (hk : Kept z s) : Kept z (flushCells s) := by
  unfold flushCells
  repeat' first
    | with_reducible assumption
    | with_reducible apply kept_each
    | with_reducible apply kept_submit
    | with_reducible refine kept_ite ?_ ?_
    | (fail_if_no_progress (with_reducible refine kept_mk ?_))
    | split
    | dsimp only
    | intro _

theorem kept_sendCredit {z s : State} (pos : Nat) (hk : Kept z s) : Kept z (sendCredit s pos) := by
  unfold sendCredit
  repeat' first
    | with_reducible assumption
    | with_reducible apply kept_sendCell

theorem kept_takeIngress {z s : State} (c : Cell) (hk : Kept z s) : Kept z (takeIngress s c) := by
  unfold takeIngress
  repeat' first
    | with_reducible assumption
    | with_reducible refine kept_ite ?_ ?_
    | (fail_if_no_progress (with_reducible refine kept_mk ?_))
    | split

theorem kept_freePlace {z s : State} (k : Nat) (hk : Kept z s) : Kept z (freePlace s k) := by
  unfold freePlace
  repeat' first
    | with_reducible assumption
    | with_reducible apply kept_sendCredit
    | with_reducible refine kept_ite ?_ ?_
    | (fail_if_no_progress (with_reducible refine kept_mk ?_))

theorem kept_freeIngress {z s : State} (c : Cell) (hk : Kept z s) : Kept z (freeIngress s c) := by
  unfold freeIngress
  repeat' first
    | with_reducible assumption
    | with_reducible apply kept_freePlace
    | with_reducible refine kept_ite ?_ ?_
    | (fail_if_no_progress (with_reducible refine kept_mk ?_))
    | split

theorem kept_takeCredits {z s : State} (c : Cell) (hk : Kept z s) : Kept z (takeCredits s c) := by
  unfold takeCredits
  repeat' first
    | with_reducible assumption
    | with_reducible apply kept_flushCells
    | with_reducible refine kept_ite ?_ ?_
    | (fail_if_no_progress (with_reducible refine kept_mk ?_))

/-! ### Machine/Conditioner.lean -/

theorem kept_cndFlags {z s : State} (ch : Nat) (f : CFlags) (hk : Kept z s) : Kept z (cndFlags s ch f) := by
  unfold cndFlags
  repeat' first
    | with_reducible assumption
    | with_reducible apply kept_wr

/-! ### Machine/Flags.lean -/

theorem kept_posEvent {z s : State} (p : Nat) (hk : Kept z s) : Kept z (posEvent s p) := by
  unfold posEvent
  repeat' first
    | with_reducible assumption
    | with_reducible apply kept_wr
    | with_reducible apply kept_msix
    | with_reducible refine kept_ite ?_ ?_

theorem kept_pageIntr {z s : State} (hk : Kept z s) : Kept z (pageIntr s) := by
  unfold pageIntr
  repeat' first
    | with_reducible assumption
    | with_reducible apply kept_sendCell
    | with_reducible apply kept_posEvent
    | with_reducible refine kept_ite ?_ ?_

theorem kept_intrBits {z s : State} (m : Word) (hk : Kept z s) : Kept z (intrBits s m) := by
  unfold intrBits
  repeat' first
    | with_reducible assumption
    | with_reducible apply kept_each
    | with_reducible apply kept_pageIntr
    | with_reducible refine kept_ite ?_ ?_
    | (fail_if_no_progress (with_reducible refine kept_mk ?_))
    | split
    | dsimp only
    | intro _

theorem kept_evtSet {z s : State} (page : Nat) (m : Nat) (hk : Kept z s) : Kept z (evtSet s page m) := by
  unfold evtSet
  repeat' first
    | with_reducible assumption
    | with_reducible apply kept_intrBits
    | with_reducible apply kept_wr

theorem kept_evt {z s : State} (page : Nat) (n : Nat) (hk : Kept z s) : Kept z (evt s page n) := by
  unfold evt
  repeat' first
    | with_reducible assumption
    | with_reducible apply kept_evtSet

theorem kept_evtEnable {z s : State} (page : Nat) (v : Word) (hk : Kept z s) : Kept z (evtEnable s page v) := by
  unfold evtEnable
  repeat' first
    | with_reducible assumption
    | with_reducible apply kept_intrBits
    | with_reducible apply kept_wr

theorem kept_svcEvt {z s : State} (e : SvcEvt) (hk : Kept z s) : Kept z (svcEvt s e) := by
  unfold svcEvt
  repeat' first
    | with_reducible assumption
    | with_reducible apply kept_wb
    | with_reducible apply kept_evt
    | with_reducible refine kept_ite ?_ ?_
    | (fail_if_no_progress (with_reducible refine kept_mk ?_))

theorem kept_errBit {z s : State} (page : Nat) (n : Nat) (hk : Kept z s) : Kept z (errBit s page n) := by
  unfold errBit
  repeat' first
    | with_reducible assumption
    | with_reducible apply kept_wr
    | with_reducible refine kept_ite ?_ ?_

theorem kept_rootCause {z s : State} (hk : Kept z s) : Kept z (rootCause s) := by
  unfold rootCause
  repeat' first
    | with_reducible assumption
    | with_reducible apply kept_svcEvt
    | with_reducible apply kept_evt
    | with_reducible refine kept_ite ?_ ?_
    | (fail_if_no_progress (with_reducible refine kept_mk ?_))

theorem kept_countUnder {z s : State} (i : Nat) (r : Rec) (hk : Kept z s) : Kept z (countUnder s i r) := by
  unfold countUnder
  repeat' first
    | with_reducible assumption
    | with_reducible apply kept_incF
    | with_reducible apply kept_setRec

theorem kept_tellHead {z s : State} (l : BitVec 64) (code : BitVec 16) (hk : Kept z s) : Kept z (tellHead s l code) := by
  unfold tellHead
  repeat' first
    | with_reducible assumption
    | with_reducible apply kept_sendFault
    | with_reducible refine kept_ite ?_ ?_

theorem kept_sbdFault {z s : State} (l : BitVec 64) (code : BitVec 16) (hk : Kept z s) : Kept z (sbdFault s l code) := by
  unfold sbdFault
  repeat' first
    | with_reducible assumption
    | with_reducible refine kept_ite ?_ ?_
    | (fail_if_no_progress (with_reducible refine kept_mk ?_))

theorem kept_openRec {z s : State} (i : Nat) (l : BitVec 64) (code : BitVec 16) (hk : Kept z s) : Kept z (openRec s i l code) := by
  unfold openRec
  repeat' first
    | with_reducible assumption
    | with_reducible apply kept_setRec
    | with_reducible refine kept_ite ?_ ?_
    | (fail_if_no_progress (with_reducible refine kept_mk ?_))

theorem kept_chipLost {z s : State} (i : Nat) (hk : Kept z s) : Kept z (chipLost s i) := by
  unfold chipLost
  repeat' first
    | with_reducible assumption
    | with_reducible apply kept_sbdFault
    | with_reducible apply kept_setRec
    | with_reducible refine kept_ite ?_ ?_
    | (fail_if_no_progress (with_reducible refine kept_mk ?_))
    | split

theorem kept_overflowRec {z s : State} (hk : Kept z s) : Kept z (overflowRec s) := by
  unfold overflowRec
  repeat' first
    | with_reducible assumption
    | with_reducible apply kept_incF
    | with_reducible apply kept_setRec
    | with_reducible apply kept_errBit
    | with_reducible apply kept_rootCause
    | with_reducible refine kept_ite ?_ ?_

theorem kept_funnelWith {z s : State} (l : BitVec 64) (code : BitVec 16) (tell : Bool) (hk : Kept z s) : Kept z (funnelWith s l code tell).2 := by
  unfold funnelWith
  repeat' first
    | with_reducible assumption
    | with_reducible apply kept_tellHead
    | with_reducible apply kept_incF
    | with_reducible apply kept_countUnder
    | with_reducible apply kept_chipLost
    | with_reducible apply kept_openRec
    | with_reducible apply kept_overflowRec
    | with_reducible refine kept_ite ?_ ?_
    | (fail_if_no_progress (with_reducible refine kept_mk ?_))
    | split

theorem kept_funnel {z s : State} (l : BitVec 64) (code : BitVec 16) (hk : Kept z s) : Kept z (funnel s l code).2 := by
  unfold funnel
  repeat' first
    | with_reducible assumption
    | with_reducible apply kept_funnelWith

theorem kept_report {z s : State} (l : BitVec 64) (code : BitVec 16) (hk : Kept z s) : Kept z (report s l code) := by
  unfold report
  repeat' first
    | with_reducible assumption
    | with_reducible apply kept_funnel

theorem kept_reportRef {z s : State} (l : BitVec 64) (code : BitVec 16) (hk : Kept z s) : Kept z (reportRef s l code).1 := by
  unfold reportRef
  repeat' first
    | with_reducible assumption
    | with_reducible apply kept_funnel

theorem kept_affect {z s : State} (ref : Word) (hk : Kept z s) : Kept z (affect s ref) := by
  unfold affect
  repeat' first
    | with_reducible assumption
    | with_reducible apply kept_setRec
    | with_reducible refine kept_ite ?_ ?_

theorem kept_blame {z s : State} (ref : Option Word) (hk : Kept z s) : Kept z (blame s ref) := by
  unfold blame
  repeat' first
    | with_reducible assumption
    | with_reducible apply kept_affect
    | with_reducible refine kept_ite ?_ ?_
    | (fail_if_no_progress (with_reducible refine kept_mk ?_))
    | split

theorem kept_err {z s : State} (page : Nat) (n : Nat) (hk : Kept z s) : Kept z (err s page n) := by
  unfold err
  repeat' first
    | with_reducible assumption
    | with_reducible apply kept_errBit
    | with_reducible apply kept_report
    | with_reducible refine kept_ite ?_ ?_

theorem kept_errClear {z s : State} (page : Nat) (v : Word) (hk : Kept z s) : Kept z (errClear s page v) := by
  unfold errClear
  repeat' first
    | with_reducible assumption
    | with_reducible apply kept_wr
    | with_reducible apply kept_wb
    | with_reducible refine kept_ite ?_ ?_

theorem kept_sendData {z s : State} (iso : Bool) (tag : Word) (d : List Byte) (hk : Kept z s) : Kept z (sendData s iso tag d) := by
  unfold sendData
  repeat' first
    | with_reducible assumption
    | with_reducible apply kept_each
    | with_reducible apply kept_sendCell
    | with_reducible refine kept_ite ?_ ?_
    | (fail_if_no_progress (with_reducible refine kept_mk ?_))
    | split
    | dsimp only
    | intro _

theorem kept_hostStore {z s : State} (o : Owner) (a : Addr) (d : List Byte) (hk : Kept z s) : Kept z (hostStore s o a d) := by
  unfold hostStore
  repeat' first
    | with_reducible assumption
    | with_reducible apply kept_dirtyLog
    | with_reducible apply kept_err
    | with_reducible apply kept_emit
    | with_reducible refine kept_ite ?_ ?_

theorem kept_hostWriteAs {z s : State} (iso : Bool) (tag : Word) (o : Owner) (a : Addr) (d : List Byte) (hk : Kept z s) : Kept z (hostWriteAs s iso tag o a d) := by
  unfold hostWriteAs
  repeat' first
    | with_reducible assumption
    | with_reducible apply kept_sendData
    | with_reducible apply kept_hostStore

theorem kept_hostWrite {z s : State} (o : Owner) (a : Addr) (d : List Byte) (hk : Kept z s) : Kept z (hostWrite s o a d) := by
  unfold hostWrite
  repeat' first
    | with_reducible assumption
    | with_reducible apply kept_hostWriteAs
    | with_reducible apply kept_freeStep
    | with_reducible refine kept_ite ?_ ?_

theorem kept_sendReadReq {z s : State} (tag : Word) (a : Addr) (n : Nat) (hk : Kept z s) : Kept z (sendReadReq s tag a n) := by
  unfold sendReadReq
  repeat' first
    | with_reducible assumption
    | with_reducible apply kept_sendCell
    | with_reducible refine kept_ite ?_ ?_

theorem kept_hostReadAs {z s : State} (tag : Word) (o : Owner) (a : Addr) (n : Nat) (hk : Kept z s) : Kept z (hostReadAs s tag o a n) := by
  unfold hostReadAs
  repeat' first
    | with_reducible assumption
    | with_reducible apply kept_sendReadReq
    | with_reducible apply kept_emit

theorem kept_hostRead {z s : State} (o : Owner) (a : Addr) (n : Nat) (hk : Kept z s) : Kept z (hostRead s o a n) := by
  unfold hostRead
  repeat' first
    | with_reducible assumption
    | with_reducible apply kept_hostReadAs
    | with_reducible apply kept_freeStep
    | with_reducible refine kept_ite ?_ ?_

theorem kept_zeroRead {z s : State} (o : Owner) (hk : Kept z s) : Kept z (zeroRead s o) := by
  unfold zeroRead
  repeat' first
    | with_reducible assumption
    | with_reducible apply kept_emit
    | with_reducible apply kept_sendReadReq
    | with_reducible apply kept_freeStep
    | with_reducible refine kept_ite ?_ ?_

/-! ### Machine/PowerOps.lean -/

theorem kept_settle {z s : State} (d : Nat) (hk : Kept z s) : Kept z (settle s d) := by
  unfold settle
  repeat' first
    | with_reducible assumption
    | with_reducible apply kept_setDom

theorem kept_castHw {z s : State} (slot : Nat) (d : Nat) (hk : Kept z s) : Kept z (castHw s slot d) := by
  unfold castHw
  repeat' first
    | with_reducible assumption
    | with_reducible apply kept_setDom

theorem kept_dropHw {z s : State} (slot : Nat) (d : Nat) (hk : Kept z s) : Kept z (dropHw s slot d) := by
  unfold dropHw
  repeat' first
    | with_reducible assumption
    | with_reducible apply kept_setDom

theorem kept_voteHw {z s : State} (slot : Nat) (d : Nat) (on : Bool) (hk : Kept z s) : Kept z (voteHw s slot d on) := by
  unfold voteHw
  repeat' first
    | with_reducible assumption
    | with_reducible apply kept_castHw
    | with_reducible apply kept_dropHw
    | with_reducible refine kept_ite ?_ ?_

theorem kept_castSw {z s : State} (d : Nat) (m : Word) (hk : Kept z s) : Kept z (castSw s d m) := by
  unfold castSw
  repeat' first
    | with_reducible assumption
    | with_reducible apply kept_setDom

theorem kept_dropSw {z s : State} (d : Nat) (m : Word) (hk : Kept z s) : Kept z (dropSw s d m) := by
  unfold dropSw
  repeat' first
    | with_reducible assumption
    | with_reducible apply kept_setDom

theorem kept_noteBusy {z s : State} (hk : Kept z s) : Kept z (noteBusy s) := by
  unfold noteBusy
  repeat' first
    | with_reducible assumption
    | with_reducible apply kept_each
    | with_reducible apply kept_voteHw
    | with_reducible refine kept_ite ?_ ?_
    | (fail_if_no_progress (with_reducible refine kept_mk ?_))
    | split
    | dsimp only
    | intro _

theorem kept_portVotes {z s : State} (p : Nat) (hk : Kept z s) : Kept z (portVotes s p) := by
  unfold portVotes
  repeat' first
    | with_reducible assumption
    | with_reducible apply kept_noteBusy
    | with_reducible apply kept_voteHw

theorem kept_detect {z s : State} (p : Nat) (hk : Kept z s) : Kept z (detect s p) := by
  unfold detect
  repeat' first
    | with_reducible assumption
    | with_reducible apply kept_castHw

theorem kept_forceP1 {z s : State} (d : Nat) (hk : Kept z s) : Kept z (forceP1 s d) := by
  unfold forceP1
  repeat' first
    | with_reducible assumption
    | with_reducible apply kept_setDom
    | with_reducible refine kept_ite ?_ ?_

theorem kept_dmaVotes {z s : State} (j : Nat) (hk : Kept z s) : Kept z (dmaVotes s j) := by
  unfold dmaVotes
  repeat' first
    | with_reducible assumption
    | with_reducible apply kept_each
    | with_reducible apply kept_voteHw
    | with_reducible apply kept_forceP1
    | with_reducible refine kept_ite ?_ ?_
    | (fail_if_no_progress (with_reducible refine kept_mk ?_))
    | split
    | dsimp only
    | intro _

theorem kept_islandVotes {z s : State} (d : Nat) (hk : Kept z s) : Kept z (islandVotes s d) := by
  unfold islandVotes
  split
  · exact kept_dmaVotes _ hk
  · exact hk

theorem kept_leVotes {z s : State} (hk : Kept z s) : Kept z (leVotes s) := by
  unfold leVotes
  repeat' first
    | with_reducible assumption
    | with_reducible apply kept_each
    | with_reducible apply kept_voteHw
    | with_reducible refine kept_ite ?_ ?_
    | (fail_if_no_progress (with_reducible refine kept_mk ?_))
    | split
    | (refine kept_snd (by assumption) ?_)
    | dsimp only
    | intro _

theorem kept_pulse {z s : State} (slot : Nat) (d : Nat) (hk : Kept z s) : Kept z (pulse s slot d) := by
  unfold pulse
  repeat' first
    | with_reducible assumption
    | with_reducible apply kept_voteHw

theorem kept_svcVotes {z s : State} (hk : Kept z s) : Kept z (svcVotes s) := by
  unfold svcVotes
  repeat' first
    | with_reducible assumption
    | with_reducible apply kept_voteHw

theorem kept_powerWho {z s : State} (slot : Nat) (cause : Nat) (dom : Nat) (name : Nat) (hk : Kept z s) : Kept z (powerWho s slot cause dom name) := by
  unfold powerWho
  repeat' first
    | with_reducible assumption
    | with_reducible apply kept_evt
    | with_reducible apply kept_wr

theorem kept_powerRefuse {z s : State} (slot : Nat) (cause : Nat) (dom : Nat) (name : Nat) (hk : Kept z s) : Kept z (powerRefuse s slot cause dom name) := by
  unfold powerRefuse
  repeat' first
    | with_reducible assumption
    | with_reducible apply kept_powerWho
    | with_reducible apply kept_incF

theorem kept_refuseByVote {z s : State} (doms : List Nat) (but63 : Bool) (hk : Kept z s) : Kept z (refuseByVote s doms but63) := by
  unfold refuseByVote
  repeat' first
    | with_reducible assumption
    | with_reducible apply kept_powerRefuse
    | with_reducible refine kept_ite ?_ ?_
    | (fail_if_no_progress (with_reducible refine kept_mk ?_))
    | split

/-! ### Machine/QueueOps.lean -/

theorem kept_copyPi {z s : State} (o : Owner) (q : Nat) (pi : Nat) (hk : Kept z s) : Kept z (copyPi s o q pi) := by
  unfold copyPi
  repeat' first
    | with_reducible assumption
    | with_reducible apply kept_setRef
    | with_reducible refine kept_ite ?_ ?_
    | (fail_if_no_progress (with_reducible refine kept_mk ?_))
    | split

theorem kept_copyCi {z s : State} (o : Owner) (q : Nat) (ci : Nat) (hk : Kept z s) : Kept z (copyCi s o q ci) := by
  unfold copyCi
  repeat' first
    | with_reducible assumption
    | with_reducible apply kept_sendPost
    | with_reducible apply kept_setRef
    | with_reducible refine kept_ite ?_ ?_
    | (fail_if_no_progress (with_reducible refine kept_mk ?_))
    | split

theorem kept_mirror {z s : State} (k : Nat) (hk : Kept z s) : Kept z (mirror s k) := by
  unfold mirror
  repeat' first
    | with_reducible assumption
    | with_reducible apply kept_setCq
    | with_reducible apply kept_hostWrite
    | with_reducible refine kept_ite ?_ ?_
    | (fail_if_no_progress (with_reducible refine kept_mk ?_))
    | split

theorem kept_writeCq {z s : State} (k : Nat) (dws : List Word) (irq : Bool) (hk : Kept z s) : Kept z (writeCq s k dws irq) := by
  unfold writeCq
  repeat' first
    | with_reducible assumption
    | with_reducible apply kept_setCq
    | with_reducible apply kept_sendPost
    | with_reducible apply kept_copyPi
    | with_reducible apply kept_hostWrite
    | with_reducible apply kept_mirror
    | with_reducible apply kept_msix
    | with_reducible refine kept_ite ?_ ?_
    | (fail_if_no_progress (with_reducible refine kept_mk ?_))
    | split

theorem kept_writePost {z s : State} (p : PostMsg) (hk : Kept z s) : Kept z (writePost s p) := by
  unfold writePost
  repeat' first
    | with_reducible assumption
    | with_reducible apply kept_hostWrite
    | with_reducible apply kept_mirror
    | with_reducible apply kept_copyPi
    | with_reducible apply kept_msix
    | with_reducible apply kept_copyCi
    | with_reducible refine kept_ite ?_ ?_
    | (fail_if_no_progress (with_reducible refine kept_mk ?_))
    | split

theorem kept_cqFilled {z s : State} (k : Nat) (hk : Kept z s) : Kept z (cqFilled s k) := by
  unfold cqFilled
  repeat' first
    | with_reducible assumption
    | with_reducible apply kept_evt
    | with_reducible refine kept_ite ?_ ?_

theorem kept_postEntry {z s : State} (t : Nat) (x : Tq) (p : Post) (hk : Kept z s) : Kept z (postEntry s t x p) := by
  unfold postEntry
  repeat' first
    | with_reducible assumption
    | with_reducible apply kept_writeCq
    | with_reducible apply kept_cqFilled
    | with_reducible apply kept_setTq

theorem kept_closeBatch {z s : State} (t : Nat) (hk : Kept z s) : Kept z (closeBatch s t) := by
  unfold closeBatch
  repeat' first
    | with_reducible assumption
    | with_reducible apply kept_postEntry
    | with_reducible refine kept_ite ?_ ?_
    | (fail_if_no_progress (with_reducible refine kept_mk ?_))
    | split

theorem kept_advanceCi {z s : State} (t : Nat) (ci : Nat) (hk : Kept z s) : Kept z (advanceCi s t ci) := by
  unfold advanceCi
  repeat' first
    | with_reducible assumption
    | with_reducible apply kept_copyCi
    | with_reducible apply kept_setTq
    | with_reducible refine kept_ite ?_ ?_
    | (fail_if_no_progress (with_reducible refine kept_mk ?_))
    | split

theorem kept_snoop {z s : State} (ep : Nat) (setup : List Byte) (hk : Kept z s) : Kept z (snoop s ep setup) := by
  unfold snoop
  repeat' first
    | with_reducible assumption
    | with_reducible apply kept_setDev
    | with_reducible refine kept_ite ?_ ?_
    | (fail_if_no_progress (with_reducible refine kept_mk ?_))
    | split

theorem kept_doPost {z s : State} (t : Nat) (hk : Kept z s) : Kept z (doPost s t) := by
  unfold doPost
  repeat' first
    | with_reducible assumption
    | with_reducible apply kept_closeBatch
    | with_reducible apply kept_setTq
    | with_reducible apply kept_updTq
    | with_reducible apply kept_postEntry
    | with_reducible apply kept_blame
    | with_reducible apply kept_advanceCi
    | with_reducible apply kept_snoop
    | with_reducible apply kept_updEp
    | with_reducible refine kept_ite ?_ ?_
    | (fail_if_no_progress (with_reducible refine kept_mk ?_))
    | split

theorem kept_noteFull {z s : State} (t : Nat) (hk : Kept z s) : Kept z (noteFull s t) := by
  unfold noteFull
  repeat' first
    | with_reducible assumption
    | with_reducible apply kept_evt
    | with_reducible refine kept_ite ?_ ?_
    | (fail_if_no_progress (with_reducible refine kept_mk ?_))
    | split

theorem kept_drainPosts {z s : State} (t : Nat) (hk : Kept z s) : Kept z (drainPosts s t) := by
  unfold drainPosts
  repeat' first
    | with_reducible assumption
    | with_reducible apply kept_noteFull
    | with_reducible apply kept_each
    | with_reducible apply kept_doPost
    | with_reducible refine kept_ite ?_ ?_
    | (fail_if_no_progress (with_reducible refine kept_mk ?_))
    | split
    | dsimp only
    | intro _

theorem kept_queuePost {z s : State} (t : Nat) (p : Post) (hk : Kept z s) : Kept z (queuePost s t p) := by
  unfold queuePost
  repeat' first
    | with_reducible assumption
    | with_reducible apply kept_noteFull
    | with_reducible apply kept_updTq
    | with_reducible refine kept_ite ?_ ?_
    | (fail_if_no_progress (with_reducible refine kept_mk ?_))

theorem kept_endChain {z s : State} (t : Nat) (idx : Nat) (e : List Word) (status : BitVec 4) (rc : Option Word) (hk : Kept z s) : Kept z (endChain s t idx e status rc) := by
  unfold endChain
  repeat' first
    | with_reducible assumption
    | with_reducible apply kept_queuePost
    | with_reducible apply kept_setTq
    | with_reducible refine kept_ite ?_ ?_
    | (fail_if_no_progress (with_reducible refine kept_mk ?_))
    | split

theorem kept_endAlone {z s : State} (t : Nat) (idx : Nat) (e : List Word) (status : BitVec 4) (rc : Option Word) (hk : Kept z s) : Kept z (endAlone s t idx e status rc) := by
  unfold endAlone
  repeat' first
    | with_reducible assumption
    | with_reducible apply kept_endChain
    | with_reducible apply kept_updTq

theorem kept_fetch {z s : State} (t : Nat) (hk : Kept z s) : Kept z (fetch s t) := by
  unfold fetch
  repeat' first
    | with_reducible assumption
    | with_reducible apply kept_noteBusy
    | with_reducible apply kept_setTq
    | with_reducible apply kept_each
    | with_reducible apply kept_hostRead
    | with_reducible refine kept_ite ?_ ?_
    | (fail_if_no_progress (with_reducible refine kept_mk ?_))
    | split
    | (refine kept_snd (by assumption) ?_)
    | dsimp only
    | intro _

theorem kept_noteSpill {z s : State} (hk : Kept z s) : Kept z (noteSpill s) := by
  unfold noteSpill
  repeat' first
    | with_reducible assumption
    | with_reducible apply kept_wb
    | with_reducible apply kept_wf

theorem kept_leaveLists {z s : State} (c : Nat) (post : Bool) (hk : Kept z s) : Kept z (leaveLists s c post) := by
  unfold leaveLists
  repeat' first
    | with_reducible assumption
    | with_reducible apply kept_noteSpill
    | with_reducible refine kept_ite ?_ ?_
    | (fail_if_no_progress (with_reducible refine kept_mk ?_))

theorem kept_dropWork {z s : State} (t : Nat) (c : Nat) (hk : Kept z s) : Kept z (dropWork s t c) := by
  unfold dropWork
  repeat' first
    | with_reducible assumption
    | with_reducible apply kept_setEp
    | with_reducible apply kept_leaveLists
    | with_reducible apply kept_updTq
    | with_reducible refine kept_ite ?_ ?_
    | (fail_if_no_progress (with_reducible refine kept_mk ?_))
    | split

theorem kept_beginStop {z s : State} (t : Nat) (why : Stop) (hk : Kept z s) : Kept z (beginStop s t why) := by
  unfold beginStop
  repeat' first
    | with_reducible assumption
    | with_reducible apply kept_dropWork
    | with_reducible apply kept_setTq
    | with_reducible refine kept_ite ?_ ?_
    | (fail_if_no_progress (with_reducible refine kept_mk ?_))
    | split

theorem kept_writeAbort {z s : State} (t : Nat) (hk : Kept z s) : Kept z (writeAbort s t) := by
  unfold writeAbort
  repeat' first
    | with_reducible assumption
    | with_reducible apply kept_closeBatch
    | with_reducible apply kept_noteFull
    | with_reducible apply kept_postEntry
    | with_reducible refine kept_ite ?_ ?_
    | (fail_if_no_progress (with_reducible refine kept_mk ?_))
    | split
    | (refine kept_snd (by assumption) ?_)
    | dsimp only

theorem kept_dropRef {z s : State} (o : Owner) (q : Nat) (hk : Kept z s) : Kept z (dropRef s o q) := by
  unfold dropRef
  repeat' first
    | with_reducible assumption
    | with_reducible refine kept_ite ?_ ?_
    | (fail_if_no_progress (with_reducible refine kept_mk ?_))

theorem kept_endStop {z s : State} (t : Nat) (why : Stop) (hk : Kept z s) : Kept z (endStop s t why) := by
  unfold endStop
  repeat' first
    | with_reducible assumption
    | with_reducible apply kept_leaveLists
    | with_reducible apply kept_updEp
    | with_reducible apply kept_dropRef
    | with_reducible apply kept_copyCi
    | with_reducible apply kept_copyPi
    | with_reducible apply kept_setTq
    | with_reducible refine kept_ite ?_ ?_
    | (fail_if_no_progress (with_reducible refine kept_mk ?_))
    | split

theorem kept_acqWrite {z s : State} (o : Owner) (cid : Nat) (op : Nat) (status : Nat) (detail : Nat) (r0 : Word) (r1 : Word) (hk : Kept z s) : Kept z (acqWrite s o cid op status detail r0 r1) := by
  unfold acqWrite
  repeat' first
    | with_reducible assumption
    | with_reducible apply kept_emit
    | with_reducible apply kept_hostWrite
    | with_reducible apply kept_setInst
    | with_reducible apply kept_msix
    | with_reducible refine kept_ite ?_ ?_

theorem kept_done {z s : State} (o : Owner) (e : List Word) (status : Nat) (detail : Nat) (r0 : Word) (r1 : Word) (hk : Kept z s) : Kept z (done s o e status detail r0 r1) := by
  unfold done
  repeat' first
    | with_reducible assumption
    | with_reducible apply kept_acqWrite

theorem kept_bad {z s : State} (o : Owner) (e : List Word) (detail : Nat) (hk : Kept z s) : Kept z (bad s o e detail) := by
  unfold bad
  repeat' first
    | with_reducible assumption
    | with_reducible apply kept_done

theorem kept_finishStop {z s : State} (t : Nat) (hk : Kept z s) : Kept z (finishStop s t) := by
  unfold finishStop
  repeat' first
    | with_reducible assumption
    | with_reducible apply kept_drainPosts
    | with_reducible apply kept_dropWork
    | with_reducible apply kept_writeAbort
    | with_reducible apply kept_endStop
    | with_reducible apply kept_done
    | with_reducible refine kept_ite ?_ ?_
    | (fail_if_no_progress (with_reducible refine kept_mk ?_))
    | split
    | dsimp only

theorem kept_stopOn {z s : State} (c : Nat) (hk : Kept z s) : Kept z (stopOn s c) := by
  unfold stopOn
  repeat' first
    | with_reducible assumption
    | with_reducible apply kept_finishStop
    | with_reducible refine kept_ite ?_ ?_
    | (fail_if_no_progress (with_reducible refine kept_mk ?_))
    | split

theorem kept_stopTq {z s : State} (t : Nat) (why : Stop) (hk : Kept z s) : Kept z (stopTq s t why) := by
  unfold stopTq
  repeat' first
    | with_reducible assumption
    | with_reducible apply kept_finishStop
    | with_reducible apply kept_beginStop

/-! ### Machine/RingOps.lean -/

theorem kept_setLink {z s : State} (d : Side) (v : Nat) (hk : Kept z s) : Kept z (setLink s d v) := by
  unfold setLink
  repeat' first
    | with_reducible assumption
    | with_reducible apply kept_wf

theorem kept_setSide {z s : State} (d : Side) (x : LinkSide) (hk : Kept z s) : Kept z (setSide s d x) := by
  unfold setSide
  repeat' first
    | with_reducible assumption
    | with_reducible refine kept_ite ?_ ?_
    | (fail_if_no_progress (with_reducible refine kept_mk ?_))
    | split

theorem kept_setWrap {z s : State} (d : Side) (b : Bool) (hk : Kept z s) : Kept z (setWrap s d b) := by
  unfold setWrap
  repeat' first
    | with_reducible assumption
    | with_reducible apply kept_wb
    | with_reducible apply kept_turnQueue
    | with_reducible refine kept_ite ?_ ?_

theorem kept_startTrain {z s : State} (d : Side) (hk : Kept z s) : Kept z (startTrain s d) := by
  unfold startTrain
  repeat' first
    | with_reducible assumption
    | with_reducible apply kept_setLink
    | with_reducible apply kept_setSide
    | with_reducible refine kept_ite ?_ ?_

theorem kept_knowHead {z s : State} (headSlot : Nat) (hk : Kept z s) : Kept z (knowHead s headSlot) := by
  unfold knowHead
  repeat' first
    | with_reducible assumption
    | with_reducible apply kept_wf
    | with_reducible apply kept_wb

theorem kept_sendGrants {z s : State} (hk : Kept z s) : Kept z (sendGrants s) := by
  unfold sendGrants
  repeat' first
    | with_reducible assumption
    | with_reducible apply kept_each
    | with_reducible apply kept_tellOne
    | with_reducible refine kept_ite ?_ ?_
    | (fail_if_no_progress (with_reducible refine kept_mk ?_))
    | split
    | dsimp only
    | intro _

theorem kept_loadMap {z s : State} (map : BitVec 64) (hk : Kept z s) : Kept z (loadMap s map) := by
  unfold loadMap
  repeat' first
    | with_reducible assumption
    | with_reducible apply kept_wr
    | with_reducible apply kept_wf

theorem kept_dropCredits {z s : State} (hk : Kept z s) : Kept z (dropCredits s) := by
  unfold dropCredits
  repeat' first
    | with_reducible assumption
    | with_reducible refine kept_ite ?_ ?_
    | (fail_if_no_progress (with_reducible refine kept_mk ?_))

theorem kept_setDup {z s : State} (d : Bool) (hk : Kept z s) : Kept z (setDup s d) := by
  unfold setDup
  repeat' first
    | with_reducible assumption
    | with_reducible apply kept_err
    | with_reducible apply kept_wb
    | with_reducible refine kept_ite ?_ ?_

theorem kept_advanceEpoch {z s : State} (hk : Kept z s) : Kept z (advanceEpoch s) := by
  unfold advanceEpoch
  repeat' first
    | with_reducible assumption
    | with_reducible apply kept_wf
    | with_reducible apply kept_svcEvt
    | with_reducible apply kept_submit
    | with_reducible apply kept_dropCredits

theorem kept_breakPending {z s : State} (hk : Kept z s) : Kept z (breakPending s) := by
  unfold breakPending
  repeat' first
    | with_reducible assumption
    | with_reducible refine kept_ite ?_ ?_
    | (fail_if_no_progress (with_reducible refine kept_mk ?_))

theorem kept_enterSevered {z s : State} (role : Nat) (hk : Kept z s) : Kept z (enterSevered s role) := by
  unfold enterSevered
  repeat' first
    | with_reducible assumption
    | with_reducible apply kept_wf
    | with_reducible apply kept_breakPending
    | with_reducible apply kept_svcEvt
    | with_reducible refine kept_ite ?_ ?_

theorem kept_knowBreak {z s : State} (pos : Nat) (east : Bool) (hk : Kept z s) : Kept z (knowBreak s pos east) := by
  unfold knowBreak
  repeat' first
    | with_reducible assumption
    | with_reducible apply kept_wb
    | with_reducible refine kept_ite ?_ ?_
    | (fail_if_no_progress (with_reducible refine kept_mk ?_))

theorem kept_headBreak {z s : State} (pos : Nat) (east : Bool) (hk : Kept z s) : Kept z (headBreak s pos east) := by
  unfold headBreak
  repeat' first
    | with_reducible assumption
    | with_reducible apply kept_knowBreak
    | with_reducible apply kept_enterSevered
    | with_reducible apply kept_advanceEpoch
    | with_reducible refine kept_ite ?_ ?_
    | (fail_if_no_progress (with_reducible refine kept_mk ?_))

theorem kept_newBreak {z s : State} (pos : Nat) (east : Bool) (hk : Kept z s) : Kept z (newBreak s pos east).2 := by
  unfold newBreak
  repeat' first
    | with_reducible assumption
    | with_reducible refine kept_ite ?_ ?_
    | (fail_if_no_progress (with_reducible refine kept_mk ?_))
    | split
    | (refine kept_snd (by assumption) ?_)
    | dsimp only

theorem kept_reportBreak {z s : State} (d : Side) (hk : Kept z s) : Kept z (reportBreak s d) := by
  unfold reportBreak
  repeat' first
    | with_reducible assumption
    | with_reducible apply kept_svcEvt
    | with_reducible apply kept_funnelWith
    | with_reducible apply kept_errBit
    | with_reducible apply kept_breakPending
    | with_reducible apply kept_sbdFault
    | with_reducible apply kept_headBreak
    | with_reducible apply kept_sendFault
    | with_reducible apply kept_knowBreak
    | with_reducible apply kept_newBreak
    | with_reducible refine kept_ite ?_ ?_
    | (fail_if_no_progress (with_reducible refine kept_mk ?_))

theorem kept_breakAt {z s : State} (d : Side) (hk : Kept z s) : Kept z (breakAt s d) := by
  unfold breakAt
  repeat' first
    | with_reducible assumption
    | with_reducible apply kept_reportBreak
    | with_reducible apply kept_setWrap

theorem kept_selfRelease {z s : State} (d : Side) (hk : Kept z s) : Kept z (selfRelease s d) := by
  unfold selfRelease
  repeat' first
    | with_reducible assumption
    | with_reducible apply kept_setWrap
    | with_reducible refine kept_ite ?_ ?_

theorem kept_startRelease {z s : State} (hk : Kept z s) : Kept z (startRelease s) := by
  unfold startRelease
  repeat' first
    | with_reducible assumption
    | with_reducible apply kept_tellAll
    | with_reducible refine kept_ite ?_ ?_
    | (fail_if_no_progress (with_reducible refine kept_mk ?_))

theorem kept_rejoinStart {z s : State} (hk : Kept z s) : Kept z (rejoinStart s) := by
  unfold rejoinStart
  repeat' first
    | with_reducible assumption
    | with_reducible apply kept_wf
    | with_reducible apply kept_wb
    | with_reducible apply kept_startRelease
    | with_reducible refine kept_ite ?_ ?_

theorem kept_autoHeal {z s : State} (hk : Kept z s) : Kept z (autoHeal s) := by
  unfold autoHeal
  repeat' first
    | with_reducible assumption
    | with_reducible apply kept_rejoinStart
    | with_reducible apply kept_startRelease
    | with_reducible refine kept_ite ?_ ?_

theorem kept_releaseNow {z s : State} (hk : Kept z s) : Kept z (releaseNow s) := by
  unfold releaseNow
  repeat' first
    | with_reducible assumption
    | with_reducible apply kept_setWrap
    | with_reducible apply kept_wf
    | with_reducible apply kept_svcEvt
    | with_reducible apply kept_wb
    | with_reducible apply kept_advanceEpoch
    | with_reducible refine kept_ite ?_ ?_
    | (fail_if_no_progress (with_reducible refine kept_mk ?_))

theorem kept_closeNow {z s : State} (hk : Kept z s) : Kept z (closeNow s) := by
  unfold closeNow
  repeat' first
    | with_reducible assumption
    | with_reducible apply kept_wb
    | with_reducible apply kept_setLink
    | with_reducible apply kept_setSide
    | with_reducible apply kept_enterSevered
    | with_reducible apply kept_svcEvt
    | with_reducible refine kept_ite ?_ ?_
    | (fail_if_no_progress (with_reducible refine kept_mk ?_))

theorem kept_openNow {z s : State} (hk : Kept z s) : Kept z (openNow s) := by
  unfold openNow
  repeat' first
    | with_reducible assumption
    | with_reducible apply kept_svcEvt
    | with_reducible apply kept_startTrain
    | with_reducible apply kept_wb
    | with_reducible refine kept_ite ?_ ?_

theorem kept_joinRing {z s : State} (hk : Kept z s) : Kept z (joinRing s) := by
  unfold joinRing
  repeat' first
    | with_reducible assumption
    | with_reducible apply kept_openNow
    | with_reducible refine kept_ite ?_ ?_
    | (fail_if_no_progress (with_reducible refine kept_mk ?_))

theorem kept_setRctUnits {z s : State} (u : ℤ) (hk : Kept z s) : Kept z (setRctUnits s u) := by
  unfold setRctUnits
  repeat' first
    | with_reducible assumption
    | with_reducible refine kept_ite ?_ ?_
    | (fail_if_no_progress (with_reducible refine kept_mk ?_))

theorem kept_timeLost {z s : State} (hk : Kept z s) : Kept z (timeLost s) := by
  unfold timeLost
  repeat' first
    | with_reducible assumption
    | with_reducible apply kept_report
    | with_reducible apply kept_errBit
    | with_reducible apply kept_wb

theorem kept_queueFrame {z s : State} (typ : Nat) (body : List Byte) (soft : Bool) (hk : Kept z s) : Kept z (queueFrame s typ body soft) := by
  unfold queueFrame
  repeat' first
    | with_reducible assumption
    | with_reducible refine kept_ite ?_ ?_
    | (fail_if_no_progress (with_reducible refine kept_mk ?_))

theorem kept_queueClaim {z s : State} (hk : Kept z s) : Kept z (queueClaim s) := by
  unfold queueClaim
  repeat' first
    | with_reducible assumption
    | with_reducible apply kept_queueFrame

theorem kept_queueElect {z s : State} (hk : Kept z s) : Kept z (queueElect s) := by
  unfold queueElect
  repeat' first
    | with_reducible assumption
    | with_reducible apply kept_queueFrame

theorem kept_noteElect {z s : State} (slot : Nat) (hk : Kept z s) : Kept z (noteElect s slot) := by
  unfold noteElect
  repeat' first
    | with_reducible assumption
    | with_reducible apply kept_wb
    | with_reducible apply kept_wf
    | with_reducible refine kept_ite ?_ ?_

theorem kept_noteClaim {z s : State} (slot : Nat) (hk : Kept z s) : Kept z (noteClaim s slot) := by
  unfold noteClaim
  repeat' first
    | with_reducible assumption
    | with_reducible apply kept_wb
    | with_reducible apply kept_wf
    | with_reducible refine kept_ite ?_ ?_
    | (fail_if_no_progress (with_reducible refine kept_mk ?_))

theorem kept_electLost {z s : State} (hk : Kept z s) : Kept z (electLost s) := by
  unfold electLost
  repeat' first
    | with_reducible assumption
    | with_reducible apply kept_wf
    | with_reducible refine kept_ite ?_ ?_
    | (fail_if_no_progress (with_reducible refine kept_mk ?_))

theorem kept_softBusy {z s : State} (hk : Kept z s) : Kept z (softBusy s) := by
  unfold softBusy
  repeat' first
    | with_reducible assumption
    | with_reducible apply kept_wb

theorem kept_lfsrStep {z s : State} (hk : Kept z s) : Kept z (lfsrStep s) := by
  unfold lfsrStep
  repeat' first
    | with_reducible assumption
    | with_reducible refine kept_ite ?_ ?_
    | (fail_if_no_progress (with_reducible refine kept_mk ?_))

theorem kept_capture {z s : State} (captured : Bool) (hk : Kept z s) : Kept z (capture s captured) := by
  unfold capture
  repeat' first
    | with_reducible assumption
    | with_reducible apply kept_incF
    | with_reducible refine kept_ite ?_ ?_

/-! ### Machine/Access.lean -/

theorem kept_svcGot {z s : State} (v : Option Word) (hk : Kept z s) : Kept z (svcGot s v) := by
  unfold svcGot
  repeat' first
    | with_reducible assumption
    | with_reducible apply kept_bad
    | with_reducible refine kept_ite ?_ ?_
    | (fail_if_no_progress (with_reducible refine kept_mk ?_))
    | split

theorem kept_answer {z s : State} (src : Src) (v : Word) (hk : Kept z s) : Kept z (answer s src v) := by
  unfold answer
  cases src
  all_goals repeat' first
    | with_reducible assumption
    | with_reducible apply kept_sendCell
    | with_reducible apply kept_svcGot
    | with_reducible apply kept_emit
    | with_reducible refine kept_ite ?_ ?_

theorem kept_errorAnswer {z s : State} (src : Src) (isWrite : Bool) (ur : Bool) (hk : Kept z s) : Kept z (errorAnswer s src isWrite ur) := by
  unfold errorAnswer
  cases src
  all_goals repeat' first
    | with_reducible assumption
    | with_reducible apply kept_sendCell
    | with_reducible apply kept_emit
    | with_reducible apply kept_svcGot
    | with_reducible apply kept_emits
    | with_reducible refine kept_ite ?_ ?_
    | (fail_if_no_progress (with_reducible refine kept_mk ?_))

theorem kept_noteRefused {z s : State} (src : Src) (page : Nat) (off : Nat) (isWrite : Bool) (reason : Nat) (hk : Kept z s) : Kept z (noteRefused s src page off isWrite reason) := by
  unfold noteRefused
  repeat' first
    | with_reducible assumption
    | with_reducible apply kept_wr
    | with_reducible apply kept_incF

theorem kept_refuseAccess {z s : State} (src : Src) (page : Nat) (off : Nat) (isWrite : Bool) (reason : Nat) (ur : Bool) (hk : Kept z s) : Kept z (refuseAccess s src page off isWrite reason ur) := by
  unfold refuseAccess
  repeat' first
    | with_reducible assumption
    | with_reducible apply kept_errorAnswer
    | with_reducible apply kept_noteRefused

theorem kept_authDrop {z s : State} (hk : Kept z s) : Kept z (authDrop s) := by
  unfold authDrop
  repeat' first
    | with_reducible assumption
    | with_reducible apply kept_err
    | with_reducible apply kept_incF

theorem kept_darkRefuse {z s : State} (src : Src) (page : Nat) (isWrite : Bool) (hk : Kept z s) : Kept z (darkRefuse s src page isWrite) := by
  unfold darkRefuse
  repeat' first
    | with_reducible assumption
    | with_reducible apply kept_errorAnswer
    | with_reducible apply kept_incF

theorem kept_wakeHold {z s : State} (src : Src) (page : Nat) (off : Nat) (op : Op) (hk : Kept z s) : Kept z (wakeHold s src page off op) := by
  unfold wakeHold
  repeat' first
    | with_reducible assumption
    | with_reducible apply kept_each
    | with_reducible apply kept_incF
    | with_reducible apply kept_castHw
    | with_reducible refine kept_ite ?_ ?_
    | (fail_if_no_progress (with_reducible refine kept_mk ?_))
    | split
    | dsimp only
    | intro _

theorem kept_gated {z s : State} (src : Src) (page : Nat) (off : Nat) (op : Op) {eff : State → State} (hk : Kept z s) (he0 : ∀ (x : State), Kept z x → Kept z (eff x)) : Kept z (gated s src page off op eff) := by
  unfold gated
  repeat' first
    | with_reducible assumption
    | with_reducible apply kept_refuseAccess
    | with_reducible apply kept_authDrop
    | with_reducible apply kept_darkRefuse
    | with_reducible apply kept_wakeHold
    | with_reducible apply he0
    | with_reducible refine kept_ite ?_ ?_
    | (fail_if_no_progress (with_reducible refine kept_mk ?_))
    | split
    | dsimp only

theorem kept_gatedW {z s : State} (src : Src) (page : Nat) (off : Nat) (v : Word) {eff : State → State} (hk : Kept z s) (he0 : ∀ (x : State), Kept z x → Kept z (eff x)) : Kept z (gatedW s src page off v eff) := by
  unfold gatedW
  repeat' first
    | with_reducible assumption
    | with_reducible apply kept_gated

theorem kept_refuseMode {z s : State} (src : Src) (page : Nat) (off : Nat) (hk : Kept z s) : Kept z (refuseMode s src page off) := by
  unfold refuseMode
  repeat' first
    | with_reducible assumption
    | with_reducible apply kept_refuseAccess

theorem kept_writeFields {z s : State} (page : Nat) (off : Nat) (v : Word) (hk : Kept z s) : Kept z (writeFields s page off v) := by
  unfold writeFields
  repeat' first
    | with_reducible assumption
    | with_reducible apply kept_incF
    | with_reducible apply kept_wr
    | with_reducible refine kept_ite ?_ ?_
    | (fail_if_no_progress (with_reducible refine kept_mk ?_))
    | split

/-! ### Machine/ModeOps.lean -/

theorem kept_modeRefuse {z s : State} (v : Nat) (reason : Nat) (hk : Kept z s) : Kept z (modeRefuse s v reason) := by
  unfold modeRefuse
  repeat' first
    | with_reducible assumption
    | with_reducible apply kept_wr

theorem kept_modeAccept {z s : State} (v : Nat) (hk : Kept z s) : Kept z (modeAccept s v) := by
  unfold modeAccept
  repeat' first
    | with_reducible assumption
    | with_reducible apply kept_wf
    | with_reducible apply kept_wb
    | with_reducible apply kept_each
    | with_reducible apply kept_stopTq
    | with_reducible refine kept_ite ?_ ?_
    | (fail_if_no_progress (with_reducible refine kept_mk ?_))
    | split
    | dsimp only
    | intro _

theorem kept_modeWrite {z s : State} (src : Src) (v : Nat) (hk : Kept z s) : Kept z (modeWrite s src v) := by
  unfold modeWrite
  repeat' first
    | with_reducible assumption
    | with_reducible apply kept_modeAccept
    | with_reducible apply kept_rejoinStart
    | with_reducible apply kept_modeRefuse
    | with_reducible refine kept_ite ?_ ?_
    | (fail_if_no_progress (with_reducible refine kept_mk ?_))
    | split

/-! ### Machine/BufOps.lean -/

theorem kept_noteFree {z s : State} (hk : Kept z s) : Kept z (noteFree s) := by
  unfold noteFree
  repeat' first
    | with_reducible assumption
    | with_reducible apply kept_wf

theorem kept_releaseBuf {z s : State} (e : Ep) (hk : Kept z s) : Kept z (releaseBuf s e) := by
  unfold releaseBuf
  repeat' first
    | with_reducible assumption
    | with_reducible apply kept_noteFree
    | with_reducible refine kept_ite ?_ ?_
    | (fail_if_no_progress (with_reducible refine kept_mk ?_))

theorem kept_markBad {z s : State} (addr : Nat) (hk : Kept z s) : Kept z (markBad s addr) := by
  unfold markBad
  repeat' first
    | with_reducible assumption
    | with_reducible refine kept_ite ?_ ?_
    | (fail_if_no_progress (with_reducible refine kept_mk ?_))

theorem kept_eccCount {z s : State} (addr : Nat) (ue : Bool) (hk : Kept z s) : Kept z (eccCount s addr ue) := by
  unfold eccCount
  repeat' first
    | with_reducible assumption
    | with_reducible apply kept_incF
    | with_reducible apply kept_wr
    | with_reducible apply kept_markBad
    | with_reducible refine kept_ite ?_ ?_

theorem kept_eccReport {z s : State} (addr : Nat) (hk : Kept z s) : Kept z (eccReport s addr).1 := by
  unfold eccReport
  repeat' first
    | with_reducible assumption
    | with_reducible apply kept_reportRef
    | with_reducible apply kept_errBit
    | with_reducible apply kept_eccCount

theorem kept_eccLog {z s : State} (addr : Nat) (ue : Bool) (hk : Kept z s) : Kept z (eccLog s addr ue) := by
  unfold eccLog
  repeat' first
    | with_reducible assumption
    | with_reducible apply kept_eccReport
    | with_reducible apply kept_err
    | with_reducible apply kept_eccCount
    | with_reducible refine kept_ite ?_ ?_

theorem kept_eccCe {z s : State} (ce : Option (BitVec 25)) (hk : Kept z s) : Kept z (eccCe s ce) := by
  unfold eccCe
  repeat' first
    | with_reducible assumption
    | with_reducible apply kept_eccLog
    | with_reducible refine kept_ite ?_ ?_
    | (fail_if_no_progress (with_reducible refine kept_mk ?_))
    | split

theorem kept_ebmWrote {z s : State} (a : Nat) (n : Nat) (hk : Kept z s) : Kept z (ebmWrote s a n) := by
  unfold ebmWrote
  repeat' first
    | with_reducible assumption
    | with_reducible apply kept_each
    | with_reducible apply kept_eccLog
    | with_reducible refine kept_ite ?_ ?_
    | (fail_if_no_progress (with_reducible refine kept_mk ?_))
    | split
    | dsimp only
    | intro _

theorem kept_bufPut {z s : State} (c : Nat) (d : List Byte) (hk : Kept z s) : Kept z (bufPut s c d) := by
  unfold bufPut
  split
  · exact hk
  · exact kept_each (kept_setEp _ _ (kept_ebm hk (wf_memFold _ _ _ _))) (fun _ _ h => kept_ebmWrote _ _ h)

theorem kept_bufDrop {z s : State} (c : Nat) (n : Nat) (hk : Kept z s) : Kept z (bufDrop s c n) := by
  unfold bufDrop
  repeat' first
    | with_reducible assumption
    | with_reducible apply kept_updEp

theorem kept_bufClear {z s : State} (c : Nat) (hk : Kept z s) : Kept z (bufClear s c) := by
  unfold bufClear
  repeat' first
    | with_reducible assumption
    | with_reducible apply kept_updEp

theorem kept_arbGrant {z s : State} (bank : Nat) (req : Nat) (wait : Nat) (hk : Kept z s) : Kept z (arbGrant s bank req wait) := by
  unfold arbGrant
  repeat' first
    | with_reducible assumption
    | with_reducible refine kept_ite ?_ ?_
    | (fail_if_no_progress (with_reducible refine kept_mk ?_))

theorem kept_bankGrant {z s : State} (r : BankReq) (hk : Kept z s) : Kept z (bankGrant s r) := by
  unfold bankGrant
  repeat' first
    | with_reducible assumption
    | with_reducible apply kept_arbGrant
    | with_reducible refine kept_ite ?_ ?_
    | (fail_if_no_progress (with_reducible refine kept_mk ?_))

theorem kept_bankAsk {z s : State} (r : BankReq) (hk : Kept z s) : Kept z (bankAsk s r) := by
  unfold bankAsk
  repeat' first
    | with_reducible assumption
    | with_reducible apply kept_bankGrant
    | with_reducible refine kept_ite ?_ ?_
    | (fail_if_no_progress (with_reducible refine kept_mk ?_))

theorem kept_bankSlot {z s : State} (b : Nat) (hk : Kept z s) : Kept z (bankSlot s b) := by
  unfold bankSlot
  repeat' first
    | with_reducible assumption
    | with_reducible apply kept_bankGrant
    | with_reducible refine kept_ite ?_ ?_
    | (fail_if_no_progress (with_reducible refine kept_mk ?_))
    | split
    | dsimp only

theorem kept_bankSlots {z s : State} (hk : Kept z s) : Kept z (bankSlots s) := by
  unfold bankSlots
  repeat' first
    | with_reducible assumption
    | with_reducible apply kept_each
    | with_reducible apply kept_bankSlot

theorem kept_bankAsks {z s : State} (req : Nat) (lvl : Nat) (atEnd : Bool) (write : Bool) (rs : List (Nat × Nat)) (hk : Kept z s) : Kept z (bankAsks s req lvl atEnd write rs) := by
  unfold bankAsks
  repeat' first
    | with_reducible assumption
    | with_reducible apply kept_each
    | with_reducible apply kept_bankAsk
    | with_reducible refine kept_ite ?_ ?_
    | (fail_if_no_progress (with_reducible refine kept_mk ?_))
    | split
    | (refine kept_snd (by assumption) ?_)
    | dsimp only
    | intro _

theorem kept_bankDone {z s : State} (req : Nat) (bs : List Nat) (hk : Kept z s) : Kept z (bankDone s req bs) := by
  unfold bankDone
  repeat' first
    | with_reducible assumption
    | with_reducible refine kept_ite ?_ ?_
    | (fail_if_no_progress (with_reducible refine kept_mk ?_))

theorem kept_arbGrants {z s : State} (req : Nat) (rs : List (Nat × Nat)) (waits : List (BitVec 16)) (hk : Kept z s) : Kept z (arbGrants s req rs waits) := by
  unfold arbGrants
  repeat' first
    | with_reducible assumption
    | with_reducible apply kept_each
    | with_reducible apply kept_arbGrant
    | with_reducible refine kept_ite ?_ ?_
    | (fail_if_no_progress (with_reducible refine kept_mk ?_))
    | split
    | (refine kept_snd (by assumption) ?_)
    | dsimp only
    | intro _

end Sys2Proof.Machine
end

