-- ==== Sys2Proof/Laws/KeptFlow.lean ====
section
/-!
SUPPORT. One lemma for each operation: what every operation on traffic, ports and plans keeps
(`Kept`: the queue, the outputs, the free values, the canonical form of the register file and of EBM).
-/
namespace Sys2Proof.Machine

/-! ### Machine/FlowOps.lean -/

theorem kept_noteBp {z s : State} (hk : Kept z s) : Kept z (noteBp s) := by
  unfold noteBp
  repeat' first
    | with_reducible assumption
    | with_reducible apply kept_wb
    | with_reducible apply kept_evt
    | with_reducible refine kept_ite ?_ ?_
    | (fail_if_no_progress (with_reducible refine kept_mk ?_))

theorem kept_deferGraph {z s : State} (c : Nat) (hk : Kept z s) : Kept z (deferGraph s c) := by
  unfold deferGraph
  repeat' first
    | with_reducible assumption
    | with_reducible apply kept_incF
    | with_reducible refine kept_ite ?_ ?_
    | (fail_if_no_progress (with_reducible refine kept_mk ?_))

theorem kept_acceptGraph {z s : State} (c : Nat) (hk : Kept z s) : Kept z (acceptGraph s c) := by
  unfold acceptGraph
  repeat' first
    | with_reducible assumption
    | with_reducible apply kept_noteBp
    | with_reducible apply kept_noteSpill
    | with_reducible apply kept_err
    | with_reducible apply kept_deferGraph
    | with_reducible refine kept_ite ?_ ?_
    | (fail_if_no_progress (with_reducible refine kept_mk ?_))
    | split

theorem kept_showOp {z s : State} (ch : Nat) (src : Addr) (dst : Addr) (n : Nat) (lvl : Nat) (cnd : Nat) (srcEbm : Bool) (dstEbm : Bool) (hk : Kept z s) : Kept z (showOp s ch src dst n lvl cnd srcEbm dstEbm) := by
  unfold showOp
  repeat' first
    | with_reducible assumption
    | with_reducible apply kept_cpairW
    | with_reducible apply kept_cwf
    | with_reducible apply kept_wr
    | with_reducible apply kept_dmaVotes

theorem kept_setBeats {z s : State} (ch : Nat) (b : Beats) (hk : Kept z s) : Kept z (setBeats s ch b) := by
  unfold setBeats
  repeat' first
    | with_reducible assumption
    | with_reducible apply kept_cwf
    | with_reducible apply kept_setChan

theorem kept_readBeat {z s : State} (ch : Nat) (o : Owner) (a : Nat) (hk : Kept z s) : Kept z (readBeat s ch o a) := by
  unfold readBeat
  repeat' first
    | with_reducible assumption
    | with_reducible apply kept_hostReadAs
    | with_reducible refine kept_ite ?_ ?_

theorem kept_readOn {z s : State} (ch : Nat) (hk : Kept z s) : Kept z (readOn s ch) := by
  unfold readOn
  repeat' first
    | with_reducible assumption
    | with_reducible apply kept_readBeat
    | with_reducible apply kept_setBeats
    | with_reducible refine kept_ite ?_ ?_
    | (fail_if_no_progress (with_reducible refine kept_mk ?_))
    | split
    | (refine kept_snd (by assumption) ?_)
    | dsimp only

theorem kept_startBeats {z s : State} (ch : Nat) (o : Owner) (todo : List Nat) (hk : Kept z s) : Kept z (startBeats s ch o todo) := by
  unfold startBeats
  repeat' first
    | with_reducible assumption
    | with_reducible apply kept_readOn
    | with_reducible apply kept_setBeats

theorem kept_endBeats {z s : State} (ch : Nat) (hk : Kept z s) : Kept z (endBeats s ch) := by
  unfold endBeats
  repeat' first
    | with_reducible assumption
    | with_reducible apply kept_each
    | with_reducible apply kept_setBeats
    | with_reducible apply kept_readBeat
    | with_reducible refine kept_ite ?_ ?_
    | (fail_if_no_progress (with_reducible refine kept_mk ?_))
    | split
    | (refine kept_snd (by assumption) ?_)
    | dsimp only
    | intro _

theorem kept_islandSlot {z s : State} (j : Nat) (hk : Kept z s) : Kept z (islandSlot s j) := by
  unfold islandSlot
  repeat' first
    | with_reducible assumption
    | with_reducible apply kept_foldl
    | with_reducible apply kept_foldl
    | with_reducible apply kept_setBeats
    | with_reducible apply kept_setChan
    | with_reducible apply kept_each
    | with_reducible apply kept_readOn
    | with_reducible refine kept_ite ?_ ?_
    | (fail_if_no_progress (with_reducible refine kept_mk ?_))
    | split
    | (refine kept_snd (by assumption) ?_)
    | dsimp only
    | intro _

theorem kept_dmaSlots {z s : State} (hk : Kept z s) : Kept z (dmaSlots s) := by
  unfold dmaSlots
  repeat' first
    | with_reducible assumption
    | with_reducible apply kept_each
    | with_reducible apply kept_islandSlot

theorem kept_idleSlot {z s : State} (hk : Kept z s) : Kept z (idleSlot s) := by
  unfold idleSlot
  repeat' first
    | with_reducible assumption
    | with_reducible apply kept_dmaSlots
    | with_reducible apply kept_bankSlots
    | with_reducible apply kept_cellSlots

theorem kept_takeChan {z s : State} (lvl : Nat) (hk : Kept z s) : KeptIn z Prod.snd (takeChan s lvl) := by
  unfold takeChan
  repeat' first
    | with_reducible assumption
    | with_reducible refine keptIn_some ?_
    | exact keptIn_none
    | with_reducible refine keptIn_ite ?_ ?_
    | with_reducible apply kept_setBeats
    | with_reducible apply kept_setChan
    | with_reducible apply kept_cwf
    | with_reducible refine kept_ite ?_ ?_
    | (fail_if_no_progress (with_reducible refine kept_mk ?_))
    | split

theorem kept_dropChan {z s : State} (ch : Nat) (hk : Kept z s) : Kept z (dropChan s ch) := by
  unfold dropChan
  repeat' first
    | with_reducible assumption
    | with_reducible apply kept_foldl
    | with_reducible apply kept_foldl
    | with_reducible apply kept_wr
    | with_reducible apply kept_cwf
    | with_reducible apply kept_setChan
    | with_reducible apply kept_setBeats
    | with_reducible apply kept_dmaVotes
    | with_reducible apply kept_readOn
    | with_reducible refine kept_ite ?_ ?_
    | (fail_if_no_progress (with_reducible refine kept_mk ?_))
    | split
    | (refine kept_snd (by assumption) ?_)
    | dsimp only
    | intro _

theorem kept_freeOp {z s : State} (c : Nat) (w : Work) (hk : Kept z s) : Kept z (freeOp s c w) := by
  unfold freeOp
  repeat' first
    | with_reducible assumption
    | with_reducible apply kept_cwf
    | with_reducible apply kept_setChan
    | with_reducible apply kept_dropChan
    | with_reducible refine kept_ite ?_ ?_
    | (fail_if_no_progress (with_reducible refine kept_mk ?_))
    | split

theorem kept_updChain {z s : State} (t : Nat) (f : Chain → Chain) (hk : Kept z s) : Kept z (updChain s t f) := by
  unfold updChain
  repeat' first
    | with_reducible assumption
    | with_reducible apply kept_updTq

theorem kept_noteStatus {z s : State} (c : Nat) (st : BitVec 4) (hk : Kept z s) : Kept z (noteStatus s c st) := by
  unfold noteStatus
  repeat' first
    | with_reducible assumption
    | with_reducible apply kept_incF
    | with_reducible refine kept_ite ?_ ?_
    | (fail_if_no_progress (with_reducible refine kept_mk ?_))
    | split

theorem kept_completeAt {z s : State} (t : Nat) (c : Nat) (idx : Nat) (en : List Word) (st : BitVec 4) (rc : Option Word) (hk : Kept z s) : Kept z (completeAt s t c idx en st rc) := by
  unfold completeAt
  repeat' first
    | with_reducible assumption
    | with_reducible apply kept_noteStatus
    | with_reducible apply kept_endChain

theorem kept_endOpen {z s : State} (t : Nat) (st : BitVec 4) (rc : Option Word) (hk : Kept z s) : Kept z (endOpen s t st rc) := by
  unfold endOpen
  repeat' first
    | with_reducible assumption
    | with_reducible apply kept_noteStatus
    | with_reducible apply kept_queuePost
    | with_reducible apply kept_setTq
    | with_reducible refine kept_ite ?_ ?_
    | (fail_if_no_progress (with_reducible refine kept_mk ?_))
    | split

theorem kept_setNext {z s : State} (t : Nat) (idx : Nat) (tag : BitVec 16) (hk : Kept z s) : Kept z (setNext s t idx tag) := by
  unfold setNext
  repeat' first
    | with_reducible assumption
    | with_reducible apply kept_updEp
    | with_reducible apply kept_updChain
    | with_reducible apply kept_setTq
    | with_reducible refine kept_ite ?_ ?_
    | (fail_if_no_progress (with_reducible refine kept_mk ?_))
    | split

theorem kept_openChain {z s : State} (t : Nat) (e : Ep) (en : List Word) (hk : Kept z s) : Kept z (openChain s t e en) := by
  unfold openChain
  repeat' first
    | with_reducible assumption
    | with_reducible apply kept_updTq
    | with_reducible refine kept_ite ?_ ?_

theorem kept_failEntry {z s : State} (t : Nat) (c : Nat) (idx : Nat) (en : List Word) (st : BitVec 4) (rc : Option Word) (hk : Kept z s) : Kept z (failEntry s t c idx en st rc) := by
  unfold failEntry
  repeat' first
    | with_reducible assumption
    | with_reducible apply kept_setNext
    | with_reducible apply kept_completeAt
    | with_reducible apply kept_updChain
    | with_reducible refine kept_ite ?_ ?_

theorem kept_clearWork {z s : State} (c : Nat) (hk : Kept z s) : Kept z (clearWork s c) := by
  unfold clearWork
  repeat' first
    | with_reducible assumption
    | with_reducible apply kept_leaveLists
    | with_reducible apply kept_updEp

theorem kept_failWork {z s : State} (c : Nat) (st : BitVec 4) (rc : Option Word) (hk : Kept z s) : Kept z (failWork s c st rc) := by
  unfold failWork
  repeat' first
    | with_reducible assumption
    | with_reducible apply kept_clearWork
    | with_reducible apply kept_freeOp
    | with_reducible apply kept_bufClear
    | with_reducible apply kept_updChain
    | with_reducible apply kept_failEntry
    | with_reducible refine kept_ite ?_ ?_
    | (fail_if_no_progress (with_reducible refine kept_mk ?_))
    | split

theorem kept_finishWork {z s : State} (c : Nat) (hk : Kept z s) : Kept z (finishWork s c) := by
  unfold finishWork
  repeat' first
    | with_reducible assumption
    | with_reducible apply kept_clearWork
    | with_reducible apply kept_freeOp
    | with_reducible apply kept_setNext
    | with_reducible apply kept_updChain
    | with_reducible apply kept_completeAt
    | with_reducible apply kept_advanceCi
    | with_reducible refine kept_ite ?_ ?_
    | (fail_if_no_progress (with_reducible refine kept_mk ?_))
    | split

theorem kept_sinkFill {z s : State} (c : Nat) (hk : Kept z s) : Kept z (sinkFill s c) := by
  unfold sinkFill
  repeat' first
    | with_reducible assumption
    | with_reducible apply kept_updEp
    | with_reducible refine kept_ite ?_ ?_
    | (fail_if_no_progress (with_reducible refine kept_mk ?_))
    | split

theorem kept_startWork {z s : State} (t : Nat) (x : Tq) (e : Ep) (idx : Nat) (en : List Word) (n : Option Nat) (hk : Kept z s) : Kept z (startWork s t x e idx en n) := by
  unfold startWork
  repeat' first
    | with_reducible assumption
    | with_reducible apply kept_updChain
    | with_reducible apply kept_bufPut
    | with_reducible apply kept_updEp
    | with_reducible apply kept_failWork
    | with_reducible apply kept_sinkFill
    | with_reducible apply kept_acceptGraph
    | with_reducible refine kept_ite ?_ ?_

theorem kept_askedPeer {z s : State} (en : List Word) (hk : Kept z s) : Kept z (askedPeer s en) := by
  unfold askedPeer
  repeat' first
    | with_reducible assumption
    | with_reducible apply kept_freeStep
    | with_reducible refine kept_ite ?_ ?_

theorem kept_takeEntry {z : State} {s0 : State} (t : Nat) (x : Tq) (e : Ep) (idx : Nat) (en : List Word) (hk : Kept z s0) : KeptIn z (fun x => x) (takeEntry s0 t x e idx en) := by
  unfold takeEntry
  repeat' first
    | with_reducible assumption
    | with_reducible refine keptIn_some ?_
    | exact keptIn_none
    | with_reducible refine keptIn_ite ?_ ?_
    | with_reducible apply kept_askedPeer
    | with_reducible apply kept_failEntry
    | with_reducible apply kept_openChain
    | with_reducible apply kept_completeAt
    | with_reducible apply kept_setNext
    | with_reducible apply kept_advanceCi
    | with_reducible apply kept_startWork
    | with_reducible refine kept_ite ?_ ?_
    | (fail_if_no_progress (with_reducible refine kept_mk ?_))
    | split
    | dsimp only

theorem kept_serve1 {z s : State} (t : Nat) (hk : Kept z s) : KeptIn z (fun x => x) (serve1 s t) := by
  unfold serve1
  repeat' first
    | with_reducible assumption
    | with_reducible refine keptIn_some ?_
    | with_reducible apply kept_takeEntry
    | exact keptIn_none
    | with_reducible refine keptIn_ite ?_ ?_
    | with_reducible apply kept_updChain
    | with_reducible apply kept_setNext
    | with_reducible apply kept_endAlone
    | with_reducible apply kept_endOpen
    | with_reducible apply kept_completeAt
    | with_reducible refine kept_ite ?_ ?_
    | (fail_if_no_progress (with_reducible refine kept_mk ?_))
    | split

theorem kept_serveN {z : State} (x0 : Nat) {x1 : State} (x2 : Nat) (hk : Kept z x1) : Kept z (serveN x0 x1 x2) := by
  induction x0 generalizing x1 with
  | zero => exact hk
  | succ k ih =>
    unfold serveN
    split
    · exact ih (kept_serve1 _ hk _ (by assumption))
    · exact hk

theorem kept_serve {z s : State} (t : Nat) (hk : Kept z s) : Kept z (serve s t) := by
  unfold serve
  repeat' first
    | with_reducible assumption
    | with_reducible apply kept_serveN

theorem kept_noteLists {z s : State} (hk : Kept z s) : Kept z (noteLists s) := by
  unfold noteLists
  repeat' first
    | with_reducible assumption
    | with_reducible apply kept_noteBusy
    | with_reducible apply kept_noteBp

theorem kept_goOn {z s : State} (c : Nat) (hk : Kept z s) : Kept z (goOn s c) := by
  unfold goOn
  repeat' first
    | with_reducible assumption
    | with_reducible apply kept_noteLists
    | with_reducible apply kept_serve
    | with_reducible refine kept_ite ?_ ?_
    | (fail_if_no_progress (with_reducible refine kept_mk ?_))
    | split

theorem kept_flowOn {z s : State} (c : Nat) (hk : Kept z s) : Kept z (flowOn s c) := by
  unfold flowOn
  repeat' first
    | with_reducible assumption
    | with_reducible apply kept_noteLists
    | with_reducible apply kept_stopOn

theorem kept_readBeats {z s : State} (tag : Word) (o : Owner) (rs : List (Nat × Nat)) (hk : Kept z s) : Kept z (readBeats s tag o rs) := by
  unfold readBeats
  repeat' first
    | with_reducible assumption
    | with_reducible apply kept_each
    | with_reducible apply kept_hostReadAs
    | with_reducible refine kept_ite ?_ ?_
    | (fail_if_no_progress (with_reducible refine kept_mk ?_))
    | split
    | dsimp only
    | intro _

theorem kept_writeRanges {z s : State} (o : Owner) (x2 : List (Nat × Nat)) (x3 : List Byte) (hk : Kept z s) : Kept z (writeRanges s o x2 x3) := by
  induction x2 generalizing s x3 with
  | nil => exact hk
  | cons r rs ih => exact ih _ (kept_hostStore _ _ _ hk)

theorem kept_updWork {z s : State} (c : Nat) (f : Work → Work) (hk : Kept z s) : Kept z (updWork s c f) := by
  unfold updWork
  repeat' first
    | with_reducible assumption
    | with_reducible apply kept_updEp

theorem kept_relayGive {z s : State} (c : Nat) (e : Ep) (w : Work) (d : List Byte) (hk : Kept z s) : Kept z (relayGive s c e w d) := by
  unfold relayGive
  repeat' first
    | with_reducible assumption
    | with_reducible apply kept_sinkFill
    | with_reducible apply kept_bufPut
    | with_reducible apply kept_updEp
    | with_reducible apply kept_freeStep
    | with_reducible apply kept_each
    | with_reducible apply kept_sendCell
    | with_reducible refine kept_ite ?_ ?_
    | (fail_if_no_progress (with_reducible refine kept_mk ?_))
    | split
    | (refine kept_snd (by assumption) ?_)
    | dsimp only
    | intro _

theorem kept_eccFail {z s : State} (c : Nat) (a : Nat) (hk : Kept z s) : Kept z (eccFail s c a) := by
  unfold eccFail
  repeat' first
    | with_reducible assumption
    | with_reducible apply kept_eccReport
    | with_reducible apply kept_goOn
    | with_reducible apply kept_failWork

theorem kept_relayMove {z s : State} (c : Nat) (hk : Kept z s) : Kept z (relayMove s c) := by
  unfold relayMove
  repeat' first
    | with_reducible assumption
    | with_reducible apply kept_flowOn
    | with_reducible apply kept_eccFail
    | with_reducible apply kept_updWork
    | with_reducible apply kept_bufDrop
    | with_reducible apply kept_cndFlags
    | with_reducible apply kept_relayGive
    | with_reducible refine kept_ite ?_ ?_
    | (fail_if_no_progress (with_reducible refine kept_mk ?_))
    | split

theorem kept_sourceOn {z s : State} (sink : Nat) (w : Work) (hk : Kept z s) : Kept z (sourceOn s sink w) := by
  unfold sourceOn
  repeat' first
    | with_reducible assumption
    | with_reducible apply kept_relayMove
    | with_reducible refine kept_ite ?_ ?_
    | (fail_if_no_progress (with_reducible refine kept_mk ?_))
    | split

theorem kept_startMove {z s : State} (c : Nat) (e : Ep) (w : Work) (hk : Kept z s) : Kept z (startMove s c e w) := by
  unfold startMove
  repeat' first
    | with_reducible assumption
    | with_reducible apply kept_sinkFill
    | with_reducible apply kept_goOn
    | with_reducible apply kept_failWork
    | with_reducible apply kept_relayMove
    | with_reducible apply kept_sendData
    | with_reducible apply kept_startBeats
    | with_reducible apply kept_updWork
    | with_reducible apply kept_bankAsks
    | with_reducible apply kept_showOp
    | with_reducible apply kept_setChan
    | with_reducible refine kept_ite ?_ ?_
    | split
    | (refine kept_takeChan _ ?_ _ (by assumption))

theorem kept_afterDrain {z s : State} (c : Nat) (hk : Kept z s) : Kept z (afterDrain s c) := by
  unfold afterDrain
  repeat' first
    | with_reducible assumption
    | with_reducible apply kept_goOn
    | with_reducible apply kept_finishWork
    | with_reducible apply kept_failWork
    | with_reducible apply kept_updWork
    | with_reducible refine kept_ite ?_ ?_
    | (fail_if_no_progress (with_reducible refine kept_mk ?_))
    | split

theorem kept_drainEnd {z s : State} (c : Nat) (e : Ep) (w : Work) (hk : Kept z s) : Kept z (drainEnd s c e w) := by
  unfold drainEnd
  repeat' first
    | with_reducible assumption
    | with_reducible apply kept_endBeats
    | with_reducible apply kept_cndFlags
    | with_reducible apply kept_writeRanges
    | with_reducible apply kept_bufDrop
    | with_reducible apply kept_freeOp
    | with_reducible apply kept_afterDrain
    | with_reducible apply kept_updWork
    | with_reducible refine kept_ite ?_ ?_
    | (fail_if_no_progress (with_reducible refine kept_mk ?_))
    | split

theorem kept_stageEnd {z s : State} (c : Nat) (w : Work) (d : List Byte) (hk : Kept z s) : Kept z (stageEnd s c w d) := by
  unfold stageEnd
  repeat' first
    | with_reducible assumption
    | with_reducible apply kept_endBeats
    | with_reducible apply kept_cndFlags
    | with_reducible apply kept_bufPut
    | with_reducible apply kept_freeOp
    | with_reducible apply kept_goOn
    | with_reducible apply kept_failWork
    | with_reducible apply kept_updWork
    | with_reducible refine kept_ite ?_ ?_
    | (fail_if_no_progress (with_reducible refine kept_mk ?_))
    | split

theorem kept_issueRead {z s : State} (p : Nat) (e : Ep) (w : Work) (hk : Kept z s) : Kept z (issueRead s p e w) := by
  unfold issueRead
  repeat' first
    | with_reducible assumption
    | with_reducible apply kept_bankAsks
    | with_reducible apply kept_emit
    | with_reducible apply kept_eccLog
    | with_reducible refine kept_ite ?_ ?_
    | (fail_if_no_progress (with_reducible refine kept_mk ?_))
    | split
    | dsimp only

theorem kept_collectPut {z s : State} (c : Nat) (e : Ep) (d : List Byte) (hk : Kept z s) : Kept z (collectPut s c e d) := by
  unfold collectPut
  repeat' first
    | with_reducible assumption
    | with_reducible apply kept_bufPut
    | with_reducible apply kept_bankAsks

theorem kept_startTxn {z s : State} (p : Nat) (t : Nat) (c : Nat) (hk : Kept z s) : Kept z (startTxn s p t c) := by
  unfold startTxn
  repeat' first
    | with_reducible assumption
    | with_reducible apply kept_setPort
    | with_reducible apply kept_updChain
    | with_reducible apply kept_issueRead
    | with_reducible apply kept_emit
    | with_reducible apply kept_updWork
    | with_reducible refine kept_ite ?_ ?_
    | (fail_if_no_progress (with_reducible refine kept_mk ?_))
    | split

theorem kept_xactErr {z s : State} (c : Nat) (hk : Kept z s) : Kept z (xactErr s c).1 := by
  unfold xactErr
  repeat' first
    | with_reducible assumption
    | with_reducible apply kept_reportRef

theorem kept_stepToggle {z s : State} (c : Nat) (hk : Kept z s) : Kept z (stepToggle s c) := by
  unfold stepToggle
  repeat' first
    | with_reducible assumption
    | with_reducible apply kept_setEp
    | with_reducible apply kept_setDev
    | with_reducible refine kept_ite ?_ ?_
    | (fail_if_no_progress (with_reducible refine kept_mk ?_))
    | split

theorem kept_failLater {z s : State} (c : Nat) (st : BitVec 4) (rc : Option Word) (hk : Kept z s) : Kept z (failLater s c st rc) := by
  unfold failLater
  repeat' first
    | with_reducible assumption
    | with_reducible apply kept_updWork
    | with_reducible apply kept_goOn
    | with_reducible apply kept_failWork
    | with_reducible refine kept_ite ?_ ?_
    | (fail_if_no_progress (with_reducible refine kept_mk ?_))
    | split

theorem kept_endHeld {z s : State} (c : Nat) (hk : Kept z s) : Kept z (endHeld s c) := by
  unfold endHeld
  repeat' first
    | with_reducible assumption
    | with_reducible apply kept_failLater
    | with_reducible refine kept_ite ?_ ?_
    | (fail_if_no_progress (with_reducible refine kept_mk ?_))
    | split

theorem kept_roomReport {z s : State} (c : Nat) (w : Work) (n : Nat) (hk : Kept z s) : Kept z (roomReport s c w n) := by
  unfold roomReport
  repeat' first
    | with_reducible assumption
    | with_reducible apply kept_sendCell
    | with_reducible apply kept_setEp
    | with_reducible apply kept_sourceOn
    | with_reducible refine kept_ite ?_ ?_
    | (fail_if_no_progress (with_reducible refine kept_mk ?_))
    | split

theorem kept_outSent {z s : State} (c : Nat) (e : Ep) (w : Work) (hk : Kept z s) : Kept z (outSent s c e w) := by
  unfold outSent
  repeat' first
    | with_reducible assumption
    | with_reducible apply kept_bufDrop
    | with_reducible apply kept_updWork
    | with_reducible apply kept_sinkFill
    | with_reducible apply kept_goOn
    | with_reducible apply kept_finishWork
    | with_reducible apply kept_roomReport
    | with_reducible refine kept_ite ?_ ?_

theorem kept_inArrived {z s : State} (c : Nat) (e : Ep) (w : Work) (d : List Byte) (hk : Kept z s) : Kept z (inArrived s c e w d) := by
  unfold inArrived
  repeat' first
    | with_reducible assumption
    | with_reducible apply kept_collectPut
    | with_reducible apply kept_updChain
    | with_reducible apply kept_updWork
    | with_reducible apply kept_afterDrain
    | with_reducible refine kept_ite ?_ ?_

theorem kept_endVisit {z s : State} (p : Nat) (e : Ep) (hk : Kept z s) : Kept z (endVisit s p e) := by
  unfold endVisit
  repeat' first
    | with_reducible assumption
    | with_reducible apply kept_setPort
    | with_reducible refine kept_ite ?_ ?_

theorem kept_closeVisit {z s : State} (p : Nat) (c : Nat) (hk : Kept z s) : Kept z (closeVisit s p c) := by
  unfold closeVisit
  repeat' first
    | with_reducible assumption
    | with_reducible apply kept_endVisit
    | with_reducible refine kept_ite ?_ ?_
    | (fail_if_no_progress (with_reducible refine kept_mk ?_))
    | split

theorem kept_endService {z s : State} (c : Nat) (hk : Kept z s) : Kept z (endService s c) := by
  unfold endService
  repeat' first
    | with_reducible assumption
    | with_reducible apply kept_updWork

theorem kept_countTimeout {z s : State} (e : Ep) (timeout : Bool) (hk : Kept z s) : Kept z (countTimeout s e timeout).1 := by
  unfold countTimeout
  repeat' first
    | with_reducible assumption
    | with_reducible apply kept_setDev
    | with_reducible refine kept_ite ?_ ?_
    | (fail_if_no_progress (with_reducible refine kept_mk ?_))
    | split

theorem kept_retriesGone {z s : State} (c : Nat) (timeout : Bool) (hk : Kept z s) : Kept z (retriesGone s c timeout).1 := by
  unfold retriesGone
  repeat' first
    | with_reducible assumption
    | with_reducible apply kept_xactErr
    | with_reducible apply kept_countTimeout
    | with_reducible apply kept_failLater
    | with_reducible refine kept_ite ?_ ?_
    | (fail_if_no_progress (with_reducible refine kept_mk ?_))
    | split

theorem kept_splitFail {z s : State} (c : Nat) (e : Ep) (timeout : Bool) (hk : Kept z s) : Kept z (splitFail s c e timeout).1 := by
  unfold splitFail
  repeat' first
    | with_reducible assumption
    | with_reducible apply kept_retriesGone
    | with_reducible apply kept_updEp
    | with_reducible apply kept_endService
    | with_reducible refine kept_ite ?_ ?_
    | (fail_if_no_progress (with_reducible refine kept_mk ?_))
    | split

theorem kept_txnDone {z s : State} (p : Nat) (c : Nat) (e : Ep) (w : Work) (r : Reply) (hk : Kept z s) : Kept z (txnDone s p c e w r) := by
  unfold txnDone
  repeat' first
    | with_reducible assumption
    | with_reducible apply kept_goOn
    | with_reducible apply kept_finishWork
    | with_reducible apply kept_updChain
    | with_reducible apply kept_updEp
    | with_reducible apply kept_stepToggle
    | with_reducible apply kept_outSent
    | with_reducible apply kept_endVisit
    | with_reducible apply kept_updWork
    | with_reducible apply kept_endService
    | with_reducible apply kept_failLater
    | with_reducible apply kept_inArrived
    | with_reducible refine kept_ite ?_ ?_
    | (fail_if_no_progress (with_reducible refine kept_mk ?_))
    | split

theorem kept_splitPart {z s : State} (p : Nat) (c : Nat) (e : Ep) (w : Work) (r : Reply) (hk : Kept z s) : Kept z (splitPart s p c e w r) := by
  unfold splitPart
  repeat' first
    | with_reducible assumption
    | with_reducible apply kept_updWork
    | with_reducible apply kept_bufDrop
    | with_reducible apply kept_roomReport
    | with_reducible apply kept_goOn
    | with_reducible apply kept_finishWork
    | with_reducible apply kept_splitFail
    | with_reducible apply kept_collectPut
    | with_reducible apply kept_txnDone
    | with_reducible apply kept_endVisit
    | with_reducible refine kept_ite ?_ ?_
    | (fail_if_no_progress (with_reducible refine kept_mk ?_))
    | split

theorem kept_isocErr {z s : State} (c : Nat) (e : Ep) (k : Work) (timeout : Bool) (hk : Kept z s) : Kept z (isocErr s c e k timeout).1 := by
  unfold isocErr
  repeat' first
    | with_reducible assumption
    | with_reducible apply kept_xactErr
    | with_reducible apply kept_countTimeout
    | with_reducible apply kept_updWork
    | with_reducible apply kept_goOn
    | with_reducible apply kept_failWork
    | with_reducible apply kept_afterDrain
    | with_reducible refine kept_ite ?_ ?_
    | (fail_if_no_progress (with_reducible refine kept_mk ?_))
    | split

theorem kept_txnErr {z s : State} (p : Nat) (timeout : Bool) (t : Nat) (hk : Kept z s) : Kept z (txnErr s p timeout t).1 := by
  unfold txnErr
  repeat' first
    | with_reducible assumption
    | with_reducible apply kept_setPort
    | with_reducible apply kept_updWork
    | with_reducible apply kept_splitFail
    | with_reducible apply kept_isocErr
    | with_reducible apply kept_retriesGone
    | with_reducible apply kept_incF
    | with_reducible apply kept_issueRead
    | with_reducible apply kept_emit
    | with_reducible apply kept_endVisit
    | with_reducible apply kept_endService
    | with_reducible refine kept_ite ?_ ?_
    | (fail_if_no_progress (with_reducible refine kept_mk ?_))
    | split
    | (refine kept_fst (by assumption) ?_)
    | dsimp only

theorem kept_cutWork {z s : State} (c : Nat) (st : BitVec 4) (rc : Option Word) (hk : Kept z s) : Kept z (cutWork s c st rc) := by
  unfold cutWork
  repeat' first
    | with_reducible assumption
    | with_reducible apply kept_updWork
    | with_reducible apply kept_failWork
    | with_reducible refine kept_ite ?_ ?_
    | (fail_if_no_progress (with_reducible refine kept_mk ?_))
    | split

theorem kept_goneDev {z s : State} (h : Nat) (ref : Option Word) (hk : Kept z s) : Kept z (goneDev s h ref) := by
  unfold goneDev
  repeat' first
    | with_reducible assumption
    | with_reducible apply kept_setDev
    | with_reducible apply kept_each
    | with_reducible apply kept_cutWork
    | with_reducible apply kept_updTq
    | with_reducible apply kept_goOn
    | with_reducible refine kept_ite ?_ ?_
    | (fail_if_no_progress (with_reducible refine kept_mk ?_))
    | split
    | dsimp only
    | intro _

theorem kept_goneDevs {z s : State} (hs : List Nat) (ref : Option Word) (hk : Kept z s) : Kept z (goneDevs s hs ref) := by
  unfold goneDevs
  repeat' first
    | with_reducible assumption
    | with_reducible apply kept_each
    | with_reducible apply kept_goneDev
    | with_reducible refine kept_ite ?_ ?_
    | (fail_if_no_progress (with_reducible refine kept_mk ?_))
    | split
    | dsimp only
    | intro _

theorem kept_loseDev {z s : State} (h : Nat) (hk : Kept z s) : Kept z (loseDev s h) := by
  unfold loseDev
  repeat' first
    | with_reducible assumption
    | with_reducible apply kept_reportRef
    | with_reducible apply kept_each
    | with_reducible apply kept_goneDev
    | with_reducible refine kept_ite ?_ ?_
    | (fail_if_no_progress (with_reducible refine kept_mk ?_))
    | split
    | (refine kept_fst (by assumption) ?_)
    | (refine kept_snd (by assumption) ?_)
    | dsimp only
    | intro _

theorem kept_cutWire {z s : State} (p : Nat) (ref : Option Word) (hk : Kept z s) : Kept z (cutWire s p ref) := by
  unfold cutWire
  repeat' first
    | with_reducible assumption
    | with_reducible apply kept_setPort
    | with_reducible apply kept_flowOn
    | with_reducible apply kept_goOn
    | with_reducible apply kept_failWork
    | with_reducible refine kept_ite ?_ ?_
    | (fail_if_no_progress (with_reducible refine kept_mk ?_))
    | split

/-! ### Machine/PortOps.lean -/

theorem kept_noteLink {z s : State} (p : Nat) (hk : Kept z s) : Kept z (noteLink s p) := by
  unfold noteLink
  repeat' first
    | with_reducible assumption
    | with_reducible apply kept_pwf

theorem kept_takeState {z s : State} (p : Nat) (st : Nat) (hk : Kept z s) : Kept z (takeState s p st) := by
  unfold takeState
  repeat' first
    | with_reducible assumption
    | with_reducible apply kept_setPort
    | with_reducible apply kept_detect
    | with_reducible apply kept_portVotes
    | with_reducible apply kept_evt
    | with_reducible apply kept_noteLink
    | with_reducible apply kept_pwf
    | with_reducible refine kept_ite ?_ ?_

theorem kept_setPortState {z s : State} (p : Nat) (st : Nat) (hk : Kept z s) : Kept z (setPortState s p st) := by
  unfold setPortState
  repeat' first
    | with_reducible assumption
    | with_reducible apply kept_takeState
    | with_reducible apply kept_emit
    | with_reducible refine kept_ite ?_ ?_

theorem kept_setConnected {z s : State} (p : Nat) (b : Bool) (hk : Kept z s) : Kept z (setConnected s p b) := by
  unfold setConnected
  repeat' first
    | with_reducible assumption
    | with_reducible apply kept_evt
    | with_reducible apply kept_pwf
    | with_reducible refine kept_ite ?_ ?_

theorem kept_gonePort {z s : State} (p : Nat) (ref : Option Word) (hk : Kept z s) : Kept z (gonePort s p ref) := by
  unfold gonePort
  repeat' first
    | with_reducible assumption
    | with_reducible apply kept_goneDevs

theorem kept_quietPort {z s : State} (p : Nat) (hk : Kept z s) : Kept z (quietPort s p) := by
  unfold quietPort
  repeat' first
    | with_reducible assumption
    | with_reducible apply kept_setPort

theorem kept_startCharge {z s : State} (p : Nat) (hk : Kept z s) : Kept z (startCharge s p) := by
  unfold startCharge
  repeat' first
    | with_reducible assumption
    | with_reducible apply kept_emit
    | with_reducible apply kept_setPort

theorem kept_nextCharge {z s : State} (hk : Kept z s) : Kept z (nextCharge s) := by
  unfold nextCharge
  repeat' first
    | with_reducible assumption
    | with_reducible apply kept_startCharge
    | with_reducible refine kept_ite ?_ ?_
    | (fail_if_no_progress (with_reducible refine kept_mk ?_))
    | split

theorem kept_powerOn {z s : State} (p : Nat) (hk : Kept z s) : Kept z (powerOn s p) := by
  unfold powerOn
  repeat' first
    | with_reducible assumption
    | with_reducible apply kept_pwf
    | with_reducible apply kept_startCharge
    | with_reducible refine kept_ite ?_ ?_
    | (fail_if_no_progress (with_reducible refine kept_mk ?_))

theorem kept_portOff {z s : State} (p : Nat) (ref : Option Word) (hk : Kept z s) : Kept z (portOff s p ref) := by
  unfold portOff
  repeat' first
    | with_reducible assumption
    | with_reducible apply kept_setPort
    | with_reducible apply kept_gonePort
    | with_reducible apply kept_setConnected
    | with_reducible apply kept_pwf
    | with_reducible apply kept_emit
    | with_reducible apply kept_noteLink
    | with_reducible apply kept_takeState
    | with_reducible apply kept_nextCharge
    | with_reducible refine kept_ite ?_ ?_
    | (fail_if_no_progress (with_reducible refine kept_mk ?_))

theorem kept_vbusDown {z s : State} (p : Nat) (hk : Kept z s) : Kept z (vbusDown s p) := by
  unfold vbusDown
  repeat' first
    | with_reducible assumption
    | with_reducible apply kept_detect
    | with_reducible apply kept_pwf
    | with_reducible apply kept_portOff
    | with_reducible apply kept_errBit
    | with_reducible apply kept_reportRef
    | with_reducible refine kept_ite ?_ ?_

theorem kept_connectUsb2 {z s : State} (p : Nat) (hk : Kept z s) : Kept z (connectUsb2 s p) := by
  unfold connectUsb2
  repeat' first
    | with_reducible assumption
    | with_reducible apply kept_setConnected
    | with_reducible apply kept_takeState
    | with_reducible apply kept_pwf

theorem kept_linkFail {z s : State} (p : Nat) (hk : Kept z s) : Kept z (linkFail s p) := by
  unfold linkFail
  repeat' first
    | with_reducible assumption
    | with_reducible apply kept_errBit
    | with_reducible apply kept_quietPort
    | with_reducible apply kept_reportRef
    | with_reducible apply kept_takeState
    | with_reducible apply kept_gonePort

theorem kept_startReset {z s : State} (p : Nat) (warm : Bool) (hk : Kept z s) : Kept z (startReset s p warm) := by
  unfold startReset
  repeat' first
    | with_reducible assumption
    | with_reducible apply kept_cutWire
    | with_reducible apply kept_goneDevs
    | with_reducible apply kept_each
    | with_reducible apply kept_setDev
    | with_reducible apply kept_setPort
    | with_reducible apply kept_emit
    | with_reducible apply kept_takeState
    | with_reducible refine kept_ite ?_ ?_
    | (fail_if_no_progress (with_reducible refine kept_mk ?_))
    | split
    | dsimp only
    | intro _

theorem kept_suspendPort {z s : State} (p : Nat) (hk : Kept z s) : Kept z (suspendPort s p) := by
  unfold suspendPort
  repeat' first
    | with_reducible assumption
    | with_reducible apply kept_setPort
    | with_reducible apply kept_emit
    | with_reducible apply kept_takeState
    | with_reducible refine kept_ite ?_ ?_

theorem kept_startResume {z s : State} (p : Nat) (byDev : Bool) (hk : Kept z s) : Kept z (startResume s p byDev) := by
  unfold startResume
  repeat' first
    | with_reducible assumption
    | with_reducible apply kept_emit
    | with_reducible apply kept_takeState
    | with_reducible apply kept_setPort

theorem kept_wakeEvt {z s : State} (p : Nat) (hk : Kept z s) : Kept z (wakeEvt s p) := by
  unfold wakeEvt
  repeat' first
    | with_reducible assumption
    | with_reducible apply kept_evt
    | with_reducible refine kept_ite ?_ ?_

theorem kept_resetAfter {z s : State} (p : Nat) (hk : Kept z s) : Kept z (resetAfter s p) := by
  unfold resetAfter
  repeat' first
    | with_reducible assumption
    | with_reducible apply kept_startReset
    | with_reducible apply kept_setPort
    | with_reducible refine kept_ite ?_ ?_
    | (fail_if_no_progress (with_reducible refine kept_mk ?_))
    | split

theorem kept_doDisconnect {z s : State} (p : Nat) (hk : Kept z s) : Kept z (doDisconnect s p) := by
  unfold doDisconnect
  repeat' first
    | with_reducible assumption
    | with_reducible apply kept_reportRef
    | with_reducible apply kept_quietPort
    | with_reducible apply kept_gonePort
    | with_reducible apply kept_cutWire
    | with_reducible apply kept_incF
    | with_reducible apply kept_setPort
    | with_reducible apply kept_setConnected
    | with_reducible apply kept_takeState
    | with_reducible apply kept_pwf

theorem kept_disablePort {z s : State} (p : Nat) (ref : Option Word) (hk : Kept z s) : Kept z (disablePort s p ref) := by
  unfold disablePort
  repeat' first
    | with_reducible assumption
    | with_reducible apply kept_takeState
    | with_reducible apply kept_quietPort
    | with_reducible apply kept_gonePort
    | with_reducible apply kept_cutWire

theorem kept_babblePort {z s : State} (p : Nat) (hk : Kept z s) : Kept z (babblePort s p) := by
  unfold babblePort
  repeat' first
    | with_reducible assumption
    | with_reducible apply kept_errBit
    | with_reducible apply kept_reportRef
    | with_reducible apply kept_disablePort

theorem kept_latchEvent {z s : State} (p : Nat) (k : Latched) (hk : Kept z s) : Kept z (latchEvent s p k) := by
  unfold latchEvent
  repeat' first
    | with_reducible assumption
    | with_reducible apply kept_detect
    | with_reducible apply kept_setPort

theorem kept_latchGone {z s : State} (p : Nat) (hk : Kept z s) : Kept z (latchGone s p) := by
  unfold latchGone
  repeat' first
    | with_reducible assumption
    | with_reducible apply kept_latchEvent
    | with_reducible apply kept_setPort

theorem kept_wakeCluster {z s : State} (c : Nat) (hk : Kept z s) : Kept z (wakeCluster s c) := by
  unfold wakeCluster
  repeat' first
    | with_reducible assumption
    | with_reducible apply kept_each
    | with_reducible apply kept_setPort
    | with_reducible apply kept_doDisconnect
    | with_reducible apply kept_startResume
    | with_reducible apply kept_detect
    | with_reducible apply kept_noteLink
    | with_reducible refine kept_ite ?_ ?_
    | (fail_if_no_progress (with_reducible refine kept_mk ?_))
    | split
    | (refine kept_snd (by assumption) ?_)
    | dsimp only
    | intro _

theorem kept_peSet {z s : State} (pe : Nat) (f : Fld) (v : Nat) (hk : Kept z s) : Kept z (peSet s pe f v) := by
  unfold peSet
  repeat' first
    | with_reducible assumption
    | with_reducible apply kept_wf

theorem kept_noteExpiry {z s : State} (key : Nat) (hk : Kept z s) : Kept z (noteExpiry s key).1 := by
  unfold noteExpiry
  repeat' first
    | with_reducible assumption
    | with_reducible refine kept_ite ?_ ?_
    | (fail_if_no_progress (with_reducible refine kept_mk ?_))

theorem kept_takeOver {z s : State} (pe : Nat) (hk : Kept z s) : Kept z (takeOver s pe) := by
  unfold takeOver
  repeat' first
    | with_reducible assumption
    | with_reducible apply kept_peSet
    | with_reducible apply kept_each
    | with_reducible apply kept_pwf
    | with_reducible apply kept_err
    | with_reducible refine kept_ite ?_ ?_
    | (fail_if_no_progress (with_reducible refine kept_mk ?_))
    | split
    | dsimp only
    | intro _

theorem kept_handBack {z s : State} (pe : Nat) (hk : Kept z s) : Kept z (handBack s pe) := by
  unfold handBack
  repeat' first
    | with_reducible assumption
    | with_reducible apply kept_each
    | with_reducible apply kept_pwf
    | with_reducible apply kept_peSet
    | with_reducible refine kept_ite ?_ ?_
    | (fail_if_no_progress (with_reducible refine kept_mk ?_))
    | split
    | dsimp only
    | intro _

theorem kept_handBacks {z s : State} (hk : Kept z s) : Kept z (handBacks s) := by
  unfold handBacks
  repeat' first
    | with_reducible assumption
    | with_reducible apply kept_each
    | with_reducible apply kept_handBack
    | with_reducible refine kept_ite ?_ ?_
    | (fail_if_no_progress (with_reducible refine kept_mk ?_))
    | split
    | dsimp only
    | intro _

theorem kept_peExpire {z s : State} (pe : Nat) (hk : Kept z s) : Kept z (peExpire s pe) := by
  unfold peExpire
  repeat' first
    | with_reducible assumption
    | with_reducible apply kept_noteExpiry
    | with_reducible apply kept_incF
    | with_reducible apply kept_reportRef
    | with_reducible apply kept_errBit
    | with_reducible apply kept_report
    | with_reducible apply kept_peSet
    | with_reducible apply kept_each
    | with_reducible apply kept_takeOver
    | with_reducible apply kept_cutWire
    | with_reducible refine kept_ite ?_ ?_
    | (fail_if_no_progress (with_reducible refine kept_mk ?_))
    | split
    | (refine kept_fst (by assumption) ?_)
    | dsimp only
    | intro _

/-! ### Machine/WheelOps.lean -/

theorem kept_wheelPut {z s : State} (a : Nat) (d : List Byte) (hk : Kept z s) : Kept z (wheelPut s a d) := by
  unfold wheelPut
  repeat' first
    | with_reducible assumption
    | with_reducible apply kept_hostWrite
    | with_reducible refine kept_ite ?_ ?_

theorem kept_rewriteWheel {z s : State} (hk : Kept z s) : Kept z (rewriteWheel s) := by
  unfold rewriteWheel
  repeat' first
    | with_reducible assumption
    | with_reducible apply kept_wheelPut
    | with_reducible apply kept_each
    | with_reducible refine kept_ite ?_ ?_
    | (fail_if_no_progress (with_reducible refine kept_mk ?_))
    | split
    | dsimp only
    | intro _

theorem kept_writeChanges {z : State} {old : State} {s : State} (hk : Kept z s) : Kept z (writeChanges old s) := by
  unfold writeChanges
  repeat' first
    | with_reducible assumption
    | with_reducible apply kept_each
    | with_reducible apply kept_wheelPut
    | with_reducible refine kept_ite ?_ ?_
    | (fail_if_no_progress (with_reducible refine kept_mk ?_))
    | split
    | dsimp only
    | intro _

theorem kept_withPse {z s : State} (nd : Node) (c : Nat) (hk : Kept z s) : Kept z (withPse s nd c).1 := by
  unfold withPse
  repeat' first
    | with_reducible assumption
    | with_reducible apply kept_freeStep
    | with_reducible refine kept_ite ?_ ?_
    | (fail_if_no_progress (with_reducible refine kept_mk ?_))
    | split
    | dsimp only

theorem kept_addPse {z s : State} (c : Nat) (e : Ep) (phase : Nat) (hk : Kept z s) : Kept z (addPse s c e phase) := by
  unfold addPse
  repeat' first
    | with_reducible assumption
    | with_reducible apply kept_withPse
    | with_reducible apply kept_writeChanges
    | with_reducible refine kept_ite ?_ ?_
    | (fail_if_no_progress (with_reducible refine kept_mk ?_))

theorem kept_dropPse {z s : State} (c : Nat) (e : Ep) (phase : Nat) (hk : Kept z s) : Kept z (dropPse s c e phase) := by
  unfold dropPse
  repeat' first
    | with_reducible assumption
    | with_reducible apply kept_writeChanges
    | with_reducible refine kept_ite ?_ ?_
    | (fail_if_no_progress (with_reducible refine kept_mk ?_))
    | split
    | dsimp only

/-! ### Machine/PlanOps.lean -/

theorem kept_updPlan {z s : State} (n : Nat) (f : Plan → Plan) (hk : Kept z s) : Kept z (updPlan s n f) := by
  unfold updPlan
  repeat' first
    | with_reducible assumption
    | with_reducible refine kept_ite ?_ ?_
    | (fail_if_no_progress (with_reducible refine kept_mk ?_))

theorem kept_noteHorizon {z s : State} (hk : Kept z s) : Kept z (noteHorizon s) := by
  unfold noteHorizon
  repeat' first
    | with_reducible assumption
    | with_reducible apply kept_wf

theorem kept_endWalk {z s : State} (n : Nat) (hk : Kept z s) : Kept z (endWalk s n) := by
  unfold endWalk
  repeat' first
    | with_reducible assumption
    | with_reducible apply kept_leVotes
    | with_reducible apply kept_updPlan

theorem kept_beginWalk {z s : State} (p : Plan) (hk : Kept z s) : Kept z (beginWalk s p) := by
  unfold beginWalk
  repeat' first
    | with_reducible assumption
    | with_reducible apply kept_hostRead
    | with_reducible apply kept_updPlan
    | with_reducible refine kept_ite ?_ ?_

theorem kept_walkTo {z s : State} (n : Nat) (a : Nat) {fin : State → State} (hk : Kept z s) (he0 : ∀ (x : State), Kept z x → Kept z (fin x)) : Kept z (walkTo s n a fin) := by
  unfold walkTo
  repeat' first
    | with_reducible assumption
    | with_reducible apply kept_err
    | with_reducible apply kept_hostRead
    | with_reducible apply kept_updPlan
    | with_reducible apply he0
    | with_reducible refine kept_ite ?_ ?_

theorem kept_beginWalks {z s : State} (hk : Kept z s) : Kept z (beginWalks s) := by
  unfold beginWalks
  repeat' first
    | with_reducible assumption
    | with_reducible apply kept_each
    | with_reducible apply kept_beginWalk

theorem kept_openPlan {z s : State} (n : Nat) (hk : Kept z s) : Kept z (openPlan s n) := by
  unfold openPlan
  repeat' first
    | with_reducible assumption
    | with_reducible apply kept_leVotes
    | with_reducible apply kept_beginWalk
    | with_reducible refine kept_ite ?_ ?_
    | (fail_if_no_progress (with_reducible refine kept_mk ?_))

theorem kept_openTo {z s : State} (n : Nat) (hk : Kept z s) : Kept z (openTo s n) := by
  unfold openTo
  repeat' first
    | with_reducible assumption
    | with_reducible apply kept_each
    | with_reducible apply kept_openPlan
    | with_reducible refine kept_ite ?_ ?_
    | (fail_if_no_progress (with_reducible refine kept_mk ?_))
    | split
    | dsimp only
    | intro _

theorem kept_planEntry {z s : State} (c : Nat) (n : Nat) (i : Nat) (st : Option (BitVec 4 × Option Word)) (hk : Kept z s) : Kept z (planEntry s c n i st) := by
  unfold planEntry
  repeat' first
    | with_reducible assumption
    | with_reducible apply kept_updEp

theorem kept_planIsoc {z s : State} (c : Nat) (e : Ep) (n : Nat) (served : Option (BitVec 4 × Option Word)) (hk : Kept z s) : Kept z (planIsoc s c e n served) := by
  unfold planIsoc
  repeat' first
    | with_reducible assumption
    | with_reducible apply kept_serve
    | with_reducible apply kept_planEntry
    | with_reducible refine kept_ite ?_ ?_
    | (fail_if_no_progress (with_reducible refine kept_mk ?_))
    | split

theorem kept_buildGraph {z s : State} (n : Nat) (c : Nat) (hk : Kept z s) : Kept z (buildGraph s n c) := by
  unfold buildGraph
  repeat' first
    | with_reducible assumption
    | with_reducible apply kept_noteBusy
    | with_reducible apply kept_updPlan
    | with_reducible apply kept_fetch
    | with_reducible apply kept_goOn
    | with_reducible apply kept_planIsoc
    | with_reducible refine kept_ite ?_ ?_
    | (fail_if_no_progress (with_reducible refine kept_mk ?_))
    | split

theorem kept_takePse {z s : State} (n : Nat) (k : Nat) (ph : Nat) (pse : Word) (hk : Kept z s) : Kept z (takePse s n k ph pse) := by
  unfold takePse
  repeat' first
    | with_reducible assumption
    | with_reducible apply kept_err
    | with_reducible apply kept_buildGraph
    | with_reducible refine kept_ite ?_ ?_
    | (fail_if_no_progress (with_reducible refine kept_mk ?_))
    | split
    | (refine kept_snd (by assumption) ?_)
    | dsimp only

theorem kept_missService {z s : State} (n : Nat) (c : Nat) (e : Ep) (hk : Kept z s) : Kept z (missService s n c e) := by
  unfold missService
  repeat' first
    | with_reducible assumption
    | with_reducible apply kept_goOn
    | with_reducible apply kept_planIsoc
    | with_reducible refine kept_ite ?_ ?_

theorem kept_sealPlan {z s : State} (n : Nat) (hk : Kept z s) : Kept z (sealPlan s n) := by
  unfold sealPlan
  repeat' first
    | with_reducible assumption
    | with_reducible apply kept_updPlan
    | with_reducible apply kept_endWalk
    | with_reducible apply kept_wf
    | with_reducible apply kept_err
    | with_reducible apply kept_each
    | with_reducible apply kept_missService
    | with_reducible refine kept_ite ?_ ?_
    | (fail_if_no_progress (with_reducible refine kept_mk ?_))
    | split
    | (refine kept_snd (by assumption) ?_)
    | dsimp only
    | intro _

theorem kept_raiseLevel {z s : State} (c : Nat) (hk : Kept z s) : Kept z (raiseLevel s c) := by
  unfold raiseLevel
  repeat' first
    | with_reducible assumption
    | with_reducible apply kept_updWork
    | with_reducible apply kept_cwf
    | with_reducible refine kept_ite ?_ ?_
    | (fail_if_no_progress (with_reducible refine kept_mk ?_))
    | split

theorem kept_isocBoundary {z s : State} (c : Nat) (m : Nat) (hk : Kept z s) : Kept z (isocBoundary s c m) := by
  unfold isocBoundary
  repeat' first
    | with_reducible assumption
    | with_reducible apply kept_raiseLevel
    | with_reducible apply kept_setEp
    | with_reducible apply kept_goOn
    | with_reducible apply kept_sinkFill
    | with_reducible apply kept_cutWork
    | with_reducible apply kept_updWork
    | with_reducible apply kept_failLater
    | with_reducible refine kept_ite ?_ ?_
    | (fail_if_no_progress (with_reducible refine kept_mk ?_))
    | split

theorem kept_splitPassed {z s : State} (c : Nat) (m : Nat) (hk : Kept z s) : Kept z (splitPassed s c m) := by
  unfold splitPassed
  repeat' first
    | with_reducible assumption
    | with_reducible apply kept_endService
    | with_reducible apply kept_updWork
    | with_reducible refine kept_ite ?_ ?_
    | (fail_if_no_progress (with_reducible refine kept_mk ?_))
    | split

theorem kept_intrBoundary {z s0 : State} (c : Nat) (m : Nat) (hk : Kept z s0) : Kept z (intrBoundary s0 c m) := by
  unfold intrBoundary
  repeat' first
    | with_reducible assumption
    | with_reducible apply kept_splitPassed
    | with_reducible apply kept_updWork
    | with_reducible refine kept_ite ?_ ?_
    | (fail_if_no_progress (with_reducible refine kept_mk ?_))
    | split
    | (refine kept_snd (by assumption) ?_)
    | dsimp only

theorem kept_portBoundary {z s : State} (p : Nat) (m : Nat) (hk : Kept z s) : Kept z (portBoundary s p m) := by
  unfold portBoundary
  repeat' first
    | with_reducible assumption
    | with_reducible apply kept_setPort
    | with_reducible apply kept_emit
    | with_reducible refine kept_ite ?_ ?_

theorem kept_dropPlans {z s : State} (hk : Kept z s) : Kept z (dropPlans s) := by
  unfold dropPlans
  repeat' first
    | with_reducible assumption
    | with_reducible apply kept_noteHorizon
    | with_reducible apply kept_noteSpill
    | with_reducible refine kept_ite ?_ ?_
    | (fail_if_no_progress (with_reducible refine kept_mk ?_))

theorem kept_endUnserved {z s : State} (c : Nat) (hk : Kept z s) : Kept z (endUnserved s c) := by
  unfold endUnserved
  repeat' first
    | with_reducible assumption
    | with_reducible apply kept_goOn
    | with_reducible apply kept_cutWork
    | with_reducible refine kept_ite ?_ ?_
    | (fail_if_no_progress (with_reducible refine kept_mk ?_))
    | split

theorem kept_dropReleased {z s : State} (m : Nat) (hk : Kept z s) : Kept z (dropReleased s m) := by
  unfold dropReleased
  repeat' first
    | with_reducible assumption
    | with_reducible apply kept_each
    | with_reducible apply kept_endUnserved
    | with_reducible refine kept_ite ?_ ?_
    | (fail_if_no_progress (with_reducible refine kept_mk ?_))

theorem kept_takeProfile {z s : State} (prof : Nat) (hk : Kept z s) : Kept z (takeProfile s prof) := by
  unfold takeProfile
  repeat' first
    | with_reducible assumption
    | with_reducible apply kept_evt
    | with_reducible apply kept_wf
    | with_reducible refine kept_ite ?_ ?_

theorem kept_planBoundary {z s : State} (m : Nat) (hk : Kept z s) : Kept z (planBoundary s m) := by
  unfold planBoundary
  repeat' first
    | with_reducible assumption
    | with_reducible apply kept_wb
    | with_reducible apply kept_noteHorizon
    | with_reducible apply kept_openTo
    | with_reducible apply kept_takeProfile
    | with_reducible apply kept_each
    | with_reducible apply kept_sealPlan
    | with_reducible refine kept_ite ?_ ?_
    | (fail_if_no_progress (with_reducible refine kept_mk ?_))
    | split

theorem kept_portsBoundary {z s : State} (m : Nat) (hk : Kept z s) : Kept z (portsBoundary s m) := by
  unfold portsBoundary
  repeat' first
    | with_reducible assumption
    | with_reducible apply kept_each
    | with_reducible apply kept_portBoundary
    | with_reducible refine kept_ite ?_ ?_
    | (fail_if_no_progress (with_reducible refine kept_mk ?_))
    | split
    | dsimp only
    | intro _

theorem kept_plannerBoundary {z s : State} (m : Nat) (hk : Kept z s) : Kept z (plannerBoundary s m) := by
  unfold plannerBoundary
  repeat' first
    | with_reducible assumption
    | with_reducible apply kept_portsBoundary
    | with_reducible apply kept_incF
    | with_reducible apply kept_planBoundary
    | with_reducible apply kept_dropReleased
    | with_reducible apply kept_wf
    | with_reducible apply kept_each
    | with_reducible apply kept_isocBoundary
    | with_reducible apply kept_intrBoundary
    | with_reducible apply kept_noteLists
    | with_reducible apply kept_serve
    | with_reducible refine kept_ite ?_ ?_
    | (fail_if_no_progress (with_reducible refine kept_mk ?_))
    | split
    | (refine kept_snd (by assumption) ?_)
    | dsimp only
    | intro _

theorem kept_suppress {z s : State} (n : Nat) (c : Nat) (hk : Kept z s) : Kept z (suppress s n c) := by
  unfold suppress
  repeat' first
    | with_reducible assumption
    | with_reducible apply kept_goOn
    | with_reducible apply kept_cutWork
    | with_reducible apply kept_setEp
    | with_reducible refine kept_ite ?_ ?_
    | (fail_if_no_progress (with_reducible refine kept_mk ?_))
    | split

theorem kept_checkCohort {z s : State} (n : Nat) (k : Cohort) (hk : Kept z s) : Kept z (checkCohort s n k) := by
  unfold checkCohort
  repeat' first
    | with_reducible assumption
    | with_reducible apply kept_incF
    | with_reducible apply kept_evt
    | with_reducible apply kept_each
    | with_reducible apply kept_suppress
    | with_reducible refine kept_ite ?_ ?_
    | (fail_if_no_progress (with_reducible refine kept_mk ?_))
    | split
    | dsimp only
    | intro _

/-! ### Machine/ListOps.lean -/

theorem kept_forwardIdx {z s : State} (pos : Nat) (o : Owner) (off : Nat) (v : Word) (hk : Kept z s) : Kept z (forwardIdx s pos o off v) := by
  unfold forwardIdx
  repeat' first
    | with_reducible assumption
    | with_reducible apply kept_sendCell

theorem kept_copyIdx {z s : State} (o : Owner) (q : Nat) (r : QRef) (isPi : Bool) (v : Nat) (hk : Kept z s) : Kept z (copyIdx s o q r isPi v) := by
  unfold copyIdx
  repeat' first
    | with_reducible assumption
    | with_reducible apply kept_setRef
    | with_reducible refine kept_ite ?_ ?_

theorem kept_setPi {z s : State} (o : Owner) (q : Nat) (w : Word) (hk : Kept z s) : Kept z (setPi s o q w) := by
  unfold setPi
  repeat' first
    | with_reducible assumption
    | with_reducible apply kept_err
    | with_reducible apply kept_copyPi
    | with_reducible apply kept_setTq
    | with_reducible apply kept_forwardIdx
    | with_reducible apply kept_copyIdx
    | with_reducible refine kept_ite ?_ ?_
    | (fail_if_no_progress (with_reducible refine kept_mk ?_))
    | split

theorem kept_cqFreed {z s : State} (k : Nat) (hk : Kept z s) : Kept z (cqFreed s k) := by
  unfold cqFreed
  repeat' first
    | with_reducible assumption
    | with_reducible apply kept_each
    | with_reducible apply kept_finishStop

theorem kept_setCi {z s : State} (o : Owner) (q : Nat) (w : Word) (hk : Kept z s) : Kept z (setCi s o q w) := by
  unfold setCi
  repeat' first
    | with_reducible assumption
    | with_reducible apply kept_err
    | with_reducible apply kept_setCq
    | with_reducible apply kept_copyIdx
    | with_reducible apply kept_cqFreed
    | with_reducible apply kept_forwardIdx
    | with_reducible refine kept_ite ?_ ?_
    | (fail_if_no_progress (with_reducible refine kept_mk ?_))
    | split

theorem kept_idxErr {z s : State} (k : Nat) (hk : Kept z s) : Kept z (idxErr s k) := by
  unfold idxErr
  repeat' first
    | with_reducible assumption
    | with_reducible apply kept_setInst

theorem kept_writeAqPi {z s : State} (o : Owner) (v : Nat) (hk : Kept z s) : Kept z (writeAqPi s o v) := by
  unfold writeAqPi
  repeat' first
    | with_reducible assumption
    | with_reducible apply kept_idxErr
    | with_reducible apply kept_setInst
    | with_reducible refine kept_ite ?_ ?_

theorem kept_writeAcqCi {z s : State} (o : Owner) (v : Nat) (hk : Kept z s) : Kept z (writeAcqCi s o v) := by
  unfold writeAcqCi
  repeat' first
    | with_reducible assumption
    | with_reducible apply kept_idxErr
    | with_reducible apply kept_setInst
    | with_reducible refine kept_ite ?_ ?_

theorem kept_enableAq {z s : State} (o : Owner) (hk : Kept z s) : Kept z (enableAq s o) := by
  unfold enableAq
  repeat' first
    | with_reducible assumption
    | with_reducible apply kept_setInst
    | with_reducible refine kept_ite ?_ ?_

theorem kept_disableAq {z s : State} (o : Owner) (hk : Kept z s) : Kept z (disableAq s o) := by
  unfold disableAq
  repeat' first
    | with_reducible assumption
    | with_reducible apply kept_setInst

theorem kept_pollTq {z s : State} (t : Nat) (hk : Kept z s) : Kept z (pollTq s t) := by
  unfold pollTq
  repeat' first
    | with_reducible assumption
    | with_reducible apply kept_leVotes
    | with_reducible apply kept_setTq
    | with_reducible apply kept_err
    | with_reducible apply kept_stopTq
    | with_reducible apply kept_closeBatch
    | with_reducible apply kept_fetch
    | with_reducible refine kept_ite ?_ ?_
    | (fail_if_no_progress (with_reducible refine kept_mk ?_))
    | split

theorem kept_dueTicks {z s : State} (hk : Kept z s) : Kept z (dueTicks s) := by
  unfold dueTicks
  repeat' first
    | with_reducible assumption
    | with_reducible apply kept_noteBp
    | with_reducible apply kept_beginWalks
    | with_reducible apply kept_each
    | with_reducible apply kept_pollTq

theorem kept_fetched {z s : State} (t : Nat) (idx : Nat) (n : Nat) (e : Option (List Word)) (hk : Kept z s) : Kept z (fetched s t idx n e) := by
  unfold fetched
  repeat' first
    | with_reducible assumption
    | with_reducible apply kept_setTq
    | with_reducible apply kept_err
    | with_reducible apply kept_noteBp
    | with_reducible apply kept_serve
    | with_reducible apply kept_leVotes
    | with_reducible refine kept_ite ?_ ?_
    | (fail_if_no_progress (with_reducible refine kept_mk ?_))
    | split

theorem kept_chainLate {z s : State} (t : Nat) (hk : Kept z s) : Kept z (chainLate s t) := by
  unfold chainLate
  repeat' first
    | with_reducible assumption
    | with_reducible apply kept_failWork
    | with_reducible apply kept_goOn
    | with_reducible apply kept_endOpen
    | with_reducible refine kept_ite ?_ ?_
    | (fail_if_no_progress (with_reducible refine kept_mk ?_))
    | split

theorem kept_mirrorTick {z s : State} (k : Nat) (hk : Kept z s) : Kept z (mirrorTick s k) := by
  unfold mirrorTick
  repeat' first
    | with_reducible assumption
    | with_reducible apply kept_mirror
    | with_reducible apply kept_setCq
    | with_reducible apply kept_sendPost
    | with_reducible apply kept_hostWrite
    | with_reducible refine kept_ite ?_ ?_
    | (fail_if_no_progress (with_reducible refine kept_mk ?_))
    | split

theorem kept_invalidate {z s : State} (t : Nat) (start : Nat) (count : Nat) (hk : Kept z s) : Kept z (invalidate s t start count).1 := by
  unfold invalidate
  repeat' first
    | with_reducible assumption
    | with_reducible apply kept_setTq
    | with_reducible apply kept_fetch
    | with_reducible refine kept_ite ?_ ?_
    | (fail_if_no_progress (with_reducible refine kept_mk ?_))
    | split

theorem kept_invalGo {z s : State} (v : Word) (hk : Kept z s) : Kept z (invalGo s v) := by
  unfold invalGo
  repeat' first
    | with_reducible assumption
    | with_reducible apply kept_writeFields
    | with_reducible apply kept_leVotes
    | with_reducible apply kept_wb
    | with_reducible refine kept_ite ?_ ?_
    | (fail_if_no_progress (with_reducible refine kept_mk ?_))

theorem kept_invalEnd {z s : State} (hk : Kept z s) : Kept z (invalEnd s) := by
  unfold invalEnd
  repeat' first
    | with_reducible assumption
    | with_reducible apply kept_wb
    | with_reducible apply kept_invalidate
    | with_reducible apply kept_err
    | with_reducible apply kept_leVotes
    | with_reducible apply kept_wf
    | with_reducible refine kept_ite ?_ ?_
    | (fail_if_no_progress (with_reducible refine kept_mk ?_))
    | split

end Sys2Proof.Machine
end

