-- ==== Sys2Proof/Laws/KeptAdmin.lean ====
section
/-!
SUPPORT. One lemma for each operation: what every admin command, instance and NVM operation and reset keeps
(`Kept`: the queue, the outputs, the free values, the canonical form of the register file and of EBM).
-/
namespace Sys2Proof.Machine

/-! ### Machine/AdminOps.lean -/

theorem kept_good {z s : State} (o : Owner) (e : List Word) (r0 : Nat) (r1 : Nat) (hk : Kept z s) : Kept z (good s o e r0 r1) := by
  unfold good
  repeat' first
    | with_reducible assumption
    | with_reducible apply kept_done

theorem kept_noBw {z s : State} (o : Owner) (e : List Word) (detail : Nat) (hk : Kept z s) : Kept z (noBw s o e detail) := by
  unfold noBw
  repeat' first
    | with_reducible assumption
    | with_reducible apply kept_done

theorem kept_adm {z s : State} (o : Owner) (e : List Word) (mgrOnly : Bool) (n : Nat) {f : State → State} (hk : Kept z s) (he0 : ∀ (x : State), Kept z x → Kept z (f x)) : Kept z (adm s o e mgrOnly n f) := by
  unfold adm
  repeat' first
    | with_reducible assumption
    | with_reducible apply kept_done
    | with_reducible apply kept_bad
    | with_reducible apply he0
    | with_reducible refine kept_ite ?_ ?_

theorem kept_farAnswer {z s : State} (o : Owner) (e : List Word) (res : Word → Word) {f : State → Word → State} (hk : Kept z s) (he0 : ∀ (x : State) (b0 : Word), Kept z x → Kept z (f x b0)) : Kept z (farAnswer s o e res f) := by
  unfold farAnswer
  repeat' first
    | with_reducible assumption
    | with_reducible apply kept_freeStep
    | with_reducible apply kept_done
    | with_reducible apply he0
    | with_reducible refine kept_ite ?_ ?_

theorem kept_forwardCmd {z s : State} (pos : Nat) (o : Owner) (e : List Word) (hk : Kept z s) : Kept z (forwardCmd s pos o e) := by
  unfold forwardCmd
  repeat' first
    | with_reducible assumption
    | with_reducible apply kept_emit

theorem kept_waitFar {z s : State} (o : Owner) (e : List Word) (pos : Nat) (hk : Kept z s) : Kept z (waitFar s o e pos) := by
  unfold waitFar
  repeat' first
    | with_reducible assumption
    | with_reducible apply kept_bad
    | with_reducible apply kept_forwardCmd
    | with_reducible refine kept_ite ?_ ?_
    | (fail_if_no_progress (with_reducible refine kept_mk ?_))

theorem kept_elsewhere {z s : State} (o : Owner) (e : List Word) (pos : Nat) (res : Word → Word) {f : State → Word → State} (hk : Kept z s) (he0 : ∀ (x : State) (b0 : Word), Kept z x → Kept z (f x b0)) : Kept z (elsewhere s o e pos res f) := by
  unfold elsewhere
  repeat' first
    | with_reducible assumption
    | with_reducible apply kept_bad
    | with_reducible apply kept_farAnswer
    | with_reducible apply kept_forwardCmd
    | with_reducible apply he0
    | with_reducible refine kept_ite ?_ ?_

theorem kept_atPos {z s : State} (o : Owner) (e : List Word) (pos : Nat) {here : State → State} (hk : Kept z s) (he0 : ∀ (x : State), Kept z x → Kept z (here x)) : Kept z (atPos s o e pos here) := by
  unfold atPos
  repeat' first
    | with_reducible assumption
    | with_reducible apply kept_elsewhere
    | with_reducible apply he0
    | with_reducible refine kept_ite ?_ ?_
    | (fail_if_no_progress (with_reducible refine kept_mk ?_))
    | split
    | dsimp only
    | intro _

theorem kept_setFar {z s : State} (k : Nat) (x : FarEp) (hk : Kept z s) : Kept z (setFar s k x) := by
  unfold setFar
  repeat' first
    | with_reducible assumption
    | with_reducible refine kept_ite ?_ ?_
    | (fail_if_no_progress (with_reducible refine kept_mk ?_))

theorem kept_updFar {z s : State} (w : Word) (f : Ep → Ep) (hk : Kept z s) : Kept z (updFar s w f) := by
  unfold updFar
  repeat' first
    | with_reducible assumption
    | with_reducible apply kept_setFar
    | with_reducible refine kept_ite ?_ ?_
    | (fail_if_no_progress (with_reducible refine kept_mk ?_))
    | split

theorem kept_onEp {z s : State} (o : Owner) (e : List Word) (w : Word) {f : State → Nat → Ep → State} (hk : Kept z s) (he0 : ∀ (x : State) (b0 : Nat) (b1 : Ep), Kept z x → Kept z (f x b0 b1)) : Kept z (onEp s o e w f) := by
  unfold onEp
  repeat' first
    | with_reducible assumption
    | with_reducible apply kept_bad
    | with_reducible apply kept_atPos
    | with_reducible apply he0
    | with_reducible refine kept_ite ?_ ?_
    | (fail_if_no_progress (with_reducible refine kept_mk ?_))
    | split
    | dsimp only
    | intro _

theorem kept_onFar {z s : State} (o : Owner) (e : List Word) (w : Word) {f : State → FarEp → State} (hk : Kept z s) (he0 : ∀ (x : State) (b0 : FarEp), Kept z x → Kept z (f x b0)) : Kept z (onFar s o e w f) := by
  unfold onFar
  repeat' first
    | with_reducible assumption
    | with_reducible apply kept_bad
    | with_reducible apply he0
    | with_reducible refine kept_ite ?_ ?_
    | (fail_if_no_progress (with_reducible refine kept_mk ?_))
    | split

theorem kept_drawn {z s : State} (hk : Kept z s) : Kept z (drawn s) := by
  unfold drawn
  repeat' first
    | with_reducible assumption
    | with_reducible apply kept_freeStep
    | with_reducible refine kept_ite ?_ ?_

/-! ### Machine/Admission.lean -/

theorem kept_leaveCohort {z s : State} (n : Option Nat) (c : Nat) (hk : Kept z s) : Kept z (leaveCohort s n c) := by
  unfold leaveCohort
  repeat' first
    | with_reducible assumption
    | with_reducible refine kept_ite ?_ ?_
    | (fail_if_no_progress (with_reducible refine kept_mk ?_))

theorem kept_releaseRsv {z s : State} (c : Nat) (hk : Kept z s) : Kept z (releaseRsv s c) := by
  unfold releaseRsv
  repeat' first
    | with_reducible assumption
    | with_reducible apply kept_leaveCohort
    | with_reducible apply kept_dropPse
    | with_reducible apply kept_setEp
    | with_reducible refine kept_ite ?_ ?_
    | (fail_if_no_progress (with_reducible refine kept_mk ?_))
    | split

/-! ### Machine/AdminCohorts.lean -/

theorem kept_makeCohort {z s : State} (a : Owner) (n : Nat) (here : List Word) (far : List Word) (start : Nat) (hk : Kept z s) : Kept z (makeCohort s a n here far start) := by
  unfold makeCohort
  repeat' first
    | with_reducible assumption
    | with_reducible apply kept_each
    | with_reducible apply kept_updEp
    | with_reducible apply kept_updFar
    | with_reducible refine kept_ite ?_ ?_
    | (fail_if_no_progress (with_reducible refine kept_mk ?_))
    | split
    | dsimp only
    | intro _

theorem kept_cohortFar {z s : State} (o : Owner) (e : List Word) (n : Nat) (here : List Word) (far : List Word) (start : Nat) (hk : Kept z s) : Kept z (cohortFar s o e n here far start) := by
  unfold cohortFar
  repeat' first
    | with_reducible assumption
    | with_reducible apply kept_each
    | with_reducible apply kept_forwardCmd
    | with_reducible apply kept_good
    | with_reducible apply kept_makeCohort
    | with_reducible apply kept_freeStep
    | with_reducible apply kept_noBw
    | with_reducible refine kept_ite ?_ ?_
    | (fail_if_no_progress (with_reducible refine kept_mk ?_))
    | split
    | (refine kept_snd (by assumption) ?_)
    | dsimp only
    | intro _

theorem kept_execFormCohort {z : State} (o : Owner) (e : List Word) (d : List Word) {s : State} (hk : Kept z s) : KeptBy z (execFormCohort o e d s) := by
  unfold execFormCohort
  repeat' first
    | with_reducible assumption
    | with_reducible refine keptBy_next ?_
    | with_reducible apply kept_adm
    | with_reducible apply kept_hostRead
    | with_reducible apply kept_bad
    | with_reducible apply kept_noBw
    | with_reducible apply kept_good
    | with_reducible apply kept_makeCohort
    | with_reducible apply kept_cohortFar
    | with_reducible refine kept_ite ?_ ?_
    | (fail_if_no_progress (with_reducible refine kept_mk ?_))
    | split
    | dsimp only
    | intro _

theorem kept_execDissolveCohort {z : State} (o : Owner) (e : List Word) {s : State} (hk : Kept z s) : KeptBy z (execDissolveCohort o e s) := by
  unfold execDissolveCohort
  repeat' first
    | with_reducible assumption
    | with_reducible refine keptBy_next ?_
    | with_reducible apply kept_adm
    | with_reducible apply kept_bad
    | with_reducible apply kept_each
    | with_reducible apply kept_updEp
    | with_reducible apply kept_good
    | with_reducible apply kept_forwardCmd
    | with_reducible refine kept_ite ?_ ?_
    | (fail_if_no_progress (with_reducible refine kept_mk ?_))
    | split
    | dsimp only
    | intro _

theorem kept_execReservedOpcode {z : State} (o : Owner) (e : List Word) {s : State} (hk : Kept z s) : KeptBy z (execReservedOpcode o e s) := by
  unfold execReservedOpcode
  repeat' first
    | with_reducible assumption
    | with_reducible refine keptBy_next ?_
    | with_reducible apply kept_done
    | with_reducible apply kept_bad
    | with_reducible refine kept_ite ?_ ?_

/-! ### Machine/AdminEndpoints.lean -/

theorem kept_bindMake {z s : State} (o : Owner) (e : List Word) (p : Nat) (h : Nat) (hk : Kept z s) : Kept z (bindMake s o e p h) := by
  unfold bindMake
  repeat' first
    | with_reducible assumption
    | with_reducible apply kept_setDev
    | with_reducible apply kept_good
    | with_reducible apply kept_noteFree
    | with_reducible apply kept_setEp
    | with_reducible apply kept_bad
    | with_reducible refine kept_ite ?_ ?_
    | (fail_if_no_progress (with_reducible refine kept_mk ?_))
    | split

theorem kept_bindHere {z s : State} (o : Owner) (e : List Word) (p : Nat) (hk : Kept z s) : Kept z (bindHere s o e p) := by
  unfold bindHere
  repeat' first
    | with_reducible assumption
    | with_reducible apply kept_bad
    | with_reducible apply kept_bindMake
    | with_reducible refine kept_ite ?_ ?_
    | (fail_if_no_progress (with_reducible refine kept_mk ?_))
    | split

theorem kept_bindFar {z s : State} (o : Owner) (e : List Word) (pos : Nat) (hk : Kept z s) : Kept z (bindFar s o e pos) := by
  unfold bindFar
  repeat' first
    | with_reducible assumption
    | with_reducible apply kept_bad
    | with_reducible apply kept_elsewhere
    | with_reducible apply kept_setFar
    | with_reducible refine kept_ite ?_ ?_
    | (fail_if_no_progress (with_reducible refine kept_mk ?_))
    | split
    | dsimp only
    | intro _

theorem kept_execBindEndpoint {z : State} (o : Owner) (e : List Word) {s : State} (hk : Kept z s) : KeptBy z (execBindEndpoint o e s) := by
  unfold execBindEndpoint
  repeat' first
    | with_reducible assumption
    | with_reducible refine keptBy_next ?_
    | with_reducible apply kept_adm
    | with_reducible apply kept_bad
    | with_reducible apply kept_bindHere
    | with_reducible apply kept_bindFar
    | with_reducible refine kept_ite ?_ ?_
    | (fail_if_no_progress (with_reducible refine kept_mk ?_))
    | split
    | dsimp only
    | intro _

theorem kept_unbind {z s : State} (c : Nat) (hk : Kept z s) : Kept z (unbind s c) := by
  unfold unbind
  repeat' first
    | with_reducible assumption
    | with_reducible apply kept_releaseRsv
    | with_reducible apply kept_releaseBuf
    | with_reducible refine kept_ite ?_ ?_
    | (fail_if_no_progress (with_reducible refine kept_mk ?_))
    | split

theorem kept_execUnbindEndpoint {z : State} (o : Owner) (e : List Word) {s : State} (hk : Kept z s) : KeptBy z (execUnbindEndpoint o e s) := by
  unfold execUnbindEndpoint
  repeat' first
    | with_reducible assumption
    | with_reducible refine keptBy_next ?_
    | with_reducible apply kept_adm
    | with_reducible apply kept_onFar
    | with_reducible apply kept_bad
    | with_reducible apply kept_elsewhere
    | with_reducible apply kept_onEp
    | with_reducible apply kept_good
    | with_reducible apply kept_unbind
    | with_reducible refine kept_ite ?_ ?_
    | (fail_if_no_progress (with_reducible refine kept_mk ?_))
    | split
    | dsimp only
    | intro _

theorem kept_reserveHere {z s : State} (o : Owner) (e : List Word) (c : Nat) (x : Ep) (hk : Kept z s) : Kept z (reserveHere s o e c x) := by
  unfold reserveHere
  repeat' first
    | with_reducible assumption
    | with_reducible apply kept_bad
    | with_reducible apply kept_noBw
    | with_reducible apply kept_releaseRsv
    | with_reducible apply kept_addPse
    | with_reducible apply kept_updEp
    | with_reducible apply kept_good
    | with_reducible refine kept_ite ?_ ?_
    | (fail_if_no_progress (with_reducible refine kept_mk ?_))
    | split
    | (refine kept_snd (by assumption) ?_)
    | dsimp only

theorem kept_reserveFar {z s : State} (o : Owner) (e : List Word) (hk : Kept z s) : Kept z (reserveFar s o e) := by
  unfold reserveFar
  repeat' first
    | with_reducible assumption
    | with_reducible apply kept_onFar
    | with_reducible apply kept_bad
    | with_reducible apply kept_forwardCmd
    | with_reducible apply kept_freeStep
    | with_reducible apply kept_good
    | with_reducible apply kept_updFar
    | with_reducible apply kept_noBw
    | with_reducible refine kept_ite ?_ ?_
    | (fail_if_no_progress (with_reducible refine kept_mk ?_))
    | split
    | (refine kept_snd (by assumption) ?_)
    | dsimp only
    | intro _

theorem kept_execReserveBw {z : State} (o : Owner) (e : List Word) {s : State} (hk : Kept z s) : KeptBy z (execReserveBw o e s) := by
  unfold execReserveBw
  repeat' first
    | with_reducible assumption
    | with_reducible refine keptBy_next ?_
    | with_reducible apply kept_adm
    | with_reducible apply kept_reserveFar
    | with_reducible apply kept_onEp
    | with_reducible apply kept_reserveHere
    | with_reducible refine kept_ite ?_ ?_
    | (fail_if_no_progress (with_reducible refine kept_mk ?_))
    | split
    | dsimp only
    | intro _

theorem kept_execReleaseBw {z : State} (o : Owner) (e : List Word) {s : State} (hk : Kept z s) : KeptBy z (execReleaseBw o e s) := by
  unfold execReleaseBw
  repeat' first
    | with_reducible assumption
    | with_reducible refine keptBy_next ?_
    | with_reducible apply kept_adm
    | with_reducible apply kept_onFar
    | with_reducible apply kept_elsewhere
    | with_reducible apply kept_updFar
    | with_reducible apply kept_onEp
    | with_reducible apply kept_good
    | with_reducible apply kept_releaseRsv
    | with_reducible refine kept_ite ?_ ?_
    | (fail_if_no_progress (with_reducible refine kept_mk ?_))
    | split
    | dsimp only
    | intro _

/-! ### Machine/AdminPorts.lean -/

theorem kept_portAct {z s : State} (p : Nat) (act : Nat) (w : Word) (hk : Kept z s) : Kept z (portAct s p act w) := by
  unfold portAct
  repeat' first
    | with_reducible assumption
    | with_reducible apply kept_powerOn
    | with_reducible apply kept_portOff
    | with_reducible apply kept_setPort
    | with_reducible apply kept_startReset
    | with_reducible apply kept_disablePort
    | with_reducible apply kept_suspendPort
    | with_reducible apply kept_startResume
    | with_reducible apply kept_wr
    | with_reducible apply kept_emit
    | with_reducible apply kept_noteLink
    | with_reducible apply kept_pwf
    | with_reducible refine kept_ite ?_ ?_
    | (fail_if_no_progress (with_reducible refine kept_mk ?_))
    | split

theorem kept_ownPort {z s : State} (p : Nat) (o : Owner) (hk : Kept z s) : Kept z (ownPort s p o) := by
  unfold ownPort
  repeat' first
    | with_reducible assumption
    | with_reducible apply kept_pwf
    | with_reducible refine kept_ite ?_ ?_
    | (fail_if_no_progress (with_reducible refine kept_mk ?_))
    | split

theorem kept_setPortHere {z s : State} (o : Owner) (e : List Word) (p : Nat) (hk : Kept z s) : Kept z (setPortHere s o e p) := by
  unfold setPortHere
  repeat' first
    | with_reducible assumption
    | with_reducible apply kept_bad
    | with_reducible apply kept_good
    | with_reducible apply kept_portAct
    | with_reducible apply kept_ownPort
    | with_reducible refine kept_ite ?_ ?_

theorem kept_setPortCmd {z s : State} (o : Owner) (e : List Word) (hk : Kept z s) : Kept z (setPortCmd s o e) := by
  unfold setPortCmd
  repeat' first
    | with_reducible assumption
    | with_reducible apply kept_adm
    | with_reducible apply kept_bad
    | with_reducible apply kept_atPos
    | with_reducible apply kept_setPortHere
    | with_reducible refine kept_ite ?_ ?_
    | (fail_if_no_progress (with_reducible refine kept_mk ?_))
    | split
    | dsimp only
    | intro _

theorem kept_execSetPortPowerOn {z : State} (o : Owner) (e : List Word) {s : State} (hk : Kept z s) : KeptBy z (execSetPortPowerOn o e s) := by
  unfold execSetPortPowerOn
  repeat' first
    | with_reducible assumption
    | with_reducible refine keptBy_next ?_
    | with_reducible apply kept_setPortCmd
    | with_reducible refine kept_ite ?_ ?_

theorem kept_execSetPortPowerOff {z : State} (o : Owner) (e : List Word) {s : State} (hk : Kept z s) : KeptBy z (execSetPortPowerOff o e s) := by
  unfold execSetPortPowerOff
  repeat' first
    | with_reducible assumption
    | with_reducible refine keptBy_next ?_
    | with_reducible apply kept_setPortCmd
    | with_reducible refine kept_ite ?_ ?_

theorem kept_execSetPortReset {z : State} (o : Owner) (e : List Word) {s : State} (hk : Kept z s) : KeptBy z (execSetPortReset o e s) := by
  unfold execSetPortReset
  repeat' first
    | with_reducible assumption
    | with_reducible refine keptBy_next ?_
    | with_reducible apply kept_setPortCmd
    | with_reducible refine kept_ite ?_ ?_

theorem kept_execSetPortDisable {z : State} (o : Owner) (e : List Word) {s : State} (hk : Kept z s) : KeptBy z (execSetPortDisable o e s) := by
  unfold execSetPortDisable
  repeat' first
    | with_reducible assumption
    | with_reducible refine keptBy_next ?_
    | with_reducible apply kept_setPortCmd
    | with_reducible refine kept_ite ?_ ?_

theorem kept_execSetPortSuspend {z : State} (o : Owner) (e : List Word) {s : State} (hk : Kept z s) : KeptBy z (execSetPortSuspend o e s) := by
  unfold execSetPortSuspend
  repeat' first
    | with_reducible assumption
    | with_reducible refine keptBy_next ?_
    | with_reducible apply kept_setPortCmd
    | with_reducible refine kept_ite ?_ ?_

theorem kept_execSetPortResume {z : State} (o : Owner) (e : List Word) {s : State} (hk : Kept z s) : KeptBy z (execSetPortResume o e s) := by
  unfold execSetPortResume
  repeat' first
    | with_reducible assumption
    | with_reducible refine keptBy_next ?_
    | with_reducible apply kept_setPortCmd
    | with_reducible refine kept_ite ?_ ?_

theorem kept_execSetPortSetLpm {z : State} (o : Owner) (e : List Word) {s : State} (hk : Kept z s) : KeptBy z (execSetPortSetLpm o e s) := by
  unfold execSetPortSetLpm
  repeat' first
    | with_reducible assumption
    | with_reducible refine keptBy_next ?_
    | with_reducible apply kept_setPortCmd
    | with_reducible refine kept_ite ?_ ?_

theorem kept_execSetPortTest {z : State} (o : Owner) (e : List Word) {s : State} (hk : Kept z s) : KeptBy z (execSetPortTest o e s) := by
  unfold execSetPortTest
  repeat' first
    | with_reducible assumption
    | with_reducible refine keptBy_next ?_
    | with_reducible apply kept_setPortCmd
    | with_reducible refine kept_ite ?_ ?_

theorem kept_execSetPortSetOwner {z : State} (o : Owner) (e : List Word) {s : State} (hk : Kept z s) : KeptBy z (execSetPortSetOwner o e s) := by
  unfold execSetPortSetOwner
  repeat' first
    | with_reducible assumption
    | with_reducible refine keptBy_next ?_
    | with_reducible apply kept_setPortCmd
    | with_reducible refine kept_ite ?_ ?_

theorem kept_execSetPortNoOwner {z : State} (o : Owner) (e : List Word) {s : State} (hk : Kept z s) : KeptBy z (execSetPortNoOwner o e s) := by
  unfold execSetPortNoOwner
  repeat' first
    | with_reducible assumption
    | with_reducible refine keptBy_next ?_
    | with_reducible apply kept_setPortCmd
    | with_reducible refine kept_ite ?_ ?_

theorem kept_execGetPort {z : State} (o : Owner) (e : List Word) {s : State} (hk : Kept z s) : KeptBy z (execGetPort o e s) := by
  unfold execGetPort
  repeat' first
    | with_reducible assumption
    | with_reducible refine keptBy_next ?_
    | with_reducible apply kept_adm
    | with_reducible apply kept_bad
    | with_reducible apply kept_atPos
    | with_reducible apply kept_good
    | with_reducible refine kept_ite ?_ ?_
    | (fail_if_no_progress (with_reducible refine kept_mk ?_))
    | split
    | dsimp only
    | intro _

theorem kept_execGetTopology {z : State} (o : Owner) (e : List Word) {s : State} (hk : Kept z s) : KeptBy z (execGetTopology o e s) := by
  unfold execGetTopology
  repeat' first
    | with_reducible assumption
    | with_reducible refine keptBy_next ?_
    | with_reducible apply kept_adm
    | with_reducible apply kept_bad
    | with_reducible apply kept_atPos
    | with_reducible apply kept_hostWrite
    | with_reducible apply kept_good
    | with_reducible refine kept_ite ?_ ?_
    | (fail_if_no_progress (with_reducible refine kept_mk ?_))
    | split
    | dsimp only
    | intro _

theorem kept_setVoteHere {z s : State} (o : Owner) (e : List Word) (d : Nat) (slot : Nat) (hk : Kept z s) : Kept z (setVoteHere s o e d slot) := by
  unfold setVoteHere
  repeat' first
    | with_reducible assumption
    | with_reducible apply kept_bad
    | with_reducible apply kept_good
    | with_reducible apply kept_castSw
    | with_reducible apply kept_setDom
    | with_reducible refine kept_ite ?_ ?_
    | (fail_if_no_progress (with_reducible refine kept_mk ?_))
    | split
    | dsimp only

theorem kept_execSetVote {z : State} (o : Owner) (e : List Word) {s : State} (hk : Kept z s) : KeptBy z (execSetVote o e s) := by
  unfold execSetVote
  repeat' first
    | with_reducible assumption
    | with_reducible refine keptBy_next ?_
    | with_reducible apply kept_adm
    | with_reducible apply kept_bad
    | with_reducible apply kept_atPos
    | with_reducible apply kept_setVoteHere
    | with_reducible refine kept_ite ?_ ?_
    | (fail_if_no_progress (with_reducible refine kept_mk ?_))
    | split
    | dsimp only
    | intro _

theorem kept_execClearVote {z : State} (o : Owner) (e : List Word) {s : State} (hk : Kept z s) : KeptBy z (execClearVote o e s) := by
  unfold execClearVote
  repeat' first
    | with_reducible assumption
    | with_reducible refine keptBy_next ?_
    | with_reducible apply kept_adm
    | with_reducible apply kept_bad
    | with_reducible apply kept_atPos
    | with_reducible apply kept_dropSw
    | with_reducible apply kept_good
    | with_reducible apply kept_setDom
    | with_reducible refine kept_ite ?_ ?_
    | (fail_if_no_progress (with_reducible refine kept_mk ?_))
    | split
    | dsimp only
    | intro _

/-! ### Machine/AdminQueues.lean -/

theorem kept_createTqHere {z s : State} (o : Owner) (e : List Word) (hk : Kept z s) : Kept z (createTqHere s o e) := by
  unfold createTqHere
  repeat' first
    | with_reducible assumption
    | with_reducible apply kept_bad
    | with_reducible apply kept_setRef
    | with_reducible apply kept_setTq
    | with_reducible apply kept_drawn
    | with_reducible apply kept_good
    | with_reducible apply kept_updEp
    | with_reducible refine kept_ite ?_ ?_
    | (fail_if_no_progress (with_reducible refine kept_mk ?_))
    | split
    | (refine kept_snd (by assumption) ?_)
    | dsimp only

theorem kept_createTqFar {z s : State} (o : Owner) (e : List Word) (hk : Kept z s) : Kept z (createTqFar s o e) := by
  unfold createTqFar
  repeat' first
    | with_reducible assumption
    | with_reducible apply kept_onFar
    | with_reducible apply kept_bad
    | with_reducible apply kept_elsewhere
    | with_reducible apply kept_updFar
    | with_reducible apply kept_setRef
    | with_reducible refine kept_ite ?_ ?_
    | (fail_if_no_progress (with_reducible refine kept_mk ?_))
    | split
    | dsimp only
    | intro _

theorem kept_execCreateTq {z : State} (o : Owner) (e : List Word) {s : State} (hk : Kept z s) : KeptBy z (execCreateTq o e s) := by
  unfold execCreateTq
  repeat' first
    | with_reducible assumption
    | with_reducible refine keptBy_next ?_
    | with_reducible apply kept_adm
    | with_reducible apply kept_bad
    | with_reducible apply kept_createTqHere
    | with_reducible apply kept_createTqFar
    | with_reducible refine kept_ite ?_ ?_
    | (fail_if_no_progress (with_reducible refine kept_mk ?_))
    | split
    | dsimp only
    | intro _

theorem kept_onQueue {z s : State} (o : Owner) (e : List Word) (isCq : Bool) {here : State → State} {far : State → Nat → State} (hk : Kept z s) (he0 : ∀ (x : State), Kept z x → Kept z (here x)) (he1 : ∀ (x : State) (b0 : Nat), Kept z x → Kept z (far x b0)) : Kept z (onQueue s o e isCq here far) := by
  unfold onQueue
  repeat' first
    | with_reducible assumption
    | with_reducible apply kept_bad
    | with_reducible apply he0
    | with_reducible apply he1
    | with_reducible refine kept_ite ?_ ?_
    | (fail_if_no_progress (with_reducible refine kept_mk ?_))
    | split

theorem kept_stopByCmd {z s : State} (o : Owner) (e : List Word) (why : Stop) (hk : Kept z s) : Kept z (stopByCmd s o e why) := by
  unfold stopByCmd
  repeat' first
    | with_reducible assumption
    | with_reducible apply kept_bad
    | with_reducible apply kept_stopTq
    | with_reducible refine kept_ite ?_ ?_
    | (fail_if_no_progress (with_reducible refine kept_mk ?_))
    | split

theorem kept_execDestroyTq {z : State} (o : Owner) (e : List Word) {s : State} (hk : Kept z s) : KeptBy z (execDestroyTq o e s) := by
  unfold execDestroyTq
  repeat' first
    | with_reducible assumption
    | with_reducible refine keptBy_next ?_
    | with_reducible apply kept_adm
    | with_reducible apply kept_onQueue
    | with_reducible apply kept_stopByCmd
    | with_reducible apply kept_waitFar
    | with_reducible refine kept_ite ?_ ?_
    | (fail_if_no_progress (with_reducible refine kept_mk ?_))
    | split
    | dsimp only
    | intro _

theorem kept_execResetTq {z : State} (o : Owner) (e : List Word) {s : State} (hk : Kept z s) : KeptBy z (execResetTq o e s) := by
  unfold execResetTq
  repeat' first
    | with_reducible assumption
    | with_reducible refine keptBy_next ?_
    | with_reducible apply kept_adm
    | with_reducible apply kept_onQueue
    | with_reducible apply kept_stopByCmd
    | with_reducible apply kept_waitFar
    | with_reducible refine kept_ite ?_ ?_
    | (fail_if_no_progress (with_reducible refine kept_mk ?_))
    | split
    | dsimp only
    | intro _

theorem kept_execInvalidateTq {z : State} (o : Owner) (e : List Word) {s : State} (hk : Kept z s) : KeptBy z (execInvalidateTq o e s) := by
  unfold execInvalidateTq
  repeat' first
    | with_reducible assumption
    | with_reducible refine keptBy_next ?_
    | with_reducible apply kept_adm
    | with_reducible apply kept_onQueue
    | with_reducible apply kept_bad
    | with_reducible apply kept_invalidate
    | with_reducible apply kept_good
    | with_reducible apply kept_elsewhere
    | with_reducible refine kept_ite ?_ ?_
    | (fail_if_no_progress (with_reducible refine kept_mk ?_))
    | split
    | (refine kept_fst (by assumption) ?_)
    | dsimp only
    | intro _

theorem kept_execCreateCq {z : State} (o : Owner) (e : List Word) {s : State} (hk : Kept z s) : KeptBy z (execCreateCq o e s) := by
  unfold execCreateCq
  repeat' first
    | with_reducible assumption
    | with_reducible refine keptBy_next ?_
    | with_reducible apply kept_adm
    | with_reducible apply kept_bad
    | with_reducible apply kept_elsewhere
    | with_reducible apply kept_setRef
    | with_reducible apply kept_good
    | with_reducible apply kept_setCq
    | with_reducible apply kept_drawn
    | with_reducible refine kept_ite ?_ ?_
    | (fail_if_no_progress (with_reducible refine kept_mk ?_))
    | split
    | dsimp only
    | intro _

theorem kept_execDestroyCq {z : State} (o : Owner) (e : List Word) {s : State} (hk : Kept z s) : KeptBy z (execDestroyCq o e s) := by
  unfold execDestroyCq
  repeat' first
    | with_reducible assumption
    | with_reducible refine keptBy_next ?_
    | with_reducible apply kept_adm
    | with_reducible apply kept_onQueue
    | with_reducible apply kept_bad
    | with_reducible apply kept_good
    | with_reducible apply kept_dropRef
    | with_reducible apply kept_elsewhere
    | with_reducible refine kept_ite ?_ ?_
    | (fail_if_no_progress (with_reducible refine kept_mk ?_))
    | split
    | dsimp only
    | intro _

theorem kept_freeFarEp {z s : State} (r : QRef) (hk : Kept z s) : Kept z (freeFarEp s r) := by
  unfold freeFarEp
  repeat' first
    | with_reducible assumption
    | with_reducible refine kept_ite ?_ ?_
    | (fail_if_no_progress (with_reducible refine kept_mk ?_))

theorem kept_farStopped {z s : State} (o : Owner) (e : List Word) (hk : Kept z s) : Kept z (farStopped s o e) := by
  unfold farStopped
  repeat' first
    | with_reducible assumption
    | with_reducible apply kept_farAnswer
    | with_reducible apply kept_dropRef
    | with_reducible apply kept_freeFarEp
    | with_reducible apply kept_setRef
    | with_reducible refine kept_ite ?_ ?_
    | (fail_if_no_progress (with_reducible refine kept_mk ?_))
    | split
    | (refine kept_snd (by assumption) ?_)
    | dsimp only
    | intro _

theorem kept_farStops {z s : State} (hk : Kept z s) : Kept z (farStops s) := by
  unfold farStops
  repeat' first
    | with_reducible assumption
    | with_reducible apply kept_each
    | with_reducible apply kept_farStopped
    | with_reducible refine kept_ite ?_ ?_
    | (fail_if_no_progress (with_reducible refine kept_mk ?_))
    | split
    | dsimp only
    | intro _

/-! ### Machine/InstOps.lean -/

theorem kept_cutChain {z s : State} (t : Nat) (hk : Kept z s) : Kept z (cutChain s t) := by
  unfold cutChain
  repeat' first
    | with_reducible assumption
    | with_reducible apply kept_updWork
    | with_reducible apply kept_failLater
    | with_reducible apply kept_serve
    | with_reducible apply kept_updChain
    | with_reducible refine kept_ite ?_ ?_
    | (fail_if_no_progress (with_reducible refine kept_mk ?_))
    | split

theorem kept_dropUnbegun {z s : State} (t : Nat) (hk : Kept z s) : Kept z (dropUnbegun s t) := by
  unfold dropUnbegun
  repeat' first
    | with_reducible assumption
    | with_reducible apply kept_setTq
    | with_reducible refine kept_ite ?_ ?_
    | (fail_if_no_progress (with_reducible refine kept_mk ?_))
    | split

theorem kept_quiesceTqs {z s : State} (o : Owner) (hk : Kept z s) : Kept z (quiesceTqs s o) := by
  unfold quiesceTqs
  repeat' first
    | with_reducible assumption
    | with_reducible apply kept_each
    | with_reducible apply kept_cutChain
    | with_reducible apply kept_dropUnbegun
    | with_reducible refine kept_ite ?_ ?_
    | (fail_if_no_progress (with_reducible refine kept_mk ?_))
    | split
    | dsimp only
    | intro _

theorem kept_tellHomes {z s : State} (t : Owner) (o : Owner) (e : List Word) (hk : Kept z s) : Kept z (tellHomes s t o e) := by
  unfold tellHomes
  repeat' first
    | with_reducible assumption
    | with_reducible apply kept_each
    | with_reducible apply kept_forwardCmd
    | with_reducible refine kept_ite ?_ ?_
    | (fail_if_no_progress (with_reducible refine kept_mk ?_))
    | split
    | dsimp only
    | intro _

theorem kept_endQuiesce {z s : State} (i : Nat) (hk : Kept z s) : Kept z (endQuiesce s i) := by
  unfold endQuiesce
  repeat' first
    | with_reducible assumption
    | with_reducible apply kept_setInst
    | with_reducible apply kept_zeroRead
    | with_reducible apply kept_done
    | with_reducible apply kept_freeStep
    | with_reducible refine kept_ite ?_ ?_
    | (fail_if_no_progress (with_reducible refine kept_mk ?_))
    | split

theorem kept_beginReset {z s : State} (n : Nat) (removing : Bool) (hk : Kept z s) : Kept z (beginReset s n removing) := by
  unfold beginReset
  repeat' first
    | with_reducible assumption
    | with_reducible apply kept_endQuiesce
    | with_reducible apply kept_setInst
    | with_reducible apply kept_err
    | with_reducible apply kept_emits
    | with_reducible apply kept_each
    | with_reducible apply kept_quiesceTqs
    | with_reducible apply kept_drainPosts
    | with_reducible refine kept_ite ?_ ?_
    | (fail_if_no_progress (with_reducible refine kept_mk ?_))

theorem kept_removeTq {z s : State} (t : Nat) (hk : Kept z s) : Kept z (removeTq s t) := by
  unfold removeTq
  repeat' first
    | with_reducible assumption
    | with_reducible apply kept_updEp
    | with_reducible apply kept_freeOp
    | with_reducible apply kept_drainPosts
    | with_reducible apply kept_dropWork
    | with_reducible apply kept_updTq
    | with_reducible apply kept_endStop
    | with_reducible apply kept_writeAbort
    | with_reducible refine kept_ite ?_ ?_
    | (fail_if_no_progress (with_reducible refine kept_mk ?_))
    | split
    | dsimp only

theorem kept_flushMarks {z s : State} (n : Nat) (hk : Kept z s) : Kept z (flushMarks s n) := kept_emits hk _

theorem kept_dropObjects {z s : State} (n : Nat) (hk : Kept z s) : Kept z (dropObjects s n) := by
  unfold dropObjects
  repeat' first
    | with_reducible assumption
    | with_reducible apply kept_each
    | with_reducible apply kept_removeTq
    | with_reducible apply kept_unbind
    | with_reducible refine kept_ite ?_ ?_
    | (fail_if_no_progress (with_reducible refine kept_mk ?_))

theorem kept_dropPorts {z s : State} (n : Nat) (hk : Kept z s) : Kept z (dropPorts s n) := by
  unfold dropPorts
  repeat' first
    | with_reducible assumption
    | with_reducible apply kept_each
    | with_reducible apply kept_pwf
    | with_reducible refine kept_ite ?_ ?_
    | (fail_if_no_progress (with_reducible refine kept_mk ?_))
    | split
    | (refine kept_snd (by assumption) ?_)
    | dsimp only
    | intro _

theorem kept_endReset {z s : State} (n : Nat) (hk : Kept z s) : Kept z (endReset s n) := by
  unfold endReset
  repeat' first
    | with_reducible assumption
    | with_reducible apply kept_dropObjects
    | with_reducible apply kept_setInst
    | with_reducible apply kept_dropPorts
    | with_reducible apply kept_freeStep
    | with_reducible apply kept_zeroRead
    | with_reducible apply kept_evt
    | with_reducible apply kept_flushMarks
    | with_reducible refine kept_ite ?_ ?_

theorem kept_setVfs {z s : State} (num : Nat) (hk : Kept z s) : Kept z (setVfs s num) := by
  unfold setVfs
  repeat' first
    | with_reducible assumption
    | with_reducible apply kept_each
    | with_reducible apply kept_setInst
    | with_reducible apply kept_beginReset
    | with_reducible refine kept_ite ?_ ?_
    | (fail_if_no_progress (with_reducible refine kept_mk ?_))
    | split
    | dsimp only
    | intro _

theorem kept_tenantIn {z s : State} (n : Nat) (hk : Kept z s) : Kept z (tenantIn s n) := by
  unfold tenantIn
  repeat' first
    | with_reducible assumption
    | with_reducible apply kept_evt
    | with_reducible apply kept_setInst
    | with_reducible refine kept_ite ?_ ?_

theorem kept_tenantOut {z s : State} (n : Nat) (hk : Kept z s) : Kept z (tenantOut s n) := by
  unfold tenantOut
  repeat' first
    | with_reducible assumption
    | with_reducible apply kept_evt
    | with_reducible apply kept_setInst
    | with_reducible apply kept_msix
    | with_reducible refine kept_ite ?_ ?_

theorem kept_managerIn {z s : State} (hk : Kept z s) : Kept z (managerIn s) := by
  unfold managerIn
  repeat' first
    | with_reducible assumption
    | with_reducible apply kept_err
    | with_reducible apply kept_setInst
    | with_reducible apply kept_msix
    | with_reducible refine kept_ite ?_ ?_

theorem kept_managerOut {z s : State} (hk : Kept z s) : Kept z (managerOut s) := by
  unfold managerOut
  repeat' first
    | with_reducible assumption
    | with_reducible apply kept_setInst
    | with_reducible apply kept_msix
    | with_reducible refine kept_ite ?_ ?_

theorem kept_mbxDb {z s : State} (v : Word) (hk : Kept z s) : Kept z (mbxDb s v) := by
  unfold mbxDb
  repeat' first
    | with_reducible assumption
    | with_reducible apply kept_managerIn
    | with_reducible apply kept_managerOut
    | with_reducible refine kept_ite ?_ ?_

theorem kept_unmask {z s : State} (o : Owner) (k : MaskCond) (hk : Kept z s) : Kept z (unmask s o k) := by
  unfold unmask
  repeat' first
    | with_reducible assumption
    | with_reducible apply kept_msixFlush
    | with_reducible apply kept_setInst

/-! ### Machine/NvmOps.lean -/

theorem kept_updBegin {z s : State} (reg : Bool) (len : Nat) (hk : Kept z s) : Kept z (updBegin s reg len).2 := by
  unfold updBegin
  repeat' first
    | with_reducible assumption
    | with_reducible refine kept_ite ?_ ?_
    | (fail_if_no_progress (with_reducible refine kept_mk ?_))
    | split
    | (refine kept_snd (by assumption) ?_)
    | dsimp only

theorem kept_updWrite {z s : State} (reg : Bool) (off : Nat) (d : List Byte) (hk : Kept z s) : Kept z (updWrite s reg off d).2 := by
  unfold updWrite
  repeat' first
    | with_reducible assumption
    | with_reducible refine kept_ite ?_ ?_
    | (fail_if_no_progress (with_reducible refine kept_mk ?_))
    | split

theorem kept_updVerify {z s : State} (reg : Bool) (hk : Kept z s) : Kept z (updVerify s reg).2 := by
  unfold updVerify
  repeat' first
    | with_reducible assumption
    | with_reducible apply kept_err
    | with_reducible refine kept_ite ?_ ?_
    | (fail_if_no_progress (with_reducible refine kept_mk ?_))
    | split
    | dsimp only

theorem kept_updActivate {z s : State} (reg : Bool) (hk : Kept z s) : Kept z (updActivate s reg).2 := by
  unfold updActivate
  repeat' first
    | with_reducible assumption
    | with_reducible refine kept_ite ?_ ?_
    | (fail_if_no_progress (with_reducible refine kept_mk ?_))
    | split
    | dsimp only

theorem kept_updConfirm {z s : State} (reg : Bool) (hk : Kept z s) : Kept z (updConfirm s reg).2 := by
  unfold updConfirm
  repeat' first
    | with_reducible assumption
    | with_reducible apply kept_wf
    | with_reducible refine kept_ite ?_ ?_
    | (fail_if_no_progress (with_reducible refine kept_mk ?_))
    | split
    | dsimp only

theorem kept_updShow {z : State} {p : Upd × State} (hk : Kept z p.2) : Kept z (updShow p) := by
  unfold updShow
  repeat' first
    | with_reducible assumption
    | with_reducible apply kept_wb
    | with_reducible apply kept_wf

theorem kept_updOp {z s : State} (hk : Kept z s) : Kept z (updOp s) := by
  unfold updOp
  repeat' first
    | with_reducible assumption
    | with_reducible apply kept_updShow
    | with_reducible apply kept_updBegin
    | with_reducible apply kept_updVerify
    | with_reducible apply kept_updActivate
    | with_reducible apply kept_updConfirm
    | with_reducible refine kept_ite ?_ ?_
    | (fail_if_no_progress (with_reducible refine kept_mk ?_))
    | split

theorem kept_updCtrl {z s : State} (v : Word) (hk : Kept z s) : Kept z (updCtrl s v) := by
  unfold updCtrl
  repeat' first
    | with_reducible assumption
    | with_reducible apply kept_writeFields
    | with_reducible apply kept_updOp
    | with_reducible refine kept_ite ?_ ?_

theorem kept_updData {z s : State} (v : Word) (hk : Kept z s) : Kept z (updData s v) := by
  unfold updData
  repeat' first
    | with_reducible assumption
    | with_reducible apply kept_updWrite
    | with_reducible apply kept_wf
    | with_reducible refine kept_ite ?_ ?_

theorem kept_revoke {z s : State} (v : Word) (hk : Kept z s) : Kept z (revoke s v) := by
  unfold revoke
  repeat' first
    | with_reducible assumption
    | with_reducible apply kept_wf
    | with_reducible refine kept_ite ?_ ?_

theorem kept_updDone {z : State} (o : Owner) (e : List Word) {p : Upd × State} (hk : Kept z p.2) : Kept z (updDone o e p) := by
  exact kept_done _ _ _ _ _ _ (kept_blame _ hk)

theorem kept_updCmd {z s : State} (o : Owner) (e : List Word) (n : Nat) {f : State → Upd × State} (hk : Kept z s) (he0 : ∀ (x : State), Kept z x → Kept z (f x).2) : Kept z (updCmd s o e n f) := by
  unfold updCmd
  repeat' first
    | with_reducible assumption
    | with_reducible apply kept_adm
    | with_reducible apply kept_bad
    | with_reducible apply kept_updDone
    | with_reducible apply kept_waitFar
    | with_reducible apply he0
    | with_reducible refine kept_ite ?_ ?_
    | (fail_if_no_progress (with_reducible refine kept_mk ?_))
    | split
    | (refine kept_fst (by assumption) ?_)
    | (refine kept_snd (by assumption) ?_)
    | dsimp only
    | intro _

/-! ### Machine/ResetOps.lean -/

theorem kept_svcAttach {z s : State} (hk : Kept z s) : Kept z (svcAttach s) := by
  unfold svcAttach
  repeat' first
    | with_reducible assumption
    | with_reducible apply kept_wb
    | with_reducible refine kept_ite ?_ ?_

theorem kept_svcDetach {z s : State} (hk : Kept z s) : Kept z (svcDetach s) := by
  unfold svcDetach
  repeat' first
    | with_reducible assumption
    | with_reducible apply kept_wf
    | with_reducible apply kept_wb
    | with_reducible apply kept_svcVotes
    | with_reducible refine kept_ite ?_ ?_
    | (fail_if_no_progress (with_reducible refine kept_mk ?_))

theorem kept_showRefresh {z s : State} (hk : Kept z s) : Kept z (showRefresh s) := by
  unfold showRefresh
  repeat' first
    | with_reducible assumption
    | with_reducible apply kept_wr

theorem kept_resetCore {z s : State} (cause : Nat) (hk : Kept z s) : Kept z (resetCore s cause) := by
  have hr : tabWf regReset (resetRegs cause s.regs) = true := tabWf_map _ _ _
  have he : ∀ m, Memory.wf m = true → Memory.wf (if (cause == 0 || cause == 4) = true then [] else m) = true := by
    intro m hm
    split
    · rfl
    · exact hm
  unfold resetCore
  exact kept_showRefresh (kept_wb _ _ _ ⟨hk.pending, hk.out, hk.fresh, fun _ => hr, fun w => he _ (hk.ebm w)⟩)

theorem kept_resetChip {z s : State} (cause : Nat) (hk : Kept z s) : Kept z (resetChip s cause) := by
  unfold resetChip
  repeat' first
    | with_reducible assumption
    | with_reducible apply kept_resetCore
    | with_reducible apply kept_wf
    | with_reducible apply kept_incF
    | with_reducible refine kept_ite ?_ ?_

theorem kept_bootFallback {z s : State} (b : Bool) (hk : Kept z s) : Kept z (bootFallback s b) := by
  unfold bootFallback
  repeat' first
    | with_reducible assumption
    | with_reducible apply kept_err
    | with_reducible apply kept_wb
    | with_reducible refine kept_ite ?_ ?_
    | (fail_if_no_progress (with_reducible refine kept_mk ?_))

theorem kept_release {z s : State} (straps : Nat) (hk : Kept z s) : Kept z (release s straps) := by
  unfold release
  repeat' first
    | with_reducible assumption
    | with_reducible apply kept_wf
    | with_reducible apply kept_wb
    | with_reducible apply kept_err
    | with_reducible refine kept_ite ?_ ?_
    | (fail_if_no_progress (with_reducible refine kept_mk ?_))

theorem kept_endBoot {z s : State} (m : Nat) (cause : Nat) (hk : Kept z s) : Kept z (endBoot s m cause) := by
  unfold endBoot
  repeat' first
    | with_reducible assumption
    | with_reducible apply kept_wf
    | with_reducible apply kept_svcAttach
    | with_reducible refine kept_ite ?_ ?_
    | (fail_if_no_progress (with_reducible refine kept_mk ?_))

theorem kept_hashDone {z s : State} (hk : Kept z s) : Kept z (hashDone s) := by
  unfold hashDone
  repeat' first
    | with_reducible assumption
    | with_reducible apply kept_endBoot
    | with_reducible apply kept_bootFallback
    | with_reducible refine kept_ite ?_ ?_
    | (fail_if_no_progress (with_reducible refine kept_mk ?_))
    | split

theorem kept_wakeInstances {z s : State} (hk : Kept z s) : Kept z (wakeInstances s) := by
  unfold wakeInstances
  repeat' first
    | with_reducible assumption
    | with_reducible apply kept_each
    | with_reducible apply kept_setInst
    | with_reducible refine kept_ite ?_ ?_
    | (fail_if_no_progress (with_reducible refine kept_mk ?_))
    | split
    | dsimp only
    | intro _

theorem kept_takeMode {z s : State} (m : Nat) (hk : Kept z s) : Kept z (takeMode s m) := by
  unfold takeMode
  repeat' first
    | with_reducible assumption
    | with_reducible apply kept_wb
    | with_reducible apply kept_wf
    | with_reducible apply kept_svcEvt
    | with_reducible refine kept_ite ?_ ?_
    | (fail_if_no_progress (with_reducible refine kept_mk ?_))

theorem kept_startSchedules {z s : State} (hk : Kept z s) : Kept z (startSchedules s) := by
  unfold startSchedules
  repeat' first
    | with_reducible assumption
    | with_reducible apply kept_wb
    | with_reducible refine kept_ite ?_ ?_
    | (fail_if_no_progress (with_reducible refine kept_mk ?_))

theorem kept_enterHold {z s : State} (hk : Kept z s) : Kept z (enterHold s) := by
  unfold enterHold
  repeat' first
    | with_reducible assumption
    | with_reducible apply kept_wb
    | with_reducible apply kept_dropPlans
    | with_reducible apply kept_takeMode
    | with_reducible apply kept_each
    | with_reducible apply kept_suspendPort
    | with_reducible apply kept_startTrain
    | with_reducible apply kept_setLink
    | with_reducible apply kept_noteBusy
    | with_reducible refine kept_ite ?_ ?_
    | (fail_if_no_progress (with_reducible refine kept_mk ?_))
    | split
    | (refine kept_snd (by assumption) ?_)
    | dsimp only
    | intro _

theorem kept_enterStandalone {z s : State} (hk : Kept z s) : Kept z (enterStandalone s) := by
  unfold enterStandalone
  repeat' first
    | with_reducible assumption
    | with_reducible apply kept_startSchedules
    | with_reducible apply kept_wakeInstances
    | with_reducible apply kept_rewriteWheel
    | with_reducible apply kept_setLink
    | with_reducible apply kept_takeMode
    | with_reducible refine kept_ite ?_ ?_
    | (fail_if_no_progress (with_reducible refine kept_mk ?_))

theorem kept_enterHead {z s : State} (hk : Kept z s) : Kept z (enterHead s) := by
  unfold enterHead
  repeat' first
    | with_reducible assumption
    | with_reducible apply kept_knowHead
    | with_reducible apply kept_takeMode
    | with_reducible apply kept_queueClaim
    | with_reducible apply kept_advanceEpoch
    | with_reducible apply kept_startSchedules
    | with_reducible apply kept_wakeInstances
    | with_reducible apply kept_rewriteWheel

theorem kept_enterMember {z s : State} (hk : Kept z s) : Kept z (enterMember s) := by
  unfold enterMember
  repeat' first
    | with_reducible assumption
    | with_reducible apply kept_startSchedules
    | with_reducible apply kept_rewriteWheel
    | with_reducible apply kept_takeMode

theorem kept_enterRecovery {z s : State} (hk : Kept z s) : Kept z (enterRecovery s) := by
  unfold enterRecovery
  repeat' first
    | with_reducible assumption
    | with_reducible apply kept_each
    | with_reducible apply kept_portOff
    | with_reducible apply kept_wf
    | with_reducible apply kept_rewriteWheel
    | with_reducible apply kept_takeMode
    | with_reducible refine kept_ite ?_ ?_
    | (fail_if_no_progress (with_reducible refine kept_mk ?_))
    | split
    | (refine kept_snd (by assumption) ?_)
    | dsimp only
    | intro _

theorem kept_pendBreak {z s : State} (hk : Kept z s) : Kept z (pendBreak s) := by
  unfold pendBreak
  repeat' first
    | with_reducible assumption
    | with_reducible apply kept_enterSevered
    | with_reducible refine kept_ite ?_ ?_
    | (fail_if_no_progress (with_reducible refine kept_mk ?_))

theorem kept_holdTq {z s : State} (t : Nat) (hk : Kept z s) : Kept z (holdTq s t) := by
  unfold holdTq
  repeat' first
    | with_reducible assumption
    | with_reducible apply kept_finishStop
    | with_reducible apply kept_stopTq
    | with_reducible refine kept_ite ?_ ?_
    | (fail_if_no_progress (with_reducible refine kept_mk ?_))
    | split
    | dsimp only

theorem kept_completeMode {z s : State} (hk : Kept z s) : Kept z (completeMode s) := by
  unfold completeMode
  repeat' first
    | with_reducible assumption
    | with_reducible apply kept_each
    | with_reducible apply kept_holdTq
    | with_reducible apply kept_enterHold
    | with_reducible apply kept_enterStandalone
    | with_reducible apply kept_pendBreak
    | with_reducible apply kept_enterHead
    | with_reducible apply kept_enterMember
    | with_reducible apply kept_enterRecovery
    | with_reducible apply kept_rewriteWheel
    | with_reducible apply kept_takeMode
    | with_reducible refine kept_ite ?_ ?_

end Sys2Proof.Machine
end

