-- ==== Sys2Proof/Laws/KeptEngine.lean ====
section
/-!
SUPPORT. One lemma for each operation: what every operation of the DMA engine, the power states, the mode, the faults and the ring map keeps
(`Kept`: the queue, the outputs, the free values, the canonical form of the register file and of EBM).
-/
namespace Sys2Proof.Machine

/-! ### Machine/DmaOps.lean -/

theorem kept_setCState {z s : State} (ch : Nat) (v : Nat) (hk : Kept z s) : Kept z (setCState s ch v) := by
  unfold setCState
  repeat' first
    | with_reducible assumption
    | with_reducible apply kept_dmaVotes
    | with_reducible apply kept_cwf

theorem kept_chanErr {z s : State} (ch : Nat) (n : Nat) (hk : Kept z s) : Kept z (chanErr s ch n) := by
  unfold chanErr
  repeat' first
    | with_reducible assumption
    | with_reducible apply kept_err

theorem kept_chanEvt {z s : State} (ch : Nat) (n : Nat) (hk : Kept z s) : Kept z (chanEvt s ch n) := by
  unfold chanEvt
  repeat' first
    | with_reducible assumption
    | with_reducible apply kept_evt

theorem kept_busyWr {z s : State} (ch : Nat) (hk : Kept z s) : Kept z (busyWr s ch) := by
  unfold busyWr
  repeat' first
    | with_reducible assumption
    | with_reducible apply kept_chanErr

theorem kept_ebmRanges {z s : State} (x1 : List (Nat × Nat)) (x2 : List Byte) (hk : Kept z s) : Kept z (ebmRanges s x1 x2) := by
  induction x1 generalizing s x2 with
  | nil => exact hk
  | cons r rs ih => exact ih _ (kept_ebmWrote _ _ (kept_ebm hk (wf_memWrite _ _ _)))

theorem kept_putData {z s : State} (ch : Nat) (rs : List (Nat × Nat)) (d : List Byte) (hk : Kept z s) : Kept z (putData s ch rs d) := by
  unfold putData
  repeat' first
    | with_reducible assumption
    | with_reducible apply kept_ebmRanges
    | with_reducible apply kept_sendData
    | with_reducible apply kept_writeRanges
    | with_reducible refine kept_ite ?_ ?_

theorem kept_countBeats {z s : State} (ch : Nat) (n : Nat) (hk : Kept z s) : Kept z (countBeats s ch n) := by
  unfold countBeats
  repeat' first
    | with_reducible assumption
    | with_reducible apply kept_addF
    | with_reducible apply kept_setChan

theorem kept_advance {z s : State} (ch : Nat) (n : Nat) (ws : List Word) (hk : Kept z s) : Kept z (advance s ch n ws) := by
  unfold advance
  repeat' first
    | with_reducible assumption
    | with_reducible apply kept_cpairW
    | with_reducible apply kept_cwf
    | with_reducible refine kept_ite ?_ ?_

theorem kept_moveBytes {z s : State} (ch : Nat) (n : Nat) (d : List Byte) (waits : List (BitVec 16)) (hk : Kept z s) : Kept z (moveBytes s ch n d waits) := by
  unfold moveBytes
  repeat' first
    | with_reducible assumption
    | with_reducible apply kept_foldl
    | with_reducible apply kept_bankDone
    | with_reducible apply kept_cndFlags
    | with_reducible apply kept_arbGrants
    | with_reducible apply kept_putData
    | with_reducible apply kept_advance
    | with_reducible apply kept_countBeats
    | with_reducible apply kept_foldl
    | with_reducible refine kept_ite ?_ ?_

theorem kept_chanError {z s : State} (ch : Nat) (hk : Kept z s) : Kept z (chanError s ch) := by
  unfold chanError
  repeat' first
    | with_reducible assumption
    | with_reducible apply kept_setCState
    | with_reducible apply kept_cwf
    | with_reducible apply kept_setBeats

theorem kept_chanDone {z s : State} (ch : Nat) (hk : Kept z s) : Kept z (chanDone s ch) := by
  unfold chanDone
  repeat' first
    | with_reducible assumption
    | with_reducible apply kept_chanEvt
    | with_reducible apply kept_setCState
    | with_reducible apply kept_cwf
    | with_reducible apply kept_setBeats

theorem kept_chanAsks {z s : State} (ch : Nat) (hk : Kept z s) : Kept z (chanAsks s ch) := by
  unfold chanAsks
  repeat' first
    | with_reducible assumption
    | with_reducible apply kept_bankAsks
    | with_reducible refine kept_ite ?_ ?_

theorem kept_chanReads {z s : State} (ch : Nat) (hk : Kept z s) : Kept z (chanReads s ch) :=
  kept_startBeats _ _ _ (kept_chanAsks ch hk)

theorem kept_pausedNow {z s : State} (ch : Nat) (hk : Kept z s) : Kept z (pausedNow s ch) := by
  unfold pausedNow
  repeat' first
    | with_reducible assumption
    | with_reducible apply kept_chanEvt
    | with_reducible apply kept_setCState
    | with_reducible apply kept_setBeats

theorem kept_powerPause {z s : State} (ch : Nat) (hk : Kept z s) : Kept z (powerPause s ch) := by
  unfold powerPause
  repeat' first
    | with_reducible assumption
    | with_reducible apply kept_cwf
    | with_reducible apply kept_setChan

theorem kept_fetchDesc {z s : State} (ch : Nat) (hk : Kept z s) : Kept z (fetchDesc s ch) := by
  unfold fetchDesc
  repeat' first
    | with_reducible assumption
    | with_reducible apply kept_setCState
    | with_reducible apply kept_readBeats
    | with_reducible apply kept_setChan

theorem kept_nextDesc {z s : State} (ch : Nat) (hk : Kept z s) : Kept z (nextDesc s ch) := by
  unfold nextDesc
  repeat' first
    | with_reducible assumption
    | with_reducible apply kept_setChan
    | with_reducible apply kept_pausedNow
    | with_reducible apply kept_cwf
    | with_reducible apply kept_powerPause
    | with_reducible apply kept_fetchDesc
    | with_reducible refine kept_ite ?_ ?_

theorem kept_paceWith {z s : State} {run : State → Nat → State} (ch : Nat) (hk : Kept z s) (he0 : ∀ (x : State) (y0 : Nat), Kept z x → Kept z (run x y0)) : Kept z (paceWith run s ch) := by
  unfold paceWith
  repeat' first
    | with_reducible assumption
    | with_reducible apply kept_chanErr
    | with_reducible apply kept_cwf
    | with_reducible apply he0
    | with_reducible refine kept_ite ?_ ?_

theorem kept_paceFrom {z s : State} {run : State → Nat → State} (ch : Nat) (hk : Kept z s) (he0 : ∀ (x : State) (y0 : Nat), Kept z x → Kept z (run x y0)) : Kept z (paceFrom run s ch) := by
  unfold paceFrom
  repeat' first
    | with_reducible assumption
    | with_reducible apply kept_each
    | with_reducible apply kept_paceWith
    | with_reducible apply he0
    | with_reducible refine kept_ite ?_ ?_
    | (fail_if_no_progress (with_reducible refine kept_mk ?_))
    | split
    | (refine kept_snd (by assumption) ?_)
    | dsimp only
    | intro _

theorem kept_descEnd {z s : State} {run : State → Nat → State} (ch : Nat) (st : Nat) (hk : Kept z s) (he0 : ∀ (x : State) (y0 : Nat), Kept z x → Kept z (run x y0)) : Kept z (descEnd run s ch st) := by
  unfold descEnd
  repeat' first
    | with_reducible assumption
    | with_reducible apply kept_hostWrite
    | with_reducible apply kept_incF
    | with_reducible apply kept_cwf
    | with_reducible apply kept_chanErr
    | with_reducible apply kept_paceFrom
    | with_reducible apply kept_chanEvt
    | with_reducible apply kept_chanDone
    | with_reducible apply kept_setChan
    | with_reducible apply kept_nextDesc
    | with_reducible apply kept_cpairW
    | with_reducible apply he0
    | with_reducible refine kept_ite ?_ ?_
    | (fail_if_no_progress (with_reducible refine kept_mk ?_))
    | split

theorem kept_endWith {z s : State} {run : State → Nat → State} (ch : Nat) (st : Nat) (hk : Kept z s) (he0 : ∀ (x : State) (y0 : Nat), Kept z x → Kept z (run x y0)) : Kept z (endWith run s ch st) := by
  unfold endWith
  repeat' first
    | with_reducible assumption
    | with_reducible apply kept_setChan
    | with_reducible apply kept_zeroRead
    | with_reducible apply kept_setCState
    | with_reducible apply kept_descEnd
    | with_reducible apply kept_chanDone
    | with_reducible apply kept_chanEvt
    | with_reducible apply kept_chanError
    | with_reducible apply kept_chanErr
    | with_reducible apply he0
    | with_reducible refine kept_ite ?_ ?_

theorem kept_runN {z x1 : State} (x0 : Nat) (x2 : Nat) (hk : Kept z x1) : Kept z (runN x0 x1 x2) := by
  induction x0 generalizing x1 x2 with
  | zero => exact kept_setCState _ _ hk
  | succ f ih =>
    unfold runN
    repeat' first
      | with_reducible assumption
      | with_reducible apply ih
      | with_reducible apply kept_setCState
      | with_reducible apply kept_setChan
      | with_reducible apply kept_chanError
      | with_reducible apply kept_chanErr
      | with_reducible apply kept_endWith
      | with_reducible apply kept_chanReads
      | with_reducible refine kept_ite ?_ ?_

theorem kept_chanRun {z s : State} (ch : Nat) (hk : Kept z s) : Kept z (chanRun s ch) := by
  unfold chanRun
  repeat' first
    | with_reducible assumption
    | with_reducible apply kept_runN

theorem kept_chanPace {z s : State} (ch : Nat) (hk : Kept z s) : Kept z (chanPace s ch) := by
  unfold chanPace
  repeat' first
    | with_reducible assumption
    | with_reducible apply kept_chanRun
    | with_reducible apply kept_setCState
    | with_reducible apply kept_cwf
    | with_reducible refine kept_ite ?_ ?_

theorem kept_chanBegin {z s : State} (ch : Nat) (hk : Kept z s) : Kept z (chanBegin s ch) := by
  unfold chanBegin
  repeat' first
    | with_reducible assumption
    | with_reducible apply kept_setChan
    | with_reducible apply kept_pausedNow
    | with_reducible apply kept_cwf
    | with_reducible apply kept_powerPause
    | with_reducible apply kept_chanPace
    | with_reducible refine kept_ite ?_ ?_

theorem kept_showDesc {z s : State} (ch : Nat) (d : List Word) (hk : Kept z s) : Kept z (showDesc s ch d) := by
  unfold showDesc
  repeat' first
    | with_reducible assumption
    | with_reducible apply kept_cpairW
    | with_reducible apply kept_cwf

theorem kept_takeDesc {z s : State} (ch : Nat) (d : List Word) (hk : Kept z s) : Kept z (takeDesc s ch d) := by
  unfold takeDesc
  repeat' first
    | with_reducible assumption
    | with_reducible apply kept_setChan
    | with_reducible apply kept_showDesc
    | with_reducible apply kept_setBeats
    | with_reducible apply kept_chanBegin
    | with_reducible refine kept_ite ?_ ?_

theorem kept_takeNext {z s : State} (ch : Nat) (next : Option (List Word)) (hk : Kept z s) : Kept z (takeNext s ch next) := by
  unfold takeNext
  repeat' first
    | with_reducible assumption
    | with_reducible apply kept_takeDesc
    | with_reducible refine kept_ite ?_ ?_
    | (fail_if_no_progress (with_reducible refine kept_mk ?_))
    | split

theorem kept_paceEvent {z s : State} (ch : Nat) (hk : Kept z s) : Kept z (paceEvent s ch) := by
  unfold paceEvent
  repeat' first
    | with_reducible assumption
    | with_reducible apply kept_paceWith
    | with_reducible apply kept_chanRun

theorem kept_descFinish {z s : State} (ch : Nat) (st : Nat) (next : Option (List Word)) (hk : Kept z s) : Kept z (descFinish s ch st next) := by
  unfold descFinish
  repeat' first
    | with_reducible assumption
    | with_reducible apply kept_takeNext
    | with_reducible apply kept_descEnd
    | with_reducible apply kept_chanRun

theorem kept_xferEnd {z s : State} (ch : Nat) (st : Nat) (next : Option (List Word)) (hk : Kept z s) : Kept z (xferEnd s ch st next) := by
  unfold xferEnd
  repeat' first
    | with_reducible assumption
    | with_reducible apply kept_takeNext
    | with_reducible apply kept_endWith
    | with_reducible apply kept_chanRun

theorem kept_xferDone {z s : State} (ch : Nat) (d : List Byte) (next : Option (List Word)) (waits : List (BitVec 16)) (hk : Kept z s) : Kept z (xferDone s ch d next waits) := by
  unfold xferDone
  repeat' first
    | with_reducible assumption
    | with_reducible apply kept_takeNext
    | with_reducible apply kept_xferEnd
    | with_reducible apply kept_eccLog
    | with_reducible apply kept_moveBytes
    | with_reducible apply kept_endBeats
    | with_reducible refine kept_ite ?_ ?_
    | (fail_if_no_progress (with_reducible refine kept_mk ?_))
    | split

theorem kept_barrierDone {z s : State} (ch : Nat) (next : Option (List Word)) (hk : Kept z s) : Kept z (barrierDone s ch next) := by
  unfold barrierDone
  repeat' first
    | with_reducible assumption
    | with_reducible apply kept_descFinish
    | with_reducible apply kept_chanDone
    | with_reducible apply kept_chanEvt
    | with_reducible apply kept_chanError
    | with_reducible apply kept_chanErr
    | with_reducible refine kept_ite ?_ ?_

theorem kept_descLost {z s : State} (ch : Nat) (hk : Kept z s) : Kept z (descLost s ch) := by
  unfold descLost
  repeat' first
    | with_reducible assumption
    | with_reducible apply kept_chanError
    | with_reducible apply kept_chanErr
    | with_reducible apply kept_setChan
    | with_reducible refine kept_ite ?_ ?_

theorem kept_pauseChan {z s : State} (ch : Nat) (hk : Kept z s) : Kept z (pauseChan s ch) := by
  unfold pauseChan
  repeat' first
    | with_reducible assumption
    | with_reducible apply kept_setCState
    | with_reducible apply kept_pausedNow
    | with_reducible apply kept_setChan
    | with_reducible refine kept_ite ?_ ?_

theorem kept_forcePause {z s : State} (ch : Nat) (hk : Kept z s) : Kept z (forcePause s ch) := by
  unfold forcePause
  repeat' first
    | with_reducible assumption
    | with_reducible apply kept_pauseChan
    | with_reducible apply kept_powerPause
    | with_reducible apply kept_setChan
    | with_reducible refine kept_ite ?_ ?_

theorem kept_resumeChan {z s : State} (ch : Nat) (hk : Kept z s) : Kept z (resumeChan s ch) := by
  unfold resumeChan
  repeat' first
    | with_reducible assumption
    | with_reducible apply kept_cwf
    | with_reducible apply kept_setChan
    | with_reducible apply kept_powerPause
    | with_reducible apply kept_startBeats
    | with_reducible apply kept_setCState
    | with_reducible apply kept_relayMove
    | with_reducible apply kept_takeNext
    | with_reducible apply kept_fetchDesc
    | with_reducible apply kept_chanPace
    | with_reducible apply kept_chanRun
    | with_reducible refine kept_ite ?_ ?_
    | (fail_if_no_progress (with_reducible refine kept_mk ?_))
    | split

theorem kept_resumePowered {z s : State} (hk : Kept z s) : Kept z (resumePowered s) := by
  unfold resumePowered
  repeat' first
    | with_reducible assumption
    | with_reducible apply kept_each
    | with_reducible apply kept_resumeChan
    | with_reducible refine kept_ite ?_ ?_
    | (fail_if_no_progress (with_reducible refine kept_mk ?_))
    | split
    | dsimp only
    | intro _

theorem kept_advancePlan {z s : State} (ch : Nat) (n : Nat) (ws : List Word) (hk : Kept z s) : Kept z (advancePlan s ch n ws) := by
  unfold advancePlan
  repeat' first
    | with_reducible assumption
    | with_reducible apply kept_advance
    | with_reducible apply kept_cpairW
    | with_reducible apply kept_cwf
    | with_reducible refine kept_ite ?_ ?_

theorem kept_pausedReads {z s : State} (ch : Nat) (moved : Nat) (hk : Kept z s) : KeptIn z id (pausedReads s ch moved) := by
  unfold pausedReads
  refine keptIn_ite (keptIn_some hk) (keptIn_ite keptIn_none (keptIn_some ?_))
  exact kept_each hk (fun _ _ h => kept_readBeat _ _ _ h)

theorem kept_drainParked {z s : State} (ch : Nat) (hk : Kept z s) : Kept z (drainParked s ch) := by
  unfold drainParked
  repeat' first
    | with_reducible assumption
    | with_reducible apply kept_setChan
    | with_reducible refine kept_ite ?_ ?_

theorem kept_chanPaused {z s0 : State} (ch : Nat) (moved : Nat) (d : List Byte) (hk : Kept z s0) : Kept z (chanPaused s0 ch moved d) := by
  unfold chanPaused
  repeat' first
    | with_reducible assumption
    | with_reducible apply kept_drainParked
    | with_reducible apply kept_resumePowered
    | with_reducible apply kept_xferEnd
    | with_reducible apply kept_eccLog
    | with_reducible apply kept_moveBytes
    | with_reducible apply kept_pausedNow
    | with_reducible apply kept_advancePlan
    | with_reducible refine kept_ite ?_ ?_
    | (fail_if_no_progress (with_reducible refine kept_mk ?_))
    | split
    | (refine kept_pausedReads _ _ ?_ _ (by assumption))

theorem kept_chanStart {z s : State} (ch : Nat) (desc : Option (List Word)) (hk : Kept z s) : Kept z (chanStart s ch desc) := by
  unfold chanStart
  repeat' first
    | with_reducible assumption
    | with_reducible apply kept_busyWr
    | with_reducible apply kept_takeNext
    | with_reducible apply kept_nextDesc
    | with_reducible apply kept_chanBegin
    | with_reducible apply kept_setChan
    | with_reducible refine kept_ite ?_ ?_

theorem kept_ctrlBusy {z s : State} (ch : Nat) (v : Word) (hk : Kept z s) : Kept z (ctrlBusy s ch v) := by
  unfold ctrlBusy
  repeat' first
    | with_reducible assumption
    | with_reducible apply kept_writeFields
    | with_reducible apply kept_setCState
    | with_reducible apply kept_setChan
    | with_reducible apply kept_pauseChan
    | with_reducible apply kept_resumeChan
    | with_reducible apply kept_busyWr
    | with_reducible refine kept_ite ?_ ?_

theorem kept_dmaCtrl {z s : State} (ch : Nat) (v : Word) (desc : Option (List Word)) (hk : Kept z s) : Kept z (dmaCtrl s ch v desc) := by
  unfold dmaCtrl
  repeat' first
    | with_reducible assumption
    | with_reducible apply kept_writeFields
    | with_reducible apply kept_chanStart
    | with_reducible apply kept_ctrlBusy
    | with_reducible refine kept_ite ?_ ?_

theorem kept_dmaWrite {z s : State} (src : Src) (page : Nat) (off : Nat) (v : Word) {eff : State → State} (hk : Kept z s) (he0 : ∀ (x : State), Kept z x → Kept z (eff x)) : Kept z (dmaWrite s src page off v eff) := by
  unfold dmaWrite
  repeat' first
    | with_reducible assumption
    | with_reducible apply kept_refuseAccess
    | with_reducible apply kept_dmaCtrl
    | with_reducible apply kept_busyWr
    | with_reducible apply he0
    | with_reducible refine kept_ite ?_ ?_

/-! ### Machine/DeepOps.lean -/

theorem kept_chipRefuse {z s : State} (cause : Nat) (hk : Kept z s) : Kept z (chipRefuse s cause) := by
  unfold chipRefuse
  repeat' first
    | with_reducible assumption
    | with_reducible apply kept_powerRefuse

theorem kept_closeStep {z s : State} (hk : Kept z s) : Kept z (closeStep s) := by
  unfold closeStep
  repeat' first
    | with_reducible assumption
    | with_reducible apply kept_svcDetach
    | with_reducible apply kept_closeNow
    | with_reducible refine kept_ite ?_ ?_
    | (fail_if_no_progress (with_reducible refine kept_mk ?_))

theorem kept_enterDeep {z s : State} (target : Nat) (hk : Kept z s) : Kept z (enterDeep s target) := by
  unfold enterDeep
  repeat' first
    | with_reducible assumption
    | with_reducible apply kept_wb
    | with_reducible apply kept_each
    | with_reducible apply kept_portOff
    | with_reducible apply kept_goneDevs
    | with_reducible apply kept_closeStep
    | with_reducible refine kept_ite ?_ ?_
    | (fail_if_no_progress (with_reducible refine kept_mk ?_))
    | split
    | dsimp only
    | intro _

theorem kept_chipRequest {z s : State} (target : Nat) (force : Bool) (hk : Kept z s) : Kept z (chipRequest s target force) := by
  unfold chipRequest
  repeat' first
    | with_reducible assumption
    | with_reducible apply kept_chipRefuse
    | with_reducible apply kept_refuseByVote
    | with_reducible apply kept_powerRefuse
    | with_reducible apply kept_enterDeep
    | with_reducible refine kept_ite ?_ ?_
    | (fail_if_no_progress (with_reducible refine kept_mk ?_))
    | split

theorem kept_pwrChip {z s : State} (v : Word) (hk : Kept z s) : Kept z (pwrChip s v) := by
  unfold pwrChip
  repeat' first
    | with_reducible assumption
    | with_reducible apply kept_chipRequest
    | with_reducible refine kept_ite ?_ ?_

theorem kept_stopEntry {z s : State} (hk : Kept z s) : Kept z (stopEntry s) := by
  unfold stopEntry
  repeat' first
    | with_reducible assumption
    | with_reducible refine kept_ite ?_ ?_
    | (fail_if_no_progress (with_reducible refine kept_mk ?_))

theorem kept_copyDone {z s : State} (ok : Bool) (hk : Kept z s) : Kept z (copyDone s ok) := by
  unfold copyDone
  repeat' first
    | with_reducible assumption
    | with_reducible apply kept_closeStep
    | with_reducible apply kept_stopEntry
    | with_reducible refine kept_ite ?_ ?_

theorem kept_switchStuck {z s : State} (hk : Kept z s) : Kept z (switchStuck s) := by
  unfold switchStuck
  repeat' first
    | with_reducible assumption
    | with_reducible apply kept_report
    | with_reducible apply kept_stopEntry
    | with_reducible refine kept_ite ?_ ?_

theorem kept_undone {z s : State} (hk : Kept z s) : Kept z (undone s) := by
  unfold undone
  repeat' first
    | with_reducible assumption
    | with_reducible apply kept_wb
    | with_reducible apply kept_svcAttach
    | with_reducible apply kept_joinRing
    | with_reducible apply kept_powerWho
    | with_reducible apply kept_incF
    | with_reducible apply kept_err
    | with_reducible refine kept_ite ?_ ?_
    | (fail_if_no_progress (with_reducible refine kept_mk ?_))

theorem kept_startExit {z s : State} (cause : Nat) (hk : Kept z s) : Kept z (startExit s cause) := by
  unfold startExit
  repeat' first
    | with_reducible assumption
    | with_reducible apply kept_incF
    | with_reducible apply kept_wf
    | with_reducible apply kept_resetChip
    | with_reducible apply kept_wb
    | with_reducible refine kept_ite ?_ ?_
    | (fail_if_no_progress (with_reducible refine kept_mk ?_))

theorem kept_deepLoss {z s : State} (hk : Kept z s) : Kept z (deepLoss s) := by
  have h1 := fun q => kept_dropPlans (s := { s with que := q }) (kept_mk hk)
  have h2 : Memory.wf [] = true := rfl
  unfold deepLoss
  exact kept_ite (kept_ebm (h1 _) (fun _ => h2)) (h1 _)

theorem kept_lockGone {z s : State} (hk : Kept z s) : Kept z (lockGone s) := by
  unfold lockGone
  repeat' first
    | with_reducible assumption
    | with_reducible apply kept_timeLost
    | with_reducible refine kept_ite ?_ ?_

theorem kept_deepDone {z s : State} (hk : Kept z s) : Kept z (deepDone s) := by
  unfold deepDone
  repeat' first
    | with_reducible assumption
    | with_reducible apply kept_wb
    | with_reducible apply kept_wf
    | with_reducible apply kept_deepLoss
    | with_reducible apply kept_lockGone
    | with_reducible apply kept_showRefresh
    | with_reducible apply kept_startExit
    | with_reducible refine kept_ite ?_ ?_
    | (fail_if_no_progress (with_reducible refine kept_mk ?_))
    | split
    | (refine kept_snd (by assumption) ?_)
    | dsimp only

theorem kept_exitDone {z s : State} (hk : Kept z s) : Kept z (exitDone s) := by
  unfold exitDone
  repeat' first
    | with_reducible assumption
    | with_reducible apply kept_wb
    | with_reducible apply kept_wf
    | with_reducible apply kept_showRefresh
    | with_reducible apply kept_svcEvt
    | with_reducible apply kept_evt
    | with_reducible apply kept_svcAttach
    | with_reducible refine kept_ite ?_ ?_
    | (fail_if_no_progress (with_reducible refine kept_mk ?_))

theorem kept_forceDown {z s : State} (hk : Kept z s) : Kept z (forceDown s) := by
  unfold forceDown
  repeat' first
    | with_reducible assumption
    | with_reducible apply kept_resetCore
    | with_reducible apply kept_lockGone
    | with_reducible apply kept_wb
    | with_reducible apply kept_wf
    | with_reducible refine kept_ite ?_ ?_
    | (fail_if_no_progress (with_reducible refine kept_mk ?_))

theorem kept_forceWrite {z s : State} (v : Word) (hk : Kept z s) : Kept z (forceWrite s v) := by
  unfold forceWrite
  repeat' first
    | with_reducible assumption
    | with_reducible apply kept_forceDown
    | with_reducible refine kept_ite ?_ ?_

theorem kept_wrPair {z s : State} (page : Nat) (off : Nat) (v : BitVec 64) (hk : Kept z s) : Kept z (wrPair s page off v) := by
  unfold wrPair
  repeat' first
    | with_reducible assumption
    | with_reducible apply kept_wr

theorem kept_armAlarm {z s : State} (at_ : BitVec 64) (cause : BitVec 3) (hk : Kept z s) : Kept z (armAlarm s at_ cause) := by
  unfold armAlarm
  repeat' first
    | with_reducible assumption
    | with_reducible apply kept_wb
    | with_reducible apply kept_wrPair
    | with_reducible refine kept_ite ?_ ?_
    | (fail_if_no_progress (with_reducible refine kept_mk ?_))

theorem kept_thermalP5 {z s : State} (hk : Kept z s) : Kept z (thermalP5 s) := by
  unfold thermalP5
  repeat' first
    | with_reducible assumption
    | with_reducible apply kept_armAlarm
    | with_reducible apply kept_forceDown

theorem kept_alarmCtrl {z s : State} (v : Word) (hk : Kept z s) : Kept z (alarmCtrl s v) := by
  unfold alarmCtrl
  repeat' first
    | with_reducible assumption
    | with_reducible apply kept_writeFields
    | with_reducible apply kept_armAlarm
    | with_reducible refine kept_ite ?_ ?_
    | (fail_if_no_progress (with_reducible refine kept_mk ?_))

theorem kept_fire {z s : State} (hk : Kept z s) : Kept z (fire s) := by
  unfold fire
  repeat' first
    | with_reducible assumption
    | with_reducible apply kept_wb
    | with_reducible apply kept_evt
    | with_reducible apply kept_startExit
    | with_reducible refine kept_ite ?_ ?_
    | (fail_if_no_progress (with_reducible refine kept_mk ?_))
    | split
    | dsimp only

theorem kept_tick {z s : State} (hk : Kept z s) : Kept z (tick s) := by
  unfold tick
  repeat' first
    | with_reducible assumption
    | with_reducible apply kept_wrPair
    | with_reducible apply kept_fire
    | with_reducible refine kept_ite ?_ ?_
    | (fail_if_no_progress (with_reducible refine kept_mk ?_))

theorem kept_powerLost {z s : State} (hk : Kept z s) : Kept z (powerLost s) := by
  unfold powerLost
  repeat' first
    | with_reducible assumption
    | with_reducible apply kept_resetCore
    | with_reducible refine kept_ite ?_ ?_
    | (fail_if_no_progress (with_reducible refine kept_mk ?_))

theorem kept_forceDom {z s : State} (d : Nat) (target : Nat) (hk : Kept z s) : Kept z (forceDom s d target) := by
  unfold forceDom
  repeat' first
    | with_reducible assumption
    | with_reducible apply kept_setDom
    | with_reducible apply kept_each
    | with_reducible apply kept_forcePause
    | with_reducible apply kept_suspendPort
    | with_reducible apply kept_forceP1
    | with_reducible refine kept_ite ?_ ?_
    | (fail_if_no_progress (with_reducible refine kept_mk ?_))
    | split
    | (refine kept_snd (by assumption) ?_)
    | dsimp only
    | intro _

theorem kept_releaseDom {z s : State} (d : Nat) (hk : Kept z s) : Kept z (releaseDom s d) := by
  unfold releaseDom
  repeat' first
    | with_reducible assumption
    | with_reducible apply kept_resumePowered
    | with_reducible apply kept_setDom
    | with_reducible apply kept_wakeCluster
    | with_reducible refine kept_ite ?_ ?_

theorem kept_domRequest {z s : State} (target : Nat) (force : Bool) (hk : Kept z s) : Kept z (domRequest s target force) := by
  unfold domRequest
  repeat' first
    | with_reducible assumption
    | with_reducible apply kept_powerRefuse
    | with_reducible apply kept_releaseDom
    | with_reducible apply kept_forceDom
    | with_reducible apply kept_refuseByVote
    | with_reducible apply kept_setDom
    | with_reducible refine kept_ite ?_ ?_

theorem kept_domCmd {z s : State} (v : Word) (hk : Kept z s) : Kept z (domCmd s v) := by
  unfold domCmd
  repeat' first
    | with_reducible assumption
    | with_reducible apply kept_domRequest
    | with_reducible refine kept_ite ?_ ?_

theorem kept_p2Done {z s : State} (d : Nat) (hk : Kept z s) : Kept z (p2Done s d) := by
  unfold p2Done
  repeat' first
    | with_reducible assumption
    | with_reducible apply kept_islandVotes
    | with_reducible apply kept_setDom
    | with_reducible refine kept_ite ?_ ?_

theorem kept_exitedDom {z s : State} (d : Nat) (hk : Kept z s) : Kept z (exitedDom s d) := by
  unfold exitedDom
  repeat' first
    | with_reducible assumption
    | with_reducible apply kept_forceP1
    | with_reducible apply kept_setDom
    | with_reducible apply kept_resumePowered
    | with_reducible apply kept_islandVotes
    | with_reducible apply kept_wakeCluster
    | with_reducible refine kept_ite ?_ ?_
    | (fail_if_no_progress (with_reducible refine kept_mk ?_))
    | split

/-! ### Machine/EngineOps.lean -/

theorem kept_setEng {z s : State} (k : Nat) (r : EngRec) (hk : Kept z s) : Kept z (setEng s k r) := by
  unfold setEng
  repeat' first
    | with_reducible assumption
    | with_reducible refine kept_ite ?_ ?_
    | (fail_if_no_progress (with_reducible refine kept_mk ?_))

theorem kept_setEngState {z s : State} (e : Engine) (v : Nat) (hk : Kept z s) : Kept z (setEngState s e v) := by
  unfold setEngState
  repeat' first
    | with_reducible assumption
    | with_reducible apply kept_wf
    | with_reducible apply kept_setEng
    | with_reducible refine kept_ite ?_ ?_
    | (fail_if_no_progress (with_reducible refine kept_mk ?_))
    | split

theorem kept_countExpiry {z s : State} (e : Engine) (hk : Kept z s) : Kept z (countExpiry s e) := by
  unfold countExpiry
  repeat' first
    | with_reducible assumption
    | with_reducible apply kept_incF
    | with_reducible refine kept_ite ?_ ?_
    | (fail_if_no_progress (with_reducible refine kept_mk ?_))
    | split

theorem kept_resendCredits {z s : State} (hk : Kept z s) : Kept z (resendCredits s) := by
  unfold resendCredits
  repeat' first
    | with_reducible assumption
    | with_reducible apply kept_each
    | with_reducible apply kept_sendCredit

theorem kept_failCommands {z s : State} (te : Nat) (ref : Option Word) (hk : Kept z s) : Kept z (failCommands s te ref) := by
  unfold failCommands
  repeat' first
    | with_reducible assumption
    | with_reducible apply kept_done
    | with_reducible apply kept_blame
    | with_reducible apply kept_each
    | with_reducible apply kept_updTq
    | with_reducible apply kept_setInst
    | with_reducible refine kept_ite ?_ ?_
    | (fail_if_no_progress (with_reducible refine kept_mk ?_))
    | split
    | (refine kept_snd (by assumption) ?_)
    | dsimp only
    | intro _

theorem kept_engLost {z s : State} (e : Engine) (ref : Word) (hk : Kept z s) : Kept z (engLost s e ref) := by
  unfold engLost
  repeat' first
    | with_reducible assumption
    | with_reducible apply kept_each
    | with_reducible apply kept_endWalk
    | with_reducible apply kept_failCommands
    | with_reducible apply kept_resendCredits
    | with_reducible refine kept_ite ?_ ?_
    | (fail_if_no_progress (with_reducible refine kept_mk ?_))
    | split

theorem kept_engErr {z s : State} (e : Engine) (hk : Kept z s) : Kept z (engErr s e) := by
  unfold engErr
  repeat' first
    | with_reducible assumption
    | with_reducible apply kept_errBit
    | with_reducible refine kept_ite ?_ ?_
    | (fail_if_no_progress (with_reducible refine kept_mk ?_))
    | split

theorem kept_engExpire {z s : State} (e : Engine) (hk : Kept z s) : Kept z (engExpire s e) := by
  unfold engExpire
  repeat' first
    | with_reducible assumption
    | with_reducible apply kept_noteExpiry
    | with_reducible apply kept_engErr
    | with_reducible apply kept_countExpiry
    | with_reducible apply kept_reportRef
    | with_reducible apply kept_report
    | with_reducible apply kept_errBit
    | with_reducible apply kept_setEngState
    | with_reducible apply kept_engLost
    | with_reducible apply kept_setEng
    | with_reducible refine kept_ite ?_ ?_

theorem kept_missBeat {z s : State} (e : Engine) (hk : Kept z s) : Kept z (missBeat s e) := by
  unfold missBeat
  repeat' first
    | with_reducible assumption
    | with_reducible apply kept_setEng
    | with_reducible apply kept_wf
    | with_reducible apply kept_incF
    | with_reducible apply kept_errBit
    | with_reducible apply kept_engExpire
    | with_reducible refine kept_ite ?_ ?_

theorem kept_heartbeats {z s : State} (missed : List Engine) (hk : Kept z s) : Kept z (heartbeats s missed) := by
  unfold heartbeats
  repeat' first
    | with_reducible assumption
    | with_reducible apply kept_each
    | with_reducible apply kept_missBeat
    | with_reducible refine kept_ite ?_ ?_
    | (fail_if_no_progress (with_reducible refine kept_mk ?_))

theorem kept_dutiesReturn {z s : State} (hk : Kept z s) : Kept z (dutiesReturn s) := by
  unfold dutiesReturn
  repeat' first
    | with_reducible assumption
    | with_reducible apply kept_handBacks
    | with_reducible refine kept_ite ?_ ?_
    | (fail_if_no_progress (with_reducible refine kept_mk ?_))

/-! ### Machine/Boot.lean -/

theorem kept_feedUp {z s : State} (hk : Kept z s) : Kept z (feedUp s) := by
  unfold feedUp
  repeat' first
    | with_reducible assumption
    | with_reducible apply kept_resetChip
    | with_reducible refine kept_ite ?_ ?_
    | (fail_if_no_progress (with_reducible refine kept_mk ?_))

theorem kept_execColdPowerUp {z s : State} (hk : Kept z s) : KeptBy z (execColdPowerUp s) := by
  unfold execColdPowerUp
  repeat' first
    | with_reducible assumption
    | with_reducible refine keptBy_next ?_
    | with_reducible apply kept_feedUp

theorem kept_execChipReset {z : State} (cause : BitVec 3) {s : State} (hk : Kept z s) : KeptBy z (execChipReset cause s) := by
  unfold execChipReset
  repeat' first
    | with_reducible assumption
    | with_reducible refine keptBy_next ?_
    | with_reducible apply kept_resetChip
    | with_reducible refine kept_ite ?_ ?_

theorem kept_execChipResetReleased {z : State} (straps : BitVec 6) {s : State} (hk : Kept z s) : KeptBy z (execChipResetReleased straps s) := by
  unfold execChipResetReleased
  repeat' first
    | with_reducible assumption
    | with_reducible refine keptBy_next ?_
    | with_reducible apply kept_release
    | with_reducible refine kept_ite ?_ ?_

theorem kept_exitBooted {z s : State} (hk : Kept z s) : Kept z (exitBooted s) := by
  unfold exitBooted
  repeat' first
    | with_reducible assumption
    | with_reducible apply kept_svcEvt
    | with_reducible apply kept_evt
    | with_reducible apply kept_thermalP5
    | with_reducible apply kept_freeStep
    | with_reducible refine kept_ite ?_ ?_

theorem kept_execImageHashChecked {z s : State} (hk : Kept z s) : KeptBy z (execImageHashChecked s) := by
  unfold execImageHashChecked
  repeat' first
    | with_reducible assumption
    | with_reducible refine keptBy_next ?_
    | with_reducible apply kept_exitBooted
    | with_reducible apply kept_hashDone
    | with_reducible refine kept_ite ?_ ?_

theorem kept_bootDone {z s : State} (hk : Kept z s) : Kept z (bootDone s) := by
  unfold bootDone
  repeat' first
    | with_reducible assumption
    | with_reducible apply kept_endBoot
    | with_reducible apply kept_exitBooted
    | with_reducible refine kept_ite ?_ ?_
    | (fail_if_no_progress (with_reducible refine kept_mk ?_))

theorem kept_execBootComplete {z s : State} (hk : Kept z s) : KeptBy z (execBootComplete s) := by
  unfold execBootComplete
  repeat' first
    | with_reducible assumption
    | with_reducible refine keptBy_next ?_
    | with_reducible apply kept_bootDone
    | with_reducible refine kept_ite ?_ ?_

theorem kept_bootLate {z s : State} (hk : Kept z s) : Kept z (bootLate s) := by
  unfold bootLate
  repeat' first
    | with_reducible assumption
    | with_reducible apply kept_incF
    | with_reducible apply kept_resetChip

theorem kept_execBootWdogExpire {z s : State} (hk : Kept z s) : KeptBy z (execBootWdogExpire s) := by
  unfold execBootWdogExpire
  repeat' first
    | with_reducible assumption
    | with_reducible refine keptBy_next ?_
    | with_reducible apply kept_bootLate
    | with_reducible refine kept_ite ?_ ?_

theorem kept_execChipWdogKick {z s : State} (hk : Kept z s) : KeptBy z (execChipWdogKick s) := by
  unfold execChipWdogKick
  repeat' first
    | with_reducible assumption
    | with_reducible refine keptBy_next ?_
    | with_reducible refine kept_ite ?_ ?_
    | (fail_if_no_progress (with_reducible refine kept_mk ?_))

theorem kept_wdogReset {z s : State} (hk : Kept z s) : Kept z (wdogReset s) := by
  unfold wdogReset
  repeat' first
    | with_reducible assumption
    | with_reducible apply kept_resetChip
    | with_reducible apply kept_closeNow
    | with_reducible apply kept_sbdFault

theorem kept_execChipWdogExpire {z s : State} (hk : Kept z s) : KeptBy z (execChipWdogExpire s) := by
  unfold execChipWdogExpire
  repeat' first
    | with_reducible assumption
    | with_reducible refine keptBy_next ?_
    | with_reducible apply kept_wdogReset
    | with_reducible refine kept_ite ?_ ?_

theorem kept_execActivateRestart {z s : State} (hk : Kept z s) : KeptBy z (execActivateRestart s) := by
  unfold execActivateRestart
  repeat' first
    | with_reducible assumption
    | with_reducible refine keptBy_next ?_
    | with_reducible apply kept_resetChip
    | with_reducible refine kept_ite ?_ ?_

/-! ### Machine/Mode.lean -/

theorem kept_modeCmd {z s : State} (src : Src) (v : Nat) (hk : Kept z s) : Kept z (modeCmd s src v) := by
  unfold modeCmd
  repeat' first
    | with_reducible assumption
    | with_reducible apply kept_gatedW
    | with_reducible apply kept_modeWrite
    | with_reducible refine kept_ite ?_ ?_
    | (fail_if_no_progress (with_reducible refine kept_mk ?_))
    | split
    | dsimp only
    | intro _

theorem kept_execModeWriteHold {z : State} (src : Src) {s : State} (hk : Kept z s) : KeptBy z (execModeWriteHold src s) := by
  unfold execModeWriteHold
  repeat' first
    | with_reducible assumption
    | with_reducible refine keptBy_next ?_
    | with_reducible apply kept_modeCmd

theorem kept_execModeWriteStandalone {z : State} (src : Src) {s : State} (hk : Kept z s) : KeptBy z (execModeWriteStandalone src s) := by
  unfold execModeWriteStandalone
  repeat' first
    | with_reducible assumption
    | with_reducible refine keptBy_next ?_
    | with_reducible apply kept_modeCmd

theorem kept_execModeWriteHead {z : State} (src : Src) {s : State} (hk : Kept z s) : KeptBy z (execModeWriteHead src s) := by
  unfold execModeWriteHead
  repeat' first
    | with_reducible assumption
    | with_reducible refine keptBy_next ?_
    | with_reducible apply kept_modeCmd

theorem kept_execModeWriteMember {z : State} (src : Src) {s : State} (hk : Kept z s) : KeptBy z (execModeWriteMember src s) := by
  unfold execModeWriteMember
  repeat' first
    | with_reducible assumption
    | with_reducible refine keptBy_next ?_
    | with_reducible apply kept_modeCmd

theorem kept_execModeWriteLoop {z : State} (src : Src) {s : State} (hk : Kept z s) : KeptBy z (execModeWriteLoop src s) := by
  unfold execModeWriteLoop
  repeat' first
    | with_reducible assumption
    | with_reducible refine keptBy_next ?_
    | with_reducible apply kept_modeCmd

theorem kept_execModeWriteRecovery {z : State} (src : Src) {s : State} (hk : Kept z s) : KeptBy z (execModeWriteRecovery src s) := by
  unfold execModeWriteRecovery
  repeat' first
    | with_reducible assumption
    | with_reducible refine keptBy_next ?_
    | with_reducible apply kept_modeCmd

theorem kept_execModeWriteVault {z : State} (src : Src) {s : State} (hk : Kept z s) : KeptBy z (execModeWriteVault src s) := by
  unfold execModeWriteVault
  repeat' first
    | with_reducible assumption
    | with_reducible refine keptBy_next ?_
    | with_reducible apply kept_modeCmd

theorem kept_execModeWriteRejoin {z : State} (src : Src) (v : BitVec 3) {s : State} (hk : Kept z s) : KeptBy z (execModeWriteRejoin src v s) := by
  unfold execModeWriteRejoin
  repeat' first
    | with_reducible assumption
    | with_reducible refine keptBy_next ?_
    | with_reducible apply kept_modeCmd

theorem kept_execModeTransitionComplete {z s : State} (hk : Kept z s) : KeptBy z (execModeTransitionComplete s) := by
  unfold execModeTransitionComplete
  repeat' first
    | with_reducible assumption
    | with_reducible refine keptBy_next ?_
    | with_reducible apply kept_completeMode

theorem kept_resetGo {z s : State} (src : Src) (hk : Kept z s) : Kept z (resetGo s src) := by
  unfold resetGo
  repeat' first
    | with_reducible assumption
    | with_reducible apply kept_resetChip
    | with_reducible apply kept_refuseMode
    | with_reducible refine kept_ite ?_ ?_

theorem kept_execMgtResetGo {z : State} (src : Src) {s : State} (hk : Kept z s) : KeptBy z (execMgtResetGo src s) := by
  unfold execMgtResetGo
  repeat' first
    | with_reducible assumption
    | with_reducible refine keptBy_next ?_
    | with_reducible apply kept_gatedW
    | with_reducible apply kept_resetGo
    | with_reducible refine kept_ite ?_ ?_
    | (fail_if_no_progress (with_reducible refine kept_mk ?_))
    | split
    | dsimp only
    | intro _

/-! ### Machine/SbdOps.lean -/

theorem kept_electGo {z s : State} (hk : Kept z s) : Kept z (electGo s) := by
  unfold electGo
  repeat' first
    | with_reducible assumption
    | with_reducible apply kept_wb
    | with_reducible apply kept_wf
    | with_reducible apply kept_queueElect
    | with_reducible refine kept_ite ?_ ?_
    | (fail_if_no_progress (with_reducible refine kept_mk ?_))

theorem kept_dropSuppressed {z s : State} (hk : Kept z s) : Kept z (dropSuppressed s) := by
  unfold dropSuppressed
  repeat' first
    | with_reducible assumption
    | with_reducible apply kept_softBusy
    | with_reducible apply kept_wb
    | with_reducible refine kept_ite ?_ ?_
    | (fail_if_no_progress (with_reducible refine kept_mk ?_))

theorem kept_sbdControl {z s : State} (v : Word) (hk : Kept z s) : Kept z (sbdControl s v) := by
  unfold sbdControl
  repeat' first
    | with_reducible assumption
    | with_reducible apply kept_dropSuppressed
    | with_reducible apply kept_writeFields
    | with_reducible apply kept_electGo
    | with_reducible refine kept_ite ?_ ?_

theorem kept_sbdGo {z s : State} (hk : Kept z s) : Kept z (sbdGo s) := by
  unfold sbdGo
  repeat' first
    | with_reducible assumption
    | with_reducible apply kept_wb
    | with_reducible apply kept_softBusy
    | with_reducible apply kept_queueFrame
    | with_reducible refine kept_ite ?_ ?_

theorem kept_sbdTx {z s : State} (v : Word) (hk : Kept z s) : Kept z (sbdTx s v) := by
  unfold sbdTx
  repeat' first
    | with_reducible assumption
    | with_reducible apply kept_writeFields
    | with_reducible apply kept_sbdGo
    | with_reducible refine kept_ite ?_ ?_

theorem kept_autoElect {z s : State} (hk : Kept z s) : Kept z (autoElect s) := by
  unfold autoElect
  repeat' first
    | with_reducible assumption
    | with_reducible apply kept_queueElect
    | with_reducible refine kept_ite ?_ ?_

theorem kept_setFrames {z s : State} (q : List Frame) (onLine : Bool) (backoff : Bool) (hk : Kept z s) : Kept z (setFrames s q onLine backoff) := by
  unfold setFrames
  repeat' first
    | with_reducible assumption
    | with_reducible apply kept_softBusy
    | with_reducible refine kept_ite ?_ ?_
    | (fail_if_no_progress (with_reducible refine kept_mk ?_))

theorem kept_frameLost {z s : State} (f : Frame) (rest : List Frame) (typ : Nat) (slot : Nat) (hk : Kept z s) : Kept z (frameLost s f rest typ slot) := by
  unfold frameLost
  repeat' first
    | with_reducible assumption
    | with_reducible apply kept_setFrames
    | with_reducible apply kept_electLost
    | with_reducible refine kept_ite ?_ ?_

theorem kept_frameCollided {z s : State} (f : Frame) (rest : List Frame) (hk : Kept z s) : Kept z (frameCollided s f rest) := by
  unfold frameCollided
  repeat' first
    | with_reducible assumption
    | with_reducible apply kept_lfsrStep
    | with_reducible apply kept_incF
    | with_reducible apply kept_setFrames
    | with_reducible apply kept_wb
    | with_reducible refine kept_ite ?_ ?_

theorem kept_frameStart {z s : State} (a : Arb) (hk : Kept z s) : Kept z (frameStart s a) := by
  unfold frameStart
  repeat' first
    | with_reducible assumption
    | with_reducible apply kept_lfsrStep
    | with_reducible apply kept_setFrames
    | with_reducible apply kept_frameLost
    | with_reducible apply kept_frameCollided
    | with_reducible refine kept_ite ?_ ?_
    | (fail_if_no_progress (with_reducible refine kept_mk ?_))
    | split

theorem kept_frameSent {z s : State} (hk : Kept z s) : Kept z (frameSent s) := by
  unfold frameSent
  repeat' first
    | with_reducible assumption
    | with_reducible apply kept_emit
    | with_reducible apply kept_setFrames
    | with_reducible apply kept_wb
    | with_reducible apply kept_noteElect
    | with_reducible apply kept_wf
    | with_reducible apply kept_noteClaim
    | with_reducible refine kept_ite ?_ ?_
    | (fail_if_no_progress (with_reducible refine kept_mk ?_))
    | split

theorem kept_windowClose {z s : State} (hk : Kept z s) : Kept z (windowClose s) := by
  unfold windowClose
  repeat' first
    | with_reducible assumption
    | with_reducible apply kept_wf
    | with_reducible refine kept_ite ?_ ?_
    | (fail_if_no_progress (with_reducible refine kept_mk ?_))

theorem kept_hearElect {z s : State} (slot : Nat) (hk : Kept z s) : Kept z (hearElect s slot) := by
  unfold hearElect
  repeat' first
    | with_reducible assumption
    | with_reducible apply kept_noteElect
    | with_reducible apply kept_queueClaim
    | with_reducible apply kept_electLost
    | with_reducible refine kept_ite ?_ ?_

theorem kept_hearClaim {z s : State} (slot : Nat) (hk : Kept z s) : Kept z (hearClaim s slot) := by
  unfold hearClaim
  repeat' first
    | with_reducible assumption
    | with_reducible apply kept_noteClaim
    | with_reducible apply kept_electLost
    | with_reducible refine kept_ite ?_ ?_

theorem kept_hearFault {z s : State} (loc : BitVec 64) (code : BitVec 16) (hk : Kept z s) : Kept z (hearFault s loc code) := by
  unfold hearFault
  repeat' first
    | with_reducible assumption
    | with_reducible apply kept_evt
    | with_reducible apply kept_report
    | with_reducible apply kept_newBreak
    | with_reducible apply kept_knowBreak
    | with_reducible refine kept_ite ?_ ?_
    | (fail_if_no_progress (with_reducible refine kept_mk ?_))

/-! ### Machine/FltOps.lean -/

theorem kept_hushEnd {z s : State} (i : Nat) (hk : Kept z s) : Kept z (hushEnd s i) := by
  unfold hushEnd
  repeat' first
    | with_reducible assumption
    | with_reducible apply kept_setRec
    | with_reducible apply kept_rootCause
    | with_reducible refine kept_ite ?_ ?_

theorem kept_retire {z s : State} (v : Word) (hk : Kept z s) : Kept z (retire s v) := by
  unfold retire
  repeat' first
    | with_reducible assumption
    | with_reducible apply kept_setRec
    | with_reducible refine kept_ite ?_ ?_

theorem kept_freezeWrite {z s : State} (v : Word) (hk : Kept z s) : Kept z (freezeWrite s v) := by
  unfold freezeWrite
  repeat' first
    | with_reducible assumption
    | with_reducible apply kept_wb
    | with_reducible refine kept_ite ?_ ?_

/-! ### Machine/TopoOps.lean -/

theorem kept_bypassSet {z s : State} (hk : Kept z s) : Kept z (bypassSet s) := by
  unfold bypassSet
  repeat' first
    | with_reducible assumption
    | with_reducible apply kept_tellOne
    | with_reducible apply kept_closeNow
    | with_reducible refine kept_ite ?_ ?_

theorem kept_bypassClear {z s : State} (hk : Kept z s) : Kept z (bypassClear s) := by
  unfold bypassClear
  repeat' first
    | with_reducible assumption
    | with_reducible apply kept_openNow
    | with_reducible refine kept_ite ?_ ?_
    | (fail_if_no_progress (with_reducible refine kept_mk ?_))

theorem kept_forceChange {z s : State} (d : Side) (was : Bool) (hk : Kept z s) : Kept z (forceChange s d was) := by
  unfold forceChange
  repeat' first
    | with_reducible assumption
    | with_reducible apply kept_breakAt
    | with_reducible apply kept_autoHeal
    | with_reducible apply kept_selfRelease
    | with_reducible refine kept_ite ?_ ?_

theorem kept_retrainPort {z s : State} (d : Side) (hk : Kept z s) : Kept z (retrainPort s d) := by
  unfold retrainPort
  repeat' first
    | with_reducible assumption
    | with_reducible apply kept_startTrain
    | with_reducible apply kept_breakAt
    | with_reducible apply kept_setLink
    | with_reducible refine kept_ite ?_ ?_

theorem kept_ringControl {z s : State} (v : Word) (hk : Kept z s) : Kept z (ringControl s v) := by
  unfold ringControl
  repeat' first
    | with_reducible assumption
    | with_reducible apply kept_writeFields
    | with_reducible apply kept_forceChange
    | with_reducible apply kept_bypassSet
    | with_reducible apply kept_bypassClear
    | with_reducible apply kept_retrainPort
    | with_reducible apply kept_joinRing
    | with_reducible refine kept_ite ?_ ?_

theorem kept_identify {z s : State} (d : Side) (m : Train) (hk : Kept z s) : Kept z (identify s d m) := by
  unfold identify
  repeat' first
    | with_reducible assumption
    | with_reducible apply kept_wf
    | with_reducible apply kept_setSide
    | with_reducible apply kept_autoHeal
    | with_reducible apply kept_selfRelease
    | with_reducible apply kept_svcEvt
    | with_reducible apply kept_setLink
    | with_reducible apply kept_setWrap
    | with_reducible apply kept_report
    | with_reducible apply kept_errBit
    | with_reducible refine kept_ite ?_ ?_

theorem kept_stepDone {z s : State} (d : Side) (m : Train) (hk : Kept z s) : Kept z (stepDone s d m) := by
  unfold stepDone
  repeat' first
    | with_reducible assumption
    | with_reducible apply kept_setSide
    | with_reducible apply kept_wf
    | with_reducible apply kept_identify
    | with_reducible refine kept_ite ?_ ?_

theorem kept_stepLate {z s : State} (d : Side) (hk : Kept z s) : Kept z (stepLate s d) := by
  unfold stepLate
  repeat' first
    | with_reducible assumption
    | with_reducible apply kept_setSide
    | with_reducible apply kept_incF
    | with_reducible refine kept_ite ?_ ?_

theorem kept_lanesDown {z s : State} (d : Side) (hk : Kept z s) : Kept z (lanesDown s d) := by
  unfold lanesDown
  repeat' first
    | with_reducible assumption
    | with_reducible apply kept_startTrain
    | with_reducible apply kept_setLink
    | with_reducible apply kept_breakAt
    | with_reducible refine kept_ite ?_ ?_

theorem kept_goOrphan {z s : State} (hk : Kept z s) : Kept z (goOrphan s) := by
  unfold goOrphan
  repeat' first
    | with_reducible assumption
    | with_reducible apply kept_enterSevered
    | with_reducible refine kept_ite ?_ ?_
    | (fail_if_no_progress (with_reducible refine kept_mk ?_))

theorem kept_foundDup {z s : State} (dup : BitVec 64) (headSlot : Nat) (hk : Kept z s) : Kept z (foundDup s dup headSlot) := by
  unfold foundDup
  repeat' first
    | with_reducible assumption
    | with_reducible apply kept_setDup
    | with_reducible refine kept_ite ?_ ?_

theorem kept_noteDup {z s : State} (dup : BitVec 64) (headSlot : Nat) (hk : Kept z s) : Kept z (noteDup s dup headSlot) := by
  unfold noteDup
  repeat' first
    | with_reducible assumption
    | with_reducible apply kept_setDup

theorem kept_stopsLost {z s : State} (hk : Kept z s) : Kept z (stopsLost s) := by
  unfold stopsLost
  repeat' first
    | with_reducible assumption
    | with_reducible apply kept_each
    | with_reducible apply kept_bad
    | with_reducible refine kept_ite ?_ ?_
    | (fail_if_no_progress (with_reducible refine kept_mk ?_))
    | split
    | dsimp only
    | intro _

theorem kept_peersLost {z s : State} (hk : Kept z s) : Kept z (peersLost s) := by
  unfold peersLost
  repeat' first
    | with_reducible assumption
    | with_reducible apply kept_each
    | with_reducible apply kept_stopsLost
    | with_reducible apply kept_reportRef
    | with_reducible apply kept_err
    | with_reducible apply kept_goOn
    | with_reducible apply kept_cutWork
    | with_reducible refine kept_ite ?_ ?_
    | (fail_if_no_progress (with_reducible refine kept_mk ?_))
    | split
    | (refine kept_fst (by assumption) ?_)
    | (refine kept_snd (by assumption) ?_)
    | dsimp only
    | intro _

theorem kept_passRound {z s : State} (c : Cell) (map : BitVec 64) (dup : BitVec 64) (epoch : BitVec 8) (headSlot : Nat) (hk : Kept z s) : Kept z (passRound s c map dup epoch headSlot) := by
  unfold passRound
  repeat' first
    | with_reducible assumption
    | with_reducible apply kept_enqueue

theorem kept_topoPass {z s : State} (c : Cell) (map : BitVec 64) (dup : BitVec 64) (epoch : BitVec 8) (headSlot : Nat) (hk : Kept z s) : Kept z (topoPass s c map dup epoch headSlot) := by
  unfold topoPass
  repeat' first
    | with_reducible assumption
    | with_reducible apply kept_tellAll
    | with_reducible apply kept_noteDup
    | with_reducible apply kept_peersLost
    | with_reducible apply kept_sendGrants
    | with_reducible apply kept_loadMap
    | with_reducible apply kept_knowHead
    | with_reducible apply kept_foundDup
    | with_reducible apply kept_passRound
    | with_reducible refine kept_ite ?_ ?_
    | (fail_if_no_progress (with_reducible refine kept_mk ?_))

theorem kept_takeMap {z s : State} (map : BitVec 64) (dup : BitVec 64) (epoch : BitVec 8) (headSlot : Nat) (hk : Kept z s) : Kept z (takeMap s map dup epoch headSlot) := by
  unfold takeMap
  repeat' first
    | with_reducible assumption
    | with_reducible apply kept_wf
    | with_reducible apply kept_knowHead
    | with_reducible apply kept_noteDup
    | with_reducible apply kept_loadMap
    | with_reducible apply kept_peersLost
    | with_reducible apply kept_sendGrants
    | with_reducible apply kept_dropCredits
    | with_reducible apply kept_svcEvt
    | with_reducible apply kept_enterSevered
    | with_reducible refine kept_ite ?_ ?_
    | (fail_if_no_progress (with_reducible refine kept_mk ?_))

theorem kept_takeGrant {z s : State} (pos : Nat) (epoch : BitVec 8) (iso : Nat) (ctrl : Nat) (data : Nat) (hk : Kept z s) : Kept z (takeGrant s pos epoch iso ctrl data) := by
  unfold takeGrant
  repeat' first
    | with_reducible assumption
    | with_reducible apply kept_flushCells
    | with_reducible refine kept_ite ?_ ?_
    | with_reducible apply kept_foldl
    | (fail_if_no_progress (with_reducible refine kept_mk ?_))

theorem kept_leaveAsked {z s : State} (pos : Nat) (hk : Kept z s) : Kept z (leaveAsked s pos) := by
  unfold leaveAsked
  repeat' first
    | with_reducible assumption
    | with_reducible apply kept_tellAll
    | with_reducible refine kept_ite ?_ ?_
    | (fail_if_no_progress (with_reducible refine kept_mk ?_))

theorem kept_closingTold {z s : State} (pos : BitVec 6) (w : Word) (hk : Kept z s) : Kept z (closingTold s pos w) := by
  unfold closingTold
  repeat' first
    | with_reducible assumption
    | with_reducible refine kept_ite ?_ ?_
    | (fail_if_no_progress (with_reducible refine kept_mk ?_))

theorem kept_wrapNow {z s : State} (pos : Nat) (w : Word) (hk : Kept z s) : Kept z (wrapNow s pos w) := by
  unfold wrapNow
  repeat' first
    | with_reducible assumption
    | with_reducible apply kept_each
    | with_reducible apply kept_setWrap
    | with_reducible apply kept_setSide
    | with_reducible apply kept_knowBreak
    | with_reducible apply kept_enterSevered
    | with_reducible apply kept_advanceEpoch
    | with_reducible refine kept_ite ?_ ?_
    | (fail_if_no_progress (with_reducible refine kept_mk ?_))
    | split
    | (refine kept_snd (by assumption) ?_)
    | dsimp only
    | intro _

theorem kept_owedMissed {z s : State} (c : Nat) (passed : Nat → Bool) (ref : Option Word) (hk : Kept z s) : Kept z (owedMissed s c passed ref) := by
  unfold owedMissed
  repeat' first
    | with_reducible assumption
    | with_reducible apply kept_each
    | with_reducible apply kept_planEntry
    | with_reducible refine kept_ite ?_ ?_
    | (fail_if_no_progress (with_reducible refine kept_mk ?_))
    | split
    | dsimp only
    | intro _

theorem kept_orphanRejoin {z s : State} (m : Nat) (hk : Kept z s) : Kept z (orphanRejoin s m) := by
  unfold orphanRejoin
  repeat' first
    | with_reducible assumption
    | with_reducible apply kept_each
    | with_reducible apply kept_setEp
    | with_reducible apply kept_owedMissed
    | with_reducible apply kept_goOn
    | with_reducible apply kept_cutWork
    | with_reducible apply kept_failLater
    | with_reducible refine kept_ite ?_ ?_
    | (fail_if_no_progress (with_reducible refine kept_mk ?_))
    | split
    | dsimp only
    | intro _

theorem kept_releaseHere {z s : State} (m : Nat) (hk : Kept z s) : Kept z (releaseHere s m) := by
  unfold releaseHere
  repeat' first
    | with_reducible assumption
    | with_reducible apply kept_releaseNow
    | with_reducible apply kept_each
    | with_reducible apply kept_orphanRejoin
    | with_reducible apply kept_drainPosts
    | with_reducible refine kept_ite ?_ ?_

theorem kept_useTiming {z s : State} (t : Timing) (ringB : Bool) (hk : Kept z s) : Kept z (useTiming s t ringB) := by
  unfold useTiming
  repeat' first
    | with_reducible assumption
    | with_reducible apply kept_foundDup
    | with_reducible apply kept_knowHead
    | with_reducible apply kept_wf
    | with_reducible apply kept_wb
    | with_reducible apply kept_setRctUnits
    | with_reducible apply kept_timeLost
    | with_reducible refine kept_ite ?_ ?_
    | (fail_if_no_progress (with_reducible refine kept_mk ?_))

theorem kept_takeTiming {z s : State} (a : Option Timing) (b : Option Timing) (hk : Kept z s) : Kept z (takeTiming s a b) := by
  unfold takeTiming
  repeat' first
    | with_reducible assumption
    | with_reducible apply kept_each
    | with_reducible apply kept_authDrop
    | with_reducible apply kept_useTiming
    | with_reducible refine kept_ite ?_ ?_
    | (fail_if_no_progress (with_reducible refine kept_mk ?_))
    | split
    | (refine kept_snd (by assumption) ?_)
    | dsimp only
    | intro _

theorem kept_lockLost {z s : State} (hk : Kept z s) : Kept z (lockLost s) := by
  unfold lockLost
  repeat' first
    | with_reducible assumption
    | with_reducible apply kept_timeLost
    | with_reducible refine kept_ite ?_ ?_

theorem kept_toBoundary {z s : State} (k : Nat) (hk : Kept z s) : Kept z (toBoundary s k) := by
  unfold toBoundary
  repeat' first
    | with_reducible assumption
    | with_reducible apply kept_setRctUnits
    | with_reducible refine kept_ite ?_ ?_
    | (fail_if_no_progress (with_reducible refine kept_mk ?_))

theorem kept_timingBoundary {z s : State} (hk : Kept z s) : Kept z (timingBoundary s) := by
  unfold timingBoundary
  repeat' first
    | with_reducible assumption
    | with_reducible apply kept_broadcast
    | with_reducible apply kept_incF
    | with_reducible apply kept_wb
    | with_reducible refine kept_ite ?_ ?_
    | (fail_if_no_progress (with_reducible refine kept_mk ?_))

theorem kept_checkPages {z s : State} (hk : Kept z s) : Kept z (checkPages s) := by
  unfold checkPages
  repeat' first
    | with_reducible assumption
    | with_reducible apply kept_each
    | with_reducible apply kept_report
    | with_reducible apply kept_wb
    | with_reducible refine kept_ite ?_ ?_
    | (fail_if_no_progress (with_reducible refine kept_mk ?_))
    | split
    | dsimp only
    | intro _

theorem kept_ringBoundary {z s : State} (m : Nat) (hk : Kept z s) : Kept z (ringBoundary s m) := by
  unfold ringBoundary
  repeat' first
    | with_reducible assumption
    | with_reducible apply kept_wrapNow
    | with_reducible apply kept_releaseHere
    | with_reducible refine kept_ite ?_ ?_
    | (fail_if_no_progress (with_reducible refine kept_mk ?_))
    | split
    | dsimp only

theorem kept_heardWhole {z s : State} (hk : Kept z s) : Kept z (heardWhole s) := by
  unfold heardWhole
  repeat' first
    | with_reducible assumption
    | with_reducible apply kept_autoHeal
    | with_reducible apply kept_freeStep
    | with_reducible refine kept_ite ?_ ?_
    | (fail_if_no_progress (with_reducible refine kept_mk ?_))

theorem kept_boundary {z s : State} (hk : Kept z s) : Kept z (boundary s) := by
  unfold boundary
  repeat' first
    | with_reducible assumption
    | with_reducible apply kept_timingBoundary
    | with_reducible apply kept_heardWhole
    | with_reducible apply kept_ringBoundary
    | with_reducible apply kept_toBoundary
    | with_reducible apply kept_checkPages
    | with_reducible apply kept_farStops
    | with_reducible apply kept_plannerBoundary
    | with_reducible apply kept_dutiesReturn
    | with_reducible refine kept_ite ?_ ?_
    | (fail_if_no_progress (with_reducible refine kept_mk ?_))

end Sys2Proof.Machine
end

