-- ==== Sys2Proof/Laws/KeptRegs.lean ====
section
/-!
SUPPORT. One lemma for each operation: what every register access keeps
(`Kept`: the queue, the outputs, the free values, the canonical form of the register file and of EBM).
-/
namespace Sys2Proof.Machine

/-! ### Machine/RegOps.lean -/

theorem kept_snapshotEnd {z s : State} (ok : Bool) (hk : Kept z s) : Kept z (snapshotEnd s ok) := by
  unfold snapshotEnd
  repeat' first
    | with_reducible assumption
    | with_reducible apply kept_wb
    | with_reducible apply kept_err
    | with_reducible refine kept_ite ?_ ?_
    | (fail_if_no_progress (with_reducible refine kept_mk ?_))

theorem kept_readClear {z s : State} (page : Nat) (off : Nat) (hk : Kept z s) : Kept z (readClear s page off) := by
  unfold readClear
  repeat' first
    | with_reducible assumption
    | with_reducible apply kept_wr
    | with_reducible refine kept_ite ?_ ?_
    | (fail_if_no_progress (with_reducible refine kept_mk ?_))
    | split

theorem kept_serveRead {z s : State} (page : Nat) (off : Nat) (hk : Kept z s) : Kept z (serveRead s page off).1 := by
  unfold serveRead
  repeat' first
    | with_reducible assumption
    | with_reducible apply kept_readClear
    | with_reducible refine kept_ite ?_ ?_
    | (fail_if_no_progress (with_reducible refine kept_mk ?_))
    | split

theorem kept_leReset {z s : State} (page : Nat) (hk : Kept z s) : Kept z (leReset s page) := by
  unfold leReset
  repeat' first
    | with_reducible assumption
    | with_reducible apply kept_each
    | with_reducible apply kept_clearWork
    | with_reducible apply kept_freeOp
    | with_reducible apply kept_endStop
    | with_reducible refine kept_ite ?_ ?_
    | (fail_if_no_progress (with_reducible refine kept_mk ?_))
    | split
    | dsimp only
    | intro _

theorem kept_tenReset {z s : State} (page : Nat) (hk : Kept z s) : Kept z (tenReset s page) := by
  unfold tenReset
  repeat' first
    | with_reducible assumption
    | with_reducible apply kept_each
    | with_reducible apply kept_failCommands
    | with_reducible apply kept_idxErr
    | with_reducible refine kept_ite ?_ ?_
    | (fail_if_no_progress (with_reducible refine kept_mk ?_))
    | split
    | (refine kept_snd (by assumption) ?_)
    | dsimp only
    | intro _

theorem kept_pciReset {z s : State} (hk : Kept z s) : Kept z (pciReset s) := by
  unfold pciReset
  repeat' first
    | with_reducible assumption
    | with_reducible apply kept_setVfs
    | with_reducible refine kept_ite ?_ ?_
    | (fail_if_no_progress (with_reducible refine kept_mk ?_))

theorem kept_blockReset {z s : State} (page : Nat) (hk : Kept z s) : Kept z (blockReset s page) := by
  unfold blockReset
  repeat' first
    | with_reducible assumption
    | with_reducible apply kept_closeNow
    | with_reducible apply kept_pciReset
    | with_reducible apply kept_dropPlans
    | with_reducible apply kept_leReset
    | with_reducible apply kept_tenReset
    | with_reducible apply kept_svcDetach
    | with_reducible apply kept_each
    | with_reducible apply kept_portOff
    | with_reducible refine kept_ite ?_ ?_
    | (fail_if_no_progress (with_reducible refine kept_mk ?_))
    | split
    | dsimp only
    | intro _

theorem kept_afterReset {z s : State} (page : Nat) (hk : Kept z s) : Kept z (afterReset s page) := by
  unfold afterReset
  repeat' first
    | with_reducible assumption
    | with_reducible apply kept_wf
    | with_reducible apply kept_setLink
    | with_reducible apply kept_softBusy
    | with_reducible apply kept_showRefresh
    | with_reducible apply kept_noteFree
    | with_reducible apply kept_noteSpill
    | with_reducible apply kept_noteHorizon
    | with_reducible apply kept_dmaVotes
    | with_reducible apply kept_each
    | with_reducible apply kept_portVotes
    | with_reducible apply kept_svcAttach
    | with_reducible refine kept_ite ?_ ?_
    | (fail_if_no_progress (with_reducible refine kept_mk ?_))
    | split

theorem kept_beginSoft {z s : State} (page : Nat) (hk : Kept z s) : Kept z (beginSoft s page) := by
  unfold beginSoft
  repeat' first
    | with_reducible assumption
    | with_reducible apply kept_blockReset
    | with_reducible apply kept_wb
    | with_reducible apply kept_afterReset
    | with_reducible refine kept_ite ?_ ?_
    | (with_reducible refine kept_mkRegs ?_ (wf_pageRegs _ _))

theorem kept_pageControl {z s : State} (src : Src) (page : Nat) (v : Word) (hk : Kept z s) : Kept z (pageControl s src page v) := by
  unfold pageControl
  repeat' first
    | with_reducible assumption
    | with_reducible apply kept_refuseMode
    | with_reducible apply kept_incF
    | with_reducible apply kept_writeFields
    | with_reducible apply kept_beginSoft
    | with_reducible refine kept_ite ?_ ?_

theorem kept_voteWrite {z s : State} (page : Nat) (v : Word) (cast : Bool) (hk : Kept z s) : Kept z (voteWrite s page v cast) := by
  unfold voteWrite
  repeat' first
    | with_reducible assumption
    | with_reducible apply kept_each
    | with_reducible apply kept_castSw
    | with_reducible apply kept_dropSw
    | with_reducible refine kept_ite ?_ ?_
    | (fail_if_no_progress (with_reducible refine kept_mk ?_))
    | split
    | dsimp only
    | intro _

theorem kept_lockWrite {z s : State} (page : Nat) (v : Word) (hk : Kept z s) : Kept z (lockWrite s page v) := by
  unfold lockWrite
  repeat' first
    | with_reducible assumption
    | with_reducible apply kept_wb
    | with_reducible refine kept_ite ?_ ?_
    | (fail_if_no_progress (with_reducible refine kept_mk ?_))

theorem kept_headerWrite {z s : State} (src : Src) (page : Nat) (off : Nat) (v : Word) (hk : Kept z s) : Kept z (headerWrite s src page off v) := by
  unfold headerWrite
  repeat' first
    | with_reducible assumption
    | with_reducible apply kept_pageControl
    | with_reducible apply kept_voteWrite
    | with_reducible apply kept_errClear
    | with_reducible apply kept_evtEnable
    | with_reducible apply kept_lockWrite
    | with_reducible apply kept_writeFields
    | with_reducible refine kept_ite ?_ ?_

theorem kept_writeHalves {z s : State} (page : Nat) (off : Nat) (v : Word) (hk : Kept z s) : Kept z (writeHalves s page off v) := by
  unfold writeHalves
  repeat' first
    | with_reducible assumption
    | with_reducible apply kept_writeFields
    | with_reducible refine kept_ite ?_ ?_
    | (fail_if_no_progress (with_reducible refine kept_mk ?_))
    | split

theorem kept_plainWrite {z s : State} (page : Nat) (off : Nat) (v : Word) (hk : Kept z s) : Kept z (plainWrite s page off v) := by
  unfold plainWrite
  repeat' first
    | with_reducible assumption
    | with_reducible apply kept_writeHalves
    | with_reducible apply kept_writeFields
    | with_reducible refine kept_ite ?_ ?_
    | (fail_if_no_progress (with_reducible refine kept_mk ?_))

theorem kept_alarmWrite {z s : State} (off : Nat) (v : Word) (hk : Kept z s) : Kept z (alarmWrite s off v) := by
  unfold alarmWrite
  repeat' first
    | with_reducible assumption
    | with_reducible apply kept_plainWrite
    | with_reducible refine kept_ite ?_ ?_
    | (fail_if_no_progress (with_reducible refine kept_mk ?_))

theorem kept_quotaWrite {z s : State} (v : Word) (hk : Kept z s) : Kept z (quotaWrite s v) := by
  unfold quotaWrite
  repeat' first
    | with_reducible assumption
    | with_reducible apply kept_incF
    | with_reducible apply kept_setInst
    | with_reducible refine kept_ite ?_ ?_

theorem kept_mbxInWrite {z s : State} (k : Nat) (v : Word) (hk : Kept z s) : Kept z (mbxInWrite s k v) := by
  unfold mbxInWrite
  repeat' first
    | with_reducible assumption
    | with_reducible apply kept_err
    | with_reducible apply kept_setInst
    | with_reducible refine kept_ite ?_ ?_

theorem kept_tenWrite {z s : State} (off : Nat) (v : Word) (hk : Kept z s) : Kept z (tenWrite s off v) := by
  unfold tenWrite
  repeat' first
    | with_reducible assumption
    | with_reducible apply kept_wr
    | with_reducible apply kept_quotaWrite
    | with_reducible apply kept_mbxDb
    | with_reducible apply kept_mbxInWrite
    | with_reducible apply kept_writeFields
    | with_reducible refine kept_ite ?_ ?_

theorem kept_blockWrite {z s : State} (src : Src) (page : Nat) (off : Nat) (v : Word) (hk : Kept z s) : Kept z (blockWrite s src page off v) := by
  unfold blockWrite
  repeat' first
    | with_reducible assumption
    | with_reducible apply kept_modeWrite
    | with_reducible apply kept_resetGo
    | with_reducible apply kept_plainWrite
    | with_reducible apply kept_pwrChip
    | with_reducible apply kept_domCmd
    | with_reducible apply kept_alarmCtrl
    | with_reducible apply kept_forceWrite
    | with_reducible apply kept_alarmWrite
    | with_reducible apply kept_ringControl
    | with_reducible apply kept_sbdControl
    | with_reducible apply kept_sbdTx
    | with_reducible apply kept_revoke
    | with_reducible apply kept_updCtrl
    | with_reducible apply kept_updData
    | with_reducible apply kept_freezeWrite
    | with_reducible apply kept_retire
    | with_reducible apply kept_noteHorizon
    | with_reducible apply kept_dmaWrite
    | with_reducible apply kept_invalGo
    | with_reducible apply kept_tenWrite
    | with_reducible refine kept_ite ?_ ?_
    | (fail_if_no_progress (with_reducible refine kept_mk ?_))
    | split
    | dsimp only
    | intro _

theorem kept_serveWrite {z s : State} (src : Src) (page : Nat) (off : Nat) (v : Word) (hk : Kept z s) : Kept z (serveWrite s src page off v) := by
  unfold serveWrite
  repeat' first
    | with_reducible assumption
    | with_reducible apply kept_headerWrite
    | with_reducible apply kept_blockWrite
    | with_reducible refine kept_ite ?_ ?_

theorem kept_serveOp {z s : State} (src : Src) (page : Nat) (off : Nat) (op : Op) (hk : Kept z s) : Kept z (serveOp s src page off op) := by
  unfold serveOp
  repeat' first
    | with_reducible assumption
    | with_reducible apply kept_serveRead
    | with_reducible apply kept_answer
    | with_reducible apply kept_serveWrite
    | with_reducible refine kept_ite ?_ ?_
    | (fail_if_no_progress (with_reducible refine kept_mk ?_))
    | split

theorem kept_access {z s : State} (src : Src) (page : Nat) (off : Nat) (op : Op) (hk : Kept z s) : Kept z (access s src page off op) := by
  unfold access
  repeat' first
    | with_reducible assumption
    | with_reducible apply kept_gated
    | with_reducible apply kept_serveOp
    | with_reducible refine kept_ite ?_ ?_
    | (fail_if_no_progress (with_reducible refine kept_mk ?_))
    | split
    | dsimp only
    | intro _

/-! ### Machine/WinOps.lean -/

theorem kept_winRead {z s : State} (o : Owner) (off : Nat) (hk : Kept z s) : Kept z (winRead s o off).1 := by
  unfold winRead
  repeat' first
    | with_reducible assumption
    | with_reducible refine kept_ite ?_ ?_
    | (fail_if_no_progress (with_reducible refine kept_mk ?_))
    | split

theorem kept_baseWrite {z s : State} (o : Owner) (off : Nat) (v : Word) (hk : Kept z s) : Kept z (baseWrite s o off v) := by
  unfold baseWrite
  repeat' first
    | with_reducible assumption
    | with_reducible apply kept_setInst
    | with_reducible refine kept_ite ?_ ?_
    | (fail_if_no_progress (with_reducible refine kept_mk ?_))

theorem kept_aqCfgWrite {z s : State} (o : Owner) (v : Word) (hk : Kept z s) : Kept z (aqCfgWrite s o v) := by
  unfold aqCfgWrite
  repeat' first
    | with_reducible assumption
    | with_reducible apply kept_disableAq
    | with_reducible apply kept_setInst
    | with_reducible apply kept_enableAq
    | with_reducible refine kept_ite ?_ ?_

theorem kept_acqCfgWrite {z s : State} (o : Owner) (v : Word) (hk : Kept z s) : Kept z (acqCfgWrite s o v) := by
  unfold acqCfgWrite
  repeat' first
    | with_reducible assumption
    | with_reducible apply kept_setInst
    | with_reducible refine kept_ite ?_ ?_

theorem kept_doorbell {z s : State} (n : Nat) (v : Word) (hk : Kept z s) : Kept z (doorbell s n v) := by
  unfold doorbell
  repeat' first
    | with_reducible assumption
    | with_reducible apply kept_setInst
    | with_reducible apply kept_tenantIn
    | with_reducible apply kept_tenantOut
    | with_reducible refine kept_ite ?_ ?_

theorem kept_outWrite {z s : State} (n : Nat) (k : Nat) (v : Word) (hk : Kept z s) : Kept z (outWrite s n k v) := by
  unfold outWrite
  repeat' first
    | with_reducible assumption
    | with_reducible apply kept_setInst
    | with_reducible refine kept_ite ?_ ?_

theorem kept_winWrite {z s : State} (o : Owner) (off : Nat) (v : Word) (hk : Kept z s) : Kept z (winWrite s o off v) := by
  unfold winWrite
  repeat' first
    | with_reducible assumption
    | with_reducible apply kept_outWrite
    | with_reducible apply kept_doorbell
    | with_reducible apply kept_baseWrite
    | with_reducible apply kept_aqCfgWrite
    | with_reducible apply kept_writeAqPi
    | with_reducible apply kept_acqCfgWrite
    | with_reducible apply kept_writeAcqCi
    | with_reducible apply kept_setInst
    | with_reducible apply kept_idxErr
    | with_reducible apply kept_setPi
    | with_reducible apply kept_setCi
    | with_reducible refine kept_ite ?_ ?_

theorem kept_winAccess {z s : State} (src : Src) (o : Owner) (off : Nat) (op : Op) (hk : Kept z s) : Kept z (winAccess s src o off op) := by
  unfold winAccess
  repeat' first
    | with_reducible assumption
    | with_reducible apply kept_refuseAccess
    | with_reducible apply kept_darkRefuse
    | with_reducible apply kept_winRead
    | with_reducible apply kept_answer
    | with_reducible apply kept_winWrite
    | with_reducible refine kept_ite ?_ ?_
    | (fail_if_no_progress (with_reducible refine kept_mk ?_))
    | split

theorem kept_forwardAccess {z s : State} (src : Src) (pos : Nat) (page : Nat) (off : Nat) (op : Op) (hk : Kept z s) : Kept z (forwardAccess s src pos page off op) := by
  unfold forwardAccess
  repeat' first
    | with_reducible assumption
    | with_reducible apply kept_sendCell
    | with_reducible refine kept_ite ?_ ?_
    | (fail_if_no_progress (with_reducible refine kept_mk ?_))
    | split

theorem kept_farAccess {z s : State} (src : Src) (pos : Nat) (page : Nat) (off : Nat) (op : Op) (hk : Kept z s) : Kept z (farAccess s src pos page off op) := by
  unfold farAccess
  repeat' first
    | with_reducible assumption
    | with_reducible apply kept_refuseAccess
    | with_reducible apply kept_forwardAccess
    | with_reducible refine kept_ite ?_ ?_

theorem kept_pfAccess {z s : State} (p : Nat) (off : Nat) (op : Op) (hk : Kept z s) : Kept z (pfAccess s p off op) := by
  unfold pfAccess
  repeat' first
    | with_reducible assumption
    | with_reducible apply kept_access
    | with_reducible apply kept_farAccess
    | with_reducible apply kept_winAccess
    | with_reducible refine kept_ite ?_ ?_
    | (fail_if_no_progress (with_reducible refine kept_mk ?_))

theorem kept_winCmd {z s : State} (o : Owner) (off : Nat) (v : Word) (hk : Kept z s) : Kept z (winCmd s o off v) := by
  unfold winCmd
  repeat' first
    | with_reducible assumption
    | with_reducible apply kept_setPi
    | with_reducible apply kept_setCi
    | with_reducible apply kept_pfAccess
    | with_reducible apply kept_winAccess
    | with_reducible refine kept_ite ?_ ?_
    | (fail_if_no_progress (with_reducible refine kept_mk ?_))
    | split

theorem kept_idxWrite {z s : State} (src : Src) (off : Nat) (v : Word) (hk : Kept z s) : Kept z (idxWrite s src off v) := by
  unfold idxWrite
  repeat' first
    | with_reducible assumption
    | with_reducible apply kept_authDrop
    | with_reducible apply kept_setPi
    | with_reducible apply kept_refuseAccess
    | with_reducible apply kept_setCi
    | with_reducible refine kept_ite ?_ ?_

theorem kept_idxArrives {z s : State} (src : Src) (off : Nat) (v : Word) (hk : Kept z s) : Kept z (idxArrives s src off v) := by
  unfold idxArrives
  repeat' first
    | with_reducible assumption
    | with_reducible apply kept_idxWrite
    | with_reducible refine kept_ite ?_ ?_
    | (fail_if_no_progress (with_reducible refine kept_mk ?_))

theorem kept_svcOne {z s : State} (j : SvcJob) (hk : Kept z s) : Kept z (svcOne s j) := by
  unfold svcOne
  repeat' first
    | with_reducible assumption
    | with_reducible apply kept_access
    | with_reducible apply kept_farAccess
    | with_reducible apply kept_svcGot
    | with_reducible refine kept_ite ?_ ?_
    | (fail_if_no_progress (with_reducible refine kept_mk ?_))
    | split
    | dsimp only

theorem kept_svcReady {z s : State} (j : SvcJob) (hk : Kept z s) : Kept z (svcReady s j) := by
  unfold svcReady
  repeat' first
    | with_reducible assumption
    | with_reducible apply kept_bad
    | with_reducible apply kept_svcEvt
    | with_reducible apply kept_incF
    | with_reducible apply kept_wb
    | with_reducible refine kept_ite ?_ ?_
    | (fail_if_no_progress (with_reducible refine kept_mk ?_))

theorem kept_svcRun {z s : State} (x1 : Nat) (hk : Kept z s) : Kept z (svcRun s x1) := by
  induction x1 generalizing s with
  | zero => exact hk
  | succ n ih =>
    unfold svcRun
    repeat' first
      | with_reducible assumption
      | with_reducible apply ih
      | with_reducible apply kept_svcOne
      | with_reducible apply kept_svcReady
      | with_reducible refine kept_ite ?_ ?_
      | split

theorem kept_svcGo {z s : State} (hk : Kept z s) : Kept z (svcGo s) := by
  unfold svcGo
  repeat' first
    | with_reducible assumption
    | with_reducible apply kept_svcRun

theorem kept_serveAgain {z s : State} (h : Held) (hk : Kept z s) : Kept z (serveAgain s h) := by
  unfold serveAgain
  repeat' first
    | with_reducible assumption
    | with_reducible apply kept_access
    | with_reducible apply kept_svcGo
    | with_reducible apply kept_svcGot
    | with_reducible refine kept_ite ?_ ?_

theorem kept_leaveSlot {z s : State} (h : Held) (hk : Kept z s) : Kept z (leaveSlot s h) := by
  unfold leaveSlot
  repeat' first
    | with_reducible assumption
    | with_reducible apply kept_freePlace
    | with_reducible refine kept_ite ?_ ?_
    | (fail_if_no_progress (with_reducible refine kept_mk ?_))
    | split

theorem kept_retry {z s : State} (h : Held) (hk : Kept z s) : Kept z (retry s h) := by
  unfold retry
  repeat' first
    | with_reducible assumption
    | with_reducible apply kept_leaveSlot
    | with_reducible apply kept_idxWrite
    | with_reducible apply kept_pfAccess
    | with_reducible apply kept_each
    | with_reducible apply kept_castHw
    | with_reducible apply kept_serveAgain
    | with_reducible refine kept_ite ?_ ?_
    | (fail_if_no_progress (with_reducible refine kept_mk ?_))
    | split
    | dsimp only
    | intro _

theorem kept_serveHeld {z s : State} (hk : Kept z s) : Kept z (serveHeld s) := by
  unfold serveHeld
  repeat' first
    | with_reducible assumption
    | with_reducible apply kept_each
    | with_reducible apply kept_retry
    | with_reducible refine kept_ite ?_ ?_
    | (fail_if_no_progress (with_reducible refine kept_mk ?_))

/-! ### Machine/Host.lean -/

theorem kept_hostAccess {z s : State} (w : Win) (op : Op) (hk : Kept z s) : Kept z (hostAccess s w op) := by
  unfold hostAccess
  repeat' first
    | with_reducible assumption
    | with_reducible apply kept_pfAccess
    | with_reducible apply kept_winAccess
    | with_reducible refine kept_ite ?_ ?_
    | (fail_if_no_progress (with_reducible refine kept_mk ?_))
    | split

theorem kept_execHostWindowAccess {z : State} (win : Win) (op : Op) {s : State} (hk : Kept z s) : KeptBy z (execHostWindowAccess win op s) := by
  unfold execHostWindowAccess
  repeat' first
    | with_reducible assumption
    | with_reducible refine keptBy_next ?_
    | with_reducible apply kept_hostAccess
    | with_reducible refine kept_ite ?_ ?_

theorem kept_fwdLost {z s : State} (f : FwdRead) (hk : Kept z s) : Kept z (fwdLost s f) := by
  unfold fwdLost
  repeat' first
    | with_reducible assumption
    | with_reducible apply kept_report
    | with_reducible apply kept_noteRefused
    | with_reducible apply kept_svcGo
    | with_reducible apply kept_svcGot
    | with_reducible apply kept_errorAnswer
    | with_reducible refine kept_ite ?_ ?_
    | (fail_if_no_progress (with_reducible refine kept_mk ?_))
    | split

theorem kept_execForwardedReadTimeout {z : State} (tag : Word) {s : State} (hk : Kept z s) : KeptBy z (execForwardedReadTimeout tag s) := by
  unfold execForwardedReadTimeout
  repeat' first
    | with_reducible assumption
    | with_reducible refine keptBy_next ?_
    | with_reducible apply kept_fwdLost
    | with_reducible refine kept_ite ?_ ?_
    | (fail_if_no_progress (with_reducible refine kept_mk ?_))
    | split

theorem kept_execPcieLinkTrained {z s : State} (hk : Kept z s) : KeptBy z (execPcieLinkTrained s) := by
  unfold execPcieLinkTrained
  repeat' first
    | with_reducible assumption
    | with_reducible refine keptBy_next ?_
    | with_reducible apply kept_autoElect
    | with_reducible apply kept_freeStep
    | with_reducible refine kept_ite ?_ ?_
    | (fail_if_no_progress (with_reducible refine kept_mk ?_))

theorem kept_linkReset {z s : State} (hk : Kept z s) : Kept z (linkReset s) := by
  unfold linkReset
  repeat' first
    | with_reducible assumption
    | with_reducible apply kept_pciReset
    | with_reducible refine kept_ite ?_ ?_
    | (with_reducible refine kept_mkRegs ?_ (wf_pageRegs _ _))

theorem kept_execPcieLinkReset {z : State} (kind : LinkReset) {s : State} (hk : Kept z s) : KeptBy z (execPcieLinkReset kind s) := by
  unfold execPcieLinkReset
  repeat' first
    | with_reducible assumption
    | with_reducible refine keptBy_next ?_
    | with_reducible apply kept_linkReset
    | with_reducible refine kept_ite ?_ ?_
    | (fail_if_no_progress (with_reducible refine kept_mk ?_))
    | split

end Sys2Proof.Machine
end

