-- ==== Sys2Proof/Laws/KeptCommandsA.lean ====
section
/-!
SUPPORT. One lemma for each operation: what every command of the engine, the cells, EBM, the faults, the traffic, the instances, the test port and the pages keeps
(`Kept`: the queue, the outputs, the free values, the canonical form of the register file and of EBM).
-/
namespace Sys2Proof.Machine

/-! ### Machine/Dma.lean -/

theorem kept_dmaCtrlCmd {z s : State} (src : Src) (ch : Nat) (v : Word) (desc : Option (List Word)) (hk : Kept z s) : Kept z (dmaCtrlCmd s src ch v desc) := by
  unfold dmaCtrlCmd
  repeat' first
    | with_reducible assumption
    | with_reducible apply kept_gatedW
    | with_reducible apply kept_refuseAccess
    | with_reducible apply kept_dmaCtrl
    | with_reducible refine kept_ite ?_ ?_
    | (fail_if_no_progress (with_reducible refine kept_mk ?_))
    | split
    | dsimp only
    | intro _

theorem kept_execDmaStartSingle {z : State} (src : Src) (ch : BitVec 6) (v : Word) {s : State} (hk : Kept z s) : KeptBy z (execDmaStartSingle src ch v s) := by
  unfold execDmaStartSingle
  repeat' first
    | with_reducible assumption
    | with_reducible refine keptBy_next ?_
    | with_reducible apply kept_dmaCtrlCmd

theorem kept_execDmaStartChain {z : State} (src : Src) (ch : BitVec 6) (v : Word) (desc : Option (List Word)) {s : State} (hk : Kept z s) : KeptBy z (execDmaStartChain src ch v desc s) := by
  unfold execDmaStartChain
  repeat' first
    | with_reducible assumption
    | with_reducible refine keptBy_next ?_
    | with_reducible apply kept_dmaCtrlCmd

theorem kept_execDmaPause {z : State} (src : Src) (ch : BitVec 6) {s : State} (hk : Kept z s) : KeptBy z (execDmaPause src ch s) := by
  unfold execDmaPause
  repeat' first
    | with_reducible assumption
    | with_reducible refine keptBy_next ?_
    | with_reducible apply kept_dmaCtrlCmd

theorem kept_execDmaResume {z : State} (src : Src) (ch : BitVec 6) {s : State} (hk : Kept z s) : KeptBy z (execDmaResume src ch s) := by
  unfold execDmaResume
  repeat' first
    | with_reducible assumption
    | with_reducible refine keptBy_next ?_
    | with_reducible apply kept_dmaCtrlCmd

theorem kept_execDmaStop {z : State} (src : Src) (ch : BitVec 6) {s : State} (hk : Kept z s) : KeptBy z (execDmaStop src ch s) := by
  unfold execDmaStop
  repeat' first
    | with_reducible assumption
    | with_reducible refine keptBy_next ?_
    | with_reducible apply kept_dmaCtrlCmd

theorem kept_execDmaPaused {z : State} (ch : BitVec 6) (moved : BitVec 24) (d : List Byte) {s : State} (hk : Kept z s) : KeptBy z (execDmaPaused ch moved d s) := by
  unfold execDmaPaused
  repeat' first
    | with_reducible assumption
    | with_reducible refine keptBy_next ?_
    | with_reducible apply kept_chanPaused

theorem kept_execDmaDescriptorDone {z : State} (ch : BitVec 6) (d : List Byte) (next : Option (List Word)) (waits : List (BitVec 16)) {s : State} (hk : Kept z s) : KeptBy z (execDmaDescriptorDone ch d next waits s) := by
  unfold execDmaDescriptorDone
  repeat' first
    | with_reducible assumption
    | with_reducible refine keptBy_next ?_
    | with_reducible apply kept_xferDone

theorem kept_lostCell {z s : State} (hk : Kept z s) : Kept z (lostCell s).1 := by
  unfold lostCell
  repeat' first
    | with_reducible assumption
    | with_reducible apply kept_reportRef
    | with_reducible refine kept_ite ?_ ?_
    | (fail_if_no_progress (with_reducible refine kept_mk ?_))
    | split

theorem kept_spillFail {z s : State} (c : Nat) (a : Nat) (hk : Kept z s) : Kept z (spillFail s c a) := by
  unfold spillFail
  repeat' first
    | with_reducible assumption
    | with_reducible apply kept_leaveLists
    | with_reducible apply kept_eccReport
    | with_reducible apply kept_drainPosts
    | with_reducible apply kept_updTq
    | with_reducible apply kept_eccFail
    | with_reducible refine kept_ite ?_ ?_
    | (fail_if_no_progress (with_reducible refine kept_mk ?_))
    | split

theorem kept_flowBusError {z s : State} (c : Nat) (k : BusErr) (hk : Kept z s) : Kept z (flowBusError s c k) := by
  unfold flowBusError
  repeat' first
    | with_reducible assumption
    | with_reducible apply kept_emit
    | with_reducible apply kept_eccLog
    | with_reducible apply kept_lostCell
    | with_reducible apply kept_flowOn
    | with_reducible apply kept_goOn
    | with_reducible apply kept_failWork
    | with_reducible apply kept_eccFail
    | with_reducible refine kept_ite ?_ ?_
    | (fail_if_no_progress (with_reducible refine kept_mk ?_))
    | split

theorem kept_flowError {z s : State} (c : Nat) (k : BusErr) (hk : Kept z s) : Kept z (flowError s c k) := by
  unfold flowError
  repeat' first
    | with_reducible assumption
    | with_reducible apply kept_spillFail
    | with_reducible apply kept_flowBusError
    | with_reducible refine kept_ite ?_ ?_
    | (fail_if_no_progress (with_reducible refine kept_mk ?_))
    | split

theorem kept_chanBusError {z s : State} (ch : Nat) (k : BusErr) (n : Nat) (d : List Byte) (next : Option (List Word)) (hk : Kept z s) : Kept z (chanBusError s ch k n d next) := by
  unfold chanBusError
  repeat' first
    | with_reducible assumption
    | with_reducible apply kept_moveBytes
    | with_reducible apply kept_xferEnd
    | with_reducible apply kept_eccLog
    | with_reducible refine kept_ite ?_ ?_
    | (fail_if_no_progress (with_reducible refine kept_mk ?_))
    | split

theorem kept_execDmaBusError {z : State} (t : DmaTarget) (k : BusFail) (next : Option (List Word)) {s : State} (hk : Kept z s) : KeptBy z (execDmaBusError t k next s) := by
  unfold execDmaBusError
  repeat' first
    | with_reducible assumption
    | with_reducible refine keptBy_next ?_
    | with_reducible apply kept_chanBusError
    | with_reducible apply kept_flowError
    | with_reducible refine kept_ite ?_ ?_
    | (fail_if_no_progress (with_reducible refine kept_mk ?_))
    | split

theorem kept_execDmaDescReadFail {z : State} (ch : BitVec 6) {s : State} (hk : Kept z s) : KeptBy z (execDmaDescReadFail ch s) := by
  unfold execDmaDescReadFail
  repeat' first
    | with_reducible assumption
    | with_reducible refine keptBy_next ?_
    | with_reducible apply kept_descLost

theorem kept_execDmaBarrierArrived {z : State} (ch : BitVec 6) (next : Option (List Word)) {s : State} (hk : Kept z s) : KeptBy z (execDmaBarrierArrived ch next s) := by
  unfold execDmaBarrierArrived
  repeat' first
    | with_reducible assumption
    | with_reducible refine keptBy_next ?_
    | with_reducible apply kept_barrierDone

theorem kept_execDmaPaceTimer {z : State} (ch : BitVec 6) {s : State} (hk : Kept z s) : KeptBy z (execDmaPaceTimer ch s) := by
  unfold execDmaPaceTimer
  repeat' first
    | with_reducible assumption
    | with_reducible refine keptBy_next ?_
    | with_reducible apply kept_paceEvent
    | with_reducible refine kept_ite ?_ ?_

/-! ### Machine/CellOps.lean -/

theorem kept_crcFail {z s : State} (ringB : Bool) (hk : Kept z s) : Kept z (crcFail s ringB) := by
  unfold crcFail
  repeat' first
    | with_reducible assumption
    | with_reducible apply kept_incF
    | with_reducible apply kept_report
    | with_reducible refine kept_ite ?_ ?_
    | (fail_if_no_progress (with_reducible refine kept_mk ?_))

theorem kept_hopDrop {z s : State} (hk : Kept z s) : Kept z (hopDrop s) := by
  unfold hopDrop
  repeat' first
    | with_reducible assumption
    | with_reducible apply kept_incF

theorem kept_noDst {z s : State} (hk : Kept z s) : Kept z (noDst s) := by
  unfold noDst
  repeat' first
    | with_reducible assumption
    | with_reducible apply kept_incF

theorem kept_noteDrop {z s : State} (c : Cell) (hk : Kept z s) : Kept z (noteDrop s c) := by
  unfold noteDrop
  repeat' first
    | with_reducible assumption
    | with_reducible refine kept_ite ?_ ?_
    | (fail_if_no_progress (with_reducible refine kept_mk ?_))

theorem kept_takeSeq {z s : State} (c : Cell) (hk : Kept z s) : Kept z (takeSeq s c) := by
  unfold takeSeq
  repeat' first
    | with_reducible assumption
    | with_reducible apply kept_incF
    | with_reducible refine kept_ite ?_ ?_
    | (fail_if_no_progress (with_reducible refine kept_mk ?_))

theorem kept_ringReceive {z s : State} (doms : List Nat) (hk : Kept z s) : Kept z (ringReceive s doms) := by
  unfold ringReceive
  repeat' first
    | with_reducible assumption
    | with_reducible apply kept_each
    | with_reducible apply kept_pulse
    | with_reducible refine kept_ite ?_ ?_
    | (fail_if_no_progress (with_reducible refine kept_mk ?_))
    | split
    | dsimp only
    | intro _

theorem kept_ringWrites {z s : State} (banks : List Nat) (hk : Kept z s) : Kept z (ringWrites s banks) := by
  unfold ringWrites
  repeat' first
    | with_reducible assumption
    | with_reducible apply kept_freeStep
    | with_reducible apply kept_ringReceive

theorem kept_tagLost {z s : State} (tag : Word) (hk : Kept z s) : Kept z (tagLost s tag) := by
  unfold tagLost
  repeat' first
    | with_reducible assumption
    | with_reducible apply kept_chanBusError
    | with_reducible apply kept_flowBusError
    | with_reducible refine kept_ite ?_ ?_

theorem kept_relayLost {z s : State} (ctx : Nat) (hk : Kept z s) : Kept z (relayLost s ctx) := by
  unfold relayLost
  repeat' first
    | with_reducible assumption
    | with_reducible apply kept_lostCell
    | with_reducible apply kept_goOn
    | with_reducible apply kept_cutWork
    | with_reducible apply kept_setEp
    | with_reducible refine kept_ite ?_ ?_
    | (fail_if_no_progress (with_reducible refine kept_mk ?_))
    | split
    | (refine kept_fst (by assumption) ?_)
    | (refine kept_snd (by assumption) ?_)
    | dsimp only

theorem kept_cellLost {z s : State} (typ : Nat) (tag : Word) (hk : Kept z s) : Kept z (cellLost s typ tag) := by
  unfold cellLost
  repeat' first
    | with_reducible assumption
    | with_reducible apply kept_tagLost
    | with_reducible apply kept_relayLost
    | with_reducible refine kept_ite ?_ ?_

theorem kept_seqLost {z s : State} (c : Cell) (hk : Kept z s) : Kept z (seqLost s c) := by
  unfold seqLost
  repeat' first
    | with_reducible assumption
    | with_reducible apply kept_each
    | with_reducible apply kept_freeStep
    | with_reducible apply kept_cellLost
    | with_reducible refine kept_ite ?_ ?_
    | (fail_if_no_progress (with_reducible refine kept_mk ?_))
    | split
    | dsimp only
    | intro _

theorem kept_settleCell {z : State} (before : Nat) {s : State} (c : Cell) (hk : Kept z s) : Kept z (settleCell before s c) := by
  unfold settleCell
  repeat' first
    | with_reducible assumption
    | with_reducible apply kept_freeIngress
    | with_reducible refine kept_ite ?_ ?_
    | (fail_if_no_progress (with_reducible refine kept_mk ?_))

theorem kept_arrive {z s : State} (c : Cell) (typ : Nat) {eff : State → State} (hk : Kept z s) (he0 : ∀ (x : State), Kept z x → Kept z (eff x)) : Kept z (arrive s c typ eff) := by
  unfold arrive
  repeat' first
    | with_reducible assumption
    | with_reducible apply kept_cellLost
    | with_reducible apply kept_noteDrop
    | with_reducible apply kept_crcFail
    | with_reducible apply kept_hopDrop
    | with_reducible apply kept_freeIngress
    | with_reducible apply kept_authDrop
    | with_reducible apply kept_takeIngress
    | with_reducible apply kept_takeSeq
    | with_reducible apply kept_takeCredits
    | with_reducible apply kept_seqLost
    | with_reducible apply kept_settleCell
    | with_reducible apply he0
    | with_reducible refine kept_ite ?_ ?_

theorem kept_forward {z s : State} (ringB : Bool) (c : Cell) (res : Nat) (hk : Kept z s) : Kept z (forward s ringB c res) := by
  unfold forward
  repeat' first
    | with_reducible assumption
    | with_reducible apply kept_enqueue

theorem kept_transit {z s : State} (ringB : Bool) (c : Cell) (res : Nat) (hk : Kept z s) : Kept z (transit s ringB c res) := by
  unfold transit
  repeat' first
    | with_reducible assumption
    | with_reducible apply kept_crcFail
    | with_reducible apply kept_freeIngress
    | with_reducible apply kept_noDst
    | with_reducible apply kept_takeIngress
    | with_reducible apply kept_hopDrop
    | with_reducible apply kept_forward
    | with_reducible refine kept_ite ?_ ?_

/-! ### Machine/Cells.lean -/

theorem kept_execCellTransit {z : State} (ringB : Bool) (p : Passing) {s : State} (hk : Kept z s) : KeptBy z (execCellTransit ringB p s) := by
  unfold execCellTransit
  repeat' first
    | with_reducible assumption
    | with_reducible refine keptBy_next ?_
    | with_reducible apply kept_transit

theorem kept_dataOut {z s : State} (d : List Byte) (hk : Kept z s) : Kept z (dataOut s d) := by
  unfold dataOut
  repeat' first
    | with_reducible assumption
    | with_reducible apply kept_freeStep
    | with_reducible apply kept_hostStore

theorem kept_dataTaken {z s : State} (tag : Word) (d : List Byte) (hk : Kept z s) : Kept z (dataTaken s tag d) := by
  unfold dataTaken
  repeat' first
    | with_reducible assumption
    | with_reducible apply kept_setChan
    | with_reducible refine kept_ite ?_ ?_

theorem kept_execDataCellRx {z : State} (c : Cell) {s : State} (hk : Kept z s) : KeptBy z (execDataCellRx c s) := by
  unfold execDataCellRx
  repeat' first
    | with_reducible assumption
    | with_reducible refine keptBy_next ?_
    | with_reducible apply kept_arrive
    | with_reducible apply kept_emit
    | with_reducible apply kept_ringReceive
    | with_reducible apply kept_dataOut
    | with_reducible apply kept_dataTaken
    | with_reducible refine kept_ite ?_ ?_
    | (fail_if_no_progress (with_reducible refine kept_mk ?_))
    | split
    | (refine kept_snd (by assumption) ?_)
    | dsimp only
    | intro _

theorem kept_freeSteps {z s : State} (n : Nat) (hk : Kept z s) : Kept z (freeSteps s n) :=
  ⟨hk.pending, hk.out, hk.fresh.trans (Nat.le_add_right _ _), hk.regs, hk.ebm⟩

theorem kept_readBack {z s : State} (pos : Nat) (tag : Word) (n : Nat) (hk : Kept z s) : Kept z (readBack s pos tag n) := by
  unfold readBack
  repeat' first
    | with_reducible assumption
    | with_reducible apply kept_freeStep
    | with_reducible apply kept_freeSteps
    | with_reducible apply kept_each
    | with_reducible apply kept_sendCell
    | with_reducible refine kept_ite ?_ ?_
    | (fail_if_no_progress (with_reducible refine kept_mk ?_))
    | split
    | (refine kept_snd (by assumption) ?_)
    | dsimp only
    | intro _

theorem kept_execReadReqCellRx {z : State} (c : Cell) {s : State} (hk : Kept z s) : KeptBy z (execReadReqCellRx c s) := by
  unfold execReadReqCellRx
  repeat' first
    | with_reducible assumption
    | with_reducible refine keptBy_next ?_
    | with_reducible apply kept_arrive
    | with_reducible apply kept_emit
    | with_reducible apply kept_freeStep
    | with_reducible apply kept_hostRead
    | with_reducible apply kept_readBack
    | with_reducible refine kept_ite ?_ ?_
    | (fail_if_no_progress (with_reducible refine kept_mk ?_))
    | split
    | (refine kept_snd (by assumption) ?_)
    | dsimp only
    | intro _

theorem kept_cellAccess {z s : State} (c : Cell) (op : Op) (hk : Kept z s) : Kept z (cellAccess s c op) := by
  unfold cellAccess
  repeat' first
    | with_reducible assumption
    | with_reducible apply kept_access

theorem kept_execRegWrCellRx {z : State} (c : Cell) {s : State} (hk : Kept z s) : KeptBy z (execRegWrCellRx c s) := by
  unfold execRegWrCellRx
  repeat' first
    | with_reducible assumption
    | with_reducible refine keptBy_next ?_
    | with_reducible apply kept_arrive
    | with_reducible apply kept_idxArrives
    | with_reducible apply kept_cellAccess
    | with_reducible refine kept_ite ?_ ?_
    | (fail_if_no_progress (with_reducible refine kept_mk ?_))
    | split
    | dsimp only
    | intro _

theorem kept_execRegRdCellRx {z : State} (c : Cell) {s : State} (hk : Kept z s) : KeptBy z (execRegRdCellRx c s) := by
  unfold execRegRdCellRx
  repeat' first
    | with_reducible assumption
    | with_reducible refine keptBy_next ?_
    | with_reducible apply kept_arrive
    | with_reducible apply kept_cellAccess
    | with_reducible refine kept_ite ?_ ?_
    | (fail_if_no_progress (with_reducible refine kept_mk ?_))
    | split
    | dsimp only
    | intro _

theorem kept_cplTaken {z s : State} (c : Cell) (hk : Kept z s) : Kept z (cplTaken s c) := by
  unfold cplTaken
  repeat' first
    | with_reducible assumption
    | with_reducible apply kept_svcGo
    | with_reducible apply kept_svcGot
    | with_reducible apply kept_errorAnswer
    | with_reducible apply kept_answer
    | with_reducible refine kept_ite ?_ ?_
    | (fail_if_no_progress (with_reducible refine kept_mk ?_))
    | split

theorem kept_execRegCplCellRx {z : State} (c : Cell) {s : State} (hk : Kept z s) : KeptBy z (execRegCplCellRx c s) := by
  unfold execRegCplCellRx
  repeat' first
    | with_reducible assumption
    | with_reducible refine keptBy_next ?_
    | with_reducible apply kept_arrive
    | with_reducible apply kept_cplTaken
    | with_reducible refine kept_ite ?_ ?_
    | (fail_if_no_progress (with_reducible refine kept_mk ?_))
    | split
    | dsimp only
    | intro _

theorem kept_eventTaken {z s : State} (c : Cell) (hk : Kept z s) : Kept z (eventTaken s c) := by
  unfold eventTaken
  repeat' first
    | with_reducible assumption
    | with_reducible apply kept_posEvent
    | with_reducible apply kept_msix
    | with_reducible refine kept_ite ?_ ?_

theorem kept_execEventCellRx {z : State} (c : Cell) {s : State} (hk : Kept z s) : KeptBy z (execEventCellRx c s) := by
  unfold execEventCellRx
  repeat' first
    | with_reducible assumption
    | with_reducible refine keptBy_next ?_
    | with_reducible apply kept_arrive
    | with_reducible apply kept_eventTaken
    | with_reducible refine kept_ite ?_ ?_
    | (fail_if_no_progress (with_reducible refine kept_mk ?_))
    | split
    | dsimp only
    | intro _

theorem kept_postTaken {z s : State} (p : PostMsg) (hk : Kept z s) : Kept z (postTaken s p) := by
  unfold postTaken
  repeat' first
    | with_reducible assumption
    | with_reducible apply kept_writePost
    | with_reducible apply kept_ringWrites
    | with_reducible refine kept_ite ?_ ?_
    | (fail_if_no_progress (with_reducible refine kept_mk ?_))

theorem kept_execPostCellRx {z : State} (c : Cell) (p : PostMsg) {s : State} (hk : Kept z s) : KeptBy z (execPostCellRx c p s) := by
  unfold execPostCellRx
  repeat' first
    | with_reducible assumption
    | with_reducible refine keptBy_next ?_
    | with_reducible apply kept_arrive
    | with_reducible apply kept_postTaken
    | with_reducible refine kept_ite ?_ ?_
    | (fail_if_no_progress (with_reducible refine kept_mk ?_))
    | split
    | dsimp only
    | intro _

theorem kept_relayTaken {z s : State} (c : Cell) (hk : Kept z s) : Kept z (relayTaken s c) := by
  unfold relayTaken
  repeat' first
    | with_reducible assumption
    | with_reducible apply kept_noteLists
    | with_reducible apply kept_sinkFill
    | with_reducible apply kept_ringWrites
    | with_reducible apply kept_bufPut
    | with_reducible refine kept_ite ?_ ?_
    | (fail_if_no_progress (with_reducible refine kept_mk ?_))
    | split
    | (refine kept_snd (by assumption) ?_)
    | dsimp only

theorem kept_execRelayCellRx {z : State} (c : Cell) {s : State} (hk : Kept z s) : KeptBy z (execRelayCellRx c s) := by
  unfold execRelayCellRx
  repeat' first
    | with_reducible assumption
    | with_reducible refine keptBy_next ?_
    | with_reducible apply kept_arrive
    | with_reducible apply kept_relayTaken
    | with_reducible refine kept_ite ?_ ?_
    | (fail_if_no_progress (with_reducible refine kept_mk ?_))
    | split
    | dsimp only
    | intro _

theorem kept_execRelayRoomReportRx {z : State} (c : Cell) {s : State} (hk : Kept z s) : KeptBy z (execRelayRoomReportRx c s) := by
  unfold execRelayRoomReportRx
  repeat' first
    | with_reducible assumption
    | with_reducible refine keptBy_next ?_
    | with_reducible apply kept_arrive
    | with_reducible apply kept_relayMove
    | with_reducible apply kept_updEp
    | with_reducible refine kept_ite ?_ ?_
    | (fail_if_no_progress (with_reducible refine kept_mk ?_))
    | split
    | (refine kept_snd (by assumption) ?_)
    | dsimp only
    | intro _

theorem kept_execCreditCellRx {z : State} (c : Cell) {s : State} (hk : Kept z s) : KeptBy z (execCreditCellRx c s) := by
  unfold execCreditCellRx
  repeat' first
    | with_reducible assumption
    | with_reducible refine keptBy_next ?_
    | with_reducible apply kept_arrive
    | with_reducible refine kept_ite ?_ ?_
    | (fail_if_no_progress (with_reducible refine kept_mk ?_))
    | split
    | dsimp only
    | intro _

theorem kept_returnCredits {z s : State} (pos : Nat) (cls : Nat) (ringB : Bool) (hk : Kept z s) : Kept z (returnCredits s pos cls ringB) := by
  unfold returnCredits
  repeat' first
    | with_reducible assumption
    | with_reducible apply kept_submit
    | with_reducible refine kept_ite ?_ ?_

theorem kept_execCreditReturnTimer {z : State} (pos : BitVec 6) (cls : BitVec 2) (ringB : Bool) {s : State} (hk : Kept z s) : KeptBy z (execCreditReturnTimer pos cls ringB s) := by
  unfold execCreditReturnTimer
  repeat' first
    | with_reducible assumption
    | with_reducible refine keptBy_next ?_
    | with_reducible apply kept_returnCredits

theorem kept_faultTaken {z s : State} (loc : BitVec 64) (code : BitVec 16) (hk : Kept z s) : Kept z (faultTaken s loc code) := by
  unfold faultTaken
  repeat' first
    | with_reducible assumption
    | with_reducible apply kept_report
    | with_reducible apply kept_headBreak
    | with_reducible refine kept_ite ?_ ?_

theorem kept_execFaultCellRx {z : State} (c : Cell) (loc : BitVec 64) (code : BitVec 16) {s : State} (hk : Kept z s) : KeptBy z (execFaultCellRx c loc code s) := by
  unfold execFaultCellRx
  repeat' first
    | with_reducible assumption
    | with_reducible refine keptBy_next ?_
    | with_reducible apply kept_arrive
    | with_reducible apply kept_faultTaken
    | with_reducible refine kept_ite ?_ ?_
    | (fail_if_no_progress (with_reducible refine kept_mk ?_))
    | split
    | dsimp only
    | intro _

/-! ### Machine/Ebm.lean -/

theorem kept_scrub {z s : State} (errs : List EccHit) (waits : List (BitVec 16)) (hk : Kept z s) : Kept z (scrub s errs waits) := by
  unfold scrub
  repeat' first
    | with_reducible assumption
    | with_reducible apply kept_bad
    | with_reducible apply kept_each
    | with_reducible apply kept_bankAsk
    | with_reducible apply kept_eccLog
    | with_reducible apply kept_incF
    | with_reducible refine kept_ite ?_ ?_
    | (fail_if_no_progress (with_reducible refine kept_mk ?_))
    | split
    | (refine kept_snd (by assumption) ?_)
    | dsimp only
    | intro _

theorem kept_execScrubTick {z : State} (errs : List EccHit) (waits : List (BitVec 16)) {s : State} (hk : Kept z s) : KeptBy z (execScrubTick errs waits s) := by
  unfold execScrubTick
  repeat' first
    | with_reducible assumption
    | with_reducible refine keptBy_next ?_
    | with_reducible apply kept_scrub
    | with_reducible refine kept_ite ?_ ?_

theorem kept_refreshNext {z s : State} (b : Nat) (wait : Nat) (hk : Kept z s) : Kept z (refreshNext s b wait) := by
  unfold refreshNext
  repeat' first
    | with_reducible assumption
    | with_reducible apply kept_showRefresh
    | with_reducible apply kept_bankAsk
    | with_reducible refine kept_ite ?_ ?_
    | (fail_if_no_progress (with_reducible refine kept_mk ?_))

theorem kept_execRefreshRow {z : State} (bank : BitVec 3) (wait : BitVec 16) {s : State} (hk : Kept z s) : KeptBy z (execRefreshRow bank wait s) := by
  unfold execRefreshRow
  repeat' first
    | with_reducible assumption
    | with_reducible refine keptBy_next ?_
    | with_reducible apply kept_refreshNext
    | with_reducible refine kept_ite ?_ ?_

theorem kept_sample {z s : State} (b : Nat) (t : ℤ) (hk : Kept z s) : Kept z (sample s b t) := by
  unfold sample
  repeat' first
    | with_reducible assumption
    | with_reducible apply kept_showRefresh
    | with_reducible apply kept_report
    | with_reducible apply kept_errBit
    | with_reducible refine kept_ite ?_ ?_
    | (fail_if_no_progress (with_reducible refine kept_mk ?_))

theorem kept_execTempSample {z : State} (bank : BitVec 3) (tj : BitVec 8) {s : State} (hk : Kept z s) : KeptBy z (execTempSample bank tj s) := by
  unfold execTempSample
  repeat' first
    | with_reducible assumption
    | with_reducible refine keptBy_next ?_
    | with_reducible apply kept_sample
    | with_reducible refine kept_ite ?_ ?_

theorem kept_execArbClear {z : State} (src : Src) {s : State} (hk : Kept z s) : KeptBy z (execArbClear src s) := by
  unfold execArbClear
  repeat' first
    | with_reducible assumption
    | with_reducible refine keptBy_next ?_
    | with_reducible apply kept_gatedW
    | with_reducible apply kept_serveWrite
    | with_reducible refine kept_ite ?_ ?_
    | (fail_if_no_progress (with_reducible refine kept_mk ?_))
    | split
    | dsimp only
    | intro _

/-! ### Machine/Faults.lean -/

theorem kept_execFaultReport {z : State} (loc : BitVec 64) (code : BitVec 16) {s : State} (hk : Kept z s) : KeptBy z (execFaultReport loc code s) := by
  unfold execFaultReport
  repeat' first
    | with_reducible assumption
    | with_reducible refine keptBy_next ?_
    | with_reducible apply kept_report
    | with_reducible refine kept_ite ?_ ?_

theorem kept_execHushWindowEnd {z : State} (rec : BitVec 6) {s : State} (hk : Kept z s) : KeptBy z (execHushWindowEnd rec s) := by
  unfold execHushWindowEnd
  repeat' first
    | with_reducible assumption
    | with_reducible refine keptBy_next ?_
    | with_reducible apply kept_hushEnd
    | with_reducible refine kept_ite ?_ ?_

theorem kept_execFltRetire {z : State} (src : Src) (rec : BitVec 6) {s : State} (hk : Kept z s) : KeptBy z (execFltRetire src rec s) := by
  unfold execFltRetire
  repeat' first
    | with_reducible assumption
    | with_reducible refine keptBy_next ?_
    | with_reducible apply kept_access

theorem kept_execFltFreeze {z : State} (src : Src) {s : State} (hk : Kept z s) : KeptBy z (execFltFreeze src s) := by
  unfold execFltFreeze
  repeat' first
    | with_reducible assumption
    | with_reducible refine keptBy_next ?_
    | with_reducible apply kept_access

theorem kept_execFltThaw {z : State} (src : Src) {s : State} (hk : Kept z s) : KeptBy z (execFltThaw src s) := by
  unfold execFltThaw
  repeat' first
    | with_reducible assumption
    | with_reducible refine keptBy_next ?_
    | with_reducible apply kept_access

theorem kept_execSnapshotDone {z : State} (ok : Bool) {s : State} (hk : Kept z s) : KeptBy z (execSnapshotDone ok s) := by
  unfold execSnapshotDone
  repeat' first
    | with_reducible assumption
    | with_reducible refine keptBy_next ?_
    | with_reducible apply kept_snapshotEnd

theorem kept_execHeartbeatCheck {z : State} (missed : List Engine) {s : State} (hk : Kept z s) : KeptBy z (execHeartbeatCheck missed s) := by
  unfold execHeartbeatCheck
  repeat' first
    | with_reducible assumption
    | with_reducible refine keptBy_next ?_
    | with_reducible apply kept_heartbeats
    | with_reducible refine kept_ite ?_ ?_

theorem kept_execEngineWatchdogExpire {z : State} (e : Engine) {s : State} (hk : Kept z s) : KeptBy z (execEngineWatchdogExpire e s) := by
  unfold execEngineWatchdogExpire
  repeat' first
    | with_reducible assumption
    | with_reducible refine keptBy_next ?_
    | with_reducible apply kept_engExpire
    | with_reducible refine kept_ite ?_ ?_

theorem kept_execEngineRestartDone {z : State} (e : Engine) {s : State} (hk : Kept z s) : KeptBy z (execEngineRestartDone e s) := by
  unfold execEngineRestartDone
  repeat' first
    | with_reducible assumption
    | with_reducible refine keptBy_next ?_
    | with_reducible apply kept_setEngState
    | with_reducible refine kept_ite ?_ ?_

theorem kept_execEqAdaptTick {z : State} (eastMv : BitVec 8) (westMv : BitVec 8) (eastUi : BitVec 8) (westUi : BitVec 8) {s : State} (hk : Kept z s) : KeptBy z (execEqAdaptTick eastMv westMv eastUi westUi s) := by
  unfold execEqAdaptTick
  repeat' first
    | with_reducible assumption
    | with_reducible refine keptBy_next ?_
    | with_reducible apply kept_wr
    | with_reducible refine kept_ite ?_ ?_

theorem kept_execCalMarginTimer {z : State} (k : CalMargin) {s : State} (hk : Kept z s) : KeptBy z (execCalMarginTimer k s) := by
  unfold execCalMarginTimer
  repeat' first
    | with_reducible assumption
    | with_reducible refine keptBy_next ?_
    | with_reducible apply kept_report
    | with_reducible apply kept_errBit
    | with_reducible refine kept_ite ?_ ?_

theorem kept_execThermalShutdown {z s : State} (hk : Kept z s) : KeptBy z (execThermalShutdown s) := by
  unfold execThermalShutdown
  repeat' first
    | with_reducible assumption
    | with_reducible refine keptBy_next ?_
    | with_reducible apply kept_thermalP5
    | with_reducible apply kept_sbdFault
    | with_reducible apply kept_report
    | with_reducible refine kept_ite ?_ ?_

/-! ### Machine/Flow.lean -/

theorem kept_execWheelBlockReadDone {z : State} (n : Word) (addr : Addr) (block : List Word) (took : BitVec 16) {s : State} (hk : Kept z s) : KeptBy z (execWheelBlockReadDone n addr block took s) := by
  unfold execWheelBlockReadDone
  repeat' first
    | with_reducible assumption
    | with_reducible refine keptBy_next ?_
    | with_reducible apply kept_wf
    | with_reducible apply kept_endWalk
    | with_reducible apply kept_walkTo
    | with_reducible apply kept_err
    | with_reducible apply kept_each
    | with_reducible apply kept_takePse
    | with_reducible refine kept_ite ?_ ?_
    | (fail_if_no_progress (with_reducible refine kept_mk ?_))
    | split
    | (refine kept_snd (by assumption) ?_)
    | dsimp only
    | intro _

theorem kept_execWheelReadFail {z : State} (n : Word) {s : State} (hk : Kept z s) : KeptBy z (execWheelReadFail n s) := by
  unfold execWheelReadFail
  repeat' first
    | with_reducible assumption
    | with_reducible refine keptBy_next ?_
    | with_reducible apply kept_endWalk
    | with_reducible apply kept_err
    | with_reducible refine kept_ite ?_ ?_
    | (fail_if_no_progress (with_reducible refine kept_mk ?_))
    | split

theorem kept_execCohortCheck {z : State} (n : Word) {s : State} (hk : Kept z s) : KeptBy z (execCohortCheck n s) := by
  unfold execCohortCheck
  repeat' first
    | with_reducible assumption
    | with_reducible refine keptBy_next ?_
    | with_reducible apply kept_each
    | with_reducible apply kept_checkCohort
    | with_reducible refine kept_ite ?_ ?_
    | (fail_if_no_progress (with_reducible refine kept_mk ?_))
    | split
    | (refine kept_snd (by assumption) ?_)
    | dsimp only
    | intro _

theorem kept_execOperationDispatch {z : State} (ctx : BitVec 13) (t : Nat) {s : State} (hk : Kept z s) : KeptBy z (execOperationDispatch ctx t s) := by
  unfold execOperationDispatch
  repeat' first
    | with_reducible assumption
    | with_reducible refine keptBy_next ?_
    | with_reducible apply kept_relayMove
    | with_reducible apply kept_noteLists
    | with_reducible apply kept_startTxn
    | with_reducible apply kept_failLater
    | with_reducible apply kept_endService
    | with_reducible apply kept_startMove
    | with_reducible refine kept_ite ?_ ?_
    | (fail_if_no_progress (with_reducible refine kept_mk ?_))
    | split

theorem kept_execGraphReoffer {z : State} (ctx : BitVec 13) {s : State} (hk : Kept z s) : KeptBy z (execGraphReoffer ctx s) := by
  unfold execGraphReoffer
  repeat' first
    | with_reducible assumption
    | with_reducible refine keptBy_next ?_
    | with_reducible apply kept_noteLists
    | with_reducible refine kept_ite ?_ ?_
    | (fail_if_no_progress (with_reducible refine kept_mk ?_))

theorem kept_execSpillReturn {z : State} (ctx : BitVec 13) {s : State} (hk : Kept z s) : KeptBy z (execSpillReturn ctx s) := by
  unfold execSpillReturn
  repeat' first
    | with_reducible assumption
    | with_reducible refine keptBy_next ?_
    | with_reducible apply kept_noteLists
    | with_reducible apply kept_noteSpill
    | with_reducible refine kept_ite ?_ ?_
    | (fail_if_no_progress (with_reducible refine kept_mk ?_))
    | split

theorem kept_execStageDone {z : State} (ctx : BitVec 13) (d : List Byte) (ce : Option (BitVec 25)) (waits : List (BitVec 16)) {s : State} (hk : Kept z s) : KeptBy z (execStageDone ctx d ce waits s) := by
  unfold execStageDone
  repeat' first
    | with_reducible assumption
    | with_reducible refine keptBy_next ?_
    | with_reducible apply kept_bankDone
    | with_reducible apply kept_eccCe
    | with_reducible apply kept_flowOn
    | with_reducible apply kept_stageEnd
    | with_reducible apply kept_arbGrants
    | with_reducible refine kept_ite ?_ ?_
    | (fail_if_no_progress (with_reducible refine kept_mk ?_))
    | split

theorem kept_execDrainDone {z : State} (ctx : BitVec 13) (ce : Option (BitVec 25)) (waits : List (BitVec 16)) {s : State} (hk : Kept z s) : KeptBy z (execDrainDone ctx ce waits s) := by
  unfold execDrainDone
  repeat' first
    | with_reducible assumption
    | with_reducible refine keptBy_next ?_
    | with_reducible apply kept_arbGrants
    | with_reducible apply kept_bankDone
    | with_reducible apply kept_eccCe
    | with_reducible apply kept_flowOn
    | with_reducible apply kept_eccFail
    | with_reducible apply kept_drainEnd
    | with_reducible refine kept_ite ?_ ?_
    | (fail_if_no_progress (with_reducible refine kept_mk ?_))
    | split

theorem kept_execPostDone {z : State} (tq : BitVec 12) {s : State} (hk : Kept z s) : KeptBy z (execPostDone tq s) := by
  unfold execPostDone
  repeat' first
    | with_reducible assumption
    | with_reducible refine keptBy_next ?_
    | with_reducible apply kept_doPost
    | with_reducible apply kept_finishStop
    | with_reducible apply kept_fetch
    | with_reducible apply kept_noteLists
    | with_reducible apply kept_serve
    | with_reducible refine kept_ite ?_ ?_
    | (fail_if_no_progress (with_reducible refine kept_mk ?_))
    | split

theorem kept_execFirstTransactionStart {z : State} (p : BitVec 9) {s : State} (hk : Kept z s) : KeptBy z (execFirstTransactionStart p s) := by
  unfold execFirstTransactionStart
  repeat' first
    | with_reducible assumption
    | with_reducible refine keptBy_next ?_
    | with_reducible apply kept_startTxn
    | with_reducible refine kept_ite ?_ ?_
    | (fail_if_no_progress (with_reducible refine kept_mk ?_))
    | split

theorem kept_suspendDue {z s : State} (p : Nat) (hk : Kept z s) : Kept z (suspendDue s p) := by
  unfold suspendDue
  repeat' first
    | with_reducible assumption
    | with_reducible apply kept_suspendPort
    | with_reducible refine kept_ite ?_ ?_

theorem kept_afterTxn {z s : State} (p : Nat) (c : Nat) (hk : Kept z s) : Kept z (afterTxn s p c) := by
  unfold afterTxn
  repeat' first
    | with_reducible assumption
    | with_reducible apply kept_suspendDue
    | with_reducible apply kept_closeVisit
    | with_reducible apply kept_flowOn

theorem kept_execTransactionEnd {z : State} (p : BitVec 9) (r : Reply) (t : Nat) {s : State} (hk : Kept z s) : KeptBy z (execTransactionEnd p r t s) := by
  unfold execTransactionEnd
  repeat' first
    | with_reducible assumption
    | with_reducible refine keptBy_next ?_
    | with_reducible apply kept_setPort
    | with_reducible apply kept_updWork
    | with_reducible apply kept_afterTxn
    | with_reducible apply kept_splitFail
    | with_reducible apply kept_txnErr
    | with_reducible apply kept_loseDev
    | with_reducible apply kept_failLater
    | with_reducible apply kept_babblePort
    | with_reducible apply kept_endHeld
    | with_reducible apply kept_splitPart
    | with_reducible apply kept_txnDone
    | with_reducible refine kept_ite ?_ ?_
    | (fail_if_no_progress (with_reducible refine kept_mk ?_))
    | split
    | (refine kept_fst (by assumption) ?_)
    | dsimp only

theorem kept_execTransactionTimeout {z : State} (p : BitVec 9) (k : TErr) (t : Nat) {s : State} (hk : Kept z s) : KeptBy z (execTransactionTimeout p k t s) := by
  unfold execTransactionTimeout
  repeat' first
    | with_reducible assumption
    | with_reducible refine keptBy_next ?_
    | with_reducible apply kept_txnErr
    | with_reducible apply kept_endHeld
    | with_reducible apply kept_loseDev
    | with_reducible apply kept_afterTxn
    | with_reducible apply kept_suspendDue
    | with_reducible refine kept_ite ?_ ?_
    | (fail_if_no_progress (with_reducible refine kept_mk ?_))
    | split

/-! ### Machine/Instances.lean -/

theorem kept_execQuiesceInstance {z : State} (o : Owner) (e : List Word) {s : State} (hk : Kept z s) : KeptBy z (execQuiesceInstance o e s) := by
  unfold execQuiesceInstance
  repeat' first
    | with_reducible assumption
    | with_reducible refine keptBy_next ?_
    | with_reducible apply kept_adm
    | with_reducible apply kept_bad
    | with_reducible apply kept_tellHomes
    | with_reducible apply kept_quiesceTqs
    | with_reducible apply kept_setInst
    | with_reducible refine kept_ite ?_ ?_
    | (fail_if_no_progress (with_reducible refine kept_mk ?_))
    | split
    | (refine kept_snd (by assumption) ?_)
    | dsimp only
    | intro _

theorem kept_execQuiesceDone {z : State} (i : BitVec 10) {s : State} (hk : Kept z s) : KeptBy z (execQuiesceDone i s) := by
  unfold execQuiesceDone
  repeat' first
    | with_reducible assumption
    | with_reducible refine keptBy_next ?_
    | with_reducible apply kept_endQuiesce
    | with_reducible refine kept_ite ?_ ?_

theorem kept_drainHeld {z s : State} (ts : List Nat) (hk : Kept z s) : Kept z (drainHeld s ts) := by
  unfold drainHeld
  repeat' first
    | with_reducible assumption
    | with_reducible apply kept_foldl
    | with_reducible apply kept_foldl
    | with_reducible apply kept_each
    | with_reducible apply kept_doPost
    | with_reducible apply kept_noteFull
    | with_reducible refine kept_ite ?_ ?_
    | (fail_if_no_progress (with_reducible refine kept_mk ?_))
    | split
    | (refine kept_snd (by assumption) ?_)
    | dsimp only
    | intro _

theorem kept_lateDrain {z s : State} (o : Owner) (hk : Kept z s) : Kept z (lateDrain s o) := by
  unfold lateDrain
  repeat' first
    | with_reducible assumption
    | with_reducible apply kept_each
    | with_reducible apply kept_writePost
    | with_reducible refine kept_ite ?_ ?_
    | (fail_if_no_progress (with_reducible refine kept_mk ?_))

theorem kept_mirrorsDue {z s : State} (o : Owner) (hk : Kept z s) : Kept z (mirrorsDue s o) := by
  unfold mirrorsDue
  repeat' first
    | with_reducible assumption
    | with_reducible apply kept_each
    | with_reducible apply kept_mirrorTick

theorem kept_untilPoll {z s : State} (o : Owner) (hk : Kept z s) : Kept z (untilPoll s o) := by
  unfold untilPoll
  repeat' first
    | with_reducible assumption
    | with_reducible apply kept_each
    | with_reducible apply kept_updTq
    | with_reducible refine kept_ite ?_ ?_
    | (fail_if_no_progress (with_reducible refine kept_mk ?_))
    | split
    | (refine kept_snd (by assumption) ?_)
    | dsimp only
    | intro _

theorem kept_execResumeInstance {z : State} (o : Owner) (e : List Word) {s : State} (hk : Kept z s) : KeptBy z (execResumeInstance o e s) := by
  unfold execResumeInstance
  repeat' first
    | with_reducible assumption
    | with_reducible refine keptBy_next ?_
    | with_reducible apply kept_adm
    | with_reducible apply kept_bad
    | with_reducible apply kept_untilPoll
    | with_reducible apply kept_tellHomes
    | with_reducible apply kept_setInst
    | with_reducible apply kept_good
    | with_reducible apply kept_msixFlush
    | with_reducible apply kept_mirrorsDue
    | with_reducible apply kept_lateDrain
    | with_reducible apply kept_drainHeld
    | with_reducible refine kept_ite ?_ ?_
    | (fail_if_no_progress (with_reducible refine kept_mk ?_))
    | split
    | (refine kept_snd (by assumption) ?_)
    | dsimp only
    | intro _

theorem kept_execSwapDirtyLog {z : State} (o : Owner) (e : List Word) {s : State} (hk : Kept z s) : KeptBy z (execSwapDirtyLog o e s) := by
  unfold execSwapDirtyLog
  repeat' first
    | with_reducible assumption
    | with_reducible refine keptBy_next ?_
    | with_reducible apply kept_adm
    | with_reducible apply kept_bad
    | with_reducible apply kept_emits
    | with_reducible apply kept_setInst
    | with_reducible apply kept_good
    | with_reducible refine kept_ite ?_ ?_
    | (fail_if_no_progress (with_reducible refine kept_mk ?_))
    | split
    | (refine kept_snd (by assumption) ?_)
    | dsimp only
    | intro _

theorem kept_execVfEnable {z : State} (num : BitVec 11) {s : State} (hk : Kept z s) : KeptBy z (execVfEnable num s) := by
  unfold execVfEnable
  repeat' first
    | with_reducible assumption
    | with_reducible refine keptBy_next ?_
    | with_reducible apply kept_setVfs
    | with_reducible refine kept_ite ?_ ?_

theorem kept_execVfRemoval {z : State} (num : BitVec 11) {s : State} (hk : Kept z s) : KeptBy z (execVfRemoval num s) := by
  unfold execVfRemoval
  repeat' first
    | with_reducible assumption
    | with_reducible refine keptBy_next ?_
    | with_reducible apply kept_setVfs
    | with_reducible refine kept_ite ?_ ?_

theorem kept_execFunctionLevelReset {z : State} (i : BitVec 10) {s : State} (hk : Kept z s) : KeptBy z (execFunctionLevelReset i s) := by
  unfold execFunctionLevelReset
  repeat' first
    | with_reducible assumption
    | with_reducible refine keptBy_next ?_
    | with_reducible apply kept_beginReset
    | with_reducible refine kept_ite ?_ ?_

theorem kept_execInstanceResetDone {z : State} (i : BitVec 10) {s : State} (hk : Kept z s) : KeptBy z (execInstanceResetDone i s) := by
  unfold execInstanceResetDone
  repeat' first
    | with_reducible assumption
    | with_reducible refine keptBy_next ?_
    | with_reducible apply kept_endReset

theorem kept_execMsixUnmask {z : State} (o : Owner) (k : MaskCond) {s : State} (hk : Kept z s) : KeptBy z (execMsixUnmask o k s) := by
  unfold execMsixUnmask
  repeat' first
    | with_reducible assumption
    | with_reducible refine keptBy_next ?_
    | with_reducible apply kept_unmask
    | with_reducible refine kept_ite ?_ ?_

theorem kept_execTenantInRelease {z : State} (i : BitVec 10) {s : State} (hk : Kept z s) : KeptBy z (execTenantInRelease i s) := by
  unfold execTenantInRelease
  repeat' first
    | with_reducible assumption
    | with_reducible refine keptBy_next ?_
    | with_reducible apply kept_tenantIn
    | with_reducible refine kept_ite ?_ ?_

theorem kept_execTenantOutPost {z : State} (i : BitVec 10) {s : State} (hk : Kept z s) : KeptBy z (execTenantOutPost i s) := by
  unfold execTenantOutPost
  repeat' first
    | with_reducible assumption
    | with_reducible refine keptBy_next ?_
    | with_reducible apply kept_tenantOut
    | with_reducible refine kept_ite ?_ ?_

theorem kept_execManagerInPost {z : State} (src : Src) {s : State} (hk : Kept z s) : KeptBy z (execManagerInPost src s) := by
  unfold execManagerInPost
  repeat' first
    | with_reducible assumption
    | with_reducible refine keptBy_next ?_
    | with_reducible apply kept_gatedW
    | with_reducible apply kept_managerIn

theorem kept_execManagerOutRelease {z : State} (src : Src) {s : State} (hk : Kept z s) : KeptBy z (execManagerOutRelease src s) := by
  unfold execManagerOutRelease
  repeat' first
    | with_reducible assumption
    | with_reducible refine keptBy_next ?_
    | with_reducible apply kept_gatedW
    | with_reducible apply kept_managerOut

/-! ### Machine/Jtag.lean -/

theorem kept_takeBalls {z s : State} (hk : Kept z s) : Kept z (takeBalls s) := by
  unfold takeBalls
  repeat' first
    | with_reducible assumption
    | with_reducible apply kept_each
    | with_reducible apply kept_doDisconnect
    | with_reducible apply kept_breakAt
    | with_reducible apply kept_setLink
    | with_reducible apply kept_svcDetach
    | with_reducible apply kept_linkReset
    | with_reducible refine kept_ite ?_ ?_
    | (fail_if_no_progress (with_reducible refine kept_mk ?_))
    | split
    | dsimp only
    | intro _

theorem kept_freeBalls {z s : State} (hk : Kept z s) : Kept z (freeBalls s) := by
  unfold freeBalls
  repeat' first
    | with_reducible assumption
    | with_reducible apply kept_svcAttach
    | with_reducible apply kept_startTrain
    | with_reducible refine kept_ite ?_ ?_

theorem kept_select {z s : State} (ir : BitVec 8) (hk : Kept z s) : Kept z (select s ir) := by
  unfold select
  repeat' first
    | with_reducible assumption
    | with_reducible apply kept_takeBalls
    | with_reducible apply kept_freeBalls
    | with_reducible refine kept_ite ?_ ?_
    | (fail_if_no_progress (with_reducible refine kept_mk ?_))

theorem kept_scanTest {z s : State} (ir : BitVec 8) (drive : Scan) (pins : Scan) (hk : Kept z s) : Kept z (scanTest s ir drive pins) := by
  unfold scanTest
  repeat' first
    | with_reducible assumption
    | with_reducible apply kept_select
    | with_reducible apply kept_emits
    | with_reducible refine kept_ite ?_ ?_
    | (fail_if_no_progress (with_reducible refine kept_mk ?_))

theorem kept_selectBypass {z s : State} (ir : BitVec 8) (hk : Kept z s) : Kept z (selectBypass s ir) := by
  unfold selectBypass
  repeat' first
    | with_reducible assumption
    | with_reducible apply kept_emit
    | with_reducible apply kept_select

theorem kept_execTapReset {z s : State} (hk : Kept z s) : KeptBy z (execTapReset s) := by
  unfold execTapReset
  repeat' first
    | with_reducible assumption
    | with_reducible refine keptBy_next ?_
    | with_reducible apply kept_select
    | with_reducible refine kept_ite ?_ ?_

theorem kept_execExtest {z : State} (drive : Scan) (pins : Scan) {s : State} (hk : Kept z s) : KeptBy z (execExtest drive pins s) := by
  unfold execExtest
  repeat' first
    | with_reducible assumption
    | with_reducible refine keptBy_next ?_
    | with_reducible apply kept_scanTest

theorem kept_execIdcode {z s : State} (hk : Kept z s) : KeptBy z (execIdcode s) := by
  unfold execIdcode
  repeat' first
    | with_reducible assumption
    | with_reducible refine keptBy_next ?_
    | with_reducible apply kept_emit
    | with_reducible apply kept_select
    | with_reducible refine kept_ite ?_ ?_

theorem kept_sampleBalls {z s : State} (preload : Scan) (pins : Scan) (hk : Kept z s) : Kept z (sampleBalls s preload pins) := by
  unfold sampleBalls
  repeat' first
    | with_reducible assumption
    | with_reducible apply kept_select
    | with_reducible apply kept_emit
    | with_reducible refine kept_ite ?_ ?_
    | (fail_if_no_progress (with_reducible refine kept_mk ?_))

theorem kept_execSamplePreload {z : State} (preload : Scan) (pins : Scan) {s : State} (hk : Kept z s) : KeptBy z (execSamplePreload preload pins s) := by
  unfold execSamplePreload
  repeat' first
    | with_reducible assumption
    | with_reducible refine keptBy_next ?_
    | with_reducible apply kept_sampleBalls

theorem kept_execClamp {z s : State} (hk : Kept z s) : KeptBy z (execClamp s) := by
  unfold execClamp
  repeat' first
    | with_reducible assumption
    | with_reducible refine keptBy_next ?_
    | with_reducible apply kept_emit
    | with_reducible apply kept_selectBypass
    | with_reducible refine kept_ite ?_ ?_

theorem kept_execHighz {z s : State} (hk : Kept z s) : KeptBy z (execHighz s) := by
  unfold execHighz
  repeat' first
    | with_reducible assumption
    | with_reducible refine keptBy_next ?_
    | with_reducible apply kept_emit
    | with_reducible apply kept_selectBypass
    | with_reducible refine kept_ite ?_ ?_

theorem kept_execExtestPulse {z : State} (drive : Scan) (pins : Scan) {s : State} (hk : Kept z s) : KeptBy z (execExtestPulse drive pins s) := by
  unfold execExtestPulse
  repeat' first
    | with_reducible assumption
    | with_reducible refine keptBy_next ?_
    | with_reducible apply kept_scanTest

theorem kept_execExtestTrain {z : State} (drive : Scan) (pins : Scan) {s : State} (hk : Kept z s) : KeptBy z (execExtestTrain drive pins s) := by
  unfold execExtestTrain
  repeat' first
    | with_reducible assumption
    | with_reducible refine keptBy_next ?_
    | with_reducible apply kept_scanTest

theorem kept_execDebug {z : State} (page : BitVec 8) (off : BitVec 12) (op : Op) {s : State} (hk : Kept z s) : KeptBy z (execDebug page off op s) := by
  unfold execDebug
  repeat' first
    | with_reducible assumption
    | with_reducible refine keptBy_next ?_
    | with_reducible apply kept_access
    | with_reducible apply kept_select
    | with_reducible refine kept_ite ?_ ?_

theorem kept_execBypass {z : State} (v : BitVec 8) {s : State} (hk : Kept z s) : KeptBy z (execBypass v s) := by
  unfold execBypass
  repeat' first
    | with_reducible assumption
    | with_reducible refine keptBy_next ?_
    | with_reducible apply kept_selectBypass
    | with_reducible refine kept_ite ?_ ?_

theorem kept_execModuleInsert {z : State} (straps : BitVec 6) {s : State} (hk : Kept z s) : KeptBy z (execModuleInsert straps s) := by
  unfold execModuleInsert
  repeat' first
    | with_reducible assumption
    | with_reducible refine keptBy_next ?_
    | with_reducible apply kept_feedUp
    | with_reducible refine kept_ite ?_ ?_
    | (fail_if_no_progress (with_reducible refine kept_mk ?_))

theorem kept_execModuleRemove {z s : State} (hk : Kept z s) : KeptBy z (execModuleRemove s) := by
  unfold execModuleRemove
  repeat' first
    | with_reducible assumption
    | with_reducible refine keptBy_next ?_
    | with_reducible apply kept_powerLost

/-! ### Machine/Pages.lean -/

theorem kept_execSoftReset {z : State} (src : Src) (page : BitVec 8) {s : State} (hk : Kept z s) : KeptBy z (execSoftReset src page s) := by
  unfold execSoftReset
  repeat' first
    | with_reducible assumption
    | with_reducible refine keptBy_next ?_
    | with_reducible apply kept_access

theorem kept_execSoftResetDone {z : State} (page : BitVec 8) {s : State} (hk : Kept z s) : KeptBy z (execSoftResetDone page s) := by
  unfold execSoftResetDone
  repeat' first
    | with_reducible assumption
    | with_reducible refine keptBy_next ?_
    | with_reducible apply kept_serveHeld
    | with_reducible apply kept_wb
    | with_reducible refine kept_ite ?_ ?_

theorem kept_execVoteSet {z : State} (src : Src) (page : BitVec 8) (v : Word) {s : State} (hk : Kept z s) : KeptBy z (execVoteSet src page v s) := by
  unfold execVoteSet
  repeat' first
    | with_reducible assumption
    | with_reducible refine keptBy_next ?_
    | with_reducible apply kept_access

theorem kept_execVoteClear {z : State} (src : Src) (page : BitVec 8) (v : Word) {s : State} (hk : Kept z s) : KeptBy z (execVoteClear src page v s) := by
  unfold execVoteClear
  repeat' first
    | with_reducible assumption
    | with_reducible refine keptBy_next ?_
    | with_reducible apply kept_access

theorem kept_execPageLockSet {z : State} (src : Src) (page : BitVec 8) {s : State} (hk : Kept z s) : KeptBy z (execPageLockSet src page s) := by
  unfold execPageLockSet
  repeat' first
    | with_reducible assumption
    | with_reducible refine keptBy_next ?_
    | with_reducible apply kept_access

theorem kept_execEventEnableWrite {z : State} (src : Src) (page : BitVec 8) (v : Word) {s : State} (hk : Kept z s) : KeptBy z (execEventEnableWrite src page v s) := by
  unfold execEventEnableWrite
  repeat' first
    | with_reducible assumption
    | with_reducible refine keptBy_next ?_
    | with_reducible apply kept_access

theorem kept_execDarkAccess {z : State} (src : Src) (page : BitVec 8) (off : BitVec 12) (op : Op) {s : State} (hk : Kept z s) : KeptBy z (execDarkAccess src page off op s) := by
  unfold execDarkAccess
  repeat' first
    | with_reducible assumption
    | with_reducible refine keptBy_next ?_
    | with_reducible apply kept_access

theorem kept_execWakeOnAccess {z : State} (src : Src) (page : BitVec 8) (off : BitVec 12) (op : Op) {s : State} (hk : Kept z s) : KeptBy z (execWakeOnAccess src page off op s) := by
  unfold execWakeOnAccess
  repeat' first
    | with_reducible assumption
    | with_reducible refine keptBy_next ?_
    | with_reducible apply kept_access

theorem kept_execRegisterWrite {z : State} (src : Src) (page : BitVec 8) (off : BitVec 12) (v : Word) {s : State} (hk : Kept z s) : KeptBy z (execRegisterWrite src page off v s) := by
  unfold execRegisterWrite
  repeat' first
    | with_reducible assumption
    | with_reducible refine keptBy_next ?_
    | with_reducible apply kept_access

theorem kept_sizeRefused {z s : State} (src : Src) (page : Nat) (off : Nat) (isWrite : Bool) (hk : Kept z s) : Kept z (sizeRefused s src page off isWrite) := by
  unfold sizeRefused
  repeat' first
    | with_reducible assumption
    | with_reducible apply kept_access

theorem kept_execMisalignedAccess {z : State} (src : Src) (page : BitVec 8) (off : BitVec 12) (isWrite : Bool) {s : State} (hk : Kept z s) : KeptBy z (execMisalignedAccess src page off isWrite s) := by
  unfold execMisalignedAccess
  repeat' first
    | with_reducible assumption
    | with_reducible refine keptBy_next ?_
    | with_reducible apply kept_sizeRefused

theorem kept_execWideLowRead {z : State} (src : Src) (page : BitVec 8) (off : BitVec 12) {s : State} (hk : Kept z s) : KeptBy z (execWideLowRead src page off s) := by
  unfold execWideLowRead
  repeat' first
    | with_reducible assumption
    | with_reducible refine keptBy_next ?_
    | with_reducible apply kept_access

theorem kept_execWideHighWrite {z : State} (src : Src) (page : BitVec 8) (off : BitVec 12) (v : Word) {s : State} (hk : Kept z s) : KeptBy z (execWideHighWrite src page off v s) := by
  unfold execWideHighWrite
  repeat' first
    | with_reducible assumption
    | with_reducible refine keptBy_next ?_
    | with_reducible apply kept_access

theorem kept_execReadClear {z : State} (src : Src) (page : BitVec 8) (off : BitVec 12) {s : State} (hk : Kept z s) : KeptBy z (execReadClear src page off s) := by
  unfold execReadClear
  repeat' first
    | with_reducible assumption
    | with_reducible refine keptBy_next ?_
    | with_reducible apply kept_access

end Sys2Proof.Machine
end

