-- ==== Sys2Proof/Laws/KeptCommandsB.lean ====
section
/-!
SUPPORT. One lemma for each operation: what every command of the ports, the power domains, the queues, the ring, the service port, the sideband and the updates keeps
(`Kept`: the queue, the outputs, the free values, the canonical form of the register file and of EBM).
-/
namespace Sys2Proof.Machine

/-! ### Machine/Ports.lean -/

theorem kept_execLineChange {z : State} (p : BitVec 9) (l : Line) {s : State} (hk : Kept z s) : KeptBy z (execLineChange p l s) := by
  unfold execLineChange
  repeat' first
    | with_reducible assumption
    | with_reducible refine keptBy_next ?_
    | with_reducible apply kept_latchEvent
    | with_reducible apply kept_setPort
    | with_reducible apply kept_detect
    | with_reducible refine kept_ite ?_ ?_

theorem kept_execConnectDebounceDone {z : State} (p : BitVec 9) {s : State} (hk : Kept z s) : KeptBy z (execConnectDebounceDone p s) := by
  unfold execConnectDebounceDone
  repeat' first
    | with_reducible assumption
    | with_reducible refine keptBy_next ?_
    | with_reducible apply kept_setPort
    | with_reducible apply kept_connectUsb2
    | with_reducible refine kept_ite ?_ ?_

theorem kept_execDeviceChirpEnd {z : State} (p : BitVec 9) {s : State} (hk : Kept z s) : KeptBy z (execDeviceChirpEnd p s) := by
  unfold execDeviceChirpEnd
  repeat' first
    | with_reducible assumption
    | with_reducible refine keptBy_next ?_
    | with_reducible apply kept_setPort
    | with_reducible refine kept_ite ?_ ?_
    | (fail_if_no_progress (with_reducible refine kept_mk ?_))
    | split

theorem kept_execHostChirpStart {z : State} (p : BitVec 9) {s : State} (hk : Kept z s) : KeptBy z (execHostChirpStart p s) := by
  unfold execHostChirpStart
  repeat' first
    | with_reducible assumption
    | with_reducible refine keptBy_next ?_
    | with_reducible apply kept_emit
    | with_reducible apply kept_setPort
    | with_reducible refine kept_ite ?_ ?_
    | (fail_if_no_progress (with_reducible refine kept_mk ?_))
    | split

theorem kept_execBusResetEnd {z : State} (p : BitVec 9) (l : ResetLine) {s : State} (hk : Kept z s) : KeptBy z (execBusResetEnd p l s) := by
  unfold execBusResetEnd
  repeat' first
    | with_reducible assumption
    | with_reducible refine keptBy_next ?_
    | with_reducible apply kept_linkFail
    | with_reducible apply kept_setPortState
    | with_reducible apply kept_pwf
    | with_reducible apply kept_setPort
    | with_reducible refine kept_ite ?_ ?_
    | (fail_if_no_progress (with_reducible refine kept_mk ?_))
    | split

theorem kept_execResetRecoveryEnd {z : State} (p : BitVec 9) {s : State} (hk : Kept z s) : KeptBy z (execResetRecoveryEnd p s) := by
  unfold execResetRecoveryEnd
  repeat' first
    | with_reducible assumption
    | with_reducible refine keptBy_next ?_
    | with_reducible apply kept_setPort
    | with_reducible refine kept_ite ?_ ?_

theorem kept_execFarEndTerminationFound {z : State} (p : BitVec 9) {s : State} (hk : Kept z s) : KeptBy z (execFarEndTerminationFound p s) := by
  unfold execFarEndTerminationFound
  repeat' first
    | with_reducible assumption
    | with_reducible refine keptBy_next ?_
    | with_reducible apply kept_latchEvent
    | with_reducible apply kept_detect
    | with_reducible apply kept_noteLink
    | with_reducible apply kept_setPort
    | with_reducible refine kept_ite ?_ ?_

theorem kept_execSsLinkU0 {z : State} (p : BitVec 9) (gen2 : Bool) {s : State} (hk : Kept z s) : KeptBy z (execSsLinkU0 p gen2 s) := by
  unfold execSsLinkU0
  repeat' first
    | with_reducible assumption
    | with_reducible refine keptBy_next ?_
    | with_reducible apply kept_setPort
    | with_reducible apply kept_setConnected
    | with_reducible apply kept_setPortState
    | with_reducible apply kept_pwf
    | with_reducible apply kept_resetAfter
    | with_reducible apply kept_wakeEvt
    | with_reducible refine kept_ite ?_ ?_
    | (fail_if_no_progress (with_reducible refine kept_mk ?_))
    | split

theorem kept_execSsTrainingFail {z : State} (p : BitVec 9) {s : State} (hk : Kept z s) : KeptBy z (execSsTrainingFail p s) := by
  unfold execSsTrainingFail
  repeat' first
    | with_reducible assumption
    | with_reducible refine keptBy_next ?_
    | with_reducible apply kept_detect
    | with_reducible apply kept_noteLink
    | with_reducible apply kept_setPort
    | with_reducible apply kept_connectUsb2
    | with_reducible refine kept_ite ?_ ?_

theorem kept_execSsResetTimeout {z : State} (p : BitVec 9) {s : State} (hk : Kept z s) : KeptBy z (execSsResetTimeout p s) := by
  unfold execSsResetTimeout
  repeat' first
    | with_reducible assumption
    | with_reducible refine keptBy_next ?_
    | with_reducible apply kept_linkFail
    | with_reducible refine kept_ite ?_ ?_

theorem kept_execSsWarmResetLfpsEnd {z : State} (p : BitVec 9) {s : State} (hk : Kept z s) : KeptBy z (execSsWarmResetLfpsEnd p s) := by
  unfold execSsWarmResetLfpsEnd
  repeat' first
    | with_reducible assumption
    | with_reducible refine keptBy_next ?_
    | with_reducible apply kept_setPort
    | with_reducible refine kept_ite ?_ ?_

theorem kept_execSsResumeTimeout {z : State} (p : BitVec 9) {s : State} (hk : Kept z s) : KeptBy z (execSsResumeTimeout p s) := by
  unfold execSsResumeTimeout
  repeat' first
    | with_reducible assumption
    | with_reducible refine keptBy_next ?_
    | with_reducible apply kept_linkFail
    | with_reducible refine kept_ite ?_ ?_

theorem kept_execDisconnect {z : State} (p : BitVec 9) {s : State} (hk : Kept z s) : KeptBy z (execDisconnect p s) := by
  unfold execDisconnect
  repeat' first
    | with_reducible assumption
    | with_reducible refine keptBy_next ?_
    | with_reducible apply kept_latchGone
    | with_reducible apply kept_doDisconnect
    | with_reducible apply kept_detect
    | with_reducible refine kept_ite ?_ ?_

theorem kept_execRemoteWake {z : State} (p : BitVec 9) {s : State} (hk : Kept z s) : KeptBy z (execRemoteWake p s) := by
  unfold execRemoteWake
  repeat' first
    | with_reducible assumption
    | with_reducible refine keptBy_next ?_
    | with_reducible apply kept_latchEvent
    | with_reducible apply kept_startResume
    | with_reducible apply kept_detect
    | with_reducible refine kept_ite ?_ ?_

theorem kept_execResumeSignalEnd {z : State} (p : BitVec 9) {s : State} (hk : Kept z s) : KeptBy z (execResumeSignalEnd p s) := by
  unfold execResumeSignalEnd
  repeat' first
    | with_reducible assumption
    | with_reducible refine keptBy_next ?_
    | with_reducible apply kept_resetAfter
    | with_reducible apply kept_setPortState
    | with_reducible apply kept_setPort
    | with_reducible apply kept_wakeEvt
    | with_reducible refine kept_ite ?_ ?_

theorem kept_execResumeRecoveryEnd {z : State} (p : BitVec 9) {s : State} (hk : Kept z s) : KeptBy z (execResumeRecoveryEnd p s) := by
  unfold execResumeRecoveryEnd
  repeat' first
    | with_reducible assumption
    | with_reducible refine keptBy_next ?_
    | with_reducible apply kept_setPort
    | with_reducible refine kept_ite ?_ ?_

theorem kept_execVbusCharged {z : State} (p : BitVec 9) {s : State} (hk : Kept z s) : KeptBy z (execVbusCharged p s) := by
  unfold execVbusCharged
  repeat' first
    | with_reducible assumption
    | with_reducible refine keptBy_next ?_
    | with_reducible apply kept_nextCharge
    | with_reducible apply kept_setPortState
    | with_reducible apply kept_setPort
    | with_reducible refine kept_ite ?_ ?_

theorem kept_execVbusChargeTimeout {z : State} (p : BitVec 9) {s : State} (hk : Kept z s) : KeptBy z (execVbusChargeTimeout p s) := by
  unfold execVbusChargeTimeout
  repeat' first
    | with_reducible assumption
    | with_reducible refine keptBy_next ?_
    | with_reducible apply kept_vbusDown
    | with_reducible refine kept_ite ?_ ?_

theorem kept_execVbusFault {z : State} (p : BitVec 9) {s : State} (hk : Kept z s) : KeptBy z (execVbusFault p s) := by
  unfold execVbusFault
  repeat' first
    | with_reducible assumption
    | with_reducible refine keptBy_next ?_
    | with_reducible apply kept_vbusDown
    | with_reducible refine kept_ite ?_ ?_

theorem kept_execL1Entry {z : State} (p : BitVec 9) (ack : Bool) {s : State} (hk : Kept z s) : KeptBy z (execL1Entry p ack s) := by
  unfold execL1Entry
  repeat' first
    | with_reducible assumption
    | with_reducible refine keptBy_next ?_
    | with_reducible apply kept_emit
    | with_reducible apply kept_pwf
    | with_reducible refine kept_ite ?_ ?_

theorem kept_execL1Exit {z : State} (p : BitVec 9) (byDevice : Bool) {s : State} (hk : Kept z s) : KeptBy z (execL1Exit p byDevice s) := by
  unfold execL1Exit
  repeat' first
    | with_reducible assumption
    | with_reducible refine keptBy_next ?_
    | with_reducible apply kept_emit
    | with_reducible apply kept_setPort
    | with_reducible refine kept_ite ?_ ?_

theorem kept_execL1ExitLatencyEnd {z : State} (p : BitVec 9) {s : State} (hk : Kept z s) : KeptBy z (execL1ExitLatencyEnd p s) := by
  unfold execL1ExitLatencyEnd
  repeat' first
    | with_reducible assumption
    | with_reducible refine keptBy_next ?_
    | with_reducible apply kept_pwf
    | with_reducible apply kept_setPort
    | with_reducible refine kept_ite ?_ ?_

theorem kept_execU1U2Entry {z : State} (p : BitVec 9) (u2 : Bool) {s : State} (hk : Kept z s) : KeptBy z (execU1U2Entry p u2 s) := by
  unfold execU1U2Entry
  repeat' first
    | with_reducible assumption
    | with_reducible refine keptBy_next ?_
    | with_reducible apply kept_emit
    | with_reducible apply kept_pwf
    | with_reducible refine kept_ite ?_ ?_

theorem kept_execUExitEarly {z : State} (p : BitVec 9) {s : State} (hk : Kept z s) : KeptBy z (execUExitEarly p s) := by
  unfold execUExitEarly
  repeat' first
    | with_reducible assumption
    | with_reducible refine keptBy_next ?_
    | with_reducible apply kept_emit
    | with_reducible apply kept_setPort
    | with_reducible refine kept_ite ?_ ?_

theorem kept_execSsLinkFailure {z : State} (p : BitVec 9) {s : State} (hk : Kept z s) : KeptBy z (execSsLinkFailure p s) := by
  unfold execSsLinkFailure
  repeat' first
    | with_reducible assumption
    | with_reducible refine keptBy_next ?_
    | with_reducible apply kept_errBit
    | with_reducible apply kept_reportRef
    | with_reducible apply kept_disablePort
    | with_reducible refine kept_ite ?_ ?_

theorem kept_execPeWatchdogExpire {z : State} (pe : BitVec 7) {s : State} (hk : Kept z s) : KeptBy z (execPeWatchdogExpire pe s) := by
  unfold execPeWatchdogExpire
  repeat' first
    | with_reducible assumption
    | with_reducible refine keptBy_next ?_
    | with_reducible apply kept_peExpire
    | with_reducible refine kept_ite ?_ ?_

theorem kept_execPeSelfCheckPass {z : State} (pe : BitVec 7) {s : State} (hk : Kept z s) : KeptBy z (execPeSelfCheckPass pe s) := by
  unfold execPeSelfCheckPass
  repeat' first
    | with_reducible assumption
    | with_reducible refine keptBy_next ?_
    | with_reducible apply kept_peSet
    | with_reducible apply kept_takeOver
    | with_reducible apply kept_handBack
    | with_reducible refine kept_ite ?_ ?_

theorem kept_execTerminationCal {z : State} (p : BitVec 9) (dev : BitVec 8) {s : State} (hk : Kept z s) : KeptBy z (execTerminationCal p dev s) := by
  unfold execTerminationCal
  repeat' first
    | with_reducible assumption
    | with_reducible refine keptBy_next ?_
    | with_reducible apply kept_foldl
    | with_reducible apply kept_setPort
    | with_reducible apply kept_foldl
    | with_reducible apply kept_wf
    | with_reducible refine kept_ite ?_ ?_

/-! ### Machine/Power.lean -/

theorem kept_chipCmd {z s : State} (src : Src) (target : Nat) (force : Bool) (hk : Kept z s) : Kept z (chipCmd s src target force) := by
  unfold chipCmd
  repeat' first
    | with_reducible assumption
    | with_reducible apply kept_access

theorem kept_execChipRequestP3 {z : State} (src : Src) (force : Bool) {s : State} (hk : Kept z s) : KeptBy z (execChipRequestP3 src force s) := by
  unfold execChipRequestP3
  repeat' first
    | with_reducible assumption
    | with_reducible refine keptBy_next ?_
    | with_reducible apply kept_chipCmd

theorem kept_execChipRequestP4 {z : State} (src : Src) (force : Bool) {s : State} (hk : Kept z s) : KeptBy z (execChipRequestP4 src force s) := by
  unfold execChipRequestP4
  repeat' first
    | with_reducible assumption
    | with_reducible refine keptBy_next ?_
    | with_reducible apply kept_chipCmd

theorem kept_execChipRequestP5 {z : State} (src : Src) (force : Bool) {s : State} (hk : Kept z s) : KeptBy z (execChipRequestP5 src force s) := by
  unfold execChipRequestP5
  repeat' first
    | with_reducible assumption
    | with_reducible refine keptBy_next ?_
    | with_reducible apply kept_chipCmd

theorem kept_execRecordCopyDone {z : State} (ok : Bool) {s : State} (hk : Kept z s) : KeptBy z (execRecordCopyDone ok s) := by
  unfold execRecordCopyDone
  repeat' first
    | with_reducible assumption
    | with_reducible refine keptBy_next ?_
    | with_reducible apply kept_copyDone

theorem kept_execBypassCloseTimeout {z s : State} (hk : Kept z s) : KeptBy z (execBypassCloseTimeout s) := by
  unfold execBypassCloseTimeout
  repeat' first
    | with_reducible assumption
    | with_reducible refine keptBy_next ?_
    | with_reducible apply kept_switchStuck

theorem kept_execEntryUndone {z s : State} (hk : Kept z s) : KeptBy z (execEntryUndone s) := by
  unfold execEntryUndone
  repeat' first
    | with_reducible assumption
    | with_reducible refine keptBy_next ?_
    | with_reducible apply kept_undone

theorem kept_execChipEntryDone {z s : State} (hk : Kept z s) : KeptBy z (execChipEntryDone s) := by
  unfold execChipEntryDone
  repeat' first
    | with_reducible assumption
    | with_reducible refine keptBy_next ?_
    | with_reducible apply kept_serveHeld
    | with_reducible apply kept_deepDone

theorem kept_execChipExitDone {z s : State} (hk : Kept z s) : KeptBy z (execChipExitDone s) := by
  unfold execChipExitDone
  repeat' first
    | with_reducible assumption
    | with_reducible refine keptBy_next ?_
    | with_reducible apply kept_serveHeld
    | with_reducible apply kept_exitDone

theorem kept_execForceP5 {z : State} (src : Src) (v : Word) {s : State} (hk : Kept z s) : KeptBy z (execForceP5 src v s) := by
  unfold execForceP5
  repeat' first
    | with_reducible assumption
    | with_reducible refine keptBy_next ?_
    | with_reducible apply kept_access

theorem kept_domGo {z s : State} (src : Src) (target : Nat) (force : Bool) (hk : Kept z s) : Kept z (domGo s src target force) := by
  unfold domGo
  repeat' first
    | with_reducible assumption
    | with_reducible apply kept_access

theorem kept_execDomainRelease {z : State} (src : Src) {s : State} (hk : Kept z s) : KeptBy z (execDomainRelease src s) := by
  unfold execDomainRelease
  repeat' first
    | with_reducible assumption
    | with_reducible refine keptBy_next ?_
    | with_reducible apply kept_domGo

theorem kept_execDomainRequestP1 {z : State} (src : Src) (force : Bool) {s : State} (hk : Kept z s) : KeptBy z (execDomainRequestP1 src force s) := by
  unfold execDomainRequestP1
  repeat' first
    | with_reducible assumption
    | with_reducible refine keptBy_next ?_
    | with_reducible apply kept_domGo

theorem kept_execDomainRequestP2 {z : State} (src : Src) (force : Bool) {s : State} (hk : Kept z s) : KeptBy z (execDomainRequestP2 src force s) := by
  unfold execDomainRequestP2
  repeat' first
    | with_reducible assumption
    | with_reducible refine keptBy_next ?_
    | with_reducible apply kept_domGo

theorem kept_execDomainP2EntryDone {z : State} (dom : BitVec 8) {s : State} (hk : Kept z s) : KeptBy z (execDomainP2EntryDone dom s) := by
  unfold execDomainP2EntryDone
  repeat' first
    | with_reducible assumption
    | with_reducible refine keptBy_next ?_
    | with_reducible apply kept_p2Done

theorem kept_execDomainExitDone {z : State} (dom : BitVec 8) {s : State} (hk : Kept z s) : KeptBy z (execDomainExitDone dom s) := by
  unfold execDomainExitDone
  repeat' first
    | with_reducible assumption
    | with_reducible refine keptBy_next ?_
    | with_reducible apply kept_serveHeld
    | with_reducible apply kept_dueTicks
    | with_reducible apply kept_exitedDom

theorem kept_execQuietIdleTimer {z : State} (dom : BitVec 8) {s : State} (hk : Kept z s) : KeptBy z (execQuietIdleTimer dom s) := by
  unfold execQuietIdleTimer
  repeat' first
    | with_reducible assumption
    | with_reducible refine keptBy_next ?_
    | with_reducible apply kept_transit
    | with_reducible apply kept_setDom
    | with_reducible refine kept_ite ?_ ?_

theorem kept_execAutoP1Delay {z s : State} (hk : Kept z s) : KeptBy z (execAutoP1Delay s) := by
  unfold execAutoP1Delay
  repeat' first
    | with_reducible assumption
    | with_reducible refine keptBy_next ?_
    | with_reducible apply kept_each
    | with_reducible apply kept_settle
    | with_reducible apply kept_voteHw
    | with_reducible refine kept_ite ?_ ?_
    | (fail_if_no_progress (with_reducible refine kept_mk ?_))
    | split
    | (refine kept_snd (by assumption) ?_)
    | dsimp only
    | intro _

theorem kept_execClusterIdleTimer {z : State} (c : BitVec 6) {s : State} (hk : Kept z s) : KeptBy z (execClusterIdleTimer c s) := by
  unfold execClusterIdleTimer
  repeat' first
    | with_reducible assumption
    | with_reducible refine keptBy_next ?_
    | with_reducible apply kept_voteHw
    | with_reducible refine kept_ite ?_ ?_
    | (fail_if_no_progress (with_reducible refine kept_mk ?_))

theorem kept_execDetectorVoteExpire {z : State} (c : BitVec 6) {s : State} (hk : Kept z s) : KeptBy z (execDetectorVoteExpire c s) := by
  unfold execDetectorVoteExpire
  repeat' first
    | with_reducible assumption
    | with_reducible refine keptBy_next ?_
    | with_reducible apply kept_voteHw

theorem kept_execRtcTick {z s : State} (hk : Kept z s) : KeptBy z (execRtcTick s) := by
  unfold execRtcTick
  repeat' first
    | with_reducible assumption
    | with_reducible refine keptBy_next ?_
    | with_reducible apply kept_tick

theorem kept_execAlarmNow {z : State} (src : Src) {s : State} (hk : Kept z s) : KeptBy z (execAlarmNow src s) := by
  unfold execAlarmNow
  repeat' first
    | with_reducible assumption
    | with_reducible refine keptBy_next ?_
    | with_reducible apply kept_access

theorem kept_execPhantomFeedLoss {z s : State} (hk : Kept z s) : KeptBy z (execPhantomFeedLoss s) := by
  unfold execPhantomFeedLoss
  repeat' first
    | with_reducible assumption
    | with_reducible refine keptBy_next ?_
    | with_reducible apply kept_powerLost

theorem kept_feedLost {z s : State} (d : Side) (hk : Kept z s) : Kept z (feedLost s d) := by
  unfold feedLost
  repeat' first
    | with_reducible assumption
    | with_reducible apply kept_setSide
    | with_reducible apply kept_report
    | with_reducible refine kept_ite ?_ ?_

theorem kept_execFeedLostTimer {z : State} (side : Side) {s : State} (hk : Kept z s) : KeptBy z (execFeedLostTimer side s) := by
  unfold execFeedLostTimer
  repeat' first
    | with_reducible assumption
    | with_reducible refine keptBy_next ?_
    | with_reducible apply kept_feedLost

theorem kept_execDcoStepDown {z s : State} (hk : Kept z s) : KeptBy z (execDcoStepDown s) := by
  unfold execDcoStepDown
  repeat' first
    | with_reducible assumption
    | with_reducible refine keptBy_next ?_
    | with_reducible refine kept_ite ?_ ?_
    | (fail_if_no_progress (with_reducible refine kept_mk ?_))

theorem kept_execDcoStepUp {z s : State} (hk : Kept z s) : KeptBy z (execDcoStepUp s) := by
  unfold execDcoStepUp
  repeat' first
    | with_reducible assumption
    | with_reducible refine keptBy_next ?_
    | with_reducible refine kept_ite ?_ ?_
    | (fail_if_no_progress (with_reducible refine kept_mk ?_))

theorem kept_execRegisterVoteRelease {z : State} (dom : BitVec 8) {s : State} (hk : Kept z s) : KeptBy z (execRegisterVoteRelease dom s) := by
  unfold execRegisterVoteRelease
  repeat' first
    | with_reducible assumption
    | with_reducible refine keptBy_next ?_
    | with_reducible apply kept_voteHw
    | with_reducible refine kept_ite ?_ ?_

/-! ### Machine/Queues.lean -/

theorem kept_execTqPiWrite {z : State} (o : Owner) (q : BitVec 11) (v : Word) {s : State} (hk : Kept z s) : KeptBy z (execTqPiWrite o q v s) := by
  unfold execTqPiWrite
  repeat' first
    | with_reducible assumption
    | with_reducible refine keptBy_next ?_
    | with_reducible apply kept_winCmd

theorem kept_execCqCiWrite {z : State} (o : Owner) (q : BitVec 11) (v : Word) {s : State} (hk : Kept z s) : KeptBy z (execCqCiWrite o q v s) := by
  unfold execCqCiWrite
  repeat' first
    | with_reducible assumption
    | with_reducible refine keptBy_next ?_
    | with_reducible apply kept_winCmd

theorem kept_execAqPiWrite {z : State} (o : Owner) (v : BitVec 16) {s : State} (hk : Kept z s) : KeptBy z (execAqPiWrite o v s) := by
  unfold execAqPiWrite
  repeat' first
    | with_reducible assumption
    | with_reducible refine keptBy_next ?_
    | with_reducible apply kept_winCmd

theorem kept_execAcqCiWrite {z : State} (o : Owner) (v : BitVec 16) {s : State} (hk : Kept z s) : KeptBy z (execAcqCiWrite o v s) := by
  unfold execAcqCiWrite
  repeat' first
    | with_reducible assumption
    | with_reducible refine keptBy_next ?_
    | with_reducible apply kept_winCmd

theorem kept_execAqEnable {z : State} (o : Owner) {s : State} (hk : Kept z s) : KeptBy z (execAqEnable o s) := by
  unfold execAqEnable
  repeat' first
    | with_reducible assumption
    | with_reducible refine keptBy_next ?_
    | with_reducible apply kept_winCmd

theorem kept_execAqDisable {z : State} (o : Owner) {s : State} (hk : Kept z s) : KeptBy z (execAqDisable o s) := by
  unfold execAqDisable
  repeat' first
    | with_reducible assumption
    | with_reducible refine keptBy_next ?_
    | with_reducible apply kept_winCmd

theorem kept_execAqEntryReadFail {z : State} (o : Owner) {s : State} (hk : Kept z s) : KeptBy z (execAqEntryReadFail o s) := by
  unfold execAqEntryReadFail
  repeat' first
    | with_reducible assumption
    | with_reducible refine keptBy_next ?_
    | with_reducible apply kept_acqWrite
    | with_reducible refine kept_ite ?_ ?_

theorem kept_execPollTick {z : State} (tq : BitVec 12) {s : State} (hk : Kept z s) : KeptBy z (execPollTick tq s) := by
  unfold execPollTick
  repeat' first
    | with_reducible assumption
    | with_reducible refine keptBy_next ?_
    | with_reducible apply kept_pollTq

theorem kept_execEntryFetchDone {z : State} (tq : BitVec 12) (idx : BitVec 16) (e : List Word) {s : State} (hk : Kept z s) : KeptBy z (execEntryFetchDone tq idx e s) := by
  unfold execEntryFetchDone
  repeat' first
    | with_reducible assumption
    | with_reducible refine keptBy_next ?_
    | with_reducible apply kept_fetched

theorem kept_execEntryFetchFail {z : State} (tq : BitVec 12) (idx : BitVec 16) (n : BitVec 5) {s : State} (hk : Kept z s) : KeptBy z (execEntryFetchFail tq idx n s) := by
  unfold execEntryFetchFail
  repeat' first
    | with_reducible assumption
    | with_reducible refine keptBy_next ?_
    | with_reducible apply kept_fetched

theorem kept_execPrefetchRefill {z : State} (tq : BitVec 12) {s : State} (hk : Kept z s) : KeptBy z (execPrefetchRefill tq s) := by
  unfold execPrefetchRefill
  repeat' first
    | with_reducible assumption
    | with_reducible refine keptBy_next ?_
    | with_reducible apply kept_leVotes
    | with_reducible apply kept_fetch

theorem kept_execChainTimeout {z : State} (tq : BitVec 12) {s : State} (hk : Kept z s) : KeptBy z (execChainTimeout tq s) := by
  unfold execChainTimeout
  repeat' first
    | with_reducible assumption
    | with_reducible refine keptBy_next ?_
    | with_reducible apply kept_chainLate

theorem kept_execPiMirrorWrite {z : State} (cq : BitVec 10) {s : State} (hk : Kept z s) : KeptBy z (execPiMirrorWrite cq s) := by
  unfold execPiMirrorWrite
  repeat' first
    | with_reducible assumption
    | with_reducible refine keptBy_next ?_
    | with_reducible apply kept_mirrorTick

theorem kept_execTqInvalGo {z : State} (src : Src) (v : Word) {s : State} (hk : Kept z s) : KeptBy z (execTqInvalGo src v s) := by
  unfold execTqInvalGo
  repeat' first
    | with_reducible assumption
    | with_reducible refine keptBy_next ?_
    | with_reducible apply kept_gatedW
    | with_reducible apply kept_invalGo
    | with_reducible refine kept_ite ?_ ?_
    | (fail_if_no_progress (with_reducible refine kept_mk ?_))
    | split
    | dsimp only
    | intro _

theorem kept_execTqInvalDone {z s : State} (hk : Kept z s) : KeptBy z (execTqInvalDone s) := by
  unfold execTqInvalDone
  repeat' first
    | with_reducible assumption
    | with_reducible refine keptBy_next ?_
    | with_reducible apply kept_invalEnd

/-! ### Machine/Ring.lean -/

theorem kept_execAutoJoinTimer {z s : State} (hk : Kept z s) : KeptBy z (execAutoJoinTimer s) := by
  unfold execAutoJoinTimer
  repeat' first
    | with_reducible assumption
    | with_reducible refine keptBy_next ?_
    | with_reducible apply kept_joinRing
    | with_reducible refine kept_ite ?_ ?_
    | (fail_if_no_progress (with_reducible refine kept_mk ?_))

theorem kept_execJoin {z : State} (src : Src) {s : State} (hk : Kept z s) : KeptBy z (execJoin src s) := by
  unfold execJoin
  repeat' first
    | with_reducible assumption
    | with_reducible refine keptBy_next ?_
    | with_reducible apply kept_gatedW
    | with_reducible apply kept_ringControl
    | with_reducible refine kept_ite ?_ ?_
    | (fail_if_no_progress (with_reducible refine kept_mk ?_))
    | split
    | dsimp only
    | intro _

theorem kept_execBypassReqSet {z : State} (src : Src) {s : State} (hk : Kept z s) : KeptBy z (execBypassReqSet src s) := by
  unfold execBypassReqSet
  repeat' first
    | with_reducible assumption
    | with_reducible refine keptBy_next ?_
    | with_reducible apply kept_gatedW
    | with_reducible apply kept_ringControl
    | with_reducible refine kept_ite ?_ ?_
    | (fail_if_no_progress (with_reducible refine kept_mk ?_))
    | split
    | dsimp only
    | intro _

theorem kept_execBypassReqClear {z : State} (src : Src) {s : State} (hk : Kept z s) : KeptBy z (execBypassReqClear src s) := by
  unfold execBypassReqClear
  repeat' first
    | with_reducible assumption
    | with_reducible refine keptBy_next ?_
    | with_reducible apply kept_gatedW
    | with_reducible apply kept_ringControl
    | with_reducible refine kept_ite ?_ ?_
    | (fail_if_no_progress (with_reducible refine kept_mk ?_))
    | split
    | dsimp only
    | intro _

theorem kept_execForceWrap {z : State} (src : Src) (v : BitVec 2) {s : State} (hk : Kept z s) : KeptBy z (execForceWrap src v s) := by
  unfold execForceWrap
  repeat' first
    | with_reducible assumption
    | with_reducible refine keptBy_next ?_
    | with_reducible apply kept_gatedW
    | with_reducible apply kept_ringControl
    | with_reducible refine kept_ite ?_ ?_
    | (fail_if_no_progress (with_reducible refine kept_mk ?_))
    | split
    | dsimp only
    | intro _

theorem kept_execRetrain {z : State} (src : Src) {s : State} (hk : Kept z s) : KeptBy z (execRetrain src s) := by
  unfold execRetrain
  repeat' first
    | with_reducible assumption
    | with_reducible refine keptBy_next ?_
    | with_reducible apply kept_gatedW
    | with_reducible apply kept_ringControl
    | with_reducible refine kept_ite ?_ ?_
    | (fail_if_no_progress (with_reducible refine kept_mk ?_))
    | split
    | dsimp only
    | intro _

theorem kept_execTrainingStepDone {z : State} (side : Side) (m : Train) {s : State} (hk : Kept z s) : KeptBy z (execTrainingStepDone side m s) := by
  unfold execTrainingStepDone
  repeat' first
    | with_reducible assumption
    | with_reducible refine keptBy_next ?_
    | with_reducible apply kept_stepDone

theorem kept_execTrainingStepTimeout {z : State} (side : Side) {s : State} (hk : Kept z s) : KeptBy z (execTrainingStepTimeout side s) := by
  unfold execTrainingStepTimeout
  repeat' first
    | with_reducible assumption
    | with_reducible refine keptBy_next ?_
    | with_reducible apply kept_stepLate

theorem kept_execReceiveLanesDown {z : State} (side : Side) {s : State} (hk : Kept z s) : KeptBy z (execReceiveLanesDown side s) := by
  unfold execReceiveLanesDown
  repeat' first
    | with_reducible assumption
    | with_reducible refine keptBy_next ?_
    | with_reducible apply kept_lanesDown

theorem kept_execOrphanTimeout {z s : State} (hk : Kept z s) : KeptBy z (execOrphanTimeout s) := by
  unfold execOrphanTimeout
  repeat' first
    | with_reducible assumption
    | with_reducible refine keptBy_next ?_
    | with_reducible apply kept_goOrphan

theorem kept_execMicroframeBoundary {z s : State} (hk : Kept z s) : KeptBy z (execMicroframeBoundary s) := by
  unfold execMicroframeBoundary
  repeat' first
    | with_reducible assumption
    | with_reducible refine keptBy_next ?_
    | with_reducible apply kept_boundary

theorem kept_execPlannedCloseTimer {z s : State} (hk : Kept z s) : KeptBy z (execPlannedCloseTimer s) := by
  unfold execPlannedCloseTimer
  repeat' first
    | with_reducible assumption
    | with_reducible refine keptBy_next ?_
    | with_reducible apply kept_closeNow
    | with_reducible refine kept_ite ?_ ?_

theorem kept_execTimingCellRx {z : State} (t : Timings) {s : State} (hk : Kept z s) : KeptBy z (execTimingCellRx t s) := by
  unfold execTimingCellRx
  repeat' first
    | with_reducible assumption
    | with_reducible refine keptBy_next ?_
    | with_reducible apply kept_takeTiming

theorem kept_execLockLostTimeout {z s : State} (hk : Kept z s) : KeptBy z (execLockLostTimeout s) := by
  unfold execLockLostTimeout
  repeat' first
    | with_reducible assumption
    | with_reducible refine keptBy_next ?_
    | with_reducible apply kept_lockLost

theorem kept_execTopoCirculate {z : State} (map : Topo (BitVec 64)) (dup : BitVec 64) (epoch : BitVec 8) (headSlot : BitVec 6) {s : State} (hk : Kept z s) : KeptBy z (execTopoCirculate map dup epoch headSlot s) := by
  unfold execTopoCirculate
  repeat' first
    | with_reducible assumption
    | with_reducible refine keptBy_next ?_
    | with_reducible apply kept_topoPass
    | with_reducible apply kept_arrive
    | with_reducible refine kept_ite ?_ ?_
    | (fail_if_no_progress (with_reducible refine kept_mk ?_))
    | split
    | dsimp only
    | intro _

theorem kept_execLiveMapRx {z : State} (map : Topo (BitVec 64)) (dup : BitVec 64) (epoch : BitVec 8) (headSlot : BitVec 6) {s : State} (hk : Kept z s) : KeptBy z (execLiveMapRx map dup epoch headSlot s) := by
  unfold execLiveMapRx
  repeat' first
    | with_reducible assumption
    | with_reducible refine keptBy_next ?_
    | with_reducible apply kept_arrive
    | with_reducible apply kept_takeMap
    | with_reducible refine kept_ite ?_ ?_
    | (fail_if_no_progress (with_reducible refine kept_mk ?_))
    | split
    | dsimp only
    | intro _

theorem kept_execCreditGrantRx {z : State} (c : Cell) (epoch : BitVec 8) (iso : BitVec 16) (ctrl : BitVec 16) (data : BitVec 16) {s : State} (hk : Kept z s) : KeptBy z (execCreditGrantRx c epoch iso ctrl data s) := by
  unfold execCreditGrantRx
  repeat' first
    | with_reducible assumption
    | with_reducible refine keptBy_next ?_
    | with_reducible apply kept_arrive
    | with_reducible apply kept_takeGrant
    | with_reducible refine kept_ite ?_ ?_
    | (fail_if_no_progress (with_reducible refine kept_mk ?_))
    | split
    | dsimp only
    | intro _

theorem kept_execTopoLeaveRequestRx {z : State} (pos : Topo (BitVec 6)) {s : State} (hk : Kept z s) : KeptBy z (execTopoLeaveRequestRx pos s) := by
  unfold execTopoLeaveRequestRx
  repeat' first
    | with_reducible assumption
    | with_reducible refine keptBy_next ?_
    | with_reducible apply kept_arrive
    | with_reducible apply kept_leaveAsked
    | with_reducible refine kept_ite ?_ ?_
    | (fail_if_no_progress (with_reducible refine kept_mk ?_))
    | split
    | dsimp only
    | intro _

theorem kept_headNotice {z s : State} (c : Cell) {eff : State → State} (hk : Kept z s) (he0 : ∀ (x : State), Kept z x → Kept z (eff x)) : Kept z (headNotice s c eff) := by
  unfold headNotice
  repeat' first
    | with_reducible assumption
    | with_reducible apply kept_arrive
    | with_reducible apply he0
    | with_reducible refine kept_ite ?_ ?_
    | (fail_if_no_progress (with_reducible refine kept_mk ?_))
    | split
    | dsimp only
    | intro _

theorem kept_execTopoClosingNoticeRx {z : State} (pos : Topo (BitVec 6)) (w : Word) {s : State} (hk : Kept z s) : KeptBy z (execTopoClosingNoticeRx pos w s) := by
  unfold execTopoClosingNoticeRx
  repeat' first
    | with_reducible assumption
    | with_reducible refine keptBy_next ?_
    | with_reducible apply kept_headNotice
    | with_reducible apply kept_closingTold
    | with_reducible refine kept_ite ?_ ?_
    | (fail_if_no_progress (with_reducible refine kept_mk ?_))
    | split
    | dsimp only
    | intro _

theorem kept_releaseTold {z s : State} (w : Word) (hk : Kept z s) : Kept z (releaseTold s w) := by
  unfold releaseTold
  repeat' first
    | with_reducible assumption
    | with_reducible refine kept_ite ?_ ?_
    | (fail_if_no_progress (with_reducible refine kept_mk ?_))

theorem kept_execTopoReleaseRx {z : State} (w : Topo Word) {s : State} (hk : Kept z s) : KeptBy z (execTopoReleaseRx w s) := by
  unfold execTopoReleaseRx
  repeat' first
    | with_reducible assumption
    | with_reducible refine keptBy_next ?_
    | with_reducible apply kept_headNotice
    | with_reducible apply kept_releaseTold
    | with_reducible refine kept_ite ?_ ?_
    | (fail_if_no_progress (with_reducible refine kept_mk ?_))
    | split
    | dsimp only
    | intro _

theorem kept_execRecoveredClockFail {z s : State} (hk : Kept z s) : KeptBy z (execRecoveredClockFail s) := by
  unfold execRecoveredClockFail
  repeat' first
    | with_reducible assumption
    | with_reducible refine keptBy_next ?_
    | with_reducible refine kept_ite ?_ ?_
    | (fail_if_no_progress (with_reducible refine kept_mk ?_))

theorem kept_execLaneHeartbeatLoss {z s : State} (hk : Kept z s) : KeptBy z (execLaneHeartbeatLoss s) := by
  unfold execLaneHeartbeatLoss
  repeat' first
    | with_reducible assumption
    | with_reducible refine keptBy_next ?_
    | with_reducible apply kept_closeNow
    | with_reducible refine kept_ite ?_ ?_

/-! ### Machine/Service.lean -/

theorem kept_vbusChange {z s : State} (present : Bool) (hs : Bool) (hk : Kept z s) : Kept z (vbusChange s present hs) := by
  unfold vbusChange
  repeat' first
    | with_reducible assumption
    | with_reducible apply kept_wb
    | with_reducible apply kept_svcAttach
    | with_reducible apply kept_svcDetach
    | with_reducible refine kept_ite ?_ ?_
    | (fail_if_no_progress (with_reducible refine kept_mk ?_))

theorem kept_execSvcVbusChange {z : State} (present : Bool) (hs : Bool) {s : State} (hk : Kept z s) : KeptBy z (execSvcVbusChange present hs s) := by
  unfold execSvcVbusChange
  repeat' first
    | with_reducible assumption
    | with_reducible refine keptBy_next ?_
    | with_reducible apply kept_vbusChange
    | with_reducible refine kept_ite ?_ ?_

theorem kept_svcStalls {z s : State} (ep : BitVec 8) (hk : Kept z s) : Kept z (svcStalls s ep) := by
  unfold svcStalls
  repeat' first
    | with_reducible assumption
    | with_reducible apply kept_incF
    | with_reducible apply kept_emit
    | with_reducible refine kept_ite ?_ ?_
    | (fail_if_no_progress (with_reducible refine kept_mk ?_))

theorem kept_svcRequest {z s : State} (req : List Word) (hk : Kept z s) : Kept z (svcRequest s req) := by
  unfold svcRequest
  repeat' first
    | with_reducible assumption
    | with_reducible apply kept_svcStalls
    | with_reducible apply kept_bad
    | with_reducible apply kept_wb
    | with_reducible apply kept_svcGo
    | with_reducible refine kept_ite ?_ ?_
    | (fail_if_no_progress (with_reducible refine kept_mk ?_))

theorem kept_execSvcRequestRead {z : State} (req : List Word) {s : State} (hk : Kept z s) : KeptBy z (execSvcRequestRead req s) := by
  unfold execSvcRequestRead
  repeat' first
    | with_reducible assumption
    | with_reducible refine keptBy_next ?_
    | with_reducible apply kept_svcRequest
    | with_reducible refine kept_ite ?_ ?_

theorem kept_execSvcRequestWrite {z : State} (req : List Word) {s : State} (hk : Kept z s) : KeptBy z (execSvcRequestWrite req s) := by
  unfold execSvcRequestWrite
  repeat' first
    | with_reducible assumption
    | with_reducible refine keptBy_next ?_
    | with_reducible apply kept_svcRequest
    | with_reducible refine kept_ite ?_ ?_

theorem kept_readEvents {z s : State} (hk : Kept z s) : Kept z (readEvents s) := by
  unfold readEvents
  repeat' first
    | with_reducible assumption
    | with_reducible apply kept_evt
    | with_reducible apply kept_wb
    | with_reducible apply kept_emit
    | with_reducible refine kept_ite ?_ ?_
    | (fail_if_no_progress (with_reducible refine kept_mk ?_))

theorem kept_execSvcEventRead {z s : State} (hk : Kept z s) : KeptBy z (execSvcEventRead s) := by
  unfold execSvcEventRead
  repeat' first
    | with_reducible assumption
    | with_reducible refine keptBy_next ?_
    | with_reducible apply kept_readEvents

theorem kept_readResponse {z s : State} (hk : Kept z s) : Kept z (readResponse s) := by
  unfold readResponse
  repeat' first
    | with_reducible assumption
    | with_reducible apply kept_svcStalls
    | with_reducible apply kept_emit
    | with_reducible apply kept_wb
    | with_reducible refine kept_ite ?_ ?_
    | (fail_if_no_progress (with_reducible refine kept_mk ?_))
    | split

theorem kept_execSvcResponseRead {z s : State} (hk : Kept z s) : KeptBy z (execSvcResponseRead s) := by
  unfold execSvcResponseRead
  repeat' first
    | with_reducible assumption
    | with_reducible refine keptBy_next ?_
    | with_reducible apply kept_readResponse

theorem kept_clearHalt {z s : State} (ep : BitVec 8) (hk : Kept z s) : Kept z (clearHalt s ep) := by
  unfold clearHalt
  repeat' first
    | with_reducible assumption
    | with_reducible apply kept_emit
    | with_reducible refine kept_ite ?_ ?_
    | (fail_if_no_progress (with_reducible refine kept_mk ?_))

theorem kept_execSvcClearHalt {z : State} (ep : BitVec 8) {s : State} (hk : Kept z s) : KeptBy z (execSvcClearHalt ep s) := by
  unfold execSvcClearHalt
  repeat' first
    | with_reducible assumption
    | with_reducible refine keptBy_next ?_
    | with_reducible apply kept_clearHalt

theorem kept_execSvcHostSuspend {z : State} (suspend : Bool) {s : State} (hk : Kept z s) : KeptBy z (execSvcHostSuspend suspend s) := by
  unfold execSvcHostSuspend
  repeat' first
    | with_reducible assumption
    | with_reducible refine keptBy_next ?_
    | with_reducible apply kept_svcVotes
    | with_reducible apply kept_wb
    | with_reducible refine kept_ite ?_ ?_

theorem kept_stdRequest {z s : State} (r : SvcStd) (hk : Kept z s) : Kept z (stdRequest s r) := by
  unfold stdRequest
  repeat' first
    | with_reducible assumption
    | with_reducible apply kept_emit
    | with_reducible apply kept_wf
    | with_reducible apply kept_svcVotes
    | with_reducible apply kept_wb
    | with_reducible refine kept_ite ?_ ?_
    | (fail_if_no_progress (with_reducible refine kept_mk ?_))
    | split

theorem kept_execSvcStandardRequest {z : State} (r : SvcStd) {s : State} (hk : Kept z s) : KeptBy z (execSvcStandardRequest r s) := by
  unfold execSvcStandardRequest
  repeat' first
    | with_reducible assumption
    | with_reducible refine keptBy_next ?_
    | with_reducible apply kept_stdRequest

/-! ### Machine/Sideband.lean -/

theorem kept_execElectGo {z : State} (src : Src) {s : State} (hk : Kept z s) : KeptBy z (execElectGo src s) := by
  unfold execElectGo
  repeat' first
    | with_reducible assumption
    | with_reducible refine keptBy_next ?_
    | with_reducible apply kept_access

theorem kept_execElectWindowEnd {z s : State} (hk : Kept z s) : KeptBy z (execElectWindowEnd s) := by
  unfold execElectWindowEnd
  repeat' first
    | with_reducible assumption
    | with_reducible refine keptBy_next ?_
    | with_reducible apply kept_windowClose

theorem kept_execHeadClaimTimer {z s : State} (hk : Kept z s) : KeptBy z (execHeadClaimTimer s) := by
  unfold execHeadClaimTimer
  repeat' first
    | with_reducible assumption
    | with_reducible refine keptBy_next ?_
    | with_reducible apply kept_queueClaim
    | with_reducible refine kept_ite ?_ ?_

theorem kept_execSbdTxWake {z : State} (src : Src) {s : State} (hk : Kept z s) : KeptBy z (execSbdTxWake src s) := by
  unfold execSbdTxWake
  repeat' first
    | with_reducible assumption
    | with_reducible refine keptBy_next ?_
    | with_reducible apply kept_access

theorem kept_execSbdTxAlarmSet {z : State} (src : Src) {s : State} (hk : Kept z s) : KeptBy z (execSbdTxAlarmSet src s) := by
  unfold execSbdTxAlarmSet
  repeat' first
    | with_reducible assumption
    | with_reducible refine keptBy_next ?_
    | with_reducible apply kept_access

theorem kept_execSbdFrameStart {z : State} (arb : Arb) {s : State} (hk : Kept z s) : KeptBy z (execSbdFrameStart arb s) := by
  unfold execSbdFrameStart
  repeat' first
    | with_reducible assumption
    | with_reducible refine keptBy_next ?_
    | with_reducible apply kept_frameStart

theorem kept_execSbdBackoffExpire {z s : State} (hk : Kept z s) : KeptBy z (execSbdBackoffExpire s) := by
  unfold execSbdBackoffExpire
  repeat' first
    | with_reducible assumption
    | with_reducible refine keptBy_next ?_
    | with_reducible refine kept_ite ?_ ?_
    | (fail_if_no_progress (with_reducible refine kept_mk ?_))

theorem kept_execSbdFrameSent {z s : State} (hk : Kept z s) : KeptBy z (execSbdFrameSent s) := by
  unfold execSbdFrameSent
  repeat' first
    | with_reducible assumption
    | with_reducible refine keptBy_next ?_
    | with_reducible apply kept_frameSent

theorem kept_execFaultFrameRx {z : State} (loc : BitVec 64) (code : BitVec 16) (_rct : Word) (captured : Bool) {s : State} (hk : Kept z s) : KeptBy z (execFaultFrameRx loc code _rct captured s) := by
  unfold execFaultFrameRx
  repeat' first
    | with_reducible assumption
    | with_reducible refine keptBy_next ?_
    | with_reducible apply kept_capture
    | with_reducible apply kept_hearFault
    | with_reducible refine kept_ite ?_ ?_

theorem kept_execHeadClaimFrameRx {z : State} (slot : BitVec 6) (_epoch : BitVec 8) (captured : Bool) {s : State} (hk : Kept z s) : KeptBy z (execHeadClaimFrameRx slot _epoch captured s) := by
  unfold execHeadClaimFrameRx
  repeat' first
    | with_reducible assumption
    | with_reducible refine keptBy_next ?_
    | with_reducible apply kept_hearClaim
    | with_reducible apply kept_capture
    | with_reducible refine kept_ite ?_ ?_

theorem kept_execElectFrameRx {z : State} (slot : BitVec 6) (_trained : Bool) (captured : Bool) {s : State} (hk : Kept z s) : KeptBy z (execElectFrameRx slot _trained captured s) := by
  unfold execElectFrameRx
  repeat' first
    | with_reducible assumption
    | with_reducible refine keptBy_next ?_
    | with_reducible apply kept_hearElect
    | with_reducible apply kept_capture
    | with_reducible refine kept_ite ?_ ?_

theorem kept_execWakeFrameRx {z : State} (mask : BitVec 64) (captured : Bool) {s : State} (hk : Kept z s) : KeptBy z (execWakeFrameRx mask captured s) := by
  unfold execWakeFrameRx
  repeat' first
    | with_reducible assumption
    | with_reducible refine keptBy_next ?_
    | with_reducible apply kept_capture
    | with_reducible apply kept_armAlarm
    | with_reducible refine kept_ite ?_ ?_

theorem kept_execAlarmSetFrameRx {z : State} (mask : BitVec 64) (alarm : BitVec 64) (captured : Bool) {s : State} (hk : Kept z s) : KeptBy z (execAlarmSetFrameRx mask alarm captured s) := by
  unfold execAlarmSetFrameRx
  repeat' first
    | with_reducible assumption
    | with_reducible refine keptBy_next ?_
    | with_reducible apply kept_capture
    | with_reducible apply kept_armAlarm
    | with_reducible refine kept_ite ?_ ?_

theorem kept_execSbdFrameCrcFail {z : State} (captured : Bool) {s : State} (hk : Kept z s) : KeptBy z (execSbdFrameCrcFail captured s) := by
  unfold execSbdFrameCrcFail
  repeat' first
    | with_reducible assumption
    | with_reducible refine keptBy_next ?_
    | with_reducible apply kept_incF
    | with_reducible apply kept_capture
    | with_reducible refine kept_ite ?_ ?_

/-! ### Machine/Updates.lean -/

theorem kept_execUpdateBegin {z : State} (o : Owner) (e : List Word) {s : State} (hk : Kept z s) : KeptBy z (execUpdateBegin o e s) := by
  unfold execUpdateBegin
  repeat' first
    | with_reducible assumption
    | with_reducible refine keptBy_next ?_
    | with_reducible apply kept_updCmd
    | with_reducible apply kept_updBegin
    | with_reducible refine kept_ite ?_ ?_
    | (fail_if_no_progress (with_reducible refine kept_mk ?_))
    | split
    | (refine kept_snd (by assumption) ?_)
    | dsimp only
    | intro _

theorem kept_execUpdateWrite {z : State} (o : Owner) (e : List Word) (d : List Byte) {s : State} (hk : Kept z s) : KeptBy z (execUpdateWrite o e d s) := by
  unfold execUpdateWrite
  repeat' first
    | with_reducible assumption
    | with_reducible refine keptBy_next ?_
    | with_reducible apply kept_updCmd
    | with_reducible apply kept_updWrite
    | with_reducible apply kept_hostRead
    | with_reducible refine kept_ite ?_ ?_
    | (fail_if_no_progress (with_reducible refine kept_mk ?_))
    | split
    | (refine kept_snd (by assumption) ?_)
    | dsimp only
    | intro _

theorem kept_execUpdateVerify {z : State} (o : Owner) (e : List Word) {s : State} (hk : Kept z s) : KeptBy z (execUpdateVerify o e s) := by
  unfold execUpdateVerify
  repeat' first
    | with_reducible assumption
    | with_reducible refine keptBy_next ?_
    | with_reducible apply kept_updCmd
    | with_reducible apply kept_updVerify
    | with_reducible refine kept_ite ?_ ?_
    | (fail_if_no_progress (with_reducible refine kept_mk ?_))
    | split
    | (refine kept_snd (by assumption) ?_)
    | dsimp only
    | intro _

theorem kept_execUpdateActivate {z : State} (o : Owner) (e : List Word) {s : State} (hk : Kept z s) : KeptBy z (execUpdateActivate o e s) := by
  unfold execUpdateActivate
  repeat' first
    | with_reducible assumption
    | with_reducible refine keptBy_next ?_
    | with_reducible apply kept_updCmd
    | with_reducible apply kept_updActivate
    | with_reducible refine kept_ite ?_ ?_
    | (fail_if_no_progress (with_reducible refine kept_mk ?_))
    | split
    | (refine kept_snd (by assumption) ?_)
    | dsimp only
    | intro _

theorem kept_execUpdateConfirm {z : State} (o : Owner) (e : List Word) {s : State} (hk : Kept z s) : KeptBy z (execUpdateConfirm o e s) := by
  unfold execUpdateConfirm
  repeat' first
    | with_reducible assumption
    | with_reducible refine keptBy_next ?_
    | with_reducible apply kept_updCmd
    | with_reducible apply kept_updConfirm
    | with_reducible refine kept_ite ?_ ?_
    | (fail_if_no_progress (with_reducible refine kept_mk ?_))
    | split
    | (refine kept_snd (by assumption) ?_)
    | dsimp only
    | intro _

theorem kept_execNvmUpdBegin {z : State} (src : Src) {s : State} (hk : Kept z s) : KeptBy z (execNvmUpdBegin src s) := by
  unfold execNvmUpdBegin
  repeat' first
    | with_reducible assumption
    | with_reducible refine keptBy_next ?_
    | with_reducible apply kept_gatedW
    | with_reducible apply kept_updCtrl
    | with_reducible refine kept_ite ?_ ?_
    | (fail_if_no_progress (with_reducible refine kept_mk ?_))
    | split
    | dsimp only
    | intro _

theorem kept_execNvmUpdVerify {z : State} (src : Src) {s : State} (hk : Kept z s) : KeptBy z (execNvmUpdVerify src s) := by
  unfold execNvmUpdVerify
  repeat' first
    | with_reducible assumption
    | with_reducible refine keptBy_next ?_
    | with_reducible apply kept_gatedW
    | with_reducible apply kept_updCtrl
    | with_reducible refine kept_ite ?_ ?_
    | (fail_if_no_progress (with_reducible refine kept_mk ?_))
    | split
    | dsimp only
    | intro _

theorem kept_execNvmUpdActivate {z : State} (src : Src) {s : State} (hk : Kept z s) : KeptBy z (execNvmUpdActivate src s) := by
  unfold execNvmUpdActivate
  repeat' first
    | with_reducible assumption
    | with_reducible refine keptBy_next ?_
    | with_reducible apply kept_gatedW
    | with_reducible apply kept_updCtrl
    | with_reducible refine kept_ite ?_ ?_
    | (fail_if_no_progress (with_reducible refine kept_mk ?_))
    | split
    | dsimp only
    | intro _

theorem kept_execNvmUpdConfirm {z : State} (src : Src) {s : State} (hk : Kept z s) : KeptBy z (execNvmUpdConfirm src s) := by
  unfold execNvmUpdConfirm
  repeat' first
    | with_reducible assumption
    | with_reducible refine keptBy_next ?_
    | with_reducible apply kept_gatedW
    | with_reducible apply kept_updCtrl
    | with_reducible refine kept_ite ?_ ?_
    | (fail_if_no_progress (with_reducible refine kept_mk ?_))
    | split
    | dsimp only
    | intro _

theorem kept_execNvmUpdData {z : State} (src : Src) (v : Word) {s : State} (hk : Kept z s) : KeptBy z (execNvmUpdData src v s) := by
  unfold execNvmUpdData
  repeat' first
    | with_reducible assumption
    | with_reducible refine keptBy_next ?_
    | with_reducible apply kept_gatedW
    | with_reducible apply kept_updData
    | with_reducible refine kept_ite ?_ ?_
    | (fail_if_no_progress (with_reducible refine kept_mk ?_))
    | split
    | dsimp only
    | intro _

theorem kept_execKeyRevoke {z : State} (src : Src) (keys : BitVec 4) {s : State} (hk : Kept z s) : KeptBy z (execKeyRevoke src keys s) := by
  unfold execKeyRevoke
  repeat' first
    | with_reducible assumption
    | with_reducible refine keptBy_next ?_
    | with_reducible apply kept_gatedW
    | with_reducible apply kept_revoke
    | with_reducible refine kept_ite ?_ ?_
    | (fail_if_no_progress (with_reducible refine kept_mk ?_))
    | split
    | dsimp only
    | intro _

end Sys2Proof.Machine
end

