-- ==== Sys2Proof/Machine/Electrical.lean ====
section
/-!
DEFINITION. What the chip's electrical side is in a state: the supplies, biases and assists of a power state (R279), the ceilings of its draw
(R260, R261, R330, R331), the retention of EBM (R299), the balls (R324 to R326), the bypass switches (R338) and the boundary register's cells
(R346).
-/
namespace Sys2Proof.Machine

/-! ### Supplies, body bias and memory assist (R279) -/

/-- The settings of a power state, in mV: the range of the logic supply, the NMOS and PMOS body biases, the SRAM array with its bit-line boost,
word-line underdrive and source bias, the retention flops where they are apart from the logic, and the EBM array. -/
structure Rails where
  logic : Option (Nat × Nat)
  bias : Option (Int × Int)
  sram : Option Nat
  boost : Int
  underdrive : Nat
  sourceBias : Nat
  flops : Option Nat
  ebm : Option Nat
deriving DecidableEq, Repr

/-- The Caramel level in mV (R279). -/
def caramelMv (level : Nat) : Nat := 500 + 10 * level

/-- The settings in a power state at a Caramel level, `cold` below 0 °C (R279). -/
def railsOf (pstate level : Nat) (cold : Bool) : Rails :=
  match pstate with
  | 0 => ⟨some (650, 850), some (if cold then (100, -100) else (0, 0)), some 800, -100, 50, 0, none, some 1050⟩
  | 1 => ⟨some (650, 850), some (-200, 200), some 800, 0, 0, 0, none, some 1050⟩
  | 2 => ⟨none, none, some (caramelMv level), 0, 0, 100, some (caramelMv level), some 1050⟩
  | 3 => ⟨none, none, none, 0, 0, 0, some (caramelMv level), some 1050⟩
  | 4 => ⟨none, none, none, 0, 0, 0, some (caramelMv level), some (caramelMv level + 250)⟩
  | _ => ⟨none, none, none, 0, 0, 0, some (caramelMv level), none⟩

/-- The settings of a domain now, at the level in force when it entered its state; the die's temperature is the hottest bank's
(assumption 94). -/
def domRails (s : State) (d : Nat) : Rails :=
  let cold := decide (bankTj s (hotBank s) < 0)
  if chipDeep s then railsOf (rf s pPwr PWR_CHIP_STATE) s.pwr.level cold
  else railsOf (domAt s d).pstate (domAt s d).level cold

/-- The supply of the AON island in mV, in every state (R279). -/
def aonMv : Nat := 650

/-! ### The draw (R260, R261, R330, R331) -/

/-- What the ceilings of P1 and P2 leave out, in µW (R261): the signal-VBUS of the ports that are not OFF, and the serial links that stay up. -/
def linkDraw (s : State) : Nat :=
  25000 * ((List.range 512).filter (fun p => portState s p != 0)).length + (if s.mgt.pcie then 3100000 else 0)
    + 2400000 * ([Side.east, Side.west].filter (fun d => linkOf s d == 2)).length

/-- The most that the chip draws, in µW (R260, R261). -/
def drawCeiling (s : State) : Nat :=
  match chipState s with
  | 0 => 62000000
  | 1 => 6200000 + linkDraw s
  | 2 => 620000 + linkDraw s
  | 3 => 62000
  | 4 => 6200
  | _ => 620

/-- The most that the digital islands and EBM draw at a DCO step of 2 to 16, in µW (R331). -/
def digitalDraw (step : Nat) : Nat := 3500000 + 26300000 * (step - 2) / 14

/-- The most that the chip draws in P0 at a DCO step, in µW: the parts of R330 that do not scale, and those that do. -/
def p0Draw (step : Nat) : Nat := 12800000 + 7700000 + 3800000 + 4800000 + 3100000 + digitalDraw step

/-- The highest step at which one feed of a voltage in mV carries the worst-case load, at 1.0 A (R331). -/
def feedStep (mv : Nat) : Option Nat := ((List.range 15).reverse.map (· + 2)).find? (fun k => decide (p0Draw k ≤ 1000 * mv))

/-! ### Retention (R299) -/

/-- The weakest EBM cell retains its data for `us` µs at a junction temperature (R299): in P0 to P3 1,024 µs up to 70 °C, and half as long for
every 10 °C above, so that its tenth power halves for every 1 °C; at the array voltage of P4, half of that. -/
def retains (p4 : Bool) (tj : Int) (us : Nat) : Bool := decide (((if p4 then 2 else 1) * us) ^ 10 * 2 ^ (tj - 70).toNat ≤ 1024 ^ 10)

/-- The refresh interval of a code in µs (R216, R280). -/
def ivalUs (code : Nat) : Nat := 256 / 2 ^ code

/-! ### Balls (R324 to R326) -/

/-- The balls by their names; `neg` is the second one of a pair. -/
inductive Ball where
  | dp (port : Nat) | dm (port : Nat) | vb (port : Nat)
  | ssTx (port : Nat) (neg : Bool) | ssRx (port : Nat) (neg : Bool)
  | west (lane : Nat) (neg : Bool) | east (lane : Nat) (neg : Bool)
  | pcieTx (lane : Nat) (neg : Bool) | pcieRx (lane : Nat) (neg : Bool)
  | perst | sb (neg : Bool) | svcDp | svcDm | svcVbus | slot (n : Nat)
  | tck | tms | tdi | tdo | trst | gnd | nc
deriving DecidableEq, Repr

/-- A ball of a pair whose two balls lie side by side from a column on, at a pitch of columns, n pairs of them. -/
def pairAt (col first pitch n : Nat) (f : Nat → Bool → Ball) : Ball :=
  if col < first ∨ n ≤ (col - first) / pitch ∨ 2 ≤ (col - first) % pitch then .gnd
  else f ((col - first) / pitch) ((col - first) % pitch == 1)

/-- The balls of row 1 between the ring ports (R325). -/
def rowOne (col : Nat) : Ball :=
  if 5 ≤ col ∧ col ≤ 10 then .slot (col - 5)
  else if 27 ≤ col ∧ col ≤ 46 then .nc
  else match col with
    | 12 => .tck | 13 => .tms | 14 => .tdi | 15 => .tdo | 16 => .trst
    | 18 => .sb false | 19 => .sb true
    | 21 => .svcDp | 22 => .svcDm | 23 => .svcVbus
    | 25 => .perst
    | _ => .gnd

/-- The balls of the SuperSpeed ports (R325): 22 ports to a pair of rows. -/
def ssBall (row col : Nat) : Ball :=
  pairAt col 5 2 22 (fun j neg =>
    let p := 22 * ((row - 4) / 2) + j
    if 64 ≤ p then .gnd else if row % 2 == 0 then .ssTx p neg else .ssRx p neg)

/-- The balls of the USB 2.0 ports (R326): six clusters to a band of four rows. -/
def portBall (row col : Nat) : Ball :=
  let band := (row - 10) / 4
  let at_ (k x : Nat) : Ball :=
    let c := 6 * band + k
    if 64 ≤ c then .gnd
    else match (row - 10) % 4 with
      | 0 => .dp (8 * c + x) | 1 => .dm (8 * c + x) | 2 => .vb (8 * c + x)
      | _ => .gnd
  if 3 ≤ col ∧ col ≤ 26 then at_ ((col - 3) / 8) ((col - 3) % 8)
  else if 28 ≤ col ∧ col ≤ 51 then at_ (3 + (col - 28) / 8) ((col - 28) % 8)
  else .gnd

/-- The ball at a row and a column, both of 1 to 53 (R325). -/
def ballAt (row col : Nat) : Ball :=
  if 10 ≤ row then portBall row col
  else if col ≤ 4 then (if row ≤ 8 ∧ (col = 2 ∨ col = 3) then .west (row - 1) (col == 3) else .gnd)
  else if 50 ≤ col then (if row ≤ 8 ∧ (col = 51 ∨ col = 52) then .east (row - 1) (col == 52) else .gnd)
  else match row with
    | 1 => rowOne col
    | 2 => pairAt col 5 3 8 .pcieTx
    | 3 => pairAt col 5 3 8 .pcieRx
    | _ => ssBall row col

/-- The ball that the closed bypass switches, or the shorting contacts of an empty slot, join to a ring ball (R338, R339). -/
def bypassBall : Ball → Option Ball
  | .west l neg => some (.east ((l + 4) % 8) neg)
  | .east l neg => some (.west ((l + 4) % 8) neg)
  | _ => none

/-! ### Boundary cells (R346) -/

/-- What a boundary cell does at its ball. -/
inductive CellUse where
  | data | enable | switch | voltage | first | second | drive0 | drive1 | observe
deriving DecidableEq, Repr

/-- The cell at a place from TDI, 0 to 3,406: its ball, the first of a pair, and its use (R346). -/
def cellAt (i : Nat) : Option (Ball × CellUse) :=
  let two (k : Nat) (a b : CellUse) : CellUse := if k % 2 == 0 then a else b
  if i < 2048 then some (if i % 4 < 2 then .dp (i / 4) else .dm (i / 4), two i .data .enable)
  else if i < 3072 then some (.vb ((i - 2048) / 2), two i .switch .voltage)
  else if i < 3328 then some (if i % 4 < 2 then .ssTx ((i - 3072) / 4) false else .ssRx ((i - 3072) / 4) false, two i .first .second)
  else if i < 3360 then some (if i % 4 < 2 then .pcieTx ((i - 3328) / 4) false else .pcieRx ((i - 3328) / 4) false, two i .first .second)
  else if i < 3392 then some (if i % 4 < 2 then .west ((i - 3360) / 4) false else .east ((i - 3360) / 4) false, two i .first .second)
  else if i < 3395 then some (.sb false, match i with | 3392 => .drive0 | 3393 => .drive1 | _ => .observe)
  else if i < 3399 then some (if i < 3397 then .svcDp else .svcDm, two (i - 3395) .data .enable)
  else if i < 3407 then some (if i == 3399 then .svcVbus else if i == 3406 then .perst else .slot (i - 3400), .observe)
  else none

/-- The bit of a scan of the boundary register that is the cell at a place from TDI: bit 0 lies next to TDO. -/
def cellBit (i : Nat) : Nat := 3406 - i

end Sys2Proof.Machine
end

