-- ==== Sys2Proof/WellFormed.lean ====
section
/-!
DEFINITION. Well-formed commands: the lengths that the spec gives to the entries a command carries (R117, R130, R146, R220),
the opcode of an admin entry (R133), the payload of a cell (R45), the alignment of a register offset (R7). Every command has a
meaning whether or not it is well-formed; the statements that need a form say so.
-/
namespace Sys2Proof

/-- OPCODE of an admin entry (R130). -/
def opcodeOf (e : List Word) : Nat := (e.getD 0 0).toNat % 256

/-- The opcodes of R133. -/
def opcodes : List Nat :=
  [0x01, 0x02, 0x03, 0x04, 0x05, 0x06, 0x10, 0x11, 0x20, 0x21, 0x30, 0x31, 0x32, 0x40, 0x41, 0x50, 0x51, 0x52,
   0x60, 0x61, 0x62, 0x63, 0x64, 0x70, 0x71]

/-- An admin entry of 64 bytes with an opcode (R104, R130). -/
def adminForm (op : Nat) (e : List Word) : Bool := e.length == 16 && opcodeOf e == op

/-- A cell's payload has 64 bytes, of which LEN says at most 64 (R45). -/
def cellForm (c : Cell) : Bool := c.pay.length == 64 && decide (c.len.toNat ≤ 64)

/-- A descriptor that was read has eight dwords (R220). -/
def descForm : Option (List Word) → Bool
  | some d => d.length == 8
  | none => true

/-- A command that the wire, the host and the timers can form. -/
def wellFormed : Instr → Bool
  | .modeWriteHold _ => true
  | .modeWriteStandalone _ => true
  | .modeWriteHead _ => true
  | .modeWriteMember _ => true
  | .modeWriteLoop _ => true
  | .modeWriteRecovery _ => true
  | .modeWriteVault _ => true
  | .modeWriteRejoin _ _ => true
  | .modeTransitionComplete => true
  | .mgtResetGo _ => true
  | .coldPowerUp => true
  | .chipReset _ => true
  | .chipResetReleased _ => true
  | .imageHashChecked => true
  | .bootComplete => true
  | .bootWdogExpire => true
  | .chipWdogKick => true
  | .chipWdogExpire => true
  | .autoJoinTimer => true
  | .join _ => true
  | .bypassReqSet _ => true
  | .bypassReqClear _ => true
  | .forceWrap _ _ => true
  | .retrain _ => true
  | .trainingStepDone _ _ => true
  | .trainingStepTimeout _ => true
  | .receiveLanesDown _ => true
  | .orphanTimeout => true
  | .microframeBoundary => true
  | .plannedCloseTimer => true
  | .timingCellRx t => t.a.all (fun x => cellForm x.c) && t.b.all (fun x => cellForm x.c)
  | .lockLostTimeout => true
  | .cellTransit _ p => cellForm p.c
  | .dataCellRx c => cellForm c
  | .readReqCellRx c => cellForm c
  | .regWrCellRx c => cellForm c
  | .regRdCellRx c => cellForm c
  | .regCplCellRx c => cellForm c
  | .eventCellRx c => cellForm c
  | .postCellRx c _ => cellForm c
  | .relayCellRx c => cellForm c
  | .relayRoomReportRx c => cellForm c
  | .creditCellRx c => cellForm c
  | .creditReturnTimer _ _ _ => true
  | .topoCirculate m _ _ _ => cellForm m.c
  | .liveMapRx m _ _ _ => cellForm m.c
  | .creditGrantRx c _ _ _ _ => cellForm c
  | .topoLeaveRequestRx m => cellForm m.c
  | .topoClosingNoticeRx m _ => cellForm m.c
  | .topoReleaseRx m => cellForm m.c
  | .faultCellRx c _ _ => cellForm c
  | .hostWindowAccess _ _ => true
  | .forwardedReadTimeout _ => true
  | .pcieLinkTrained => true
  | .pcieLinkReset _ => true
  | .electGo _ => true
  | .electWindowEnd => true
  | .headClaimTimer => true
  | .sbdTxWake _ => true
  | .sbdTxAlarmSet _ => true
  | .sbdFrameStart _ => true
  | .sbdBackoffExpire => true
  | .sbdFrameSent => true
  | .faultFrameRx _ _ _ _ => true
  | .headClaimFrameRx _ _ _ => true
  | .electFrameRx _ _ _ => true
  | .wakeFrameRx _ _ => true
  | .alarmSetFrameRx _ _ _ => true
  | .softReset _ _ => true
  | .softResetDone _ => true
  | .voteSet _ _ _ => true
  | .voteClear _ _ _ => true
  | .pageLockSet _ _ => true
  | .eventEnableWrite _ _ _ => true
  | .darkAccess _ _ off _ => off.toNat % 4 == 0
  | .wakeOnAccess _ _ off _ => off.toNat % 4 == 0
  | .registerVoteRelease _ => true
  | .registerWrite _ _ off _ => off.toNat % 4 == 0
  | .misalignedAccess _ _ _ _ => true
  | .wideLowRead _ _ off => off.toNat % 4 == 0
  | .wideHighWrite _ _ off _ => off.toNat % 4 == 0
  | .readClear _ _ off => off.toNat % 4 == 0
  | .tqPiWrite _ _ _ => true
  | .cqCiWrite _ _ _ => true
  | .aqPiWrite _ _ => true
  | .acqCiWrite _ _ => true
  | .aqEnable _ => true
  | .aqDisable _ => true
  | .aqEntryReadFail _ => true
  | .pollTick _ => true
  | .entryFetchDone _ _ e => e.length == 8
  | .entryFetchFail _ _ n => decide (0 < n.toNat) && decide (n.toNat ≤ 16)
  | .prefetchRefill _ => true
  | .chainTimeout _ => true
  | .piMirrorWrite _ => true
  | .tqInvalGo _ _ => true
  | .tqInvalDone => true
  | .createTq _ e => adminForm 0x01 e
  | .destroyTq _ e => adminForm 0x02 e
  | .resetTq _ e => adminForm 0x03 e
  | .invalidateTq _ e => adminForm 0x04 e
  | .createCq _ e => adminForm 0x05 e
  | .destroyCq _ e => adminForm 0x06 e
  | .bindEndpoint _ e => adminForm 0x10 e
  | .unbindEndpoint _ e => adminForm 0x11 e
  | .reserveBw _ e => adminForm 0x20 e
  | .releaseBw _ e => adminForm 0x21 e
  | .setPortPowerOn _ e => adminForm 0x30 e
  | .setPortPowerOff _ e => adminForm 0x30 e
  | .setPortReset _ e => adminForm 0x30 e
  | .setPortDisable _ e => adminForm 0x30 e
  | .setPortSuspend _ e => adminForm 0x30 e
  | .setPortResume _ e => adminForm 0x30 e
  | .setPortSetLpm _ e => adminForm 0x30 e
  | .setPortTest _ e => adminForm 0x30 e
  | .setPortSetOwner _ e => adminForm 0x30 e
  | .setPortNoOwner _ e => adminForm 0x30 e
  | .getPort _ e => adminForm 0x31 e
  | .getTopology _ e => adminForm 0x32 e
  | .setVote _ e => adminForm 0x40 e
  | .clearVote _ e => adminForm 0x41 e
  | .quiesceInstance _ e => adminForm 0x50 e
  | .quiesceDone _ => true
  | .resumeInstance _ e => adminForm 0x51 e
  | .swapDirtyLog _ e => adminForm 0x52 e
  | .updateBegin _ e => adminForm 0x60 e
  | .updateWrite _ e _ => adminForm 0x61 e
  | .updateVerify _ e => adminForm 0x62 e
  | .updateActivate _ e => adminForm 0x63 e
  | .updateConfirm _ e => adminForm 0x64 e
  | .formCohort _ e _ => adminForm 0x70 e
  | .dissolveCohort _ e => adminForm 0x71 e
  | .reservedOpcode _ e => e.length == 16 && !opcodes.contains (opcodeOf e)
  | .wheelBlockReadDone _ _ b _ => b.length == 1024
  | .wheelReadFail _ => true
  | .cohortCheck _ => true
  | .operationDispatch _ _ => true
  | .graphReoffer _ => true
  | .spillReturn _ => true
  | .stageDone _ _ _ _ => true
  | .drainDone _ _ _ => true
  | .postDone _ => true
  | .firstTransactionStart _ => true
  | .transactionEnd _ _ _ => true
  | .transactionTimeout _ _ _ => true
  | .lineChange _ _ => true
  | .connectDebounceDone _ => true
  | .deviceChirpEnd _ => true
  | .hostChirpStart _ => true
  | .busResetEnd _ _ => true
  | .resetRecoveryEnd _ => true
  | .ssLinkU0 _ _ => true
  | .ssTrainingFail _ => true
  | .ssResetTimeout _ => true
  | .ssWarmResetLfpsEnd _ => true
  | .ssResumeTimeout _ => true
  | .disconnect _ => true
  | .remoteWake _ => true
  | .resumeSignalEnd _ => true
  | .resumeRecoveryEnd _ => true
  | .vbusCharged _ => true
  | .vbusChargeTimeout _ => true
  | .vbusFault _ => true
  | .l1Entry _ _ => true
  | .l1Exit _ _ => true
  | .u1U2Entry _ _ => true
  | .uExitEarly _ => true
  | .peWatchdogExpire _ => true
  | .peSelfCheckPass _ => true
  | .terminationCal _ _ => true
  | .svcVbusChange _ _ => true
  | .svcRequestRead _ => true
  | .svcRequestWrite _ => true
  | .svcEventRead => true
  | .svcResponseRead => true
  | .svcClearHalt _ => true
  | .dmaStartSingle _ _ _ => true
  | .dmaStartChain _ _ _ d => descForm d
  | .dmaPause _ _ => true
  | .dmaResume _ _ => true
  | .dmaStop _ _ => true
  | .dmaPaused _ _ _ => true
  | .dmaDescriptorDone _ _ d _ => descForm d
  | .dmaBusError _ _ d => descForm d
  | .dmaDescReadFail _ => true
  | .dmaBarrierArrived _ d => descForm d
  | .dmaPaceTimer _ => true
  | .scrubTick es _ => decide (es.length ≤ 8)
  | .refreshRow _ _ => true
  | .tempSample _ _ => true
  | .arbClear _ => true
  | .vfEnable _ => true
  | .vfRemoval _ => true
  | .functionLevelReset _ => true
  | .instanceResetDone _ => true
  | .msixUnmask _ _ => true
  | .tenantInRelease _ => true
  | .tenantOutPost _ => true
  | .managerInPost _ => true
  | .managerOutRelease _ => true
  | .engineWatchdogExpire _ => true
  | .chipRequestP3 _ _ => true
  | .chipRequestP4 _ _ => true
  | .chipRequestP5 _ _ => true
  | .recordCopyDone _ => true
  | .bypassCloseTimeout => true
  | .entryUndone => true
  | .chipEntryDone => true
  | .chipExitDone => true
  | .forceP5 _ _ => true
  | .domainRelease _ => true
  | .domainRequestP1 _ _ => true
  | .domainRequestP2 _ _ => true
  | .domainP2EntryDone _ => true
  | .domainExitDone _ => true
  | .quietIdleTimer _ => true
  | .autoP1Delay => true
  | .clusterIdleTimer _ => true
  | .detectorVoteExpire _ => true
  | .rtcTick => true
  | .alarmNow _ => true
  | .phantomFeedLoss => true
  | .feedLostTimer _ => true
  | .dcoStepDown => true
  | .dcoStepUp => true
  | .eqAdaptTick _ _ _ _ => true
  | .faultReport _ _ => true
  | .hushWindowEnd _ => true
  | .fltRetire _ _ => true
  | .fltFreeze _ => true
  | .fltThaw _ => true
  | .snapshotDone _ => true
  | .heartbeatCheck es => decide es.Nodup
  | .laneHeartbeatLoss => true
  | .calMarginTimer _ => true
  | .thermalShutdown => true
  | .nvmUpdBegin _ => true
  | .nvmUpdVerify _ => true
  | .nvmUpdActivate _ => true
  | .nvmUpdConfirm _ => true
  | .nvmUpdData _ _ => true
  | .keyRevoke _ _ => true
  | .activateRestart => true
  | .tapReset => true
  | .extest _ _ => true
  | .idcode => true
  | .samplePreload _ _ => true
  | .clamp => true
  | .highz => true
  | .extestPulse _ _ => true
  | .extestTrain _ _ => true
  | .debug _ off _ => off.toNat % 4 == 0
  | .bypass _ => true
  | .moduleInsert _ => true
  | .moduleRemove => true
  | .ssLinkFailure _ => true
  | .farEndTerminationFound _ => true
  | .recoveredClockFail => true
  | .engineRestartDone _ => true
  | .l1ExitLatencyEnd _ => true
  | .svcHostSuspend _ => true
  | .svcStandardRequest _ => true
  | .sbdFrameCrcFail _ => true

end Sys2Proof
end

