-- ==== Sys2Proof/Tests/Slice0.lean ====
section
/-!
SUPPORT. Tests of the model: ill-formed commands that WellFormed refuses, single commands on small states, and for each statement of the
obligations a witness that its hypotheses can be met, clause by clause. A witness's name is that of its statement.
-/
namespace Sys2Proof.Tests
open Sys2Proof Sys2Proof.Machine
-- One test after another: tests that wait for the kernel side by side each hold a thread.
set_option Elab.async false

/-! ### Helpers -/

/-- A chip that runs in a mode with its host link up and its bypass switches closed. -/
def on (m : Nat) : State :=
  wf { State.reset with mgt := { State.reset.mgt with pcie := true } } pMgt MGT_MODE_MODE m

/-- The same chip with its switches open. -/
def joined (m : Nat) : State := wb (on m) pRing RING_STATUS_BYPASS_CLOSED false

/-- The chip at a stage of the boot. -/
def at_ (b : Boot) : State := { on 0 with mgt := { (on 0).mgt with boot := b } }

/-- An admin entry of 16 dwords from its first ones. -/
def ent (ws : List Word) : List Word := (ws ++ List.replicate 16 0).take 16

/-- A cell for this chip, with its CRC. -/
def cell (typ : BitVec 4) (auth : BitVec 3) (src : BitVec 6) (len : BitVec 7) : Cell :=
  cellStamp ⟨0, src, typ, 1, false, false, false, auth, 0, 0, 0, false, 0, 0, len, 0, List.replicate 64 0⟩

/-- A timing cell over a number of hops, received at a time. -/
def timing (hops : BitVec 7) (t : BitVec 80) : Timing := ⟨cellStamp { cell 10 0 1 64 with hops := hops }, t⟩

/-- A command ends in a next state for which a test holds. -/
def gives (c : Instr) (s : State) (f : State → Bool) : Bool := match exec c s with | .next t => f t | _ => false

/-! ### Small states -/

/-- A bulk endpoint's TQ of 16 entries, number 1 of the manager. -/
def tq0 : Tq := newTq .mgr 1 (ent [0, 0, 0x1000, 0, 4]) 0

/-- Its CQ of 16 entries, number 0, with PI at 5. -/
def cq0 : Cq := { newCq .mgr 0 (ent [0, 0, 0x2000, 0, 4]) with pi := 5 }

/-- A high-speed device on a port, its bulk IN endpoint with a buffer of 1 KiB. -/
def dev0 (p : Nat) : Dev := { newDev .mgr p (ent []) with addr := 1, speed := 2 }

/-- See dev0. -/
def ep0 : Ep := { newEp .mgr 0 0 (ent []) with num := 1, dirIn := true, typ := 2, mps := 512, cls := 4, tq := some 0 }

/-- An entry in service by a flow, at an operation. -/
def work0 (op : OpKind) : Work :=
  ⟨0, 0, [0, 512, 0, 0, 0, 0, 0, 0], op, false, none, 0, 0, 0, 0, none, 0, 0, 0, 0, false, false, false, none, []⟩

/-- A STANDALONE chip with the queue, its CQ and its endpoint. -/
def queued (x : Tq) : State := setDev (setEp (setCq (setTq (on 1) 0 x) 0 cq0) 0 ep0) 0 (dev0 0)

/-- The same chip with an operation of the flow in service. -/
def inFlight (x : Tq) : State := setEp (queued x) 0 { ep0 with work := some { work0 .stage with inSvc := true } }

/-- A chip in a mode with PREV, in the ring with both links UP. -/
def severed (prev : Nat) : State := setLink (setLink (wf (joined 4) pMgt MGT_MODE_PREV prev) .east 2) .west 2

/-- A pending transition from a mode to a mode. -/
def toward (s : State) (v : Nat) : State := wf (wb s pMgt MGT_MODE_PENDING true) pMgt MGT_MODE_TARGET v

/-- A chip in the ring that knows its head, with positions 0, 1 and 63 live, at position 0. -/
def mapped (m : Nat) : State :=
  wb (wr (wr (joined m) (adr pRing 0x060) 3) (adr pRing 0x064) 0x80000000) pRing RING_POSITION_HEAD_VALID true

/-- An access of the physical function to cluster 0's registers waits while that cluster is dark. -/
def waitingFor (s : State) : State :=
  { wb (setDom s 0 { Dom.init with pstate := 2 }) 0x30 PAGE_CONTROL_WAKE_ON_ACCESS true with held := [⟨.pf, 0x30, 0x44, .read, none⟩] }

/-- The manager's admin queue is enabled and holds an entry. -/
def served (s : State) : State := setInst s 1024 { Inst.init with aqCfg := 0x104, aqPi := 1, aqBase := 64, acqBase := 64 }

/-! ### Well-formed commands -/

theorem test_decode_none : decodeTableWord 32 5 = none := rfl

/-- A cell's payload of 63 bytes is refused, and LEN = 65 (R45). -/
theorem test_wf_cell : wellFormed (.dataCellRx { cell 1 0 1 0 with pay := List.replicate 63 0 }) = false
    ∧ wellFormed (.dataCellRx { cell 1 0 1 0 with len := 65 }) = false ∧ wellFormed (.dataCellRx (cell 1 0 1 64)) = true
    ∧ wellFormed (.timingCellRx ⟨none, some ⟨{ cell 10 0 1 0 with len := 65 }, 0⟩⟩) = false
    ∧ wellFormed (.liveMapRx ⟨{ cell 11 0 0 64 with pay := [] }, 0⟩ 0 0 0) = false := by
  decide +kernel

/-- An offset that is no multiple of 4 is refused (R7). -/
theorem test_wf_offset : wellFormed (.registerWrite .pf 0 0x4D 0) = false ∧ wellFormed (.readClear .pf 0 0x56) = false
    ∧ wellFormed (.darkAccess .pf 0 1 .read) = false ∧ wellFormed (.wakeOnAccess .pf 0 2 .read) = false
    ∧ wellFormed (.wideLowRead .pf 0 0x45) = false ∧ wellFormed (.wideHighWrite .pf 0 0x4B 0) = false
    ∧ wellFormed (.debug 0 3 .read) = false ∧ wellFormed (.debug 0 4 .read) = true := by decide +kernel

/-- A list entry has eight dwords, and a failed read takes 1 to 16 entries (R113, R117). -/
theorem test_wf_entry : wellFormed (.entryFetchDone 0 0 (List.replicate 7 0)) = false ∧ wellFormed (.entryFetchFail 0 0 0) = false
    ∧ wellFormed (.entryFetchFail 0 0 17) = false ∧ wellFormed (.entryFetchFail 0 0 16) = true := by decide +kernel

/-- An admin entry has 16 dwords and the opcode of its row (R104, R133); a row's opcode is not reserved. -/
theorem test_wf_admin : wellFormed (.createTq .mgr (ent [2])) = false ∧ wellFormed (.createTq .mgr [1]) = false
    ∧ wellFormed (.createTq .mgr (ent [1])) = true ∧ wellFormed (.reservedOpcode .mgr (ent [1])) = false
    ∧ wellFormed (.reservedOpcode .mgr (ent [0])) = true := by decide +kernel

/-- A DMA descriptor has eight dwords, a wheel block 1,024 (R144, R220). -/
theorem test_wf_lists : wellFormed (.dmaStartChain .pf 48 0 (some [0])) = false
    ∧ wellFormed (.wheelBlockReadDone 0 0 [] 0) = false := by decide +kernel

/-- A scrub tick reads eight groups, and an engine misses a check once (R215, R293). -/
theorem test_wf_ticks : wellFormed (.scrubTick (List.replicate 9 ⟨0, false⟩) []) = false
    ∧ wellFormed (.heartbeatCheck [⟨.le, 0⟩, ⟨.le, 0⟩]) = false ∧ wellFormed (.heartbeatCheck [⟨.le, 0⟩]) = true := by decide +kernel

/-! ### Single commands, with results read from the rules -/

/-- R101: an access to page 0x0A, which holds no block, is refused with REASON 3 (ABSENT). -/
theorem test_absent_page : gives (.registerWrite .pf 0xFF 0x40 1) (on 0) (fun t => rf t pMgt MGT_ACCESS_LAST_REASON == 3) = true := by
  decide +kernel

/-- R30: a write of 7 from HOLD leaves HOLD, with REASON VAULT. -/
theorem test_vault : gives (.modeWriteVault .pf) (on 0) (fun t => mode t == 0 && rf t pMgt MGT_MODE_REFUSED_REASON == 4) = true := by
  decide +kernel

/-- R29: STANDALONE completes from HOLD and is pending before. -/
theorem test_standalone : gives (.modeWriteStandalone .pf) (on 0) (fun t => pendingMode t && mode t == 0
    && gives .modeTransitionComplete t (fun u => mode u == 1 && !pendingMode u)) = true := by decide +kernel

/-- R13: position 63, port 511 is 0x7FFF. -/
theorem test_port_identifier : gpPos 0x7FFF = 63 ∧ gpPort 0x7FFF = 511 ∧ gpPos 0x200 = 1 ∧ gpPort 0x200 = 0 := by decide +kernel

/-- R345: IDCODE shifts out 0x20512D47. -/
theorem test_idcode : gives .idcode (on 0) (fun t => t.out == [.tdo 0x20512D47]) = true := by decide +kernel

/-- R275: a tick counts the RTC by one, across the dwords' boundary. -/
theorem test_rtc_carry : gives .rtcTick (wr (on 0) (adr pAon 0x040) 0xFFFFFFFF)
    (fun t => rd t (adr pAon 0x040) == 0 && rd t (adr pAon 0x044) == 1) = true := by decide +kernel

/-- R8: the low half of AON_RTC latches the high half. -/
theorem test_latch : gives (.wideLowRead .pf 0x02 0x040) (wr (on 0) (adr pAon 0x044) 7)
    (fun t => look t.latch (adr pAon 0x044) == some 7) = true := by decide +kernel

/-- A stamped cell passes its CRC. -/
theorem cellOk_stamp (c : Cell) : cellOk (cellStamp c) = true := by
  simp [cellOk, cellStamp, cellCrc, cellHead]

/-- A cell whose CRC is one off does not. -/
theorem cellOk_off (c : Cell) : cellOk { c with crc := cellCrc c + 1 } = false := by
  simp [cellOk, cellCrc, cellHead]

/-- A stamped cell that is otherwise good is good. -/
theorem cellGood_stamp (s : State) (c : Cell) (typ : Nat)
    (h : (onRing s && c.typ.toNat == typ && cellHere s c && c.hops != 127 && !(c.auth != 0 && c.src != 0)) = true) :
    cellGood s (cellStamp c) typ = true := by
  have e : cellGood s (cellStamp c) typ = (onRing s && c.typ.toNat == typ && cellHere s c && cellOk (cellStamp c) && c.hops != 127
      && !(c.auth != 0 && c.src != 0)) := rfl
  rw [e, cellOk_stamp, Bool.and_true, h]

/-- A stamped timing cell below 127 hops is usable. -/
theorem usable_timing (hops : BitVec 7) (t : BitVec 80) (h : hops ≠ 127) : usable (some (timing hops t)) = some (timing hops t) := by
  have k := cellOk_stamp { cell 10 0 1 64 with hops := hops }
  have k' : cellOk (timing hops t).c = true := k
  have a : (timing hops t).c.typ = 10 := rfl
  have b : (timing hops t).c.hops = hops := rfl
  have d : ¬ (timing hops t).c.hops = 127 := by rw [b]; exact h
  have e : (timing hops t).c.auth = 0 := rfl
  simpa [usable, Option.filter, k', a, e] using d

/-- A stamped TIMING cell below 127 hops with another authority than NONE and another source than the head is discarded. -/
theorem authBad_stamp (c : Cell) (t : BitVec 80) (h : (c.typ == 10 && c.hops != 127 && c.auth != 0 && c.src != 0) = true) :
    authBad (some ⟨cellStamp c, t⟩) = true := by
  have e : authBad (some ⟨cellStamp c, t⟩) = (c.typ == 10 && cellOk (cellStamp c) && c.hops != 127 && c.auth != 0 && c.src != 0) := rfl
  rw [e, cellOk_stamp, Bool.and_true, h]

/-- R49: a transit cell at HOPS 127 is dropped and counted. -/
theorem test_hops : gives (.cellTransit false ⟨cellStamp { cell 1 0 1 0 with dst := 2, hops := 127, pay := [] }, 0⟩) (joined 3)
      (fun t => t.out.isEmpty && rf t pRing RING_DROP_CNT_HOP_DROP == 1) = true := by decide +kernel

/-! ### Witnesses: the hypotheses of each statement are met, clause by clause -/

theorem witness_StepRunsFront : (on 0).pending = [] := by decide +kernel

theorem witness_StepKeepsForm : (on 0).wf ∧ step (on 0) = .next (idleSlot (on 0)) := ⟨⟨by decide +kernel, by decide +kernel⟩, rfl⟩

theorem witness_ExecKeepsHistory : ∃ t, exec (.vfEnable 1) (on 0) = .next t := ⟨_, rfl⟩

theorem witness_ModeRequested :
    gate (on 0) .pf pMgt 0x04C true = .ok ∧ gate (on 0) .jtag pMgt 0x04C true = .ok ∧ gate (on 0) (.ring 1 0 5) pMgt 0x04C true = .ok
    ∧ mode (on 0) = 0 ∧ pendingMode (on 0) = false ∧ rb (on 0) pRing RING_POSITION_DUP = false ∧ isManager .pf = true ∧ (on 0).mgt.pcie = true
    ∧ partnerTrained (on 0) = false
    ∧ (let s := wf (on 0) pSbd SBD_ELECT_STATE 2; electState s = 2 ∧ gate s .pf pMgt 0x04C true = .ok ∧ s.mgt.pcie = true)
    ∧ (let s := wf (on 0) pSbd SBD_ELECT_STATE 3; electState s = 3 ∧ gate s (.ring 1 0 5) pMgt 0x04C true = .ok)
    ∧ (State.reset.mgt.pcie = false ∧ gate State.reset (.ring 1 0 5) pMgt 0x04C true = .ok)
    ∧ (∀ m ∈ [1, 2, 5], gate (on m) .pf pMgt 0x04C true = .ok ∧ pendingMode (on m) = false ∧ mode (on m) = m)
    ∧ (isManager (.ring 1 0 5) = true ∧ ∀ m ∈ [3, 4], gate (on m) (.ring 1 0 5) pMgt 0x04C true = .ok ∧ pendingMode (on m) = false ∧ mode (on m) = m)
    ∧ (gate (severed 2) .pf pMgt 0x04C true = .ok ∧ (2 : BitVec 3).toNat = prevMode (severed 2))
    ∧ (gate (severed 3) (.ring 1 0 5) pMgt 0x04C true = .ok ∧ (3 : BitVec 3).toNat = prevMode (severed 3))
    ∧ (∀ v ∈ [2, 3], pendingMode (severed v) = false ∧ mode (severed v) = 4 ∧ ringWhole (severed v) = true
        ∧ rb (severed v) pRing RING_POSITION_DUP = false) := by decide +kernel

theorem witness_VaultRefused : (∀ m ∈ [0, 1, 2, 5], gate (on m) .pf pMgt 0x04C true = .ok)
    ∧ (∀ m ∈ [3, 4], gate (on m) (.ring 1 0 5) pMgt 0x04C true = .ok) ∧ mode (on 7) = 7 ∧ pendingMode (on 7) = false := by decide +kernel

theorem witness_TransitionCompletes : pendingMode (on 0) = false
    ∧ (∀ m ∈ [1, 4], let s := toward (on m) 0
        pendingMode s = true ∧ targetMode s = 0 ∧ (each (allTqs s) s holdTq).que.tqs.any (fun t => t.2.stop.isSome) = false)
    ∧ (let s := toward (inFlight { tq0 with stop := some .hold }) 0
       pendingMode s = true ∧ targetMode s = 0 ∧ (each (allTqs s) s holdTq).que.tqs.any (fun t => t.2.stop.isSome) = true)
    ∧ (let s := toward (severed 2) 2; pendingMode s = true ∧ mode s = 4 ∧ targetMode s ≠ 0)
    ∧ (∀ v ∈ [1, 2, 3, 5, 6], let s := toward (on 0) v; pendingMode s = true ∧ mode s ≠ 4 ∧ targetMode s = v) := by decide +kernel

theorem witness_ChipReset : (0 : BitVec 3).toNat ≤ 5 ∧ (5 : BitVec 3).toNat ≤ 5 ∧ (on 0).mgt.boot ≠ .unpowered ∧ chipDeep (on 0) = false
    ∧ (at_ .unpowered).mgt.boot = .unpowered ∧ chipDeep (wf (on 1) pPwr PWR_CHIP_STATE 3) = true
    ∧ (∀ m ∈ [0, 5, 6], gate (on m) .pf pMgt 0x05C true = .ok ∧ quietMode (on m) = true)
    ∧ (∀ m ∈ [1, 2], gate (on m) .pf pMgt 0x05C true = .ok ∧ quietMode (on m) = false) := by decide +kernel

/-- The watchdog of a chip that has run 1,000 ms. -/
def late : State := { wb (on 0) pAon AON_WDOG_ENABLE true with clk := { (on 0).clk with rct := 1000000000 } }

theorem witness_PowerAndBoot : (at_ .unpowered).mgt.boot = .unpowered ∧ (at_ .inReset).mgt.boot = .inReset
    ∧ ((at_ .hashing).mgt.boot = .hashing ∧ hashOk (at_ .hashing).nvm (booted (at_ .hashing)) = true
      ∧ rf (wf (at_ .hashing) pNvm NVM_BOOT_BOOT_FAILS 2) pNvm NVM_BOOT_BOOT_FAILS < 3)
    ∧ ((at_ .checking).mgt.boot = .checking ∧ rf (at_ .checking) pAon AON_RESET_CAUSE_CAUSE ≠ 4)
    ∧ (let s := { on 0 with nvm := { (on 0).nvm with restart := true } }
       s.nvm.restart = true ∧ s.mgt.boot ≠ .unpowered ∧ chipDeep s = false)
    ∧ ((on 0).mgt.boot = .running ∧ dutiesRun (on 0) = true ∧ mode (on 6) = 6)
    ∧ (let s := { on 0 with mgt := { (on 0).mgt with engines := [(768, ⟨[], 0, true, false⟩), (769, ⟨[], 0, true, false⟩)] } }
       1 < coresOut s ∧ mode s ≠ 6 ∧ dutiesRun s = false)
    ∧ wdogOut late = true ∧ wdogOut (on 0) = false := by decide +kernel

theorem witness_BypassSwitches :
    ((on 0).ring.joinTimer = true ∧ (on 0).mgt.boot = .running ∧ (on 0).pwr.phase = .idle)
    ∧ (∀ b ∈ [true, false], let s := wb (on 0) pRing RING_CONTROL_AUTO_JOIN b
        s.ring.joinTimer = true ∧ s.mgt.boot = .running ∧ s.pwr.phase = .idle ∧ rb s pRing RING_CONTROL_AUTO_JOIN = b)
    ∧ (at_ .checking).mgt.boot ≠ .running
    ∧ gate (on 0) .pf pRing 0x044 true = .ok
    ∧ ({ on 0 with ring := { (on 0).ring with closeTimer := true } } : State).ring.closeTimer = true ∧ (on 0).ring.closeTimer = false
    ∧ bypassed (joined 0) = false ∧ bypassed (on 0) = true ∧ heldClosed (on 0) = false
    ∧ heldClosed { on 0 with pwr := { (on 0).pwr with phase := .closing } } = true
    ∧ (∀ b ∈ [true, false], rb (wb (on 0) pRing RING_CONTROL_BYPASS_REQ b) pRing RING_CONTROL_BYPASS_REQ = b) := by decide +kernel

/-- A ring port in a step of its training. -/
def training (d : Side) (n : Nat) : State := let s := setLink (joined 0) d 1; setSide s d { sideOf s d with step := n }

theorem witness_RingTraining :
    (∀ d ∈ [Side.east, .west], ∀ n ∈ [0, 1, 2, 3, 4, 5, 6], linkOf (training d n) d = 1 ∧ (sideOf (training d n) d).step = n)
    ∧ linkOf (joined 0) .east ≠ 1
    ∧ (linkOf (severed 2) .east = 2 ∧ (sideOf (severed 2) .east).planned = false)
    ∧ (let s := setSide (severed 2) .west { sideOf (severed 2) .west with planned := true }
       linkOf s .west = 2 ∧ (sideOf s .west).planned = true)
    ∧ linkOf (joined 0) .west ≠ 2
    ∧ (mode (mapped 3) = 3 ∧ isHead (mapped 3) = false ∧ headKnown (mapped 3) = true ∧ (mapped 3).ring.topoSeen = false)
    ∧ (let s := wb (severed 3) pRing RING_POSITION_HEAD_VALID true
       mode s = 4 ∧ isHead s = false ∧ headKnown s = true ∧ s.ring.topoSeen = false)
    ∧ isHead (mapped 2) = true := by decide +kernel

/-- Of two usable cells the one over fewer hops is chosen. -/
theorem chosen_fewer (a b : Option Timing) (x y : Timing) (h : usable a = some x) (k : usable b = some y)
    (l : y.c.hops.toNat < x.c.hops.toNat) : chosen a b = some (y, true) := by
  simp [chosen, h, k, l]

theorem witness_RingTime :
    (isHead (joined 3) = false ∧ onRing (joined 3) = true ∧ (joined 3).clk.seen = false ∧ isHead (joined 2) = true)
    ∧ usable (some (timing 126 0)) = some (timing 126 0) ∧ usable (some (timing 5 0)) = some (timing 5 0) ∧ usable none = none
    ∧ (timing 5 0).c.hops.toNat < (timing 126 0).c.hops.toNat
    ∧ chosen (some (timing 126 0)) (some (timing 5 0)) = some (timing 5 0, true)
    ∧ authBad (some ⟨cell 10 1 1 64, 0⟩) = true
    ∧ (timeOffset (joined 3) (timing 5 (64 * 65536)) false).natAbs ≤ 64 * 65536
    ∧ 64 * 65536 < (timeOffset (joined 3) (timing 5 (64 * 65536 + 1)) true).natAbs
    ∧ (timeOffset (joined 3) (timing 5 (5 * 65536)) false).natAbs ≤ 5 * 65536
    ∧ (timeOffset (joined 3) (timing 5 (4 * 65536)) false).natAbs ≤ 4 * 65536
    ∧ 5 * 65536 < (timeOffset (joined 3) (timing 5 (5 * 65536 + 1)) true).natAbs
    ∧ (let s := wf (wb (on 0) pRing RING_TIME_STATUS_LOCKED true) pRing RING_TIME_STATUS_MISSED 64
       rb s pRing RING_TIME_STATUS_LOCKED = true ∧ 64 ≤ rf s pRing RING_TIME_STATUS_MISSED)
    ∧ rf (wf (on 0) pRing RING_TIME_STATUS_MISSED 63) pRing RING_TIME_STATUS_MISSED < 64
    ∧ (let s := { severed 3 with clk := { (severed 3).clk with recovered := true } }
       s.clk.recovered = true ∧ mode s = 4 ∧ prevMode s = 3)
    ∧ (let s := wf { joined 3 with clk := { (joined 3).clk with recovered := true } } pRing RING_STATUS_SEG_ROLE 2
       s.clk.recovered = true ∧ orphan s = true)
    ∧ ((joined 3).clk.recovered = false ∧ mode (joined 3) ≠ 4 ∧ orphan (joined 3) = false)
    ∧ (let s := wb (joined 3) pRing RING_TIME_STATUS_LOCKED true
       isHead s = false ∧ s.clk.seen = false ∧ rb s pRing RING_TIME_STATUS_LOCKED = true)
    ∧ (let s := { joined 3 with clk := { (joined 3).clk with seen := true } }; isHead s = false ∧ s.clk.seen = true) := by
  have h : usable (some (timing 126 0)) = some (timing 126 0) := usable_timing _ _ (by decide)
  have k : usable (some (timing 5 0)) = some (timing 5 0) := usable_timing _ _ (by decide)
  have l : (timing 5 0).c.hops.toNat < (timing 126 0).c.hops.toNat := by decide +kernel
  have m := chosen_fewer _ _ _ _ h k l
  have n : authBad (some ⟨cell 10 1 1 64, 0⟩) = true := authBad_stamp _ _ (by decide +kernel)
  refine ⟨?_, h, k, rfl, l, m, n, ?_⟩
  · decide +kernel
  · decide +kernel

theorem witness_EpochCells :
    (isHead (mapped 2) = true ∧ onRing (mapped 2) = true ∧ cellOk (cell 11 0 0 64) = true ∧ (cell 11 0 0 64).typ = 11
      ∧ (0 : BitVec 8).toNat = rf (mapped 2) pRing RING_STATUS_EPOCH ∧ (255 : BitVec 8).toNat ≠ rf (mapped 2) pRing RING_STATUS_EPOCH)
    ∧ (cellGood (mapped 3) (cell 11 0 1 64) 11 = true ∧ isHead (mapped 3) = false)
    ∧ (cellGood (mapped 3) (cell 11 1 0 64) 11 = true ∧ (cell 11 1 0 64).auth = 1)
    ∧ (∀ p ∈ [0, 1], bits64 (if p = 0 then 0 else 0x1) (ownPos (knowHead (mapped 3) 0)) 1 = p)
    ∧ (∀ p ∈ [1, 63], (0 : BitVec 8).toNat = rf (mapped 3) pRing RING_STATUS_EPOCH ∧ live (mapped 3) p = true ∧ p ≠ ownPos (mapped 3))
    ∧ (live (mapped 3) 2 = false ∧ (255 : BitVec 8).toNat ≠ rf (mapped 3) pRing RING_STATUS_EPOCH)
    ∧ ((mapped 2).ring.closing = none ∧ live (mapped 2) (63 : BitVec 6).toNat = true)
    ∧ (0 : BitVec 6).toNat = ownPos (mapped 3) ∧ (1 : BitVec 6).toNat ≠ ownPos (mapped 3) := by
  refine ⟨⟨?_, ?_, cellOk_stamp _, ?_⟩, ⟨cellGood_stamp _ _ _ ?_, ?_⟩, ⟨cellGood_stamp _ _ _ ?_, ?_⟩, ?_⟩ <;> decide +kernel

theorem witness_CellsArrive :
    (∀ n ∈ ([1, 2, 4, 5, 6, 7, 9, 12] : List (BitVec 4)), cellGood (mapped 3) (cell n 0 1 8) n.toNat = true)
    ∧ (cellGood (mapped 3) (cell 3 1 0 8) 3 = true ∧ (cell 3 1 0 8).auth = 1 ∧ (cellDword (cell 3 1 0 8) 0).toNat < 0x80000000)
    ∧ (let c := cellStamp { cell 3 1 0 8 with pay := [0, 0, 0, 0x80] ++ List.replicate 60 0 }
       cellGood (mapped 3) c 3 = true ∧ c.auth = 1 ∧ 0x80000000 ≤ (cellDword c 0).toNat)
    ∧ (cellGood (mapped 3) (cell 3 2 0 8) 3 = true ∧ (cell 3 2 0 8).auth = 2)
    ∧ (cellGood (mapped 3) (cell 3 3 0 8) 3 = true ∧ (cell 3 3 0 8).auth ≠ 2 ∧ (cell 3 3 0 8).auth ≠ 1)
    ∧ (cellGood (mapped 3) (cell 8 0 1 64) 8 = true ∧ (cell 8 0 1 64).len ≠ 0)
    ∧ (cellGood (mapped 3) (cell 8 0 1 0) 8 = true ∧ (cell 8 0 1 0).len = 0) := by
  refine ⟨?_, ⟨cellGood_stamp _ _ _ (by decide +kernel), rfl, by decide +kernel⟩, ⟨cellGood_stamp _ _ _ (by decide +kernel), rfl, by decide +kernel⟩,
    ⟨cellGood_stamp _ _ _ (by decide +kernel), rfl⟩, ⟨cellGood_stamp _ _ _ (by decide +kernel), by decide, by decide⟩,
    ⟨cellGood_stamp _ _ _ (by decide +kernel), by decide⟩, ⟨cellGood_stamp _ _ _ (by decide +kernel), rfl⟩⟩
  intro n hn
  simp only [List.mem_cons, List.not_mem_nil, or_false] at hn
  rcases hn with h | h | h | h | h | h | h | h <;> subst h <;> exact cellGood_stamp _ _ _ (by decide +kernel)

theorem witness_CellsDiscarded : onRing (mapped 3) = true
    ∧ (∀ n ∈ ([1, 3, 8, 11, 12] : List (BitVec 4)), (cell n 0 1 8).typ.toNat = n.toNat ∧ cellHere (mapped 3) (cell n 0 1 8) = true)
    ∧ (let c := { cell 3 1 1 8 with crc := cellCrc (cell 3 1 1 8) + 1 }
       cellHere (mapped 3) c = true ∧ cellOk c = false ∧ c.bcast = false)
    ∧ (let c := cellStamp { cell 3 1 1 8 with hops := 127 }
       cellHere (mapped 3) c = true ∧ cellOk c = true ∧ c.hops = 127 ∧ c.bcast = false)
    ∧ (let c := cellStamp { cell 11 1 1 8 with hops := 127, bcast := true }
       cellHere (mapped 3) c = true ∧ c.typ.toNat = 11 ∧ c.hops = 127 ∧ c.bcast = true)
    ∧ (cellOk (cell 3 1 1 8) = true ∧ (cell 3 1 1 8).hops ≠ 127 ∧ (cell 3 1 1 8).auth ≠ 0 ∧ (cell 3 1 1 8).src ≠ 0)
    ∧ isHead (mapped 3) = false ∧ isHead (mapped 2) = true := by
  refine ⟨?_, ?_, ⟨?_, cellOk_off _, rfl⟩, ⟨?_, cellOk_stamp _, ?_⟩, ?_, ⟨cellOk_stamp _, ?_⟩, ?_⟩ <;> decide +kernel

/-- A cell in transit: its type, its source, its destination, its hops. -/
def passing (typ : BitVec 4) (src dst : BitVec 6) (hops : BitVec 7) (all : Bool) : Cell :=
  cellStamp { cell typ 0 src 0 with dst := dst, hops := hops, bcast := all }

theorem witness_CellTransit : onRing (mapped 3) = true ∧ onRing (on 0) = false
    ∧ (let c := passing 1 1 0 126 false; c.bcast = false ∧ c.dst.toNat = ownPos (mapped 3) ∧ reservedType c.typ = false)
    ∧ (let c := passing 13 1 0 126 false; c.bcast = false ∧ c.dst.toNat = ownPos (mapped 3) ∧ reservedType c.typ = true ∧ cellOk c = true)
    ∧ (let c := { passing 0 1 0 126 false with crc := cellCrc (passing 0 1 0 126 false) + 1 }
       c.bcast = false ∧ c.dst.toNat = ownPos (mapped 3) ∧ reservedType c.typ = true ∧ cellOk c = false)
    ∧ (let c := passing 1 1 2 127 false; c.dst.toNat ≠ ownPos (mapped 3) ∧ c.hops = 127)
    ∧ (let c := passing 1 0 2 126 true
       c.bcast = true ∧ c.hops ≠ 127 ∧ c.src.toNat = ownPos (mapped 3) ∧ headKnown (mapped 3) = true)
    ∧ (let c := passing 1 0 2 126 false; c.bcast = false ∧ c.dst.toNat ≠ ownPos (mapped 3) ∧ c.hops ≠ 127 ∧ c.src.toNat = ownPos (mapped 3))
    ∧ (let c := passing 1 1 2 126 false
       c.bcast = false ∧ c.dst.toNat ≠ ownPos (mapped 3) ∧ c.hops ≠ 127 ∧ ¬ (c.src.toNat = ownPos (mapped 3) ∧ headKnown (mapped 3) = true))
    ∧ (let c := passing 13 1 2 126 true; c.bcast = true ∧ c.hops ≠ 127 ∧ c.src.toNat ≠ ownPos (mapped 3) ∧ reservedType c.typ = true ∧ cellOk c = true)
    ∧ (cnt (joined 3).ring.owed (crdKey 1 1 false) = 0
      ∧ (let s : State := { joined 3 with ring := { (joined 3).ring with owed := [(crdKey 1 1 false, 3)] } }
         cnt s.ring.owed (crdKey 1 1 false) ≠ 0 ∧ leavingFor s 1 = false)
      ∧ leavingFor { joined 3 with ring := { (joined 3).ring with eastOut := ⟨[(false, passing 1 0 1 0 false)], []⟩ } } 1 = true) := by
  refine ⟨?_, ?_, ?_, ⟨?_, ?_, ?_, cellOk_stamp _⟩, ⟨rfl, ?_, rfl, cellOk_off _⟩, ?_, ?_, ?_, ?_, ⟨?_, ?_, ?_, ?_, cellOk_stamp _⟩, ?_⟩
    <;> decide +kernel

theorem witness_HostAccess :
    (State.reset.mgt.pcie = false ∧ epActive (mapped 3) = false)
    ∧ ((mapped 2).mgt.pcie = true ∧ (mapped 2).mgt.boot = .running ∧ chipDeep (mapped 2) = false ∧ epActive (mapped 2) = true
      ∧ (0xFFFFF : BitVec 26).toNat < 0x100000 ∧ wakePending (mapped 2) .pf = false ∧ isHead (mapped 2) = true)
    ∧ (0x100000 ≤ (0x100000 : BitVec 26).toNat ∧ (0x100000 : BitVec 26).toNat % 4 = 0 ∧ live (mapped 2) ((0x100000 : BitVec 26).toNat / 0x100000) = true)
    ∧ (0x100000 ≤ (0x3F00000 : BitVec 26).toNat ∧ (0x3F00000 : BitVec 26).toNat % 4 = 0 ∧ live (mapped 2) ((0x3F00000 : BitVec 26).toNat / 0x100000) = true)
    ∧ live (mapped 2) ((0x200000 : BitVec 26).toNat / 0x100000) = false
    ∧ (let s := waitingFor (on 2); s.mgt.pcie = true ∧ s.mgt.boot = .running ∧ chipDeep s = false ∧ epActive s = true ∧ wakePending s .pf = true)
    ∧ (State.reset.mgt.pcie = false ∧ linkMayTrain State.reset = true ∧ linkMayTrain (at_ .checking) = false ∧ (at_ .checking).mgt.boot ≠ .running)
    ∧ State.reset.mgt.vfs = 0
    ∧ (∃ f, ({ mapped 2 with ring := { (mapped 2).ring with fwd := [⟨7, 1, 0, .pf⟩] } } : State).ring.fwd.find? (fun g => g.tag == 7) = some f)
    ∧ (mapped 2).ring.fwd.find? (fun g => g.tag == 7) = none :=
  by refine ⟨?_, ?_, ?_, ?_, ?_, ?_, ?_, ?_, ⟨⟨7, 1, 0, .pf⟩, ?_⟩, ?_⟩ <;> decide +kernel

/-- A chip whose election window is open on a CANDIDATE. -/
def candidate : State := wf { on 0 with sbd := { (on 0).sbd with window := true } } pSbd SBD_ELECT_STATE 1

theorem witness_Election : gate (on 0) .pf pSbd 0x040 true = .ok ∧ candidate.sbd.window = true ∧ electState candidate = 1
    ∧ (on 0).sbd.window = false ∧ isHead (on 2) = true ∧ isHead (on 3) = false
    ∧ rb (wb (on 0) pSbd SBD_CONTROL_ENABLE false) pSbd SBD_CONTROL_ENABLE = false
    ∧ (∀ m ∈ [0, 1], let s := wb (on m) pSbd SBD_CONTROL_ENABLE true; rb s pSbd SBD_CONTROL_ENABLE = true ∧ pageOn s pSbd = true ∧ mode s = m) := by
  decide +kernel

/-- A frame of a type that waits after attempts, asked for by software or not, and whether it is on the line. -/
def waiting (typ : BitVec 4) (soft : Bool) (tries : Nat) (line : Bool) : State :=
  { on 0 with sbd := { (on 0).sbd with queue := [⟨typ, [], soft, tries⟩], onLine := line } }

theorem witness_FrameLine :
    (∀ n ∈ [6, 7], let s := waiting 1 false n false
      s.sbd.queue = [⟨1, [], false, n⟩] ∧ s.mgt.boot ≠ .unpowered ∧ s.sbd.onLine = false ∧ s.sbd.backoff = false
        ∧ maySend s ⟨1, [], false, n⟩ = true)
    ∧ (let s := wf (waiting 3 false 0 true) pPwr PWR_CHIP_STATE 3; s.sbd.queue = [⟨3, [], false, 0⟩] ∧ maySend s ⟨3, [], false, 0⟩ = false)
    ∧ (let s := waiting 3 false 7 false; s.sbd.queue = [⟨3, [], false, 7⟩] ∧ 8 ≤ 7 + 1 ∧ (3 : BitVec 4) ≠ 1)
    ∧ (∀ f ∈ ([(4, true), (3, false), (2, false), (1, false)] : List (BitVec 4 × Bool)),
        (waiting f.1 f.2 0 true).sbd.queue = [⟨f.1, [], f.2, 0⟩] ∧ (waiting f.1 f.2 0 true).sbd.onLine = true
          ∧ maySend (waiting f.1 f.2 0 true) ⟨f.1, [], f.2, 0⟩ = true)
    ∧ (on 0).sbd.queue = [] ∧ (on 0).sbd.onLine = false ∧ gate (on 0) .pf pSbd 0x048 true = .ok := by decide +kernel

theorem witness_FramesHeard : hears (on 0) = true ∧ awake (on 0) = true
    ∧ (let s := wf (on 0) pPwr PWR_CHIP_STATE 3; hears s = true ∧ awake s = false)
    ∧ hears (at_ .unpowered) = false ∧ isHead (on 0) = false ∧ (63 : Nat) < 64
    ∧ (let s := { on 0 with mgt := { (on 0).mgt with pins := 63 } }; 62 < strapSlot s ∧ isHead s = false)
    ∧ named (on 0) 1 = true ∧ named (on 0) 2 = false
    ∧ named { on 0 with mgt := { (on 0).mgt with pins := 63 } } 0x8000000000000000 = true := by decide +kernel

theorem witness_PortIdentifiers : (32767 : Word).toNat < 32768 := by decide +kernel

theorem witness_Authority :
    (unanswered (on 1) .pf 0 0x04C = false ∧ unanswered (on 1) .jtag 0 0x04C = false ∧ unanswered (on 1) .svc 0 0x04C = false
      ∧ unanswered (on 1) (.vf 1023) 0 0x04C = false ∧ unanswered (on 1) (.ring 2 0 7) 0 0x04C = false ∧ 0x04C % 4 = 0 ∧ blockOf 0 ≠ none)
    ∧ mustWait (waitingFor (on 1)) .pf 0x31 0x040 = true ∧ mustWait (on 1) .pf 0 0x04C = false ∧ mustWait (on 1) .svc 0 0x04C = false
    ∧ lifeline 0 0x04C = false ∧ quietMode (on 1) = false
    ∧ (mode (on 7) = 7 ∧ unanswered (on 7) .jtag 0 0x04C = false ∧ mustWait (on 7) .jtag 0 0x04C = false ∧ (0 : Nat) ≠ pAon) := by decide +kernel

theorem witness_Misaligned :
    (unanswered (on 0) .pf (0xFF : BitVec 8).toNat (0xFFF : BitVec 12).toNat = false ∧ refusedBy (on 0) .pf 0xFF 1 true ≠ some .drop
      ∧ mustWait (on 0) .pf (0xFF : BitVec 8).toNat (0xFFF : BitVec 12).toNat = false)
    ∧ (let s := waitingFor (on 0)
       unanswered s .pf (0x30 : BitVec 8).toNat (0x41 : BitVec 12).toNat = false ∧ refusedBy s .pf 0x30 1 true ≠ some .drop
         ∧ mustWait s .pf (0x30 : BitVec 8).toNat (0x41 : BitVec 12).toNat = true)
    ∧ refusedBy (on 0) (.ring 1 5 0) 0 1 true = some .drop ∧ unanswered (at_ .unpowered) .pf 0 1 = true
    ∧ (∀ a p tag, Src.jtag ≠ .ring a p tag) ∧ (0xFF : Nat) < 256 ∧ (5 : Nat) < 8 := by
  refine ⟨?_, ?_, ?_, ?_, (fun _ _ _ h => nomatch h), ?_⟩ <;> decide +kernel

/-- Cluster 0 is in P2. -/
def darkCluster : State := setDom (on 0) 0 { Dom.init with pstate := 2 }

theorem witness_DarkBlocks :
    gate (wb darkCluster 0x30 PAGE_CONTROL_WAKE_ON_ACCESS false) .pf 0x30 0x044 true = .dark
    ∧ gate (wb darkCluster 0x30 PAGE_CONTROL_WAKE_ON_ACCESS false) .pf 0x30 0x044 false = .dark
    ∧ gate (wb darkCluster 0x30 PAGE_CONTROL_WAKE_ON_ACCESS true) .pf 0x30 0x044 true = .wake
    ∧ gate (wb darkCluster 0x30 PAGE_CONTROL_WAKE_ON_ACCESS true) .pf 0x30 0x044 false = .wake
    ∧ (∀ d ∈ ([0, 0x5D] : List (BitVec 8)), domOk d.toNat = true)
    ∧ darkCluster.held = []
    ∧ (waitingFor (on 0)).held.any (fun h => decide (h.page < 0x100) && (domsOf h.page).contains (0 : BitVec 8).toNat) = true := by decide +kernel

theorem witness_Scratch : ∀ p ∈ ([0, 0x02, 0x30, 0x6F] : List (BitVec 8)), gate (on 0) .pf p.toNat 0x034 true = .ok := by decide +kernel

theorem witness_PageHeader :
    (∀ off ∈ [0x010, 0x014, 0x038, 0x030, 0x00C], gate (on 0) .pf 0x30 off true = .ok) ∧ locked (on 0) 0x30 = false
    ∧ gate (wb (on 0) 0x30 PAGE_LOCK_LOCK true) .pf 0x30 0x038 true = .ok ∧ locked (wb (on 0) 0x30 PAGE_LOCK_LOCK true) 0x30 = true
    ∧ inSoftReset (wb (on 0) 0x30 PAGE_CONTROL_SOFT_RESET true) 0x30 = true ∧ inSoftReset (on 0) 0x30 = false := by decide +kernel

theorem witness_WideAccess : gate (on 0) .pf 0x02 0x040 false = .ok ∧ lowHalf 0x02 0x040 = true ∧ look (on 0).latch (adr 0x02 0x040) = none
    ∧ (on 0).mgt.pcie = true ∧ (on 0).mgt.boot = .running ∧ chipDeep (on 0) = false ∧ epActive (on 0) = true
    ∧ (0x2044 : BitVec 26).toNat = 0x02 * 4096 + 0x044 ∧ gate (on 0) .pf 0x02 0x044 false = .ok
    ∧ look ({ on 0 with latch := [(adr 0x02 0x044, 7)] } : State).latch (adr 0x02 0x044) = some 7
    ∧ mode (on 0) = 0
    ∧ (∀ r ∈ [(0x02, 0x048), (0x08, 0x050), (0x1C, 0x040), (0x1F, 0x11C)], gate (on 0) .pf r.1 r.2 true = .ok
        ∧ gate (on 0) .pf r.1 (r.2 + 4) true = .ok ∧ locked (on 0) r.1 = false ∧ (regDesc r.1 r.2).isSome = true
        ∧ (regDesc r.1 (r.2 + 4)).isSome = true)
    ∧ isLowHalf 0x1C 0x040 = true ∧ isLowHalf 0x1F 0x11C = true ∧ cState (on 0) 48 = 0 ∧ cState (on 0) 63 = 0
    ∧ look ({ on 0 with lowHeld := [(adr 0x02 0x048, 9)] } : State).lowHeld (adr 0x02 0x048) = some 9 := by decide +kernel

theorem witness_FieldTypes :
    (∀ r ∈ [(0x2D, 0x040), (0x30, 0x044), (0x09, 0x044)], (blockOf r.1 = some .cnd ∨ blockOf r.1 = some .clu ∨ blockOf r.1 = some .ebm)
      ∧ (regDesc r.1 r.2).isSome = true ∧ gate (on 0) .pf r.1 r.2 true = .ok)
    ∧ gate (on 0) .pf pMgt 0x054 false = .ok ∧ look (on 0).latch (adr pMgt 0x054) = none := by decide +kernel

/-! ### Witnesses: queues and admin commands -/

/-- The head, which serves an admin entry, with another chip's endpoint context 0 at position 1 and a CQ and a TQ there. -/
def headed : State :=
  let s := setFar (served (mapped 2)) 8192 ⟨{ ep0 with tq := none }, dev0 0⟩
  setRef (setRef s (refKey .mgr 6) (newRef false 1 0 4)) (refKey .mgr 7) (newRef true 1 0 4)

theorem witness_IndexWrites :
    (winServes (queued tq0) .mgr 0x1000 = true ∧ winServes (mapped 3) .mgr 0x1000 = true ∧ winServes headed .mgr 0x1000 = true)
    ∧ (tqOf (queued tq0) .mgr (1 : BitVec 11).toNat = some (0, tq0) ∧ tq0.stop = none ∧ bits 15 0 16 < qSize tq0.log2 ∧ qSize tq0.log2 ≤ bits 16 0 16)
    ∧ (let x := { tq0 with stop := some .hold }; tqOf (queued x) .mgr (1 : BitVec 11).toNat = some (0, x) ∧ x.stop ≠ none)
    ∧ (tqOf headed .mgr (2047 : BitVec 11).toNat = none ∧ refAt headed .mgr (2047 : BitVec 11).toNat = none)
    ∧ (tqOf headed .mgr (6 : BitVec 11).toNat = none ∧ refAt headed .mgr (6 : BitVec 11).toNat = some (newRef false 1 0 4) ∧ 1 ≠ ownPos headed)
    ∧ (tqOf headed .mgr (7 : BitVec 11).toNat = none ∧ refAt headed .mgr (7 : BitVec 11).toNat = some (newRef true 1 0 4))
    ∧ (cqOf (queued tq0) .mgr (0 : BitVec 11).toNat = some (0, cq0) ∧ qSize cq0.log2 ≤ bits 16 0 16
      ∧ bits 6 0 16 < qSize cq0.log2 ∧ span cq0.log2 cq0.ci cq0.pi < span cq0.log2 cq0.ci (bits 6 0 16)
      ∧ span cq0.log2 cq0.ci (bits 5 0 16) ≤ span cq0.log2 cq0.ci cq0.pi ∧ refAt (queued tq0) .mgr 0 = none)
    ∧ refAt (setRef (queued tq0) (refKey .mgr 0) (newRef true 0 0 4)) .mgr 0 = some (newRef true 0 0 4)
    ∧ (cqOf headed .mgr (7 : BitVec 11).toNat = none ∧ cqOf headed .mgr (6 : BitVec 11).toNat = none
      ∧ cqOf headed .mgr (2047 : BitVec 11).toNat = none) := by decide +kernel

/-- An admin queue of the manager that is not enabled, with its bases and an ACQ PI of 5. -/
def queueOff (n : Word) : Inst := { Inst.init with aqCfg := n, acqCfg := n, aqBase := 64, acqBase := 64, acqPi := 5 }

/-- The tenant engines' islands are forced down. -/
def tenOff (s : State) : State := each [0x48, 0x49, 0x4A, 0x4B] s (fun s d => setDom s d { Dom.init with pstate := 2, forced := some 2 })

theorem witness_AdminQueue :
    (winServes (on 1) .mgr 0x108 = true ∧ isMember (on 1) = false)
    ∧ ((15 : BitVec 16).toNat < aqSize Inst.init ∧ aqSize Inst.init ≤ (16 : BitVec 16).toNat ∧ acqSize Inst.init ≤ (16 : BitVec 16).toNat)
    ∧ (let i := queueOff 4
       (5 : BitVec 16).toNat < acqSize i ∧ ((5 : BitVec 16).toNat + acqSize i - i.acqCi) % acqSize i ≤ (i.acqPi + acqSize i - i.acqCi) % acqSize i
       ∧ (6 : BitVec 16).toNat < acqSize i ∧ (i.acqPi + acqSize i - i.acqCi) % acqSize i < ((6 : BitVec 16).toNat + acqSize i - i.acqCi) % acqSize i)
    ∧ (∀ n ∈ [4, 16], let i := queueOff (BitVec.ofNat 32 n)
        aqOn i = false ∧ 4 ≤ bits i.aqCfg 0 5 ∧ bits i.aqCfg 0 5 ≤ 16 ∧ 4 ≤ bits i.acqCfg 0 5 ∧ bits i.acqCfg 0 5 ≤ 16 ∧ i.aqBase ≠ 0 ∧ i.acqBase ≠ 0)
    ∧ (aqOn Inst.init = false ∧ Inst.init.aqBase = 0 ∧ bits (queueOff 3).aqCfg 0 5 < 4 ∧ 16 < bits (queueOff 17).acqCfg 0 5)
    ∧ aqOn (instAt (served (on 1)) 1024) = true
    ∧ (admReady (served (on 1)) .mgr = true ∧ isMember (served (on 1)) = false ∧ admReady (on 1) .mgr = false)
    ∧ ((at_ .checking).mgt.boot ≠ .running ∧ chipDeep (wf (on 1) pPwr PWR_CHIP_STATE 3) = true ∧ isMember (on 3) = true ∧ 0x11C < 0x1000)
    ∧ ((on 7).mgt.boot = .running ∧ chipDeep (on 7) = false ∧ isMember (on 7) = false ∧ mode (on 7) = 7)
    ∧ (let s := waitingFor (on 1)
       s.mgt.boot = .running ∧ chipDeep s = false ∧ isMember s = false ∧ mode s ≠ 7 ∧ wakePending s .pf = true)
    ∧ (let s := on 6
       s.mgt.boot = .running ∧ chipDeep s = false ∧ isMember s = false ∧ mode s ≠ 7 ∧ wakePending s .pf = false ∧ windowMode s 0x1000 true = false)
    ∧ windowOpen (on 1) (.inst 5) = false
    ∧ (let s := tenOff (setInst (on 1) 5 { Inst.init with state := 1 })
       s.mgt.boot = .running ∧ chipDeep s = false ∧ isMember s = false ∧ wakePending s .pf = false ∧ windowMode s 0x108 true = true
         ∧ tenDown s .mgr = true ∧ windowOpen s (.inst 5) = true ∧ tenDown s (.inst 5) = true)
    ∧ (carried (served (on 1)) .mgr = false ∧ carried (served (on 3)) .mgr = true) := by
  and_intros <;> decide +kernel

/-- A chain that waits for its next entry, with the status that it has met. -/
def chain0 (d : Option Nat) : Chain := ⟨0, 0, false, none, [], false, d.map (fun n => (BitVec.ofNat 4 n, none)), [], 0⟩

/-- A completion of the first entry, which waits for its POST. -/
def post0 : Post := ⟨0, 0, 0, 0, none, none, false, false, [], 1, 0⟩

theorem witness_ListEngine :
    (tqAt (queued tq0) (0 : BitVec 12).toNat = some tq0 ∧ tq0.error = false ∧ tq0.stop = none ∧ runsSchedules (queued tq0) = true
      ∧ pageOn (queued tq0) (lePage 0) = true ∧ pageLit (queued tq0) (lePage 0) = true ∧ piCovers tq0 = true ∧ tq0.batch = none)
    ∧ (let x := { tq0 with batch := some post0 }
       (x.pi == x.ci % qSize x.log2 && x.batch.isSome && x.posts.isEmpty && mayPost (setTq (queued x) 0 { x with sampled := x.pi, due := false }) x) = true)
    ∧ (let s := setDom (queued tq0) 0x40 { Dom.init with pstate := 2 }
       pageLit s (lePage 0) = false ∧ pageOn s (lePage 0) = true ∧ runsSchedules s = true ∧ tqAt s 0 = some tq0)
    ∧ (let x := { tq0 with cache := [⟨3, none⟩] }; piCovers x = false ∧ tqAt (queued x) (0 : BitVec 12).toNat = some x)
    ∧ (let x := { tq0 with error := true }; x.error = true ∧ tqAt (queued x) (0 : BitVec 12).toNat = some x)
    ∧ (let x := { tq0 with fetching := [15, 0] }
       let got := fun idx k => ((List.range k).map (fun j => (idx + j) % qSize x.log2)).filter (x.fetching.contains ·)
       got 15 1 ≠ [] ∧ got 14 1 = [] ∧ got 15 16 ≠ [] ∧ got 3 1 = [])
    ∧ (let x := { tq0 with sampled := 1 }
       wanted x ≠ [] ∧ ownerStill (queued x) x.owner = false ∧ orphan (queued x) = false ∧ rb (queued x) pPln PLN_STATUS_BP_ACTIVE = false
         ∧ toHold (queued x) = false ∧ dmaLit (queued x) = true
         ∧ dmaLit (each [0x58, 0x59, 0x5A, 0x5B] (queued x) (fun s d => setDom s d { Dom.init with pstate := 2 })) = false)
    ∧ wanted tq0 = []
    ∧ (∀ d ∈ [none, some 0, some 14], let x := { tq0 with chain := some (chain0 d) }
        x.chain = some (chain0 d) ∧ (epAt (queued x) x.ep).bind (·.work) = none ∧ x.next = x.pi ∧ x.stop = none)
    ∧ (let x := { tq0 with chain := some (chain0 none), pi := 1 }; (epAt (queued x) x.ep).bind (·.work) = none ∧ x.next ≠ x.pi
       ∧ (let w := { work0 .stage with e := [0, 512, 0, 0, 0, 0, 0, 0] }
          let s := setEp (queued x) 0 { ep0 with work := some w }
          (epAt s x.ep).bind (·.work) = some w ∧ (w.idx + 1) % qSize x.log2 = x.pi ∧ x.stop = none ∧ w.inSvc = false
            ∧ (eLast w.e = false ∨ eLast { w with e := [0, 0, 0, 0, 0, 0, 0, 0] }.e = false)))
    ∧ ((epAt (inFlight tq0) 0).bind (·.work) = some { work0 .stage with inSvc := true })
    ∧ (let x := { tq0 with posts := [post0] }; x.posts ≠ [] ∧ mayPost (queued x) x = true ∧ tq0.posts = [])
    ∧ tqAt (queued tq0) (4095 : BitVec 12).toNat = none := by
  and_intros <;> decide +kernel

theorem witness_MirrorAndInvalidation :
    (∀ b ∈ [true, false], let c := { cq0 with mirror := some 0x3000, mirrorHold := true, mirrorDue := b }
      cqAt (setCq (on 1) 0 c) (0 : BitVec 10).toNat = some c ∧ c.mirror = some 0x3000 ∧ c.mirrorHold = true ∧ c.mirrorDue = b
        ∧ isMember (setCq (on 1) 0 c) = false ∧ isMember (setCq (on 3) 0 c) = true ∧ cqAt (setCq (on 3) 0 c) (0 : BitVec 10).toNat = some c)
    ∧ instHeld { Inst.init with state := 3 } = true ∧ instHeld { Inst.init with away := 3 } = true ∧ instHeld Inst.init = false
    ∧ (cqAt (queued tq0) 0 = some cq0 ∧ cq0.mirror = none ∧ cqAt (queued tq0) (1023 : BitVec 10).toNat = none)
    ∧ (gate (on 1) .pf pLe 0x080 true = .ok ∧ bit 0x10000 16 = true ∧ bit 0 16 = false
      ∧ (writeFields (on 1) pLe 0x080 0x10000).que.inval = none)
    ∧ (on 1).que.inval = none
    ∧ (let s := { queued tq0 with que := { (queued tq0).que with inval := some (7, 0, 1) } }; s.que.inval = some (7, 0, 1) ∧ tqAt s 7 = none)
    ∧ (let s := { queued tq0 with que := { (queued tq0).que with inval := some (0, 15, 16) } }
       tqAt s 0 = some tq0 ∧ destroying tq0 = false ∧ invalOk tq0 15 16 = true ∧ invalOk tq0 16 1 = false ∧ invalOk tq0 0 17 = false
         ∧ destroying { tq0 with stop := some (.destroy .mgr []) } = true) := by decide +kernel

/-- CREATE_TQ of 2^n entries on an endpoint with a CQ; the same words make a CREATE_CQ of the chip at DW4[21:16]. -/
def createEnt (n ep cq : Word) : List Word := ent [0, 0, 0x1000, 0, n, ep, cq]

/-- The chip before CREATE_TQ: the endpoint has no TQ. -/
def bare : State := setEp (served (queued tq0)) 0 { ep0 with tq := none }

/-- Instance 5 in a state, beside the manager's admin queue. -/
def tenant (st : BitVec 3) : State := setInst (served (on 1)) 5 { Inst.init with state := st }

theorem witness_CreateQueues :
    (∀ n ∈ [4, 16], let e := createEnt (BitVec.ofNat 32 n) 0 0
      admPasses bare .mgr e false 7 = true ∧ queueForm e = true ∧ bits (dw e 4) 6 2 = 0 ∧ bits (dw e 4) 12 4 = 0 ∧ epBad (dw e 5) = false
      ∧ bits (dw e 6) 11 21 = 0 ∧ epPos (dw e 5) = ownPos bare ∧ epAt bare (epCtx (dw e 5)) = some { ep0 with tq := none }
      ∧ acting .mgr e = .mgr ∧ cqOf bare .mgr (bits (dw e 6) 0 11) = some (0, cq0)
      ∧ bit (dw e 4) 7 = false ∧ bits (dw e 4) 22 10 = 0 ∧ bit (dw e 4) 5 = false ∧ bits (dw e 4) 16 6 = ownPos bare)
    ∧ (queueForm (createEnt 17 0 0) = false ∧ queueForm (createEnt 3 0 0) = false)
    ∧ (¬ queueQuota bare .mgr ≤ queuesHeld bare .mgr ∧ freeQueue bare .mgr = some 0 ∧ tabFree bare.que.tqs 4096 0 = some 1
      ∧ tabFree bare.que.cqs 1024 0 = some 1)
    ∧ epAt bare (epCtx (dw (createEnt 4 1 0) 5)) = none
    ∧ cqOf bare .mgr (bits (dw (createEnt 4 0 9) 6) 0 11) = none
    ∧ epAt (served (queued tq0)) 0 = some ep0 ∧ ep0.tq ≠ none
    ∧ (let e := ent [0, 0x405, 0x1000, 0, 4, 0, 0]
       let s := setEp (tenant 1) 0 { ep0 with tq := none }
       let s0 := setInst s 5 { Inst.init with state := 1, quota := 0 }
       admPasses s .mgr e false 7 = true ∧ acting .mgr e = .inst 5 ∧ Owner.inst 5 ≠ .mgr ∧ Owner.inst 5 ≠ ep0.owner ∧ queueQuota s0 (.inst 5) ≤ queuesHeld s0 (.inst 5))
    ∧ (let e := createEnt 4 0x2000 7
       admPasses headed .mgr e false 7 = true ∧ epPos (dw e 5) = 1 ∧ epPos (dw e 5) ≠ ownPos headed ∧ reachable headed 1 = true
       ∧ farAt headed (dw e 5) = some ⟨{ ep0 with tq := none }, dev0 0⟩ ∧ refAt headed .mgr (bits (dw e 6) 0 11) = some (newRef true 1 0 4)
       ∧ ¬ queueQuota headed .mgr ≤ queuesHeld headed .mgr ∧ freeQueue headed .mgr = some 0
       ∧ refAt headed .mgr 9 = none ∧ refAt headed .mgr 6 = some (newRef false 1 0 4) ∧ (newRef true 1 0 4).pos ≠ epPos (0x7E000 : Word)
       ∧ farAt headed 0x2001 = none ∧ reachable headed 2 = false)
    ∧ (let e := createEnt 0x10004 0 0; bits (dw e 4) 16 6 = 1 ∧ bits (dw e 4) 22 10 = 0 ∧ bit (dw e 4) 7 = false) := by
  and_intros <;> decide +kernel

theorem witness_QueueCommands :
    (let e := ent [0, 0, 0xFFFFF800]; admPasses (served (on 1)) .mgr e false 3 = true ∧ bits (dw e 2) 11 21 ≠ 0)
    ∧ (∀ n ∈ [3, 4], admPasses headed .mgr (ent [0, 0, 6]) false n = true ∧ admPasses headed .mgr (ent [0, 0, 7]) false n = true)
    ∧ (bits (dw (ent [0, 0, 2047]) 2) 11 21 = 0 ∧ refAt headed (acting .mgr (ent [0, 0, 2047])) 2047 = none ∧ tqOf headed .mgr 2047 = none
      ∧ cqOf headed .mgr 2047 = none)
    ∧ (refAt headed .mgr 6 = some (newRef false 1 0 4) ∧ refAt headed .mgr 7 = some (newRef true 1 0 4) ∧ tqOf headed .mgr 6 = none
      ∧ cqOf headed .mgr 7 = none ∧ 1 ≠ ownPos headed ∧ reachable headed 1 = true)
    ∧ (let s := setRef headed (refKey .mgr 8) (newRef false 2 0 4); refAt s .mgr 8 = some (newRef false 2 0 4) ∧ reachable s 2 = false)
    ∧ (let e := ent [0, 0, 1, 0x00100000]; let s := served (queued tq0)
       bits (dw e 2) 11 21 = 0 ∧ admPasses s .mgr (ent [0, 0, 1]) false 3 = true ∧ tqOf s (acting .mgr e) (bits (dw e 2) 0 11) = some (0, tq0)
       ∧ tq0.stop = none ∧ admPasses s .mgr e false 4 = true ∧ destroying tq0 = false
       ∧ invalOk tq0 (bits (dw e 3) 0 16) (bits (dw e 3) 16 16) = true ∧ invalOk tq0 15 16 = true ∧ invalOk tq0 16 1 = false)
    ∧ (∀ w ∈ [Stop.destroy .mgr [], .reset .mgr []], let x := { tq0 with stop := some w }
        tqOf (served (queued x)) .mgr 1 = some (0, x) ∧ x.stop = some w ∧ destroying x = (w == .destroy .mgr []))
    ∧ (let e := ent [0, 0, 0]; let s := served (queued tq0); let u := served (queued { tq0 with cq := 1 })
       admPasses s .mgr e false 3 = true ∧ cqOf s (acting .mgr e) (bits (dw e 2) 0 11) = some (0, cq0) ∧ s.que.tqs.any (fun t => t.2.cq == 0) = true
       ∧ admPasses u .mgr e false 3 = true ∧ cqOf u (acting .mgr e) 0 = some (0, cq0) ∧ u.que.tqs.any (fun t => t.2.cq == 0) = false) := by
  decide +kernel

/-- BIND_ENDPOINT with its dwords 2 to 5. -/
def bindEnt (w port addr tt : Word) : List Word := ent [0, 0, w, port, addr, tt]

/-- A store whose 16 KiB blocks are all held has no buffer of that size. -/
theorem noBuffer (l : List Nat) (h : ∀ i, i < 2032 → i ∈ l) : allocBuf ⟨[], [], [], l, []⟩ 8 = none := by
  have k : lowestSuper ⟨[], [], [], l, []⟩ = none := by
    unfold lowestSuper
    rw [List.find?_eq_none]
    intro i hi
    simpa using h i (List.mem_range.mp hi)
  simp [allocBuf, k]

/-- An interrupt endpoint of 64 bytes every 8 microframes, without a TQ, and the chip that holds it, with a wheel. -/
def epIn : Ep := { ep0 with typ := 3, tq := none, log2i := 3, mps := 64 }

/-- See epIn. -/
def reserving : State := wr (setEp (served (queued tq0)) 0 epIn) (adr pPln 0x050) 0x200000

theorem witness_EndpointCommands :
    (let e := bindEnt 0x8000 0 0 0; let s := served (on 1); let p := gpPort (dw e 2)
      admPasses s .mgr e false 6 = true ∧ bindForm e = true ∧ gpPos (dw e 2) = ownPos s ∧ mayPort s .mgr e p = true
      ∧ bindFits s p e = true ∧ bNew e = true ∧ devsOn s p = [] ∧ ¬ epQuota s (acting .mgr e) ≤ epsHeld s (acting .mgr e)
      ∧ tabFree s.ctx.devs 2048 0 = some 0 ∧ bindForm (bindEnt 0x80000000 0 0 0) = false ∧ bindFits s p (bindEnt 0x8000 0x10000000 0 0) = false)
    ∧ (let e := ent [0, 0x405, 0x8000]; mayPort (tenant 1) .mgr e 0 = false ∧ admPasses (tenant 1) .mgr e false 6 = true
       ∧ (let s := setInst (tenant 1) 5 { Inst.init with quota := 0, state := 1 }; epQuota s (acting .mgr e) ≤ epsHeld s (acting .mgr e)))
    ∧ (let e := bindEnt 0 0x10000001 2 0; let s := pwf (served (queued tq0)) 0 PRT_STATE_SPEED 2
       bindForm e = true ∧ bNew e = false ∧ admPasses s .mgr e false 6 = true ∧ bindFits s 0 e = true ∧ devAt s (bHandle e) = some (dev0 0)
       ∧ (dev0 0).addr.toNat = bAddr e ∧ (dev0 0).route = bRoute e ∧ (dev0 0).speed = bSpeed e ∧ numTaken s (bHandle e) e = false
       ∧ numTaken s 0 (bindEnt 0 0x10000001 0x11 0) = true ∧ (devsOn s 0).any (fun h => (devAt s h).any (fun d => d.addr.toNat == 1)) = true
       ∧ devAt s (bHandle (bindEnt 0x07FF0000 0 0 0)) = none ∧ (dev0 511).port ≠ 0)
    ∧ (let e := bindEnt 0x8200 0 0 0; admPasses headed .mgr e false 6 = true ∧ bindForm e = true ∧ gpPos (dw e 2) = 1 ∧ 1 ≠ ownPos headed
       ∧ reachable headed 1 = true ∧ gpPos (dw (bindEnt 0x8400 0 0 0) 2) = 2 ∧ reachable headed 2 = false
       ∧ ¬ epQuota headed .mgr ≤ epsHeld headed .mgr)
    ∧ (allocBuf State.reset.ctx (bCls (bindEnt 0 0 0 8))).isSome = true
    ∧ tabFree State.reset.ctx.eps 8192 0 = some 0 ∧ (∃ x, allocBuf x 8 = none)
    ∧ (epBad (dw (ent [0, 0, 0x80000]) 2) = true ∧ ∀ n ∈ [3, 4], admPasses bare .mgr (ent [0, 0, 0x80000]) false n = true)
    ∧ (let e := ent [0, 0, 0]; epBad (dw e 2) = false ∧ epPos (dw e 2) = ownPos bare ∧ acting .mgr e = .mgr
      ∧ epAt bare (epCtx (dw e 2)) = some { ep0 with tq := none } ∧ epAt (served (queued tq0)) (epCtx (dw e 2)) = some ep0
      ∧ ep0.tq ≠ none ∧ admPasses (served (queued tq0)) .mgr e false 3 = true ∧ epAt bare (epCtx (0x1FFF : Word)) = none
      ∧ admPasses bare .mgr e false 3 = true)
    ∧ (let e := ent [0, 0, 0, 64]
       admPasses reserving .mgr e false 4 = true ∧ reserveBad (slowDev reserving ep0) ep0 64 0 = true
       ∧ reserveBad (slowDev reserving epIn) epIn (bits (dw e 3) 0 16) (bits (dw e 3) 16 16) = false
       ∧ reserveBad (slowDev reserving epIn) epIn 65 0 = true
       ∧ wheelBase reserving ≠ 0 ∧ wheelBase (on 1) = 0)
    ∧ (∃ p, grant reserving epIn 64 0 (admitted reserving 0) = .ok p)
    ∧ (∃ d, grant (wf reserving pPln PLN_SHARE_EBM_PCT 0) epIn 64 0 (admitted reserving 0) = .error d)
    ∧ (let w : Word := 0x2000; let e := ent [0, 0, 0x2000, 64]
       epPos w = 1 ∧ 1 ≠ ownPos headed ∧ reachable headed 1 = true ∧ farAt headed w = some ⟨{ ep0 with tq := none }, dev0 0⟩
       ∧ admPasses headed .mgr (ent [0, 0, w]) false 3 = true ∧ admPasses headed .mgr e false 4 = true ∧ farAt headed 0x2001 = none
       ∧ reserveBad (decide ((dev0 0).speed < 2)) ep0 64 0 = true ∧ reserveBad (decide ((dev0 0).speed < 2)) epIn 64 0 = false
       ∧ farAt (setFar headed 8192 ⟨ep0, dev0 0⟩) w = some ⟨ep0, dev0 0⟩
       ∧ linksHold headed (farKey w) 1 ⟨ep0, 64, 0⟩ = true) := by
  refine ⟨?_, ?_, ?_, ?_, ?_, ?_, ⟨_, noBuffer (List.range 2032) (fun _ h => List.mem_range.mpr h)⟩, ?_, ?_, ?_, ⟨_, rfl⟩, ⟨_, rfl⟩, ?_⟩
    <;> decide +kernel

/-- A chip whose admin queue holds a SET_PORT, with port 0 in a state, and the entry. -/
def porting (st : Nat) : State := pwf (served (on 1)) 0 PRT_STATE_STATE st

/-- See porting. -/
def portEnt (act param : Word) : List Word := ent [0, 0, 0, act, param]

theorem witness_SetPort :
    (∀ k ∈ ([(0, 1, 0), (1, 2, 0), (2, 3, 1), (6, 3, 0), (3, 4, 0), (3, 5, 0), (4, 6, 0), (6, 6, 0), (3, 7, 0xFE7F0000), (2, 8, 1),
        (1, 0x100, 0), (1, 0x200, 0), (1, 0, 0)] : List (Nat × Word × Word)),
      let s := porting k.1; let e := portEnt k.2.1 k.2.2
      admPasses s .mgr e false 5 = true ∧ setPortForm e = true ∧ gpPos (dw e 2) = ownPos s ∧ mayPort s .mgr e (gpPort (dw e 2)) = true
      ∧ actionOk s (gpPort (dw e 2)) (pAction e) = true ∧ devsOn s (gpPort (dw e 2)) = [])
    ∧ portState (ownPort (porting 2) 0 .mgr) 0 ≠ 6 ∧ portState (ownPort (porting 6) 0 .mgr) 0 = 6
    ∧ portState (ownPort (porting 4) 0 .mgr) 0 = 4
    ∧ (pAction (portEnt 0x100 0) = 0 ∧ pSetOwner (portEnt 0x100 0) = true)
    ∧ (pAction (portEnt 0x200 0) = 0 ∧ pSetOwner (portEnt 0x200 0) = false ∧ pNoOwner (portEnt 0x200 0) = true)
    ∧ (pAction (portEnt 9 0) = 9 ∧ setPortForm (portEnt 9 0) = false ∧ admPasses (porting 1) .mgr (portEnt 9 0) false 5 = true)
    ∧ (let s := setInst (tenant 1) 5 { Inst.init with state := 1, aqCfg := 0x104, aqPi := 1 }
       admPasses s (.inst 5) (portEnt 0x100 0) false 5 = true ∧ setPortForm (portEnt 0x100 0) = true)
    ∧ (let e := ent [0, 0, 0x200, 2]; admPasses headed .mgr e false 5 = true ∧ setPortForm e = true ∧ gpPos (dw e 2) = 1 ∧ 1 ≠ ownPos headed
       ∧ reachable headed 1 = true ∧ gpPos 0x400 = 2 ∧ reachable headed 2 = false)
    ∧ mayPort (tenant 1) .mgr (ent [0, 0x405, 0, 2]) 0 = false
    ∧ actionOk (porting 0) 0 3 = false
    ∧ (let s := setDev (porting 1) 0 (dev0 0); newOwner s 0 (portEnt 0x50100 0) ≠ portOwner s 0 ∧ devsOn s 0 ≠ []) := by decide +kernel

theorem witness_PortQueries :
    (let e := ent [0, 0, 0]; let s := served (on 1)
      admPasses s .mgr e false 3 = true ∧ bits (dw e 2) 15 17 = 0 ∧ gpPos (dw e 2) = ownPos s ∧ mayPort s .mgr e (gpPort (dw e 2)) = true
      ∧ admPasses s .mgr e false 6 = true ∧ bits (dw e 5) 16 16 = 0 ∧ bits (dw e 5) 0 16 % 16 = 0 ∧ devsOn s (gpPort (dw e 2)) = [])
    ∧ (let e := ent [0, 0, 0, 0x1000, 0, 16]; let s := served (queued tq0)
       admPasses s .mgr e false 6 = true ∧ bits (dw e 5) 0 16 % 16 = 0 ∧ bits (dw e 5) 0 16 ≠ 0 ∧ devsOn s 0 ≠ [])
    ∧ (let e := ent [0, 0, 0x8000]; admPasses (served (on 1)) .mgr e false 3 = true ∧ bits (dw e 2) 15 17 ≠ 0)
    ∧ (let e := ent [0, 0, 0x200]; admPasses headed .mgr e false 3 = true ∧ gpPos (dw e 2) ≠ ownPos headed ∧ reachable headed (gpPos (dw e 2)) = true
       ∧ gpPos 0x400 ≠ ownPos headed ∧ reachable headed (gpPos 0x400) = false)
    ∧ (let e := ent [0, 0x405, 0]; admPasses (tenant 1) .mgr e false 3 = true ∧ mayPort (tenant 1) .mgr e 0 = false)
    ∧ (∀ n ∈ [0, 31], let e := ent [0, 0, 0x5D, BitVec.ofNat 32 n]; let s := served (on 1)
      admPasses s .mgr e true 4 = true ∧ bits (dw e 2) 14 18 = 0 ∧ bits (dw e 3) 6 26 = 0 ∧ domOk (bits (dw e 2) 0 8) = true
      ∧ bits (dw e 2) 8 6 = ownPos s ∧ bits (dw e 3) 0 6 = n ∧ n ≤ 31 ∧ bit (domAt s (bits (dw e 2) 0 8)).alloc n = false
      ∧ bit (domAt (setDom s 0x5D { Dom.init with alloc := bitW n }) (bits (dw e 2) 0 8)).alloc n = true
      ∧ admPasses (setDom s 0x5D { Dom.init with alloc := bitW n }) .mgr e true 4 = true)
    ∧ (let e := ent [0, 0, 0, 63]; admPasses (served (on 1)) .mgr e true 4 = true ∧ bits (dw e 3) 0 6 = 63
       ∧ (∀ j ∈ List.range 31, bit (domAt (setDom (on 1) 0 { Dom.init with alloc := 0x7FFFFFFF }) 0).alloc j = true)
       ∧ bit (domAt (setDom (on 1) 0 { Dom.init with alloc := 0x7FFFFFFF }) 0).alloc 31 = false
       ∧ (∀ j ∈ List.range 32, bit (domAt (setDom (on 1) 0 { Dom.init with alloc := 0xFFFFFFFF }) 0).alloc j = true)) := by decide +kernel

theorem witness_InstanceCommands :
    (admPasses (tenant 1) .mgr (ent []) true 2 = true ∧ admPasses (tenant 1) .mgr (ent []) true 5 = true ∧ aBehalf (ent []) = false)
    ∧ (let e := ent [0, 0x405]
      aBehalf e = true ∧ (aTarget e).toNat = 5
      ∧ (∀ st ∈ ([0, 1, 2, 3, 4] : List (BitVec 3)), admPasses (tenant st) .mgr e true 2 = true ∧ (instAt (tenant st) 5).state = st)
      ∧ admPasses (tenant 1) .mgr e true 5 = true ∧ swapForm (join64 (dw e 2) (dw e 3)) (dw e 4).toNat = true)
    ∧ (let e := ent [0, 0x405, 0x1000, 0, 8]; admPasses (tenant 4) .mgr e true 5 = true ∧ swapForm (join64 (dw e 2) (dw e 3)) (dw e 4).toNat = true)
    ∧ (let e := ent [0, 0x405, 0x1000, 0, 0]; admPasses (tenant 1) .mgr e true 5 = true ∧ swapForm (join64 (dw e 2) (dw e 3)) (dw e 4).toNat = false)
    ∧ (let q := setInst (on 3) 5 { Inst.init with away := 3 }
       let e := ent [0, 0x405]
       isMember (on 3) = true ∧ phaseHere (on 3) (instAt (on 3) 5) = 1 ∧ admPasses (on 3) .mgr e true 2 = true
         ∧ isMember q = true ∧ phaseHere q (instAt q 5) = 3 ∧ admPasses q .mgr e true 2 = true) := by decide +kernel

/-- An update session of the register path, with NVM_UPD_OFFSET at 0. -/
def session (reg : Bool) (len : Nat) : State := { on 0 with nvm := { (on 0).nvm with session := some (reg, len) } }

/-- The boot record with its slots in states, in one copy with its CRC and one without. -/
def slots (a b : Nat) (trial : Bool) : State :=
  let r : BootRec := ⟨1, 0, false, trial, 0, a, b⟩
  { on 0 with nvm := { (on 0).nvm with recs := ({ r with crc := recCrc r }, ⟨0, 0, false, false, 0, 4, 0⟩) } }

/-- R312: a fresh store's first copy of the record has its CRC, and its second has none. -/
theorem test_record_copies : recOk Nvm.init.recs.1 = true ∧ recOk Nvm.init.recs.2 = false ∧ bootRec Nvm.init = Nvm.init.recs.1 := by
  decide +kernel

/-- The chip with page NVM off. -/
def nvmOff (s : State) : State := wb s pNvm PAGE_CONTROL_ENABLE false

theorem witness_UpdateStages :
    (let e := ent [0, 0, 0, 0, 0, 0, 4]; let s := served (on 1)
      bits (dw e 2) 6 26 = 0 ∧ bits (dw e 2) 0 6 = ownPos s ∧ admPasses s .mgr (ent [0]) true 4 = true ∧ admPasses s .mgr (ent [0]) true 3 = true
      ∧ admPasses s .mgr e true 7 = true ∧ 4 ≤ (dw e 6).toNat ∧ (dw e 6).toNat ≤ 65536 ∧ (dw e 6).toNat % 4 = 0
      ∧ ([1, 2, 3, 4] : List Byte).length = (dw e 6).toNat ∧ (dw (ent [0]) 6).toNat < 4)
    ∧ (let e := ent [0, 0, 0x40]; admPasses (served (on 1)) .mgr e true 4 = true ∧ bits (dw e 2) 6 26 ≠ 0)
    ∧ (let s := nvmOff (served (on 1)); pageOn s pNvm = false ∧ admPasses s .mgr (ent [0]) true 4 = true ∧ pageOn (served (on 1)) pNvm = true
       ∧ gate s .pf pNvm 0x068 true = .ok ∧ gate s .pf pNvm 0x058 true = .ok ∧ gate s .pf pNvm 0x05C true = .ok)
    ∧ (let e := ent [0x60, 0, 1]; bits (dw e 2) 0 6 = 1 ∧ admPasses headed .mgr e true 4 = true ∧ mode headed ≠ 6 ∧ 1 ≠ ownPos headed
       ∧ admPasses (served (on 6)) .mgr e true 4 = true ∧ mode (served (on 6)) = 6 ∧ 1 ≠ ownPos (served (on 6)))
    ∧ (gate (on 0) .pf pNvm 0x05C true = .ok ∧ locked (on 0) pNvm = false ∧ gate (on 0) .pf pNvm 0x058 true = .ok
      ∧ pageOn (on 0) pNvm = true)
    ∧ (let s := session true 4
       gate s .pf pNvm 0x068 true = .ok ∧ s.nvm.session = some (true, 4) ∧ mode s ≠ 7 ∧ 4 * rf s pNvm NVM_UPD_OFFSET_OFFSET + 4 ≤ 4)
    ∧ (session true 3).nvm.session = some (true, 3) ∧ (session false 4).nvm.session = some (false, 4) ∧ (on 0).nvm.session = none
    ∧ (let s := slots 4 3 false; (bootRec s.nvm).stB = 3 ∧ (bootRec (on 0).nvm).stA ≠ 3 ∧ (bootRec (on 0).nvm).stB ≠ 3 ∧ mode (on 0) ≠ 7)
    ∧ (0 % 4 = 0 ∧ 0 + ([1, 2, 3, 4] : List Byte).length ≤ 4 ∧ 4 < 4 + ([1, 2, 3, 4] : List Byte).length)
    ∧ (let s := slots 4 1 false; target s = true ∧ slotState (bootRec s.nvm) (target s) = 1 ∧ otherHolds s true = false ∧ verifyReason s ≠ 0
       ∧ (let u := { s with nvm := { s.nvm with b := ⟨[], true⟩ } }; verifyReason u = 0 ∧ slotState (bootRec u.nvm) (target u) = 1))
    ∧ otherHolds (session false 4) true = true
    ∧ (let s := slots 4 2 false; let u := { s with nvm := { s.nvm with b := ⟨[], true⟩ } }
       quietMode u = true ∧ otherHolds u true = false ∧ slotState (bootRec u.nvm) (target u) = 2 ∧ (slotAt u.nvm (target u)).factory = true)
    ∧ (let s := slots 4 2 false
       let u := wf { s with nvm := { s.nvm with b := ⟨[], false⟩ } } pNvm NVM_MIN_SECVER_KEY_REVOKED 1
       quietMode u = true ∧ otherHolds u true = false ∧ slotState (bootRec u.nvm) (target u) = 2 ∧ (slotAt u.nvm (target u)).factory = false
         ∧ rf u pNvm NVM_MIN_SECVER_KEY_REVOKED / 2 ^ imgNum (slotAt u.nvm (target u)).bytes 10 1 % 2 = 1)
    ∧ (let s := slots 4 6 false; slotState (bootRec s.nvm) (target s) = 6 ∧ otherHolds s false = false ∧ mode s ≠ 7)
    ∧ (let s := slots 3 4 true; (bootRec s.nvm).trial = true ∧ slotState (bootRec s.nvm) (booted s) = 3) := by
  and_intros <;> decide +kernel

/-- Two isochronous endpoints on two high-speed ports, with reservations of one interval. -/
def pair : State :=
  let e (k : Nat) : Ep := { ep0 with dev := k, typ := 1, tq := none, log2i := 3, rsv := some ⟨100, 0, 0, none⟩ }
  setDev (setDev (setEp (setEp (served (on 1)) 0 (e 0)) 1 (e 1)) 0 (dev0 0)) 1 (dev0 1)

/-- A cohort of the pair. -/
def cohort0 (last : Option Nat) : State := { pair with pln := { pair.pln with cohorts := [(4095, ⟨.mgr, [0, 1], [], [], 16, last⟩)] } }

theorem witness_CohortCommands :
    (let e := ent [0, 0, 0, 0, 2, 16]; let d : List Word := [0, 1]
      let s1 := hostRead pair .mgr (join64 (dw e 2) (dw e 3)) (4 * bits (dw e 4) 0 11)
      admPasses pair .mgr e false 6 = true ∧ bits (dw e 4) 11 21 = 0 ∧ 2 ≤ bits (dw e 4) 0 11 ∧ bits (dw e 4) 0 11 ≤ 1024
      ∧ d.length = bits (dw e 4) 0 11 ∧ d.any epBad = false ∧ (d.filter (fun w => epPos w != ownPos s1)).any (fun w => !reachable s1 (epPos w)) = false
      ∧ isMember s1 = false ∧ cohortRefusal s1 (acting .mgr e) d (dw e 5).toNat = none
      ∧ cohortBytes s1 (d.filter (fun w => epPos w == ownPos s1)) ≤ rf s1 pPln PLN_COHORT_CAP_BYTES ∧ freeCohort s1 = some 0
      ∧ d.filter (fun w => epPos w != ownPos s1) = []
      ∧ rf (wf s1 pPln PLN_COHORT_CAP_BYTES 199) pPln PLN_COHORT_CAP_BYTES < cohortBytes s1 d
      ∧ cohortRefusal s1 .mgr [0, 5] 16 = some 4)
    ∧ ¬ 2 ≤ bits (dw (ent [0, 0, 0, 0, 1, 16]) 4) 0 11
    ∧ (let s := mapped 2; ([0, 0x4000] : List Word).filter (fun w => epPos w != ownPos s) = [0x4000] ∧ reachable s (epPos 0x4000) = false
       ∧ reachable s (epPos 0x2000) = true)
    ∧ (let e := ent [0, 0, 4095]; admPasses pair .mgr e false 3 = true ∧ bits (dw e 2) 12 20 = 0 ∧ acting .mgr e = .mgr
      ∧ look pair.pln.cohorts (bits (dw e 2) 0 12) = none
      ∧ (∀ l ∈ [none, some 9], admPasses (cohort0 l) .mgr e false 3 = true
          ∧ look (cohort0 l).pln.cohorts (bits (dw e 2) 0 12) = some ⟨.mgr, [0, 1], [], [], 16, l⟩))
    ∧ bits (dw (ent [0, 0, 4096]) 2) 12 20 ≠ 0
    ∧ (admReady pair .mgr = true ∧ mode pair ≠ 6 ∧ admReady (on 1) .mgr = false)
    ∧ (let s := setInst (tenant 1) 5 { Inst.init with state := 2, aqCfg := 0x104, aqPi := 1 }
       admReady s (.inst 5) = true ∧ (instAt s (ownerKey (.inst 5))).state = 2 ∧ Owner.inst 5 ≠ .mgr)
    ∧ (let s := setInst (tenant 1) 5 { Inst.init with state := 1, aqCfg := 0x104, aqPi := 1 }
       admReady s (.inst 5) = true ∧ (instAt s (ownerKey (.inst 5))).state = 1 ∧ aBehalf (ent [0, 0x405]) = true)
    ∧ (admReady (served (on 6)) .mgr = true ∧ mode (on 6) = 6 ∧ ¬ (0x60 ≤ aOp (ent [1]) ∧ aOp (ent [1]) ≤ 0x64))
    ∧ aHeadReserved (ent [0x100]) = true ∧ aTail (ent [0, 0, 0, 1]) 3 = true := by decide +kernel

/-! ### Witnesses: planner, ports and data -/

/-- A planner with a wheel region at 2 MiB and an open plan of microframe 3, whose walk waits for a block. -/
def walking (block : Nat) (walked : Bool) : State :=
  let s := wr (on 1) (adr pPln 0x050) 0x200000
  { s with pln := { s.pln with plans := [⟨3, false, 1, [], walked, block, 0, []⟩] } }

/-- The head with a cohort whose two members have their services of microframe 16 planned. -/
def together (graphs : Bool) : State :=
  let e (k : Nat) : Ep := { ep0 with dev := k, typ := 1, log2i := 3, rsv := some ⟨100, 0, 0, none⟩, planned := if graphs then [(16, 0, none)] else [] }
  let s := setEp (setEp (mapped 2) 0 (e 0)) 1 (e 1)
  { s with pln := { s.pln with cohorts := [(0, ⟨.mgr, [0, 1], [], [], 16, none⟩)] } }

theorem witness_Walk :
    planOf (on 1) (3 : Word).toNat = none
    ∧ planOf (walking 0x210000 false) (3 : Word).toNat = some ⟨3, false, 1, [], false, 0x210000, 0, []⟩
    ∧ planOf (walking 0x210000 true) (3 : Word).toNat = some ⟨3, false, 1, [], true, 0x210000, 0, []⟩
    ∧ (0x210000 : Addr).toNat = 0x210000 ∧ (0x211000 : Addr).toNat ≠ 0x210000 ∧ 0x210000 ≠ slotAddr (walking 0x210000 false) 3
    ∧ (let a := slotAddr (walking 0 false) 3; let s := walking a false
       a ≠ 0 ∧ planOf s (3 : Word).toNat = some ⟨3, false, 1, [], false, a, 0, []⟩ ∧ (BitVec.ofNat 64 a).toNat = a ∧ slotAddr s 3 = a)
    ∧ orphan (on 1) = false ∧ orphan (wf (joined 3) pRing RING_STATUS_SEG_ROLE 2) = true
    ∧ (let b : List Word := [0x21FF000, 0, 1020]
       bits (dw b 2) 0 11 ≤ 1020 ∧ (join64 (dw b 0) (dw b 1)).toNat ≠ 0 ∧ inPool (walking 0x210000 false) (join64 (dw b 0) (dw b 1)).toNat = true)
    ∧ 1020 < bits (dw [0, 0, 1021] 2) 0 11 ∧ inPool (walking 0x210000 false) 0x2200000 = false ∧ inPool (walking 0x210000 false) 0x20F000 = false
    ∧ (let s := together true; let k : Cohort := ⟨.mgr, [0, 1], [], [], 16, none⟩
       let ms := (k.members.filterMap (fun c => (epAt s c).map (fun e => (c, e)))).filter (fun p => memberIn k 16 p.1 && rsvIn p.2 16)
       ms ≠ [] ∧ timeLocked s = true ∧ ms.all (fun p => hasGraph p.2 16 && staged p.2 16) = true ∧ cohortDue s k 16 = true)
    ∧ (let s := together false; let k : Cohort := ⟨.mgr, [0, 1], [], [], 16, none⟩
       let ms := (k.members.filterMap (fun c => (epAt s c).map (fun e => (c, e)))).filter (fun p => memberIn k 16 p.1 && rsvIn p.2 16)
       ms ≠ [] ∧ ms.any (fun p => !hasGraph p.2 16) = true)
    ∧ timeLocked (on 1) = false
    ∧ (([] : List Nat).filterMap (fun c => (epAt (on 1) c).map (fun e => (c, e)))) = [] := by decide +kernel

/-- Port 0 is ENABLED at high speed and may start transactions, and a flow's operation waits on it. -/
def busy (op : OpKind) : State :=
  let s := setEp (queued tq0) 0 { ep0 with work := some (work0 op) }
  let s1 := pwf (pwf (pwf (wb s pPln PLN_STATUS_RUNNING true) 0 PRT_STATE_STATE 3) 0 PRT_STATE_LINK 1) 0 PRT_STATE_SPEED 2
  setPort s1 0 { Port.init with allowTxn := true }

/-- The same flow is isochronous, with its service in microframe 0 and too late for it. -/
def tooLate : State :=
  let w := { work0 .issue with n := some 0, budget := 512, segLen := 512, e := [512, 512, 0, 0, 0, 0, 0, 0] }
  setEp (busy .issue) 0 { ep0 with typ := 1, rsv := some ⟨512, 0, 0, none⟩, work := some w }

/-- A service of microframe 0. -/
def work1 : Work := { work0 .issue with n := some 0, budget := 512, segLen := 512, e := [512, 512, 0, 0, 0, 0, 0, 0] }

/-- An interrupt endpoint with that service. -/
def ep1 : Ep := { ep0 with typ := 3, rsv := some ⟨512, 0, 0, none⟩, work := some work1 }

/-- The interrupt service on a SuperSpeed port whose link sleeps, or on the high-speed port. -/
def asleepOn (sleeps : Bool) : State :=
  let s := setEp (busy .issue) 0 ep1
  if sleeps then pwf (pwf s 0 PRT_STATE_SPEED 3) 0 PRT_STATE_LINK 3 else s

theorem witness_Dispatching :
    (epAt (on 1) (8191 : BitVec 13).toNat = none ∧ epAt (queued tq0) 0 = some ep0 ∧ ep0.work = none)
    ∧ (epAt (busy .issue) (0 : BitVec 13).toNat = some { ep0 with work := some (work0 .issue) }
      ∧ waits (busy .issue) 0 (work0 .issue) = true ∧ runsSchedules (busy .issue) = true ∧ rb (busy .issue) pPln PLN_STATUS_RUNNING = true
      ∧ epPort (busy .issue) { ep0 with work := some (work0 .issue) } = 0 ∧ portNext (busy .issue) 0 24 = some 0 ∧ portNext (busy .issue) 0 7499 = none)
    ∧ (∃ e w, epAt tooLate 0 = some e ∧ e.work = some w ∧ waits tooLate 0 w = true ∧ isIsoc e = true ∧ issueReady tooLate 0 e = true
      ∧ fitsNow tooLate e 7499 = false ∧ portNext tooLate 0 7499 = none ∧ mayLapse tooLate = true)
    ∧ (∀ late ∈ [true, false], epAt (asleepOn late) 0 = some ep1 ∧ ep1.work = some work1 ∧ work1.inSvc = false ∧ waits (asleepOn late) 0 work1 = true
      ∧ isPer ep1 = true ∧ isIsoc ep1 = false ∧ issueReady (asleepOn late) 0 ep1 = true ∧ mayLapse (asleepOn late) = true
      ∧ asleep (asleepOn late) (epPort (asleepOn late) ep1) = late ∧ (late = true ∨ fitsNow (asleepOn late) ep1 7499 = false)
      ∧ portNext (asleepOn late) 0 7499 = none)
    ∧ (epAt (busy .stage) (0 : BitVec 13).toNat = some { ep0 with work := some (work0 .stage) } ∧ waits (busy .stage) 0 (work0 .stage) = true
      ∧ runsSchedules (busy .stage) = true ∧ rb (busy .stage) pPln PLN_STATUS_RUNNING = true ∧ (work0 .stage).op ≠ .issue)
    ∧ waits (inFlight tq0) 0 { work0 .stage with inSvc := true } = false
    ∧ (let s := { busy .issue with pln := { (busy .issue).pln with deferred := [0] } }; s.pln.deferred.contains 0 = true ∧ graphLow s 0 = true)
    ∧ (busy .issue).pln.deferred.contains 0 = false
    ∧ (let s := { busy .drain with pln := { (busy .drain).pln with spill := [(0, 1)] } }
       s.pln.spill = (0, 1) :: [] ∧ epAt s 0 = some { ep0 with work := some (work0 .drain) }
         ∧ listLow (listOf s { ep0 with work := some (work0 .drain) } 1) = true) := by
  refine ⟨?_, ?_, ⟨_, _, rfl, rfl, ?_⟩, ?_⟩ <;> decide +kernel

/-- A flow's data moves on channel 0. -/
def moving (op : OpKind) : Work := { work0 op with chan := some 0, inSvc := true, segLen := 4, seg := 4 }

/-- See moving. -/
def onChannel (op : OpKind) : State :=
  cwf (setChan (setEp (queued tq0) 0 { ep0 with work := some (moving op) }) 0 { Chan.init with flow := some 0 }) 0 DMA_STATUS_STATE 1

/-- A transaction of the flow on port 0's wire. -/
def wired (e : Ep) : State :=
  let s := setPort (busy .issue) 0 { Port.init with allowTxn := true, wire := some ⟨0, 24⟩ }
  setEp s 0 e

/-- A work in service on the wire. -/
def served1 (split retries : Nat) : Work := { work0 .issue with inSvc := true, split := split, retries := retries }

theorem witness_OperationsOnWire :
    ((epAt (on 1) (0 : BitVec 13).toNat).bind (·.work) = none ∧ epAt (busy .stage) 0 = some { ep0 with work := some (work0 .stage) }
      ∧ (work0 .stage).chan = none)
    ∧ (∀ op ∈ [OpKind.stage, OpKind.drain], epAt (onChannel op) (0 : BitVec 13).toNat = some { ep0 with work := some (moving op) }
      ∧ (moving op).chan = some 0 ∧ (moving op).inSvc = true ∧ (chanAt (onChannel op) 0).flow = some 0 ∧ chanGoes (onChannel op) 0 = true
      ∧ (moving op).op = op ∧ ([1, 2, 3, 4] : List Byte).length = hostBytes (moving op).cnd false (moving op).segLen
      ∧ cellsWait (onChannel op) 0 (moving op) = false)
    ∧ (firstBad (onChannel .drain) (bufRanges ep0 0 4) = none
      ∧ firstBad { onChannel .drain with ebmBad := [0] } (bufRanges ep0 0 4) = some 0)
    ∧ (portNext (busy .issue) 0 (firstToken (speedOf (busy .issue) 0)) = some 0 ∧ (portAt (busy .issue) 0).lastT = 0
      ∧ portNext (on 1) 0 (firstToken (speedOf (on 1) 0)) = none
      ∧ (let s := setPort (busy .issue) 0 { Port.init with allowTxn := true, lastT := 1 }
         portNext s 0 (firstToken (speedOf s 0)) = some 0 ∧ (portAt s 0).lastT ≠ 0))
    ∧ ((portAt (on 1) (511 : BitVec 9).toNat).wire = none
      ∧ (portAt (wired ep0) 0).wire = some ⟨0, 24⟩ ∧ (epAt (wired ep0) 0).bind (·.work) = none)
    ∧ (let e := { ep0 with work := some (served1 0 3) }; epAt (wired e) 0 = some e ∧ viaTt (wired e) e = false ∧ isIsoc e = false ∧ 3 ≤ (served1 0 3).retries)
    ∧ (let e := { ep0 with typ := 3, work := some (served1 1 0) }; let s := setDev (wired e) 0 { dev0 0 with speed := 1, ttHub := 2, ttPort := 1 }
       epAt s 0 = some e ∧ viaTt s e = true ∧ isPer e = true ∧ (served1 1 0).split ≠ 0 ∧ (served1 0 0).split = 0)
    ∧ (let e := { ep0 with work := some (served1 1 0) }; let s := setDev (wired e) 0 { dev0 0 with speed := 1, ttHub := 2, ttPort := 1 }
       epAt s 0 = some e ∧ viaTt s e = true ∧ isPer e = false ∧ isIsoc e = false ∧ (served1 1 0).retries < 3 ∧ (txnErr s 0 false 24).2 = none)
    ∧ (let e := { ep0 with work := some (served1 0 3) }; let s := setDev (wired e) 0 { dev0 0 with fails := 1 }
       (txnErr s 0 true 24).2 = some 0)
    ∧ (let e := { ep0 with typ := 1, work := some (served1 0 0) }; epAt (wired e) 0 = some e ∧ viaTt (wired e) e = false ∧ isIsoc e = true)
    ∧ (let e := { ep0 with work := some (served1 0 0) }
       let s3 := updWork (incF (updWork (setPort (wired e) 0 { Port.init with allowTxn := true, lastT := 800 }) 0 (fun w => { w with inSvc := false }))
         (cluPage 0) (pfld 0 PRT_COUNTS_RETRIES)) 0 (fun w => { w with retries := w.retries + 1 })
       ∃ e3, epAt s3 0 = some e3 ∧ (fitsNow s3 e3 800 && portRuns s3 0) = true ∧ (fitsNow s3 e3 7499 && portRuns s3 0) = false) := by
  refine ⟨?_, ?_, ?_, ?_, ?_, ?_, ?_, ?_, ?_, ?_, ⟨_, rfl, ?_⟩⟩ <;> decide +kernel

theorem witness_BufferBytes : (let e := { ep0 with head := 1023, fill := 1020 }; epAt (setEp (on 1) 3 e) 3 = some e ∧ e.buf ≤ e.head
      ∧ e.head < e.buf + clsSize e.cls ∧ e.fill + ([1, 2, 3, 4] : List Byte).length ≤ clsSize e.cls) := by decide +kernel

/-- A port in a state, with what it keeps beside its registers. -/
def port (n st : Nat) (x : Port) : State := setPort (pwf (on 1) n PRT_STATE_STATE st) n x

/-- The same port in a cluster that is in P2, by a force or not. -/
def dark (n st : Nat) (x : Port) (forced : Option Nat) : State := setDom (port n st x) (n / 8) { Dom.init with pstate := 2, forced := forced }

theorem witness_PortConnect :
    (let s := port 0 1 Port.init
     portState s 0 = 1 ∧ (portAt s 0).ss ≠ .up ∧ (portAt s 0).line ≠ .dPlus ∧ portForced s 0 = false ∧ portDark s 0 = false)
    ∧ (portForced (dark 0 1 Port.init (some 2)) 0 = true ∧ portState (dark 0 1 Port.init (some 2)) 0 = 1)
    ∧ (portForced (dark 0 1 Port.init none) 0 = false ∧ portDark (dark 0 1 Port.init none) 0 = true)
    ∧ portState (on 1) (511 : BitVec 9).toNat ≠ 1
    ∧ (goneLatched (port 0 1 Port.init) 0 = false
      ∧ goneLatched (latchEvent (dark 0 3 Port.init (some 2)) 0 .disconnect) 0 = true)
    ∧ (∀ n ∈ [63, 64], let s := port n 1 { Port.init with debouncing := true }
        portState s n = 1 ∧ (portAt s n).debouncing = true ∧ portDark s n = false ∧ ssPath s n = decide (n < 64))
    ∧ (∀ h ∈ [true, false], let s := port 70 5 { Port.init with reset := some (.usb2 true h), line := .dPlus }
        (portAt s 70).reset = some (.usb2 true h) ∧ (portAt s 70).line = .dPlus ∧ portState s 70 = 5)
    ∧ (let s := port 70 5 { Port.init with reset := some .hot }; (∀ d ∈ [true, false], ∀ h ∈ [true, false], (portAt s 70).reset ≠ some (.usb2 d h))
        ∧ (portAt s 70).line ≠ .dPlus)
    ∧ (let s := port 70 3 Port.init; portState s 70 = 3 ∧ (portAt s 70).reset = none) := by decide +kernel

theorem witness_SuperSpeed :
    (let s := port 0 1 { Port.init with ss := .detect }; portState s 0 = 1 ∧ (portAt s 0).ss = .detect ∧ portDark s 0 = false)
    ∧ (let s := dark 0 1 { Port.init with ss := .detect } none; portState s 0 = 1 ∧ (portAt s 0).ss = .detect ∧ portDark s 0 = true)
    ∧ (∀ b ∈ [true, false], let s := port 63 1 { Port.init with ss := .training, stable := b }
        portState s 63 = 1 ∧ (portAt s 63).ss = .training ∧ portDark s 63 = false ∧ (portAt s 63).stable = b)
    ∧ (∀ k ∈ [ResetKind.hot, ResetKind.warm], let s := port 63 5 { Port.init with ss := .training, reset := some k }
        portState s 63 = 5 ∧ (portAt s 63).reset = some k ∧ portDark s 63 = false)
    ∧ (let s := port 0 6 { Port.init with ss := .up }; portState s 0 = 6 ∧ (portAt s 0).ss = .up ∧ portDark s 0 = false)
    ∧ (let s := port 0 3 { Port.init with ss := .exiting }; portState s 0 = 3 ∧ (portAt s 0).ss = .exiting ∧ portDark s 0 = false)
    ∧ (let s := port 0 2 Port.init; portState s 0 ≠ 1 ∧ portState s 0 ≠ 5 ∧ portState s 0 ≠ 6 ∧ portState s 0 ≠ 3)
    ∧ (let s := pwf (port 0 3 Port.init) 0 PRT_STATE_SPEED 3; portState s 0 = 3 ∧ 3 ≤ speedOf s 0 ∧ speedOf (pwf s 0 PRT_STATE_SPEED 2) 0 < 3)
    ∧ (∀ st ∈ [2, 4, 6], 2 ≤ portState (port 70 st Port.init) 70 ∧ prf (port 70 st Port.init) 70 PRT_STATE_TEST ≠ 1
        ∧ portDark (port 70 st Port.init) 70 = false ∧ portDark (dark 70 st Port.init none) 70 = true ∧ portState (dark 70 st Port.init none) 70 = st
        ∧ (portAt (port 70 st Port.init) 70).ss ≠ .up)
    ∧ portState (port 70 1 Port.init) 70 = 1
    ∧ (let gone (n : Nat) := latchEvent (dark n 1 { Port.init with ss := .detect } none) n .disconnect
       goneLatched (gone 63) 63 = true ∧ goneLatched (gone 64) 64 = true ∧ portState (gone 64) 64 = 1 ∧ (portAt (gone 64) 64).ss = .detect
         ∧ goneLatched (on 1) 0 = false) := by decide +kernel

/-- An ENABLED port with its link in a state. -/
def linked (l : Nat) (x : Port) : State := pwf (port 0 3 x) 0 PRT_STATE_LINK l

theorem witness_LinkPower :
    ((portAt (port 0 0 { Port.init with charging := true }) 0).charging = true ∧ (portAt (on 1) 0).charging = false ∧ portState (on 1) 0 = 0
      ∧ portState (port 0 1 Port.init) 0 ≠ 0)
    ∧ (let s := pwf (pwf (linked 1 Port.init) 0 PRT_STATE_SPEED 2) 0 PRT_LPM_L1_EN 1
       portState s 0 = 3 ∧ prf s 0 PRT_STATE_LINK = 1 ∧ speedOf s 0 = 2 ∧ prf s 0 PRT_LPM_L1_EN = 1 ∧ devsOn s 0 = [] ∧ s.ctx.eps = []
         ∧ (portAt s 0).wire = none)
    ∧ (prf (linked 2 { Port.init with l1Exit := true }) 0 PRT_STATE_LINK = 2 ∧ (portAt (linked 2 { Port.init with l1Exit := true }) 0).l1Exit = true
      ∧ (linked 2 Port.init).ctx.eps = [] ∧ prf (linked 1 Port.init) 0 PRT_STATE_LINK ≠ 2)
    ∧ (let s := pwf (busy .issue) 0 PRT_STATE_LINK 2
       s.ctx.eps.any (fun e => epPort s e.2 == 0 && issueReady s e.1 e.2) = true)
    ∧ (∀ l ∈ [1, 3], let s := pwf (pwf (linked l { Port.init with ss := .up }) 0 PRT_LPM_U1_EN 1) 0 PRT_LPM_U2_EN 1
       portState s 0 = 3 ∧ (portAt s 0).ss = .up ∧ (portAt s 0).wire = none ∧ prf s 0 PRT_STATE_LINK = l ∧ prf s 0 PRT_LPM_U1_EN = 1
         ∧ prf s 0 PRT_LPM_U2_EN = 1)
    ∧ (∀ l ∈ [3, 4], let s := linked l { Port.init with ss := .up }; portState s 0 = 3 ∧ (portAt s 0).ss = .up ∧ prf s 0 PRT_STATE_LINK = l) := by
  decide +kernel

theorem witness_PortEngines : peState (on 1) (127 : BitVec 7).toNat = 1
    ∧ (let s := peSet (on 1) 0 CLU_PE_STATUS_STATE 2; peState s (0 : BitVec 7).toNat = 2 ∧ peState (peSet s 0 CLU_PE_STATUS_STATE 1) (peMate 0) = 1)
    ∧ (let s := peSet (peSet (on 1) 0 CLU_PE_STATUS_STATE 2) (peMate 0) CLU_PE_STATUS_STATE 2
       peState s 0 = 2 ∧ peState (peSet s 0 CLU_PE_STATUS_STATE 1) (peMate 0) ≠ 1)
    ∧ ((on 1).mgt.boot = .running ∧ chipDeep (on 1) = false ∧ (at_ .checking).mgt.boot ≠ .running
      ∧ (on 1).clk.uframe.toNat % 8 = 0 ∧ (1 : BitVec 32).toNat % 8 ≠ 0) := by decide +kernel

/-- The service port is attached and configured. -/
def served2 : State := wb (wb (wb (on 1) pSvc SVC_STATUS_ATTACHED true) pSvc SVC_STATUS_CONFIGURED true) pSvc SVC_STATUS_SUSPENDED false

theorem witness_ServicePort :
    ((at_ .unpowered).mgt.boot = .unpowered ∧ (on 1).mgt.boot ≠ .unpowered ∧ svcPowered (on 1) = true ∧ svcPowered (at_ .checking) = false
      ∧ (∀ b ∈ [true, false], rb (wb (on 1) pSvc SVC_STATUS_VBUS b) pSvc SVC_STATUS_VBUS = b))
    ∧ (svcUp served2 = true ∧ pageOn served2 pSvc = true ∧ svcUp (on 1) = false)
    ∧ (served2.svc.haltOut = false ∧ served2.svc.job = none ∧ served2.svc.resp = none ∧ ([1, 0, 0, 1] : List Word).length ≤ 4100)
    ∧ (let s := { served2 with svc := { served2.svc with haltOut := true } }; svcUp s = true ∧ s.svc.haltOut = true)
    ∧ (bits (dw [1] 0) 0 8 = 1 ∧ bits (dw [2] 0) 0 8 = 2 ∧ bits (dw [3] 0) 0 8 ≠ 2 ∧ bits (dw [3] 0) 0 8 ≠ 1)
    ∧ (let s := { served2 with svc := { served2.svc with evt := 2 } }; svcUp s = true ∧ s.svc.evt ≠ 0 ∧ served2.svc.evt = 0)
    ∧ (let s := { served2 with svc := { served2.svc with resp := some [0] } }; svcUp s = true ∧ s.svc.resp = some [0] ∧ s.svc.haltIn = false)
    ∧ (0x02 : BitVec 8) ≠ 0x01 ∧ (0x02 : BitVec 8) ≠ 0x81 ∧ (0x02 : BitVec 8) ≠ 0x82
    ∧ (rb served2 pSvc SVC_STATUS_ATTACHED = true ∧ rb served2 pSvc SVC_STATUS_SUSPENDED = false ∧ rb (on 1) pSvc SVC_STATUS_ATTACHED = false
      ∧ rb (wb served2 pSvc SVC_STATUS_SUSPENDED true) pSvc SVC_STATUS_SUSPENDED = true) := by decide +kernel

/-- A request of 4,101 dwords is too long for the service port. -/
theorem witness_ServicePort_long : 4100 < (List.replicate 4101 (1 : Word)).length ∧ bits (dw (List.replicate 4101 (1 : Word)) 0) 0 8 ≠ 2 :=
  ⟨by rw [List.length_replicate]; decide, by decide +kernel⟩

/-- A software channel in a state. -/
def channel (ch st : Nat) (x : Chan) : State := setChan (cwf (on 1) ch DMA_STATUS_STATE st) ch x

theorem witness_DmaChannels :
    (∀ ch ∈ [0, 47, 48, 63], gate (on 1) .pf (dmaPage ch) (0x54 + ch % 4 * 0x40) true = .ok)
    ∧ (∀ ch ∈ [48, 63], cState (on 1) ch = 0 ∧ cState (channel ch 1 Chan.init) ch ≠ 0 ∧ cState (channel ch 1 Chan.init) ch ≠ 7)
    ∧ (bit ((0 ||| bitW 0) &&& ~~~ bitW 2) 0 = true ∧ bit ((0 ||| bitW 0) &&& ~~~ bitW 2) 11 = false
      ∧ bit ((bitW 11 ||| bitW 0) &&& ~~~ bitW 2) 11 = true ∧ bit (ctrlWord (on 1) 48 ||| bitW 1) 0 = false)
    ∧ (let s := channel 48 5 { Chan.init with chain := true }; cState s 48 = 5 ∧ (chanAt s 48).chain = true)
    ∧ (let s := channel 63 5 { Chan.init with barrier := 8 }; cState s 63 = 5 ∧ (chanAt s 63).chain = false ∧ (chanAt s 63).barrier ≠ 0)
    ∧ (let s := channel 63 5 Chan.init; cState s 63 = 5 ∧ (chanAt s 63).chain = false ∧ (chanAt s 63).barrier = 0)
    ∧ cState (on 1) 63 ≠ 5
    ∧ (let s := channel 63 1 { Chan.init with chain := true }; chanGoes s 63 = true ∧ (chanAt s 63).chain = true ∧ (chanAt s 63).desc = none
        ∧ chanGoes (on 1) 63 = false)
    ∧ (∀ st ∈ [0, 1, 4, 7], let s := cwf (channel 48 st Chan.init) 48 DMA_PACE_SRC 1; crf s 48 DMA_PACE_SRC = 1 ∧ cState s 48 = st
        ∧ crf s 48 DMA_STATUS_PACE_PENDING ≠ 255 ∧ crf (cwf s 48 DMA_STATUS_PACE_PENDING 255) 48 DMA_STATUS_PACE_PENDING = 255)
    ∧ crf (on 1) 48 DMA_PACE_SRC ≠ 1
    ∧ (let s := channel 48 1 Chan.init; chanGoes s 48 = true ∧ (chanAt s 48).chain = false ∧ chanLit s 48 = true
        ∧ bytesFit s 48 (crf s 48 DMA_COUNT_COUNT) [] = true ∧ ctl s 48 DMA_CTRL_SRC_EBM = false
        ∧ (let d := setDom s 0x5B { Dom.init with pstate := 2 }; chanLit d 48 = false ∧ cState d 48 = 1))
    ∧ (let s := channel 48 1 { Chan.init with chain := true, desc := some [0xFFFFFFFF, 0xFFFFFFFF, 0xFFFFFFFF, 0xFFFFFFFF, 0xFFFFFFFF, 0xFFFFFFFF, 0xFFFFFFFF, 0xFFFFFFFF] }
       chanGoes s 48 = true ∧ xferBad s 48 = true)
    ∧ (let s := { cwf (cwf (channel 48 1 Chan.init) 48 DMA_COUNT_COUNT 128) 48 DMA_CTRL_SRC_EBM 1 with ebmBad := [8] }
       firstBad s (srcRanges s 48 128 []) = some 64 ∧ beforeBad s 48 128 [] ≠ 0
         ∧ (let u := { s with ebmBad := [0] }; firstBad u (srcRanges u 48 128 []) = some 0 ∧ beforeBad u 48 128 [] = 0))
    ∧ (let s := channel 48 2 Chan.init; cState s 48 = 2 ∧ bytesFit s 48 (0 : BitVec 24).toNat [] = true
        ∧ cState (channel 0 2 Chan.init) 0 = 2 ∧ crf s 48 DMA_COUNT_COUNT < (1 : BitVec 24).toNat ∧ bytesFit s 48 0 [1] = false)
    ∧ (let s := cwf (channel 63 1 Chan.init) 63 DMA_COUNT_COUNT 4
       chanGoes s 63 = true ∧ (chanAt s 63).chain = false ∧ (4 : BitVec 24).toNat ≤ crf s 63 DMA_COUNT_COUNT
         ∧ (4 : BitVec 24).toNat % frameBytes (chanAt s 63).cnd = 0 ∧ bytesFit s 63 4 [1, 2, 3, 4] = true ∧ xferBad s 63 = false)
    ∧ ((epAt (onChannel .stage) (0 : BitVec 13).toNat).bind (·.work) = some (moving .stage) ∧ (moving .stage).inSvc = true ∧ (moving .stage).op ≠ .issue)
    ∧ (let s := cwf (cwf (channel 48 2 Chan.init) 48 DMA_CTRL_SRC_EBM 1) 48 DMA_COUNT_COUNT 192
       (64 : BitVec 24).toNat ≤ crf s 48 DMA_COUNT_COUNT ∧ ((cpair s 48 0x40).toNat + 64) % 64 = 0 ∧ (chanAt s 48).cnd = []
         ∧ (pausedReads s 48 0).isNone = true
         ∧ (let u := setChan s 48 { chanAt s 48 with queue := { (chanAt s 48).queue with todo := [64, 128] } }
            (pausedReads u 48 0).isNone = true ∧ (pausedReads u 48 64).isSome = true))
    ∧ (let s := cwf (channel 48 2 { Chan.init with cnd := [1] }) 48 DMA_COUNT_COUNT 192
       (chanAt s 48).cnd ≠ [] ∧ (0 : Nat) % frameBytes (chanAt s 48).cnd = 0 ∧ (pausedReads s 48 0).isSome = true)
    ∧ (let s := channel 63 1 { Chan.init with chain := true }; chanGoes s 63 = true ∧ (chanAt s 63).chain = true ∧ (chanAt s 63).desc = none)
    ∧ (epAt (wired ep0) 0 = some ep0 ∧ ep0.work = none)
    ∧ (let e := { ep0 with work := some (served1 0 0) }; epAt (wired e) 0 = some e ∧ (served1 0 0).inSvc = true ∧ (served1 0 0).op = .issue)
    ∧ (0x1FBFFFF : BitVec 25).toNat < 0x1FC0000 ∧ 0x1FC0000 ≤ (0x1FC0000 : BitVec 25).toNat := by
  and_intros <;> decide +kernel

theorem witness_EbmCare :
    (let s := wb (on 1) pEbm EBM_SCRUB_ENABLE true; s.mgt.boot = .running ∧ chipDeep s = false ∧ rb s pEbm EBM_SCRUB_ENABLE = true)
    ∧ rb (wb (on 1) pEbm EBM_SCRUB_ENABLE false) pEbm EBM_SCRUB_ENABLE = false
    ∧ (each ((List.range 8).filter (bankLit (on 1))) (on 1) (fun s b => bankAsk s ⟨b, 255, 0, 1, 0, false⟩)).seq.scrub + 1 < 65536
    ∧ (let u := { on 1 with seq := { (on 1).seq with scrub := 65535 } }
       65536 ≤ (each ((List.range 8).filter (bankLit u)) u (fun s b => bankAsk s ⟨b, 255, 0, 1, 0, false⟩)).seq.scrub + 1)
    ∧ (refreshes (on 1) = true ∧ refreshes (at_ .unpowered) = false)
    ∧ ((105 : BitVec 8).toInt ≤ 105 ∧ (0x80 : BitVec 8).toInt ≤ 105 ∧ 105 < (106 : BitVec 8).toInt ∧ chipDeep (on 1) = false ∧ bankTj (on 1) 7 ≤ 105)
    ∧ gate (on 1) .pf pArb 0x050 true = .ok := by decide +kernel

theorem witness_InstanceLife :
    (epActive (on 3) = false ∧ epActive (on 1) = true)
    ∧ ((3 : BitVec 11).toNat ≤ ({ (on 1).mgt with vfs := 3 } : Mgt).vfs ∧ (on 1).mgt.vfs < (1024 : BitVec 11).toNat)
    ∧ (∀ st ∈ [1, 2, 3, 4], (instAt (tenant (BitVec.ofNat 3 st)) (5 : BitVec 10).toNat).state = BitVec.ofNat 3 st)
    ∧ (instAt (on 1) (1023 : BitVec 10).toNat).state = 0
    ∧ ((7 : BitVec 8).toNat < vectors (.inst 5) ∧ (instAt (on 1) 5).unmasked.contains 7 = false ∧ vectors (.inst 5) ≤ (255 : BitVec 8).toNat)
    ∧ (isMember (on 3) = true ∧ isMember (on 1) = false ∧ phaseHere (tenant 2) (instAt (tenant 2) 5) = 2 ∧ phaseHere (tenant 1) (instAt (tenant 1) 5) ≠ 2
      ∧ (let s := setInst (on 3) 5 { Inst.init with away := 2 }; phaseHere s (instAt s 5) = 2 ∧ instStill s (.inst 5) = true))
    ∧ (instStill (tenant 2) (.inst 5) = true ∧ instStill (setEp (tenant 2) 0 { ep0 with owner := .inst 5, work := some (moving .stage) }) (.inst 5) = false)
    ∧ (windowOpen (on 1) (.inst 5) = false ∧ windowOpen (tenant 1) (.inst 5) = true ∧ (instAt (tenant 1) 5).inFull = false
      ∧ (instAt (tenant 1) 5).outFull = false)
    ∧ (let s := setInst (on 1) 5 { Inst.init with state := 1, inFull := true, outFull := true }
       windowOpen s (.inst 5) = true ∧ (instAt s 5).inFull = true ∧ (instAt s 5).outFull = true)
    ∧ (∀ b ∈ [true, false], rb (wb (on 1) pTen TEN_MBX_CFG_EN b) pTen TEN_MBX_CFG_EN = b)
    ∧ (∀ w ∈ [0, 12], let s := setInst (on 1) 0 { Inst.init with inFull := true, outFull := true, mbxCtl := BitVec.ofNat 32 w }
        gate s .pf pTen 0x090 true = .ok ∧ (instAt s (selInst s)).inFull = true ∧ (instAt s (selInst s)).outFull = true
        ∧ bit (instAt s (selInst s)).mbxCtl 3 = (w == 12))
    ∧ (∀ w ∈ [0, 12], let s := setInst (on 1) 0 { Inst.init with mbxCtl := BitVec.ofNat 32 w }
        gate s .pf pTen 0x090 true = .ok ∧ (instAt s (selInst s)).inFull = false ∧ (instAt s (selInst s)).outFull = false
        ∧ bit (instAt s (selInst s)).mbxCtl 2 = (w == 12)) := by
  and_intros <;> decide +kernel

/-! ### Witnesses: power, faults and the test port -/

/-- A deep entry or exit in a phase. -/
def deep (ph : DeepPhase) (t : Nat) : State := { on 0 with pwr := { (on 0).pwr with phase := ph, target := t } }

theorem witness_DeepStates :
    (gate (on 0) .pf pPwr 0x040 true = .ok ∧ pageOn (on 0) pPwr = true ∧ pwrIdle (on 0) = true ∧ mode (on 0) = 0 ∧ pendingMode (on 0) = false ∧ (on 0).inst = []
      ∧ anyVote (on 0) = false ∧ busyChan (on 0) = none)
    ∧ mode (on 1) ≠ 0
    ∧ (let s := wb (on 0) pPwr PAGE_CONTROL_ENABLE false
       gate s .pf pPwr 0x040 true = .ok ∧ gate s .pf pPwr 0x04C true = .ok ∧ pageOn s pPwr = false)
    ∧ (let s := setInst (on 0) 1023 { Inst.init with state := 1 }; s.inst.any (fun i => decide (i.1 < 1024) && i.2.state != 0) = true)
    ∧ anyVote (setDom (on 0) 0 { Dom.init with hw := 1 }) = true
    ∧ busyChan (cwf (on 0) 63 DMA_STATUS_STATE 1) = some 63
    ∧ (gate (on 0) .pf pAon 0x05C true = .ok ∧ bits 0xC5 0 8 = 0xC5 ∧ bits 0xC4 0 8 ≠ 0xC5)
    ∧ (deep .copying 3).pwr.phase = .copying ∧ (deep .undoing 3).pwr.phase = .undoing
    ∧ (∀ t ∈ [3, 5], (deep .closing t).pwr.phase = .closing ∧ (deep .closing t).pwr.wake = none ∧ (deep .closing t).held = []
        ∧ 3 ≤ (deep .closing t).pwr.target ∧ (deep .closing t).pwr.target ≤ 5)
    ∧ (∀ t ∈ [3, 5], let s := { deep .entering t with pwr := { (deep .entering t).pwr with wake := some 2 } }
        s.pwr.phase = .entering ∧ s.pwr.wake = some 2 ∧ s.held = [] ∧ s.pwr.target = t)
    ∧ ((deep .exiting 3).pwr.phase = .exiting ∧ (deep .exiting 3).held = []) := by decide +kernel

/-- The profile is QUIET. -/
def quietly : State := wf (on 1) pPln PLN_PROFILE_ACTIVE 3

theorem witness_Domains :
    (gate (on 0) .pf pPwr 0x04C true = .ok ∧ pageOn (on 0) pPwr = true ∧ pwrIdle (on 0) = true ∧ domOk (on 0).pwr.sel = true ∧ voted (domAt (on 0) 0) = false
      ∧ (domAt (on 0) 0).forced = none ∧ forceOk (on 0) 0 = true ∧ forceOk (on 1) 0x5D = false)
    ∧ (pwrIdle (deep .copying 3) = false ∧ voted { Dom.init with sw := 1 } = true ∧ domOk 0x5E = false)
    ∧ (let s := setDom (on 0) 0 { Dom.init with forced := some 1 }; voted (domAt s 0) = false ∧ (domAt s 0).forced ≠ none)
    ∧ (let s := setDom (on 1) 0x5D { Dom.init with pstate := 1, transit := .toP2 }
       (domAt s (0x5D : BitVec 8).toNat).transit = .toP2 ∧ (domAt s 0x5D).forced = none)
    ∧ (let s := setDom (on 1) 0x58 { Dom.init with pstate := 1, transit := .toP2, forced := some 2 }
       (domAt s 0x58).transit = .toP2 ∧ (domAt s 0x58).forced = some 2 ∧ drained s 0x58 = true)
    ∧ (domAt (on 1) 0).transit ≠ .exit
    ∧ (let s := setDom (on 1) 0 { Dom.init with pstate := 2, transit := .exit, forced := some 1 }
       (domAt s 0).transit = .exit ∧ (domAt s 0).forced = some 1)
    ∧ (let s := setDom (on 1) 0x58 { Dom.init with pstate := 1, transit := .toP2, forced := some 2 }
       drained (cwf s 0 DMA_STATUS_STATE 1) 0x58 = false)
    ∧ (let s := setDom (on 1) 63 { Dom.init with pstate := 2, transit := .exit }; (domAt s (63 : BitVec 8).toNat).transit = .exit ∧ 63 < 64)
    ∧ (let s := setDom quietly 0 { Dom.init with pstate := 1 }
       domOk (0 : BitVec 8).toNat = true ∧ quiet s = true ∧ chipDeep s = false ∧ voted (domAt s 0) = false ∧ (domAt s 0).pstate = 1
         ∧ (domAt s 0).transit = .none ∧ (domAt s 0).forced = none)
    ∧ (chipDeep (on 1) = false ∧ chipIdle (wf (on 1) pPln PLN_PROFILE_ACTIVE 0) = true
      ∧ rf (wf (on 1) pPln PLN_PROFILE_ACTIVE 0) pPln PLN_PROFILE_ACTIVE = 0)
    ∧ rf (wf (on 1) pPln PLN_PROFILE_ACTIVE 1) pPln PLN_PROFILE_ACTIVE = 1
    ∧ (quiet quietly = true ∧ clIdle quietly (63 : BitVec 6).toNat = true ∧ (voteHw quietly 36 63 false).pwr.clidle = [] ∧ quiet (on 1) = false) := by
  and_intros <;> decide +kernel

theorem witness_AlwaysOn : ((at_ .unpowered).mgt.boot = .unpowered ∧ (on 1).mgt.boot ≠ .unpowered)
    ∧ (rb (wb (on 1) pAon AON_ALARM_CTRL_ARMED true) pAon AON_ALARM_CTRL_ARMED = true
      ∧ (join64 (rd (on 1) (adr pAon 0x048)) (rd (on 1) (adr pAon 0x04C))).toNat ≤ (rtc (on 1) + 1).toNat)
    ∧ (gate (on 1) .pf pAon 0x050 true = .ok ∧ (on 1).ring.east.feed = true ∧ (on 1).ring.west.feed = true)
    ∧ (chipDeep (wf (on 0) pPwr PWR_CHIP_STATE 3) = true ∧ chipDeep (on 1) = false)
    ∧ (let s := setSide (on 1) .east { LinkSide.init with feed := false }; s.ring.east.feed ≠ s.ring.west.feed ∧ 2 < s.pwr.dco)
    ∧ (({ (on 1).pwr with dco := 15 } : Pwr).dco < 16 ∧ 16 ≤ (on 1).pwr.dco ∧ ¬ 2 < ({ (on 1).pwr with dco := 2 } : Pwr).dco) := by decide +kernel

/-- Record 62 of the log in a state. -/
def logged (n st : Nat) (far : Bool) : State := setRec (on 1) n { Rec.init with state := st, remote := far }

theorem witness_Funnel : (funnelRuns (on 1) = true ∧ funnelRuns (at_ .checking) = false)
    ∧ (∀ far ∈ [true, false], funnelRuns (logged 62 1 far) = true ∧ frozen (logged 62 1 far) = false
        ∧ (recAt (logged 62 1 far) (62 : BitVec 6).toNat).state = 1 ∧ (recAt (logged 62 1 far) 62).remote = far)
    ∧ (∀ n ∈ [62, 63], gate (logged n 2 false) .pf pFlt 0x048 true = .ok ∧ (recAt (logged n 2 false) n).state = 2 ∧ frozen (logged n 2 false) = false)
    ∧ (gate (on 1) .pf pFlt 0x044 true = .ok ∧ frozen (on 1) = false ∧ frozen (wb (on 1) pFlt FLT_FREEZE_FREEZE true) = true)
    ∧ (rb (wb (on 1) pNvm NVM_SNAPSHOT_BUSY true) pNvm NVM_SNAPSHOT_BUSY = true ∧ rb (on 1) pNvm NVM_SNAPSHOT_BUSY = false) := by decide +kernel

theorem witness_Watchers : (funnelRuns (on 1) = true ∧ funnelRuns (at_ .checking) = false)
    ∧ (engRuns (on 1) ⟨.le, 31⟩ = true ∧ engRuns (on 1) ⟨.te, 15⟩ = true ∧ engRuns (on 1) ⟨.re, 7⟩ = true ∧ engRuns (on 1) ⟨.mc, 7⟩ = true
      ∧ engRuns (on 1) ⟨.mc, 8⟩ = false)
    ∧ ((⟨.te, 15⟩ : Engine).n.toNat < kindCount .te ∧ engState (setEngState (on 1) ⟨.te, 15⟩ 2) ⟨.te, 15⟩ = 2
      ∧ kindCount .te ≤ (⟨.te, 16⟩ : Engine).n.toNat)
    ∧ (marginLow (on 1) (.term 0) = false ∧ marginLow (setPort (on 1) 511 { Port.init with termDev := 46 }) (.term 511) = true
      ∧ marginLow (setPort (on 1) 511 { Port.init with termDev := 45 }) (.term 511) = false)
    ∧ (∀ d ∈ [Side.east, .west], marginLow (wr (severed 2) (adr pFlt 0x054) 0) (.eye d) = true)
    ∧ ((at_ .unpowered).mgt.boot = .unpowered ∧ (on 1).mgt.boot ≠ .unpowered) := by decide +kernel

theorem witness_TestPort : (tapOff (at_ .unpowered) = true ∧ tapOff (on 0) = false) ∧ (tapDefined 0xFF = false ∧ tapDefined 0x07 = false ∧ tapDefined 0x10 = true)
    ∧ (ballsTaken (on 0) = false ∧ (∀ n ∈ [0, 3, 4, 5, 6], ballsTaken { on 0 with jtag := { (on 0).jtag with ir := BitVec.ofNat 8 n } } = true)) := by
  decide +kernel

/-! ### The electrical side -/

/-- R326's example, and the counts of R324's groups over the 2,809 balls. -/
theorem test_balls : ballAt 26 11 = .dp 200 ∧ ballAt 27 11 = .dm 200 ∧ ballAt 28 11 = .vb 200 ∧ ballAt 29 11 = .gnd
    ∧ (let all := (List.range 53).flatMap (fun r => (List.range 53).map (fun c => ballAt (r + 1) (c + 1)))
       all.count .gnd = 916 ∧ all.count .nc = 20
         ∧ all.countP (fun b => match b with | .dp _ | .dm _ => true | _ => false) = 1024
         ∧ all.countP (fun b => match b with | .vb _ => true | _ => false) = 512
         ∧ all.countP (fun b => match b with | .ssTx .. | .ssRx .. => true | _ => false) = 256
         ∧ all.countP (fun b => match b with | .pcieTx .. | .pcieRx .. => true | _ => false) = 32
         ∧ all.countP (fun b => match b with | .west .. => true | _ => false) = 16) := by decide +kernel

/-- R338 joins the lanes of West to those of East, pair to pair. -/
theorem test_bypass_balls : bypassBall (.west 4 false) = some (.east 0 false) ∧ bypassBall (.east 7 true) = some (.west 3 true)
    ∧ bypassBall .gnd = none := by decide

/-- R346's counts: 3,407 cells, and the 32 of the ring pairs are those that closed switches silence. -/
theorem test_boundary_cells : (cellAt 3406).isSome = true ∧ cellAt 3407 = none ∧ cellAt 0 = some (.dp 0, .data) ∧ cellAt 3406 = some (.perst, .observe)
    ∧ (List.range 3407).all (fun i => ringCells.getLsbD (cellBit i)
        == (match cellAt i with | some (.west .., _) | some (.east .., _) => true | _ => false)) = true
    ∧ (List.range 3407).all (fun i => observeCells.getLsbD (cellBit i)
        == (match cellAt i with | some (_, .voltage) | some (_, .observe) => true | _ => false)) = true
    ∧ (List.range 3407).all (fun i => dataCells.getLsbD (cellBit i) == (match cellAt i with | some (_, .data) => true | _ => false)) = true := by decide +kernel

/-- R331's table of one feed, and the total of R330. -/
theorem test_feed_steps : feedStep 57000 = some 13 ∧ feedStep 48000 = some 8 ∧ feedStep 36000 = some 2 ∧ p0Draw 16 = 62000000 := by decide +kernel

/-- R299's table: the retention at a temperature, and R216's interval within it up to 120 °C. -/
theorem test_retention : retains false 70 1024 = true ∧ retains false 80 512 = true ∧ retains false 80 513 = false ∧ retains false 105 90 = true
    ∧ retains false 105 91 = false ∧ retains false 120 32 = true ∧ retains false 121 32 = false ∧ retains true 70 513 = false
    ∧ (List.range 191).all (fun k => retains false ((k : Int) - 70) (ivalUs (ivalOf ((k : Int) - 70)))
      && retains true ((k : Int) - 70) (ivalUs (ivalOf ((k : Int) - 70) + 1))) = true := by decide +kernel

/-- R279: P4 keeps EBM at 0.85 V at the reset level, P2 takes the level in force at its entry, and P0 is biased forward below 0 °C. -/
theorem test_rails : (railsOf 4 10 false).ebm = some 850 ∧ (railsOf 2 20 false).sram = some 700 ∧ (railsOf 0 10 true).bias = some (100, -100)
    ∧ (domRails (p2Done (setDom (wf (on 1) pPwr PWR_CARAMEL_LEVEL 31) 0 { Dom.init with transit := .toP2 }) 0) 0).flops = some 700 := by
  decide +kernel

/-- R261: a chip in P2 with one port POWERED and the host link up draws at most 620 mW, 25 mW and 3.1 W. -/
theorem test_draw : drawCeiling (on 1) = 62000000
    ∧ drawCeiling (each allDoms (pwf (on 1) 511 PRT_STATE_STATE 1) (fun s d => setDom s d { Dom.init with pstate := 2 })) = 3745000 := by
  decide +kernel

/-- R278: a DMA island in P2 holds no vote on a bank, and keeps the one on itself. -/
theorem test_clamped_votes :
    (let s := cwf (cwf (cwf (on 1) 0 DMA_STATUS_PARKED_OP 1) 0 DMA_CTRL_SRC_EBM 1) 0 DMA_COUNT_COUNT 64
     (bit (domAt (dmaVotes s 0) 0x50).hw 0 = true ∧ bit (domAt (dmaVotes s 0) 0x58).hw 0 = true)
     ∧ (let t := setDom s 0x58 { Dom.init with pstate := 2 }
        bit (domAt (dmaVotes t 0) 0x50).hw 0 = false ∧ bit (domAt (dmaVotes t 0) 0x58).hw 0 = true)) := by decide +kernel

/-- R224: PRIO 3 of a software channel is read as 2, and its transfer asks its banks at that level. -/
theorem test_soft_level :
    (let s := cwf (cwf (cwf (on 1) 48 DMA_CTRL_PRIO 3) 48 DMA_CTRL_SRC_EBM 1) 48 DMA_COUNT_COUNT 64
     softLevel s 48 = 2 ∧ tabGet (fun _ => 0) (chanAsks s 48).banks.busy 0 = 1) := by decide +kernel

/-- R320: in RECOVERY the watchdog is kicked though two management cores have failed. -/
theorem test_rom_kicks : (let s (m : Nat) := { on m with mgt := { (on m).mgt with engines := [(768, ⟨[], 0, true, false⟩), (769, ⟨[], 0, true, false⟩)] } }
    dutiesRun (s 6) = true ∧ dutiesRun (s 0) = false) := by decide +kernel

end Sys2Proof.Tests
end

section
/-!
PROOFS. What one command and one step keep, that no command stops the block, and what reset leaves (O2, O3, O4, O6); the global port identifier
(O23).
-/
namespace Sys2Proof.Machine

/-- Every command keeps the queue, the outputs, the count of free values and the canonical forms: each arm of the dispatch by the lemma of
its command. -/
theorem kept_exec {z s : State} (c : Instr) (hk : Kept z s) : KeptBy z (exec c s) :=
  match c with
  | .modeWriteHold src => kept_execModeWriteHold src hk
  | .modeWriteStandalone src => kept_execModeWriteStandalone src hk
  | .modeWriteHead src => kept_execModeWriteHead src hk
  | .modeWriteMember src => kept_execModeWriteMember src hk
  | .modeWriteLoop src => kept_execModeWriteLoop src hk
  | .modeWriteRecovery src => kept_execModeWriteRecovery src hk
  | .modeWriteVault src => kept_execModeWriteVault src hk
  | .modeWriteRejoin src v => kept_execModeWriteRejoin src v hk
  | .modeTransitionComplete => kept_execModeTransitionComplete hk
  | .mgtResetGo src => kept_execMgtResetGo src hk
  | .coldPowerUp => kept_execColdPowerUp hk
  | .chipReset cause => kept_execChipReset cause hk
  | .chipResetReleased straps => kept_execChipResetReleased straps hk
  | .imageHashChecked => kept_execImageHashChecked hk
  | .bootComplete => kept_execBootComplete hk
  | .bootWdogExpire => kept_execBootWdogExpire hk
  | .chipWdogKick => kept_execChipWdogKick hk
  | .chipWdogExpire => kept_execChipWdogExpire hk
  | .autoJoinTimer => kept_execAutoJoinTimer hk
  | .join src => kept_execJoin src hk
  | .bypassReqSet src => kept_execBypassReqSet src hk
  | .bypassReqClear src => kept_execBypassReqClear src hk
  | .forceWrap src v => kept_execForceWrap src v hk
  | .retrain src => kept_execRetrain src hk
  | .trainingStepDone side m => kept_execTrainingStepDone side m hk
  | .trainingStepTimeout side => kept_execTrainingStepTimeout side hk
  | .receiveLanesDown side => kept_execReceiveLanesDown side hk
  | .orphanTimeout => kept_execOrphanTimeout hk
  | .microframeBoundary => kept_execMicroframeBoundary hk
  | .plannedCloseTimer => kept_execPlannedCloseTimer hk
  | .timingCellRx t => kept_execTimingCellRx t hk
  | .lockLostTimeout => kept_execLockLostTimeout hk
  | .cellTransit ringB p => kept_execCellTransit ringB p hk
  | .dataCellRx c => kept_execDataCellRx c hk
  | .readReqCellRx c => kept_execReadReqCellRx c hk
  | .regWrCellRx c => kept_execRegWrCellRx c hk
  | .regRdCellRx c => kept_execRegRdCellRx c hk
  | .regCplCellRx c => kept_execRegCplCellRx c hk
  | .eventCellRx c => kept_execEventCellRx c hk
  | .postCellRx c p => kept_execPostCellRx c p hk
  | .relayCellRx c => kept_execRelayCellRx c hk
  | .relayRoomReportRx c => kept_execRelayRoomReportRx c hk
  | .creditCellRx c => kept_execCreditCellRx c hk
  | .creditReturnTimer pos cls ringB => kept_execCreditReturnTimer pos cls ringB hk
  | .topoCirculate map dup epoch headSlot => kept_execTopoCirculate map dup epoch headSlot hk
  | .liveMapRx map dup epoch headSlot => kept_execLiveMapRx map dup epoch headSlot hk
  | .creditGrantRx c epoch iso ctrl data => kept_execCreditGrantRx c epoch iso ctrl data hk
  | .topoLeaveRequestRx pos => kept_execTopoLeaveRequestRx pos hk
  | .topoClosingNoticeRx pos w => kept_execTopoClosingNoticeRx pos w hk
  | .topoReleaseRx w => kept_execTopoReleaseRx w hk
  | .faultCellRx c loc code => kept_execFaultCellRx c loc code hk
  | .hostWindowAccess win op => kept_execHostWindowAccess win op hk
  | .forwardedReadTimeout tag => kept_execForwardedReadTimeout tag hk
  | .pcieLinkTrained => kept_execPcieLinkTrained hk
  | .pcieLinkReset kind => kept_execPcieLinkReset kind hk
  | .electGo src => kept_execElectGo src hk
  | .electWindowEnd => kept_execElectWindowEnd hk
  | .headClaimTimer => kept_execHeadClaimTimer hk
  | .sbdTxWake src => kept_execSbdTxWake src hk
  | .sbdTxAlarmSet src => kept_execSbdTxAlarmSet src hk
  | .sbdFrameStart arb => kept_execSbdFrameStart arb hk
  | .sbdBackoffExpire => kept_execSbdBackoffExpire hk
  | .sbdFrameSent => kept_execSbdFrameSent hk
  | .faultFrameRx loc code rct captured => kept_execFaultFrameRx loc code rct captured hk
  | .headClaimFrameRx slot epoch captured => kept_execHeadClaimFrameRx slot epoch captured hk
  | .electFrameRx slot trained captured => kept_execElectFrameRx slot trained captured hk
  | .wakeFrameRx mask captured => kept_execWakeFrameRx mask captured hk
  | .alarmSetFrameRx mask alarm captured => kept_execAlarmSetFrameRx mask alarm captured hk
  | .softReset src page => kept_execSoftReset src page hk
  | .softResetDone page => kept_execSoftResetDone page hk
  | .voteSet src page v => kept_execVoteSet src page v hk
  | .voteClear src page v => kept_execVoteClear src page v hk
  | .pageLockSet src page => kept_execPageLockSet src page hk
  | .eventEnableWrite src page v => kept_execEventEnableWrite src page v hk
  | .darkAccess src page off op => kept_execDarkAccess src page off op hk
  | .wakeOnAccess src page off op => kept_execWakeOnAccess src page off op hk
  | .registerVoteRelease dom => kept_execRegisterVoteRelease dom hk
  | .registerWrite src page off v => kept_execRegisterWrite src page off v hk
  | .misalignedAccess src page off isWrite => kept_execMisalignedAccess src page off isWrite hk
  | .wideLowRead src page off => kept_execWideLowRead src page off hk
  | .wideHighWrite src page off v => kept_execWideHighWrite src page off v hk
  | .readClear src page off => kept_execReadClear src page off hk
  | .tqPiWrite o q v => kept_execTqPiWrite o q v hk
  | .cqCiWrite o q v => kept_execCqCiWrite o q v hk
  | .aqPiWrite o v => kept_execAqPiWrite o v hk
  | .acqCiWrite o v => kept_execAcqCiWrite o v hk
  | .aqEnable o => kept_execAqEnable o hk
  | .aqDisable o => kept_execAqDisable o hk
  | .aqEntryReadFail o => kept_execAqEntryReadFail o hk
  | .pollTick tq => kept_execPollTick tq hk
  | .entryFetchDone tq idx e => kept_execEntryFetchDone tq idx e hk
  | .entryFetchFail tq idx n => kept_execEntryFetchFail tq idx n hk
  | .prefetchRefill tq => kept_execPrefetchRefill tq hk
  | .chainTimeout tq => kept_execChainTimeout tq hk
  | .piMirrorWrite cq => kept_execPiMirrorWrite cq hk
  | .tqInvalGo src v => kept_execTqInvalGo src v hk
  | .tqInvalDone => kept_execTqInvalDone hk
  | .createTq o e => kept_execCreateTq o e hk
  | .destroyTq o e => kept_execDestroyTq o e hk
  | .resetTq o e => kept_execResetTq o e hk
  | .invalidateTq o e => kept_execInvalidateTq o e hk
  | .createCq o e => kept_execCreateCq o e hk
  | .destroyCq o e => kept_execDestroyCq o e hk
  | .bindEndpoint o e => kept_execBindEndpoint o e hk
  | .unbindEndpoint o e => kept_execUnbindEndpoint o e hk
  | .reserveBw o e => kept_execReserveBw o e hk
  | .releaseBw o e => kept_execReleaseBw o e hk
  | .setPortPowerOn o e => kept_execSetPortPowerOn o e hk
  | .setPortPowerOff o e => kept_execSetPortPowerOff o e hk
  | .setPortReset o e => kept_execSetPortReset o e hk
  | .setPortDisable o e => kept_execSetPortDisable o e hk
  | .setPortSuspend o e => kept_execSetPortSuspend o e hk
  | .setPortResume o e => kept_execSetPortResume o e hk
  | .setPortSetLpm o e => kept_execSetPortSetLpm o e hk
  | .setPortTest o e => kept_execSetPortTest o e hk
  | .setPortSetOwner o e => kept_execSetPortSetOwner o e hk
  | .setPortNoOwner o e => kept_execSetPortNoOwner o e hk
  | .getPort o e => kept_execGetPort o e hk
  | .getTopology o e => kept_execGetTopology o e hk
  | .setVote o e => kept_execSetVote o e hk
  | .clearVote o e => kept_execClearVote o e hk
  | .quiesceInstance o e => kept_execQuiesceInstance o e hk
  | .quiesceDone k => kept_execQuiesceDone k hk
  | .resumeInstance o e => kept_execResumeInstance o e hk
  | .swapDirtyLog o e => kept_execSwapDirtyLog o e hk
  | .updateBegin o e => kept_execUpdateBegin o e hk
  | .updateWrite o e d => kept_execUpdateWrite o e d hk
  | .updateVerify o e => kept_execUpdateVerify o e hk
  | .updateActivate o e => kept_execUpdateActivate o e hk
  | .updateConfirm o e => kept_execUpdateConfirm o e hk
  | .formCohort o e d => kept_execFormCohort o e d hk
  | .dissolveCohort o e => kept_execDissolveCohort o e hk
  | .reservedOpcode o e => kept_execReservedOpcode o e hk
  | .wheelBlockReadDone n addr block took => kept_execWheelBlockReadDone n addr block took hk
  | .wheelReadFail n => kept_execWheelReadFail n hk
  | .cohortCheck n => kept_execCohortCheck n hk
  | .operationDispatch ctx t => kept_execOperationDispatch ctx t hk
  | .graphReoffer ctx => kept_execGraphReoffer ctx hk
  | .spillReturn ctx => kept_execSpillReturn ctx hk
  | .stageDone ctx d ce waits => kept_execStageDone ctx d ce waits hk
  | .drainDone ctx ce waits => kept_execDrainDone ctx ce waits hk
  | .postDone tq => kept_execPostDone tq hk
  | .firstTransactionStart p => kept_execFirstTransactionStart p hk
  | .transactionEnd p r t => kept_execTransactionEnd p r t hk
  | .transactionTimeout p k t => kept_execTransactionTimeout p k t hk
  | .lineChange p l => kept_execLineChange p l hk
  | .connectDebounceDone p => kept_execConnectDebounceDone p hk
  | .deviceChirpEnd p => kept_execDeviceChirpEnd p hk
  | .hostChirpStart p => kept_execHostChirpStart p hk
  | .busResetEnd p l => kept_execBusResetEnd p l hk
  | .resetRecoveryEnd p => kept_execResetRecoveryEnd p hk
  | .ssLinkU0 p gen2 => kept_execSsLinkU0 p gen2 hk
  | .ssTrainingFail p => kept_execSsTrainingFail p hk
  | .ssResetTimeout p => kept_execSsResetTimeout p hk
  | .ssWarmResetLfpsEnd p => kept_execSsWarmResetLfpsEnd p hk
  | .ssResumeTimeout p => kept_execSsResumeTimeout p hk
  | .disconnect p => kept_execDisconnect p hk
  | .remoteWake p => kept_execRemoteWake p hk
  | .resumeSignalEnd p => kept_execResumeSignalEnd p hk
  | .resumeRecoveryEnd p => kept_execResumeRecoveryEnd p hk
  | .vbusCharged p => kept_execVbusCharged p hk
  | .vbusChargeTimeout p => kept_execVbusChargeTimeout p hk
  | .vbusFault p => kept_execVbusFault p hk
  | .l1Entry p ack => kept_execL1Entry p ack hk
  | .l1Exit p byDevice => kept_execL1Exit p byDevice hk
  | .u1U2Entry p u2 => kept_execU1U2Entry p u2 hk
  | .uExitEarly p => kept_execUExitEarly p hk
  | .peWatchdogExpire pe => kept_execPeWatchdogExpire pe hk
  | .peSelfCheckPass pe => kept_execPeSelfCheckPass pe hk
  | .terminationCal p dev => kept_execTerminationCal p dev hk
  | .svcVbusChange present hs => kept_execSvcVbusChange present hs hk
  | .svcRequestRead req => kept_execSvcRequestRead req hk
  | .svcRequestWrite req => kept_execSvcRequestWrite req hk
  | .svcEventRead => kept_execSvcEventRead hk
  | .svcResponseRead => kept_execSvcResponseRead hk
  | .svcClearHalt ep => kept_execSvcClearHalt ep hk
  | .dmaStartSingle src ch v => kept_execDmaStartSingle src ch v hk
  | .dmaStartChain src ch v desc => kept_execDmaStartChain src ch v desc hk
  | .dmaPause src ch => kept_execDmaPause src ch hk
  | .dmaResume src ch => kept_execDmaResume src ch hk
  | .dmaStop src ch => kept_execDmaStop src ch hk
  | .dmaPaused ch moved d => kept_execDmaPaused ch moved d hk
  | .dmaDescriptorDone ch d next waits => kept_execDmaDescriptorDone ch d next waits hk
  | .dmaBusError t k next => kept_execDmaBusError t k next hk
  | .dmaDescReadFail ch => kept_execDmaDescReadFail ch hk
  | .dmaBarrierArrived ch next => kept_execDmaBarrierArrived ch next hk
  | .dmaPaceTimer ch => kept_execDmaPaceTimer ch hk
  | .scrubTick errs waits => kept_execScrubTick errs waits hk
  | .refreshRow bank wait => kept_execRefreshRow bank wait hk
  | .tempSample bank tj => kept_execTempSample bank tj hk
  | .arbClear src => kept_execArbClear src hk
  | .vfEnable num => kept_execVfEnable num hk
  | .vfRemoval num => kept_execVfRemoval num hk
  | .functionLevelReset k => kept_execFunctionLevelReset k hk
  | .instanceResetDone k => kept_execInstanceResetDone k hk
  | .msixUnmask o k => kept_execMsixUnmask o k hk
  | .tenantInRelease k => kept_execTenantInRelease k hk
  | .tenantOutPost k => kept_execTenantOutPost k hk
  | .managerInPost src => kept_execManagerInPost src hk
  | .managerOutRelease src => kept_execManagerOutRelease src hk
  | .engineWatchdogExpire e => kept_execEngineWatchdogExpire e hk
  | .chipRequestP3 src force => kept_execChipRequestP3 src force hk
  | .chipRequestP4 src force => kept_execChipRequestP4 src force hk
  | .chipRequestP5 src force => kept_execChipRequestP5 src force hk
  | .recordCopyDone ok => kept_execRecordCopyDone ok hk
  | .bypassCloseTimeout => kept_execBypassCloseTimeout hk
  | .entryUndone => kept_execEntryUndone hk
  | .chipEntryDone => kept_execChipEntryDone hk
  | .chipExitDone => kept_execChipExitDone hk
  | .forceP5 src v => kept_execForceP5 src v hk
  | .domainRelease src => kept_execDomainRelease src hk
  | .domainRequestP1 src force => kept_execDomainRequestP1 src force hk
  | .domainRequestP2 src force => kept_execDomainRequestP2 src force hk
  | .domainP2EntryDone dom => kept_execDomainP2EntryDone dom hk
  | .domainExitDone dom => kept_execDomainExitDone dom hk
  | .quietIdleTimer dom => kept_execQuietIdleTimer dom hk
  | .autoP1Delay => kept_execAutoP1Delay hk
  | .clusterIdleTimer c => kept_execClusterIdleTimer c hk
  | .detectorVoteExpire c => kept_execDetectorVoteExpire c hk
  | .rtcTick => kept_execRtcTick hk
  | .alarmNow src => kept_execAlarmNow src hk
  | .phantomFeedLoss => kept_execPhantomFeedLoss hk
  | .feedLostTimer side => kept_execFeedLostTimer side hk
  | .dcoStepDown => kept_execDcoStepDown hk
  | .dcoStepUp => kept_execDcoStepUp hk
  | .eqAdaptTick eastMv westMv eastUi westUi => kept_execEqAdaptTick eastMv westMv eastUi westUi hk
  | .faultReport loc code => kept_execFaultReport loc code hk
  | .hushWindowEnd rec => kept_execHushWindowEnd rec hk
  | .fltRetire src rec => kept_execFltRetire src rec hk
  | .fltFreeze src => kept_execFltFreeze src hk
  | .fltThaw src => kept_execFltThaw src hk
  | .snapshotDone ok => kept_execSnapshotDone ok hk
  | .heartbeatCheck missed => kept_execHeartbeatCheck missed hk
  | .laneHeartbeatLoss => kept_execLaneHeartbeatLoss hk
  | .calMarginTimer k => kept_execCalMarginTimer k hk
  | .thermalShutdown => kept_execThermalShutdown hk
  | .nvmUpdBegin src => kept_execNvmUpdBegin src hk
  | .nvmUpdVerify src => kept_execNvmUpdVerify src hk
  | .nvmUpdActivate src => kept_execNvmUpdActivate src hk
  | .nvmUpdConfirm src => kept_execNvmUpdConfirm src hk
  | .nvmUpdData src v => kept_execNvmUpdData src v hk
  | .keyRevoke src keys => kept_execKeyRevoke src keys hk
  | .activateRestart => kept_execActivateRestart hk
  | .tapReset => kept_execTapReset hk
  | .extest drive pins => kept_execExtest drive pins hk
  | .idcode => kept_execIdcode hk
  | .samplePreload preload pins => kept_execSamplePreload preload pins hk
  | .clamp => kept_execClamp hk
  | .highz => kept_execHighz hk
  | .extestPulse drive pins => kept_execExtestPulse drive pins hk
  | .extestTrain drive pins => kept_execExtestTrain drive pins hk
  | .debug page off op => kept_execDebug page off op hk
  | .bypass v => kept_execBypass v hk
  | .moduleInsert straps => kept_execModuleInsert straps hk
  | .moduleRemove => kept_execModuleRemove hk
  | .ssLinkFailure p => kept_execSsLinkFailure p hk
  | .farEndTerminationFound p => kept_execFarEndTerminationFound p hk
  | .recoveredClockFail => kept_execRecoveredClockFail hk
  | .engineRestartDone e => kept_execEngineRestartDone e hk
  | .l1ExitLatencyEnd p => kept_execL1ExitLatencyEnd p hk
  | .svcHostSuspend suspend => kept_execSvcHostSuspend suspend hk
  | .svcStandardRequest r => kept_execSvcStandardRequest r hk
  | .sbdFrameCrcFail captured => kept_execSbdFrameCrcFail captured hk

/-- The step of a queue's front is the command's effect on the state with the queue's rest. -/
theorem step_cons {s : State} {c : Instr} {q : List Instr} (h : s.pending = c :: q) : step s = exec c { s with pending := q } := by
  unfold step
  rw [h]

/-- The step of an empty queue is a slot. -/
theorem step_nil {s : State} (h : s.pending = []) : step s = .next (idleSlot s) := by
  unfold step
  rw [h]

/-- What is kept keeps the canonical form. -/
theorem Kept.wf {z s : State} (h : Kept z s) (hz : z.wf) : s.wf := ⟨h.regs hz.1, h.ebm hz.2⟩

/-- Settles O4: a slot and every command keep the canonical form. -/
theorem stepKeepsForm : Obligations.StepKeepsForm := by
  intro s t hs ht
  cases hq : s.pending with
  | nil =>
    rw [step_nil hq] at ht
    exact (keptBy_next (kept_idleSlot (Kept.refl s)) t ht).wf hs
  | cons c q =>
    rw [step_cons hq] at ht
    exact (kept_exec c (Kept.refl { s with pending := q }) t ht).wf hs

/-- Settles O6: the meaning of every command is a next state. -/
theorem nothingStops : Obligations.NothingStops := by
  intro c s
  cases c <;> exact ⟨_, rfl⟩

/-! ### Reset -/

/-- Settles O2: at reset the register file and EBM list nothing, no command waits and nothing has been sent. -/
theorem resetForm : Obligations.ResetForm := ⟨⟨rfl, rfl⟩, rfl, rfl⟩

/-- A register of the state after reset reads its reset value: none is listed. -/
theorem rd_reset (a : Nat) : rd State.reset a = regReset a := rfl

/-- No domain is listed after reset. -/
theorem domAt_reset (d : Nat) : domAt State.reset d = Dom.init := rfl

/-- Settles O3: no register and no domain is listed at reset; the rest is read off the tables of reset values. -/
theorem resetValues : Obligations.ResetValues := by
  refine ⟨fun page off => rd_reset _, ?_, ?_, ?_, ?_, ?_, fun d => by rw [domAt_reset]; rfl, ?_, ?_⟩ <;> decide

/-! ### Global port identifiers -/

/-- Settles O23: the position lies above the nine bits of the local port (R13). -/
theorem portIdentifiers : Obligations.PortIdentifiers := by
  unfold Obligations.PortIdentifiers gpPos gpPort bits
  refine ⟨fun pos port => ?_, fun w hw => ?_⟩
  · have hpos := pos.isLt
    have hport := port.isLt
    rw [BitVec.toNat_ofNat]
    omega
  · omega

end Sys2Proof.Machine
end

section
/-!
PROOFS. The gate's answers, a refused access in its registers, and the access of another size (R7, R83, R101; O25).
-/
namespace Sys2Proof.Machine

/-! ### The gate -/

/-- An access to a page that no block has is refused, whatever its way. -/
theorem refusedBy_noBlock {s : State} {src : Src} {page off : Nat} {w : Bool} (hb : blockOf page = none) :
    ∃ g, refusedBy s src page off w = some g ∧ g ≠ .ok := by
  unfold refusedBy
  split_ifs <;> simp_all

/-- The gate lets an access through to a page of the map alone (R86). -/
theorem block_of_gate_ok {s : State} {src : Src} {page off : Nat} {w : Bool} (h : gate s src page off w = .ok) :
    ∃ b, blockOf page = some b := by
  cases hb : blockOf page with
  | some b => exact ⟨b, rfl⟩
  | none =>
    obtain ⟨g, hr, hg⟩ := refusedBy_noBlock (s := s) (src := src) (off := off) (w := w) hb
    unfold gate at h
    simp only [hr] at h
    split_ifs at h
    exact absurd h hg

/-! ### Accesses of another size (R7) -/

/-- What an access of another size meets does not depend on its offset: a cell is discarded for its authority, any other is refused with
REASON SIZE. -/
theorem refusedBy_size (s : State) (src : Src) (page off : Nat) (w : Bool) (h : 0x1000 ≤ off) :
    refusedBy s src page off w = refusedBy s src page 1 w := by
  simp [refusedBy, h]

theorem refusedBy_one (s : State) (src : Src) (page : Nat) (w : Bool) :
    refusedBy s src page 1 w = some .drop ∨ refusedBy s src page 1 w = some (.refuse 5 false) := by
  unfold refusedBy
  split_ifs <;> simp_all

/-- The gate for an access of another size: absent, discarded, waiting or refused with REASON SIZE, in this order (log entry 15). -/
theorem gate_size (s : State) (src : Src) (page : Nat) (off : BitVec 12) (w : Bool) :
    gate s src page (off.toNat + 0x1000) w =
      if unanswered s src page off.toNat then .absent
      else if refusedBy s src page 1 w = some .drop then .drop
      else if mustWait s src page off.toNat then .hold else .refuse 5 false := by
  have hoff : (off.toNat + 0x1000) % 0x1000 = off.toNat := by omega
  unfold gate
  rw [refusedBy_size _ _ _ _ _ (Nat.le_add_left _ _), hoff]
  rcases refusedBy_one s src page w with h | h <;> simp [h]

/-! ### Accesses that do not come to their register -/

section
variable {s : State} {src : Src} {page off : Nat} {op : Op} {b : Bool}
  (hb : (match op with | .read => false | .write _ => true) = b)
include hb

/-- Nothing answers. -/
theorem access_absent (h : gate s src page off b = .absent) : access s src page off op = s := by
  unfold access
  rw [gated_of hb, h]

/-- A cell is discarded for its authority (R47, R98). -/
theorem access_drop (h : gate s src page off b = .drop) : access s src page off op = authDrop s := by
  unfold access
  rw [gated_of hb, h]

/-- An access is refused with a reason (R101). -/
theorem access_refuse {r : Nat} {ur : Bool} (h : gate s src page off b = .refuse r ur) :
    access s src page off op = refuseAccess s src page off b r ur := by
  unfold access
  rw [gated_of hb, h]

/-- An access waits (R88, R94). -/
theorem access_hold (h : gate s src page off b = .hold) :
    access s src page off op = { s with held := s.held ++ [⟨src, page, off, op, none⟩] } := by
  unfold access
  rw [gated_of hb, h]

end

/-! ### A refused access (R83, R101) -/

/-- Away from the ring an error answer changes what leaves the chip, the test port and the service port alone. -/
theorem errorAnswer_frame (s : State) (src : Src) (w ur : Bool) (h : ∀ a p tag, src ≠ .ring a p tag) :
    (errorAnswer s src w ur).regs = s.regs ∧ (errorAnswer s src w ur).ebm = s.ebm ∧ (errorAnswer s src w ur).que = s.que
      ∧ (errorAnswer s src w ur).ring = s.ring := by
  cases src with
  | ring a p tag => exact absurd rfl (h a p tag)
  | pf | vf _ => cases w <;> exact ⟨rfl, rfl, rfl, rfl⟩
  | jtag => cases w <;> exact ⟨rfl, rfl, rfl, rfl⟩
  | svc => 
    unfold errorAnswer svcGot
    dsimp only
    split_ifs
    · split <;> exact ⟨rfl, rfl, rfl, rfl⟩
    · exact ⟨rfl, rfl, rfl, rfl⟩
    · exact ⟨rfl, rfl, rfl, rfl⟩

theorem srcPort_lt (src : Src) : srcPort src < 8 := by
  cases src <;> simp [srcPort]

theorem srcAuth_lt (src : Src) : srcAuth src < 8 := by
  cases src with
  | ring a p tag => exact a.isLt
  | jtag => exact Config.debugAuth.isLt
  | _ => simp [srcAuth]

/-- A field of a word below 2 ^ 32. -/
theorem fget_ofNat (n : Nat) (f : Fld) (h : n < 2 ^ 32) : fget (BitVec.ofNat 32 n) f = n / 2 ^ f.lo % 2 ^ f.w := by
  unfold fget
  rw [BitVec.toNat_ofNat, Nat.mod_eq_of_lt h]

/-- MGT_ACCESS_LAST as it shows a refused access (R101). -/
def lastWord (src : Src) (page off : Nat) (w : Bool) (reason : Nat) : Nat :=
  off % 4096 + page % 256 * 2 ^ 12 + srcPort src * 2 ^ 20 + srcAuth src * 2 ^ 23 + b2n w * 2 ^ 26 + reason * 2 ^ 27

/-- The fields of that word. -/
theorem lastWord_fields (src : Src) (page off : Nat) (w : Bool) (reason : Nat) (hp : page < 256) (hr : reason < 8) :
    fget (BitVec.ofNat 32 (lastWord src page off w reason)) MGT_ACCESS_LAST_OFFSET = off % 0x1000
      ∧ fget (BitVec.ofNat 32 (lastWord src page off w reason)) MGT_ACCESS_LAST_PAGE = page
      ∧ fget (BitVec.ofNat 32 (lastWord src page off w reason)) MGT_ACCESS_LAST_PORT = srcPort src
      ∧ fget (BitVec.ofNat 32 (lastWord src page off w reason)) MGT_ACCESS_LAST_WRITE = b2n w
      ∧ fget (BitVec.ofNat 32 (lastWord src page off w reason)) MGT_ACCESS_LAST_REASON = reason := by
  have hport := srcPort_lt src
  have hauth := srcAuth_lt src
  have hw : b2n w < 2 := by cases w <;> simp [b2n]
  have hlt : lastWord src page off w reason < 2 ^ 32 := by unfold lastWord; omega
  simp only [fget_ofNat _ _ hlt]
  simp only [lastWord, MGT_ACCESS_LAST_OFFSET, MGT_ACCESS_LAST_PAGE, MGT_ACCESS_LAST_PORT, MGT_ACCESS_LAST_WRITE,
    MGT_ACCESS_LAST_REASON]
  refine ⟨?_, ?_, ?_, ?_, ?_⟩ <;> omega

/-- What the note of a refused access writes. -/
theorem noteRefused_eq (s : State) (src : Src) (page off : Nat) (w : Bool) (reason : Nat) :
    noteRefused s src page off w reason =
      wr (incF s pMgt MGT_ACCESS_REFUSED_COUNT) (adr pMgt 0x058) (BitVec.ofNat 32 (lastWord src page off w reason)) := rfl

/-- A counter that is raised saturates. -/
theorem rf_incF_self (s : State) (page : Nat) (f : Fld) (h : f.ok = true) :
    rf (incF s page f) page f = min (rf s page f + 1) (2 ^ f.w - 1) := by
  have : 0 < 2 ^ f.w := Nat.two_pow_pos _
  unfold incF addF satTo
  rw [rf_wf_self _ _ _ _ h]
  exact Nat.mod_eq_of_lt (by omega)

/-- The answer to a refused access off the ring leaves the registers as its note has them. -/
theorem refuseAccess_rf (s : State) (src : Src) (page off : Nat) (w : Bool) (reason : Nat) (ur : Bool)
    (h : ∀ a p tag, src ≠ .ring a p tag) (f : Fld) :
    rf (refuseAccess s src page off w reason ur) pMgt f = rf (noteRefused s src page off w reason) pMgt f :=
  rf_of (errorAnswer_frame _ src w ur h).1 _ _

/-- The command is an access above the page's offsets, which stands for one of another size (R7). -/
theorem exec_misalignedAccess (s : State) (src : Src) (page : BitVec 8) (off : BitVec 12) (w : Bool) :
    exec (.misalignedAccess src page off w) s =
      .next (access s src page.toNat (off.toNat + 0x1000) (if w then .write 0 else .read)) := rfl

/-- MGT_ACCESS_REFUSED counts a refused access, saturating. -/
theorem refuseAccess_count (s : State) (src : Src) (page off : Nat) (w : Bool) (reason : Nat) (ur : Bool)
    (h : ∀ a p tag, src ≠ .ring a p tag) :
    rf (refuseAccess s src page off w reason ur) pMgt MGT_ACCESS_REFUSED_COUNT =
      min 65535 (rf s pMgt MGT_ACCESS_REFUSED_COUNT + 1) := by
  rw [refuseAccess_rf _ _ _ _ _ _ _ h, noteRefused_eq, rf_wr_ne _ _ _ _ _ (by decide), rf_incF_self _ _ _ rfl, Nat.min_comm]
  congr 1

/-- MGT_ACCESS_LAST shows it. -/
theorem refuseAccess_last (s : State) (src : Src) (page off : Nat) (w : Bool) (reason : Nat) (ur : Bool)
    (h : ∀ a p tag, src ≠ .ring a p tag) (f : Fld) (hf : f.off = 0x058) :
    rf (refuseAccess s src page off w reason ur) pMgt f = fget (BitVec.ofNat 32 (lastWord src page off w reason)) f := by
  rw [refuseAccess_rf _ _ _ _ _ _ _ h, noteRefused_eq, ← hf, rf_wr_self]

/-- What becomes of an access of another size: nothing answers it, or it is discarded, or it waits, or it is refused with REASON SIZE. -/
theorem misaligned_answers (s : State) (src : Src) (page : BitVec 8) (off : BitVec 12) (w : Bool) :
    (unanswered s src page.toNat off.toNat = true → exec (.misalignedAccess src page off w) s = .next s)
     ∧ (unanswered s src page.toNat off.toNat = false →
       (refusedBy s src page.toNat 1 w = some .drop → exec (.misalignedAccess src page off w) s = .next (authDrop s))
       ∧ (refusedBy s src page.toNat 1 w ≠ some .drop →
           (mustWait s src page.toNat off.toNat = false → exec (.misalignedAccess src page off w) s = .next
             (refuseAccess s src page.toNat (off.toNat + 0x1000) w 5 false))
           ∧ (mustWait s src page.toNat off.toNat = true → exec (.misalignedAccess src page off w) s = .next
             { s with held := s.held ++ [⟨src, page.toNat, off.toNat + 0x1000, if w then .write 0 else .read, none⟩] }))) := by
  have hw : (match (if w then Op.write 0 else Op.read) with | .read => false | .write _ => true) = w := by cases w <;> rfl
  have hg := gate_size s src page.toNat off w
  simp only [exec_misalignedAccess, Host.Outcome.next.injEq]
  refine ⟨fun hu => ?_, fun hu => ⟨fun hd => ?_, fun hd => ⟨fun hm => ?_, fun hm => ?_⟩⟩⟩
  · exact access_absent hw (by rw [hg, if_pos hu])
  · exact access_drop hw (by simp only [hg, hu, hd, if_true]; rfl)
  · exact access_refuse hw (by simp only [hg, hu, hd, hm, if_false]; rfl)
  · exact access_hold hw (by simp only [hg, hu, hd, hm, if_false]; rfl)

/-- A refused access off the ring leaves EBM, the queues and the ring. -/
theorem refuseAccess_frame (s : State) (src : Src) (page off : Nat) (w : Bool) (reason : Nat) (ur : Bool)
    (h : ∀ a p tag, src ≠ .ring a p tag) :
    (refuseAccess s src page off w reason ur).ebm = s.ebm ∧ (refuseAccess s src page off w reason ur).que = s.que
      ∧ (refuseAccess s src page off w reason ur).ring = s.ring := by
  obtain ⟨-, hebm, hque, hring⟩ := errorAnswer_frame (noteRefused s src page off w reason) src w ur h
  unfold refuseAccess
  rw [hebm, hque, hring, noteRefused_eq]
  exact ⟨by rw [wr_ebm, incF_ebm], by rw [wr_que, incF_que], by rw [wr_ring, incF_ring]⟩

/-- Settles O25: the gate's answer to an access of another size decides what becomes of it, and a refused access shows in its registers. -/
theorem misaligned : Obligations.Misaligned := by
  refine ⟨misaligned_answers, fun s src page off reason w ur hsrc hpage hreason => ?_⟩
  have hframe := refuseAccess_frame s src page off w reason ur hsrc
  have hlast := refuseAccess_last s src page off w reason ur hsrc
  obtain ⟨hoff, hpg, hport, hwr, hre⟩ := lastWord_fields src page off w reason hpage hreason
  exact ⟨refuseAccess_count s src page off w reason ur hsrc, (hlast _ rfl).trans hoff, (hlast _ rfl).trans hpg,
    (hlast _ rfl).trans hport, (hlast _ rfl).trans hwr, (hlast _ rfl).trans hre, hframe⟩

end Sys2Proof.Machine
end

section
/-!
PROOFS. The write of plain fields (R10, R91), PAGE_SCRATCH and the pages without operations of their own, and the read that clears (O27, O30).
-/
namespace Sys2Proof.Machine

/-! ### The write of plain fields (R10, R91) -/

/-- The bits of a register that the lock of its page covers now (R91). -/
def lockMask (s : State) (page off : Nat) : Word := if locked s page then BitVec.ofNat 32 (covered page off) else 0

/-- A register after a write of its plain fields, the bits of a lock's mask aside (R10, R91). -/
def fieldWord (r : RegDesc) (lock old v : Word) : Word :=
  let m := BitVec.ofNat 32 r.rw &&& ~~~ lock
  ((old &&& ~~~ m) ||| (v &&& m)) &&& ~~~ (v &&& BitVec.ofNat 32 r.w1c)

theorem writeFields_eq {s : State} {page off : Nat} {v : Word} {r : RegDesc} (h : regDesc page off = some r) :
    writeFields s page off v =
      wr (if (rd s (adr page off) &&& lockMask s page off) != (v &&& lockMask s page off) then incF s page PAGE_LOCK_BLOCKED else s)
        (adr page off) (fieldWord r (lockMask s page off) (rd s (adr page off)) v) := by
  unfold writeFields
  rw [h]
  rfl

/-- Where the lock covers nothing, a write of plain fields changes its register alone. -/
theorem writeFields_uncovered {s : State} {page off : Nat} {v : Word} {r : RegDesc} (h : regDesc page off = some r)
    (hl : lockMask s page off = 0) : writeFields s page off v = wr s (adr page off) (fieldWord r 0 (rd s (adr page off)) v) := by
  rw [writeFields_eq h, hl]
  simp

theorem lockMask_unlocked {s : State} {page : Nat} (off : Nat) (h : locked s page = false) : lockMask s page off = 0 := by
  simp [lockMask, h]

theorem fieldWord_bit (r : RegDesc) (lock old v : Word) (k : Nat) (hk : k < 32) :
    (fieldWord r lock old v).getLsbD k =
      if (BitVec.ofNat 32 r.w1c).getLsbD k && v.getLsbD k then false
      else if (BitVec.ofNat 32 r.rw).getLsbD k && !lock.getLsbD k then v.getLsbD k else old.getLsbD k := by
  simp only [fieldWord, BitVec.getLsbD_and, BitVec.getLsbD_or, BitVec.getLsbD_not, hk, decide_true, Bool.true_and]
  cases (BitVec.ofNat 32 r.w1c).getLsbD k <;> cases v.getLsbD k <;> cases (BitVec.ofNat 32 r.rw).getLsbD k
    <;> cases lock.getLsbD k <;> cases old.getLsbD k <;> rfl

/-- Without a lock and without W1C bits, a register takes the value in its RW bits. -/
theorem fieldWord_rw {r : RegDesc} (h : r.w1c = 0) (old v : Word) :
    fieldWord r 0 old v = (old &&& ~~~ BitVec.ofNat 32 r.rw) ||| (v &&& BitVec.ofNat 32 r.rw) := by
  have hones : ~~~ 0#32 = BitVec.allOnes 32 := rfl
  simp only [fieldWord, h, BitVec.and_zero, BitVec.ofNat_eq_ofNat, hones, BitVec.and_allOnes]

/-! ### PAGE_SCRATCH -/

/-- PAGE_SCRATCH is a register of every page, and all its bits are RW (R87). -/
theorem regDesc_scratch {page : Nat} {b : Block} (h : blockOf page = some b) :
    regDesc page 0x034 = some ⟨0x034, 1, 0, false, 0, 0xFFFFFFFF, 0, 0, 0xFFFFFFFF, 0⟩ := by
  unfold regDesc
  rw [h]
  rfl

/-- The lock covers no bit of PAGE_SCRATCH (R91). -/
theorem covered_scratch (page : Nat) : covered page 0x034 = 0 := by
  simp [covered]

/-- Settles O27: PAGE_SCRATCH is a register of plain fields, all its bits are RW and none is covered. -/
theorem scratch : Obligations.Scratch := by
  intro s src page v h
  obtain ⟨b, hb⟩ := block_of_gate_ok h
  have hserve : serveWrite s src page.toNat 0x034 v = writeFields s page.toNat 0x034 v := rfl
  change Host.Outcome.next (access s src page.toNat 0x034 (.write v)) = _
  rw [access_write h, hserve, writeFields_uncovered (regDesc_scratch hb) (by simp [lockMask, covered_scratch]), fieldWord_rw rfl]
  have hones : BitVec.ofNat 32 0xFFFFFFFF = BitVec.allOnes 32 := rfl
  simp only [hones, BitVec.and_allOnes, BitVec.not_allOnes, BitVec.and_zero, BitVec.zero_or]

/-! ### What a write of plain fields leaves -/

/-- The register reads its new word. -/
theorem rd_writeFields_self {s : State} {page off : Nat} {v : Word} {r : RegDesc} (h : regDesc page off = some r) :
    rd (writeFields s page off v) (adr page off) = fieldWord r (lockMask s page off) (rd s (adr page off)) v := by
  rw [writeFields_eq h, rd_wr_self]

/-- Every other register but PAGE_LOCK, which counts blocked writes, reads what it did. -/
theorem rd_writeFields_ne (s : State) (page off : Nat) (v : Word) (a : Nat) (ha : a ≠ adr page off) (hl : a ≠ adr page 0x038) :
    rd (writeFields s page off v) a = rd s a := by
  cases h : regDesc page off with
  | none => simp [writeFields, h]
  | some r =>
    rw [writeFields_eq h, rd_wr_ne _ _ _ _ ha]
    split
    · exact rd_wf_ne _ _ _ _ _ hl
    · rfl

/-- The register file aside, a write of plain fields leaves the state. -/
theorem writeFields_frame (s : State) (page off : Nat) (v : Word) :
    (writeFields s page off v).out = s.out ∧ (writeFields s page off v).ebm = s.ebm ∧ (writeFields s page off v).prt = s.prt := by
  cases h : regDesc page off with
  | none => simp [writeFields, h]
  | some r =>
    rw [writeFields_eq h, wr_out, wr_ebm, wr_prt]
    split
    · exact ⟨incF_out _ _ _, incF_ebm _ _ _, incF_prt _ _ _⟩
    · exact ⟨rfl, rfl, rfl⟩

theorem lockMask_bit (s : State) (page off k : Nat) :
    (lockMask s page off).getLsbD k = (locked s page && (BitVec.ofNat 32 (covered page off)).getLsbD k) := by
  unfold lockMask
  split <;> simp_all

/-! ### REGISTER_WRITE on the pages without operations of their own -/

/-- On the pages CND, CLU and EBM a write from offset 0x040 on is one of plain fields: they have no halves of R8. -/
theorem serveWrite_plain {s : State} {src : Src} {page off : Nat} {v : Word}
    (hb : blockOf page = some .cnd ∨ blockOf page = some .clu ∨ blockOf page = some .ebm) (ho : 0x040 ≤ off) :
    serveWrite s src page off v = writeFields s page off v := by
  rw [serveWrite, if_neg (by omega)]
  rcases hb with hb | hb | hb <;> simp [blockWrite, hb, plainWrite, isLowHalf, isHighHalf]

/-! ### READ_CLEAR of MGT_ACCESS_REFUSED -/

/-- A read of MGT_ACCESS_REFUSED without a latched half: its count, which is cleared (R10, R101). -/
theorem serveRead_accessRefused {s : State} (h : look s.latch (adr pMgt 0x054) = none) :
    serveRead s pMgt 0x054 =
      (wr s (adr pMgt 0x054) (rd s (adr pMgt 0x054) &&& ~~~ 0xFFFF), rd s (adr pMgt 0x054) &&& 0xFFFF) := by
  unfold serveRead
  rw [h]
  rfl

/-- A field cleared by its mask reads 0. -/
theorem fget_and_not_fmask (x : Word) (f : Fld) (h : f.ok = true) : fget (x &&& ~~~ fmask f) f = 0 := by
  have hput : x &&& ~~~ fmask f = fput x f 0 := by simp [fput]
  rw [hput, fget_fput_self _ _ _ h, Nat.zero_mod]

/-- Settles O30: the bits of a write of plain fields, and the read that clears MGT_ACCESS_REFUSED. -/
theorem fieldTypes : Obligations.FieldTypes := by
  refine ⟨fun s src page off v r hg hb ho hr => ?_, fun s hg hl => ?_⟩
  · obtain ⟨hout, hebm, hprt⟩ := writeFields_frame s page.toNat off.toNat v
    refine ⟨writeFields s page.toNat off.toNat v, ?_, fun k hk => ?_, fun a => rd_writeFields_ne s _ _ v a, hout, hebm, hprt⟩
    · rw [← serveWrite_plain hb ho, ← access_write hg]
      rfl
    · rw [rd_writeFields_self hr, fieldWord_bit _ _ _ _ _ hk, lockMask_bit]
  · refine ⟨answer (serveRead s pMgt 0x054).1 .pf (serveRead s pMgt 0x054).2, ?_, ?_⟩
    · rw [← access_read hg]
      rfl
    · rw [serveRead_accessRefused hl]
      refine ⟨rfl, ?_, fun a ha => rd_wr_ne _ _ _ _ ha, rfl, rfl⟩
      exact (rf_wr_self s pMgt MGT_ACCESS_REFUSED_COUNT _).trans (fget_and_not_fmask _ MGT_ACCESS_REFUSED_COUNT rfl)

end Sys2Proof.Machine
end

section
/-!
PROOFS. The halves of a 64-bit quantity (R8; O29).
-/
namespace Sys2Proof.Machine

/-! ### The tables of latched and held halves -/

theorem look_tabDel_self {α : Type} (t : Tab α) (k : Nat) : look (tabDel t k) k = none := by
  simp [look, tabDel, List.find?_filter]

theorem look_tabIns_self {α : Type} (t : Tab α) (k : Nat) (v : α) (h : ∀ p ∈ t, p.1 ≠ k) : look (tabIns k v t) k = some v := by
  induction t with
  | nil => simp [look, tabIns]
  | cons p t ih =>
    unfold tabIns
    split
    · simp [look]
    · have hp : (p.1 == k) = false := by simpa using h p List.mem_cons_self
      have ht := ih fun q hq => h q (List.mem_cons_of_mem _ hq)
      simpa [look, hp] using ht

theorem look_put_self {α : Type} (t : Tab α) (k : Nat) (v : α) : look (put t k v) k = some v :=
  look_tabIns_self _ _ _ fun p hp => by simpa [tabDel] using (List.mem_filter.1 hp).2

/-! ### Reads of the halves -/

theorem readClear_out (s : State) (page off : Nat) : (readClear s page off).out = s.out := by
  unfold readClear
  split
  · rfl
  · split
    · split <;> rfl
    · rfl

/-- A read of a low half without a latched value shows the register and latches the high half. -/
theorem serveRead_low {s : State} {page off : Nat} (h : lowHalf page off = true) (hn : look s.latch (adr page off) = none) :
    serveRead s page off = ({ readClear s page off with
      latch := put (readClear s page off).latch (adr page (off + 4)) (regVal s page (off + 4)) }, regVal s page off) := by
  unfold serveRead
  rw [hn]
  simp only [h, if_true]

/-- A read of a latched half shows it and frees the latch. -/
theorem serveRead_latched {s : State} {page off : Nat} {v : Word} (h : look s.latch (adr page off) = some v) :
    serveRead s page off = ({ s with latch := tabDel s.latch (adr page off) }, v) := by
  unfold serveRead
  rw [h]

/-- The host's accesses come over a trained link to a chip that runs and whose endpoint is active (R6, R81). -/
theorem exec_hostWindowAccess {s : State} {w : Win} {op : Op} (hlink : s.mgt.pcie = true) (hboot : s.mgt.boot = .running)
    (hdeep : chipDeep s = false) (hep : epActive s = true) : exec (.hostWindowAccess w op) s = .next (hostAccess s w op) := by
  have harrives : (s.mgt.pcie && s.mgt.boot == .running && !chipDeep s && epActive s) = true := by simp [hlink, hboot, hdeep, hep]
  exact congrArg Host.Outcome.next (if_pos harrives)

/-- An access to window 0 of BAR0 is one of the physical function to the chip's own register (R80). -/
theorem hostAccess_window0 {s : State} {o : BitVec 26} {page off : Nat} {op : Op} (hep : epActive s = true) (hp : page < 256)
    (hoff : off < 4096) (ho : o.toNat = page * 4096 + off) : hostAccess s (.bar0 o) op = access s .pf page off op := by
  have hpos : o.toNat / 2 ^ 20 = 0 := by omega
  have hpage : o.toNat / 2 ^ 12 % 2 ^ 8 = page := by omega
  have hreg : o.toNat % 2 ^ 12 = off := by omega
  have hnear : ¬ 0x100 ≤ page := by omega
  unfold hostAccess
  dsimp only
  rw [hpos, hpage, hreg, if_pos (by rfl), pfAccess, if_neg (by simp [hep]), if_neg (by simp [hnear]), if_pos hp]

/-! ### Writes of the halves -/

/-- The pairs of registers that a write takes by their halves, where they are free to be written: the alarm time of AON, the wheel's base
in HOLD, and the addresses of an idle software channel (R8, R219). -/
def widePair (s : State) (page off : Nat) : Prop :=
  (page = 0x02 ∧ off = 0x048) ∨ (page = 0x08 ∧ off = 0x050 ∧ mode s = 0)
    ∨ (0x1C ≤ page ∧ page ≤ 0x1F ∧ isLowHalf page off = true ∧ cState s ((page - 0x10) * 4 + (off - 0x40) / 0x40) = 0)

theorem blockOf_soft {page : Nat} (h1 : 0x1C ≤ page) (h2 : page ≤ 0x1F) : blockOf page = some .dma := by
  unfold blockOf
  rw [if_neg (by omega), if_neg (by omega), if_neg (by omega), if_neg (by omega), if_neg (by omega), if_neg (by omega),
    if_neg (by omega), if_neg (by omega), if_neg (by omega), if_neg (by omega), if_neg (by omega), if_pos (by omega)]

/-- The low halves of a DMA page: SRC_LO, DST_LO and DESC_LO of its four channels (R219). -/
theorem isLowHalf_dma {page off : Nat} (hb : blockOf page = some .dma) :
    isLowHalf page off = true ↔ 0x40 ≤ off ∧ off < 0x140 ∧ (off % 0x40 = 0 ∨ off % 0x40 = 8 ∨ off % 0x40 = 0x1C) := by
  simp [isLowHalf, hb, and_assoc, or_assoc]

theorem regDesc_dma {page off : Nat} (hb : blockOf page = some .dma) (ho : 0x40 ≤ off) :
    regDesc page off = dmaRegs.find? (fun r => r.holds off && (!r.firstOnly || firstPage page)) := by
  unfold regDesc
  rw [hb]
  exact if_neg (by omega)

/-- Of a channel's registers DMA_STATUS alone has W1C bits (R219). -/
theorem w1c_dma {page off : Nat} {r : RegDesc} (hb : blockOf page = some .dma) (ho : 0x40 ≤ off) (h : regDesc page off = some r)
    (hs : off % 0x40 ≠ 0x18) : r.w1c = 0 := by
  rw [regDesc_dma hb ho] at h
  have hmem := List.mem_of_find?_eq_some h
  have hholds := List.find?_some h
  have hall : ∀ r ∈ dmaRegs, r.w1c = 0 ∨ (r.base = 0x58 ∧ r.stride = 0x40) := by decide
  rcases hall r hmem with hw | ⟨hbase, hstride⟩
  · exact hw
  · simp [RegDesc.holds, hbase, hstride] at hholds
    omega

/-- Every low half of a DMA page is a register. -/
theorem regDesc_dmaLow {page off : Nat} (hb : blockOf page = some .dma) (h : isLowHalf page off = true) :
    (regDesc page off).isSome = true := by
  obtain ⟨h1, h2, h3⟩ := (isLowHalf_dma hb).1 h
  rw [regDesc_dma hb h1, List.find?_isSome]
  simp only [dmaRegs, RegDesc.holds]
  rcases h3 with h3 | h3 | h3
  · exact ⟨_, List.mem_cons_self, by simp; omega⟩
  · exact ⟨⟨0x48, 4, 0x40, false, 0x0, 0xffffffff, 0x0, 0x0, 0xffffffff, 0x0⟩, by simp, by simp; omega⟩
  · exact ⟨⟨0x5c, 4, 0x40, false, 0x0, 0xffffffe0, 0x0, 0x0, 0xffffffe0, 0x0⟩, by simp, by simp; omega⟩

/-- A write of an address register of an idle software channel has the register's own effect (R219). -/
theorem dmaWrite_idle {s : State} {src : Src} {page off : Nat} {v : Word} {eff : State → State} (hp : 0x1C ≤ page)
    (hr : off % 0x40 ≠ 0x14) (hidle : cState s ((page - 0x10) * 4 + (off - 0x40) / 0x40) = 0) : dmaWrite s src page off v eff = eff s := by
  have hsoft : ¬ (page - 0x10) * 4 + (off - 0x40) / 0x40 < 48 := by omega
  simp [dmaWrite, hsoft, hr, hidle]

/-- A write of a register of a software page from offset 0x40 on. -/
theorem serveWrite_soft {s : State} {src : Src} {page off : Nat} {v : Word} (h1 : 0x1C ≤ page) (h2 : page ≤ 0x1F) (ho : 0x40 ≤ off)
    (ho' : off < 0x140) (hd : (regDesc page off).isSome = true) (hr : off % 0x40 ≠ 0x14)
    (hidle : cState s ((page - 0x10) * 4 + (off - 0x40) / 0x40) = 0) : serveWrite s src page off v = plainWrite s page off v := by
  rw [serveWrite, if_neg (by omega)]
  simp only [blockWrite, blockOf_soft h1 h2]
  rw [if_pos (by simp [ho', hd]), dmaWrite_idle h1 hr hidle]

/-- A write of a low half is held (R8). -/
theorem serveWrite_low {s : State} {src : Src} {page off : Nat} {lo : Word} (h : widePair s page off) :
    serveWrite s src page off lo = { s with lowHeld := put s.lowHeld (adr page off) lo } := by
  rcases h with ⟨rfl, rfl⟩ | ⟨rfl, rfl, hm⟩ | ⟨h1, h2, hlow, hidle⟩
  · rfl
  · simp [serveWrite, blockWrite, blockOf, hm, plainWrite, isLowHalf]
  · obtain ⟨ho, ho', hr⟩ := (isLowHalf_dma (blockOf_soft h1 h2)).1 hlow
    rw [serveWrite_soft h1 h2 ho ho' (regDesc_dmaLow (blockOf_soft h1 h2) hlow) (by omega) hidle, plainWrite, if_pos hlow]

/-- The write of a high half writes both; of the alarm time it arms the alarm in software's name (R8, R275). -/
theorem serveWrite_high {s : State} {src : Src} {page off : Nat} {v : Word} (h : widePair s page off)
    (hd : (regDesc page (off + 4)).isSome = true) :
    ∃ p, serveWrite s src page (off + 4) v = { writeHalves s page (off + 4) v with pwr := p } := by
  rcases h with ⟨rfl, rfl⟩ | ⟨rfl, rfl, hm⟩ | ⟨h1, h2, hlow, hidle⟩
  · exact ⟨_, rfl⟩
  · refine ⟨(writeHalves s 8 (0x050 + 4) v).pwr, ?_⟩
    simp [serveWrite, blockWrite, blockOf, hm, plainWrite, isLowHalf, isHighHalf]
  · have hb := blockOf_soft h1 h2
    obtain ⟨ho, ho', hr⟩ := (isLowHalf_dma hb).1 hlow
    have hnot : ¬ isLowHalf page (off + 4) = true := by rw [isLowHalf_dma hb]; omega
    have hhigh : isHighHalf page (off + 4) = true := by simp [isHighHalf, hlow]
    have hch : (off + 4 - 0x40) / 0x40 = (off - 0x40) / 0x40 := by omega
    refine ⟨(writeHalves s page (off + 4) v).pwr, ?_⟩
    rw [serveWrite_soft h1 h2 (by omega) (by omega) hd (by omega) (by rw [hch]; exact hidle), plainWrite, if_neg hnot, if_pos hhigh]

/-- Such a pair lies among its block's registers. -/
theorem widePair_off {s : State} {page off : Nat} (hw : widePair s page off) : 0x40 ≤ off ∧ off < 0x140 := by
  rcases hw with ⟨rfl, rfl⟩ | ⟨rfl, rfl, -⟩ | ⟨h1, h2, hlow, -⟩
  · decide
  · decide
  · obtain ⟨ho, ho', -⟩ := (isLowHalf_dma (blockOf_soft h1 h2)).1 hlow
    exact ⟨ho, ho'⟩

/-- The registers of such a pair have no W1C bits. -/
theorem widePair_w1c {s : State} {page off : Nat} {l h : RegDesc} (hw : widePair s page off) (hl : regDesc page off = some l)
    (hh : regDesc page (off + 4) = some h) : l.w1c = 0 ∧ h.w1c = 0 := by
  rcases hw with ⟨rfl, rfl⟩ | ⟨rfl, rfl, -⟩ | ⟨h1, h2, hlow, -⟩
  · cases hl
    cases hh
    decide
  · cases hl
    cases hh
    decide
  · have hb := blockOf_soft h1 h2
    obtain ⟨ho, ho', hr⟩ := (isLowHalf_dma hb).1 hlow
    exact ⟨w1c_dma hb ho hl (by omega), w1c_dma hb (by omega) hh (by omega)⟩

/-- Two registers of an unlocked page written one after the other. -/
theorem writeFields_pair {s : State} {page off : Nat} {lo v : Word} {l h : RegDesc} (ho : 0x40 ≤ off)
    (hlock : locked s page = false) (hl : regDesc page off = some l) (hh : regDesc page (off + 4) = some h) :
    writeFields (writeFields s page off lo) page (off + 4) v =
      wr (wr s (adr page off) (fieldWord l 0 (rd s (adr page off)) lo)) (adr page (off + 4))
        (fieldWord h 0 (rd s (adr page (off + 4))) v) := by
  have hne : adr page PAGE_LOCK_LOCK.off ≠ adr page off := by unfold adr PAGE_LOCK_LOCK; dsimp only; omega
  have hlock1 (w : Word) : locked (wr s (adr page off) w) page = false := by
    rw [← hlock, locked, locked, rb, rb, rf_wr_ne _ _ _ _ _ hne]
  rw [writeFields_uncovered hl (lockMask_unlocked _ hlock), writeFields_uncovered hh (lockMask_unlocked _ (hlock1 _)),
    rd_wr_ne _ _ _ _ (by unfold adr; omega)]

/-- Both halves on an unlocked page: the held low one and the high one, in their RW bits. -/
theorem writeHalves_eq {s : State} {page off : Nat} {lo v : Word} {l h : RegDesc} (ho : 0x40 ≤ off)
    (hheld : look s.lowHeld (adr page off) = some lo) (hlock : locked s page = false) (hl : regDesc page off = some l)
    (hh : regDesc page (off + 4) = some h) :
    writeHalves s page (off + 4) v =
      wr (wr { s with lowHeld := tabDel s.lowHeld (adr page off) } (adr page off) (fieldWord l 0 (rd s (adr page off)) lo))
        (adr page (off + 4)) (fieldWord h 0 (rd s (adr page (off + 4))) v) := by
  unfold writeHalves
  rw [Nat.add_sub_cancel, hheld]
  exact writeFields_pair (s := { s with lowHeld := tabDel s.lowHeld (adr page off) }) ho hlock hl hh

/-- A read of a low half by the physical function: its value, and the high half latched. -/
theorem wide_read {s : State} {page : BitVec 8} {off : BitVec 12} (hg : gate s .pf page.toNat off.toNat false = .ok)
    (hlow : lowHalf page.toNat off.toNat = true) (hn : look s.latch (adr page.toNat off.toNat) = none) :
    ∃ t, exec (.wideLowRead .pf page off) s = .next t
      ∧ t.out = s.out ++ [.readDone .pf (regVal s page.toNat off.toNat) false]
      ∧ look t.latch (adr page.toNat (off.toNat + 4)) = some (regVal s page.toNat (off.toNat + 4)) := by
  refine ⟨access s .pf page.toNat off.toNat .read, rfl, ?_⟩
  rw [access_read hg, serveRead_low hlow hn]
  refine ⟨?_, look_put_self _ _ _⟩
  change (readClear s page.toNat off.toNat).out ++ _ = _
  rw [readClear_out]

/-- The write of the high half with its low half held. -/
theorem wide_write {s : State} {src : Src} {page off : Nat} {lo v : Word} {l h : RegDesc} (hw : widePair s page off)
    (hheld : look s.lowHeld (adr page off) = some lo) (hlock : locked s page = false) (hl : regDesc page off = some l)
    (hh : regDesc page (off + 4) = some h) :
    rd (serveWrite s src page (off + 4) v) (adr page off)
        = (rd s (adr page off) &&& ~~~ BitVec.ofNat 32 l.rw) ||| (lo &&& BitVec.ofNat 32 l.rw)
      ∧ rd (serveWrite s src page (off + 4) v) (adr page (off + 4))
        = (rd s (adr page (off + 4)) &&& ~~~ BitVec.ofNat 32 h.rw) ||| (v &&& BitVec.ofNat 32 h.rw)
      ∧ look (serveWrite s src page (off + 4) v).lowHeld (adr page off) = none
      ∧ (serveWrite s src page (off + 4) v).ebm = s.ebm ∧ (serveWrite s src page (off + 4) v).out = s.out := by
  obtain ⟨ho, -⟩ := widePair_off hw
  obtain ⟨hlw, hhw⟩ := widePair_w1c hw hl hh
  obtain ⟨p, hp⟩ := serveWrite_high (src := src) (v := v) hw (by rw [hh]; rfl)
  rw [hp, writeHalves_eq ho hheld hlock hl hh, fieldWord_rw hlw, fieldWord_rw hhw]
  have hne : adr page off ≠ adr page (off + 4) := by unfold adr; omega
  refine ⟨?_, ?_, look_tabDel_self _ _, rfl, rfl⟩
  · exact (rd_of rfl _).trans ((rd_wr_ne _ _ _ _ hne).trans (rd_wr_self _ _ _))
  · exact (rd_of rfl _).trans (rd_wr_self _ _ _)

/-- Settles O29: the latch of a low read, what the latched half reads, the held low half, and the write of both. -/
theorem wideAccess : Obligations.WideAccess := by
  intro s page off
  refine ⟨wide_read, fun v o hlink hboot hdeep hep ho hg hv => ?_, fun hpair => ?_⟩
  · rw [exec_hostWindowAccess hlink hboot hdeep hep, hostAccess_window0 hep page.isLt off.isLt ho, access_read hg, serveRead_latched hv]
    rfl
  · have hwide : widePair s page.toNat off.toNat := by
      rcases hpair with ⟨rfl, rfl⟩ | ⟨rfl, rfl, hm⟩ | hdma
      · exact .inl ⟨rfl, rfl⟩
      · exact .inr (.inl ⟨rfl, rfl, hm⟩)
      · exact .inr (.inr hdma)
    have hlt := (widePair_off hwide).2
    have hoff : (off + 4).toNat = off.toNat + 4 := by rw [BitVec.toNat_add]; exact Nat.mod_eq_of_lt (by change off.toNat + 4 < 2 ^ 12; omega)
    refine ⟨fun src lo hg => ?_, fun src lo v l h hg hheld hlock hl hh =>
      ⟨serveWrite s src page.toNat (off.toNat + 4) v, ?_, wide_write hwide hheld hlock hl hh⟩⟩
    · rw [← serveWrite_low (src := src) hwide, ← access_write hg]
      rfl
    · rw [← access_write hg, ← hoff]
      rfl

end Sys2Proof.Machine
end

section
/-!
PROOFS. A reset of the host link that does not leave the queues (R307; O19).
-/
namespace Sys2Proof.Machine

/-- A chip with NumVFs = 0 on which instance 0 stands QUIESCED all the same (no rule brings this about), with one of its commands running on
another chip. -/
def quiescedNoVfs : State :=
  { State.reset with
    inst := [(0, { Inst.init with state := 3 })]
    que := { State.reset.que with far := [(.inst 0, [], 0)] } }

theorem quiescedNoVfs_far : quiescedNoVfs.que.far = [(.inst 0, [], 0)] := rfl

/-- Its link's reset removes the instance (R307, R251), and with it the command that ran elsewhere. -/
theorem linkReset_quiescedNoVfs_far : (linkReset quiescedNoVfs).que.far = [] := by decide +kernel

/-- Refutes O19: its clause on a link reset with NumVFs = 0 says that the queues stay as they are, from every state. They do not from one
whose instance 0 is QUIESCED all the same: the reset removes the instance (R251), and its command that ran on another chip is no longer
awaited. -/
theorem not_hostAccess : ¬ Obligations.HostAccess := by
  intro h
  obtain ⟨-, hlink⟩ := h
  obtain ⟨-, -, -, -, hframe, -⟩ := hlink quiescedNoVfs
  obtain ⟨-, -, -, hque, -⟩ := hframe rfl
  have hfar := congrArg Queues.far hque
  rw [linkReset_quiescedNoVfs_far, quiescedNoVfs_far] at hfar
  cases hfar

end Sys2Proof.Machine
end

section
/-!
SUPPORT. What the operations of an instance's reset leave of `State.mgt`, NumVFs above all: one lemma for each operation.
-/
namespace Sys2Proof.Machine

/-- Operations in turn leave `mgt` when each of them does. -/
@[simp] theorem foldl_mgt {α : Type} (l : List α) (s : State) (f : State → α → State) (hf : ∀ s a, (f s a).mgt = s.mgt) :
    (l.foldl f s).mgt = s.mgt := by
  induction l generalizing s with
  | nil => rfl
  | cons a l ih => exact (ih (f s a)).trans (hf s a)

@[simp] theorem each_mgt {α : Type} (l : List α) (s : State) (f : State → α → State) (hf : ∀ s a, (f s a).mgt = s.mgt) :
    (each l s f).mgt = s.mgt := foldl_mgt l s f hf

@[simp] theorem dirtyEvict_mgt (s : State) (k n : Nat) : (dirtyEvict s k n).mgt = s.mgt := by
  induction n generalizing s with
  | zero => rfl
  | succ n ih =>
    unfold dirtyEvict
    dsimp only
    split
    · split
      · rfl
      · rw [ih]; simp
    · rfl

@[simp] theorem updTq_mgt (s : State) (t : Nat) (f : Tq → Tq) : (updTq s t f).mgt = s.mgt := by
  unfold updTq
  split <;> simp

@[simp] theorem updEp_mgt (s : State) (c : Nat) (f : Ep → Ep) : (updEp s c f).mgt = s.mgt := by
  unfold updEp
  split <;> simp

@[simp] theorem msix_mgt (s : State) (o : Owner) (v : BitVec 8) : (msix s o v).mgt = s.mgt := by
  unfold msix
  dsimp only
  repeat' split
  all_goals simp

@[simp] theorem dirtyLog_mgt (s : State) (o : Owner) (a : Addr) (n : Nat) : (dirtyLog s o a n).mgt = s.mgt := by
  unfold dirtyLog
  dsimp only
  repeat' split
  all_goals simp

@[simp] theorem setEgress_mgt (s : State) (ringB : Bool) (e : Egress) : (setEgress s ringB e).mgt = s.mgt := by
  unfold setEgress
  split <;> simp

@[simp] theorem queueCell_mgt (s : State) (ringB transit : Bool) (c : Cell) : (queueCell s ringB transit c).mgt = s.mgt := by simp [queueCell]

@[simp] theorem enqueue_mgt (s : State) (ringB transit : Bool) (c : Cell) : (enqueue s ringB transit c).mgt = s.mgt := by
  unfold enqueue
  repeat' split
  all_goals simp

@[simp] theorem inject_mgt (s : State) (c : Cell) : (inject s c).mgt = s.mgt := by simp [inject]

@[simp] theorem waitCell_mgt (s : State) (c : Cell) : (waitCell s c).mgt = s.mgt := rfl

@[simp] theorem submit_mgt (s : State) (c : Cell) : (submit s c).mgt = s.mgt := by
  unfold submit
  dsimp only
  repeat' split
  all_goals simp

@[simp] theorem sendCell_mgt (s : State) (dst typ cls auth : Nat) (tag : Word) (d : List Byte) : (sendCell s dst typ cls auth tag d).mgt = s.mgt := by simp [sendCell]

@[simp] theorem sendFault_mgt (s : State) (loc : BitVec 64) (code : BitVec 16) : (sendFault s loc code).mgt = s.mgt := by simp [sendFault]

@[simp] theorem sendPost_mgt (s : State) (p : PostMsg) : (sendPost s p).mgt = s.mgt := by simp [sendPost]

@[simp] theorem posEvent_mgt (s : State) (p : Nat) : (posEvent s p).mgt = s.mgt := by
  unfold posEvent
  dsimp only
  repeat' split
  all_goals simp

@[simp] theorem pageIntr_mgt (s : State) : (pageIntr s).mgt = s.mgt := by
  unfold pageIntr
  repeat' split
  all_goals simp

@[simp] theorem intrBits_mgt (s : State) (m : Word) : (intrBits s m).mgt = s.mgt := by simp [intrBits]

@[simp] theorem evtSet_mgt (s : State) (page : Nat) (m : Nat) : (evtSet s page m).mgt = s.mgt := by simp [evtSet]

@[simp] theorem evt_mgt (s : State) (page n : Nat) : (evt s page n).mgt = s.mgt := by simp [evt]

@[simp] theorem svcEvt_mgt (s : State) (e : SvcEvt) : (svcEvt s e).mgt = s.mgt := rfl

@[simp] theorem errBit_mgt (s : State) (page n : Nat) : (errBit s page n).mgt = s.mgt := by
  unfold errBit
  dsimp only
  repeat' split
  all_goals simp

@[simp] theorem rootCause_mgt (s : State) : (rootCause s).mgt = s.mgt := by simp [rootCause]

@[simp] theorem countUnder_mgt (s : State) (i : Nat) (r : Rec) : (countUnder s i r).mgt = s.mgt := rfl

@[simp] theorem tellHead_mgt (s : State) (l : BitVec 64) (code : BitVec 16) : (tellHead s l code).mgt = s.mgt := by
  unfold tellHead
  split <;> simp

@[simp] theorem sbdFault_mgt (s : State) (l : BitVec 64) (code : BitVec 16) : (sbdFault s l code).mgt = s.mgt := by
  unfold sbdFault
  split <;> simp

@[simp] theorem openRec_mgt (s : State) (i : Nat) (l : BitVec 64) (code : BitVec 16) : (openRec s i l code).mgt = s.mgt := rfl

@[simp] theorem chipLost_mgt (s : State) (i : Nat) : (chipLost s i).mgt = s.mgt := by
  unfold chipLost
  dsimp only
  repeat' split
  all_goals simp

@[simp] theorem overflowRec_mgt (s : State) : (overflowRec s).mgt = s.mgt := by
  unfold overflowRec
  dsimp only
  repeat' split
  all_goals simp

@[simp] theorem funnelWith_mgt (s : State) (l : BitVec 64) (code : BitVec 16) (tell : Bool) : (funnelWith s l code tell).2.mgt = s.mgt := by
  unfold funnelWith
  dsimp only
  repeat' split
  all_goals simp

@[simp] theorem funnel_mgt (s : State) (l : BitVec 64) (code : BitVec 16) : (funnel s l code).2.mgt = s.mgt := by simp [funnel]

@[simp] theorem report_mgt (s : State) (l : BitVec 64) (code : BitVec 16) : (report s l code).mgt = s.mgt := by simp [report]

@[simp] theorem affect_mgt (s : State) (ref : Word) : (affect s ref).mgt = s.mgt := by
  unfold affect
  dsimp only
  repeat' split
  all_goals simp

@[simp] theorem blame_mgt (s : State) (ref : Option Word) : (blame s ref).mgt = s.mgt := by
  unfold blame
  split <;> simp

@[simp] theorem err_mgt (s : State) (page n : Nat) : (err s page n).mgt = s.mgt := by
  unfold err
  split <;> simp

@[simp] theorem sendData_mgt (s : State) (iso : Bool) (tag : Word) (d : List Byte) : (sendData s iso tag d).mgt = s.mgt := by
  unfold sendData
  split <;> simp

@[simp] theorem hostStore_mgt (s : State) (o : Owner) (a : Addr) (d : List Byte) : (hostStore s o a d).mgt = s.mgt := by
  unfold hostStore
  split <;> simp

@[simp] theorem hostWriteAs_mgt (s : State) (iso : Bool) (tag : Word) (o : Owner) (a : Addr) (d : List Byte) : (hostWriteAs s iso tag o a d).mgt = s.mgt := by simp [hostWriteAs]

@[simp] theorem hostWrite_mgt (s : State) (o : Owner) (a : Addr) (d : List Byte) : (hostWrite s o a d).mgt = s.mgt := by
  unfold hostWrite
  split <;> simp

@[simp] theorem sendReadReq_mgt (s : State) (tag : Word) (a : Addr) (n : Nat) : (sendReadReq s tag a n).mgt = s.mgt := by
  unfold sendReadReq
  split <;> simp

@[simp] theorem hostReadAs_mgt (s : State) (tag : Word) (o : Owner) (a : Addr) (n : Nat) : (hostReadAs s tag o a n).mgt = s.mgt := by simp [hostReadAs]

@[simp] theorem hostRead_mgt (s : State) (o : Owner) (a : Addr) (n : Nat) : (hostRead s o a n).mgt = s.mgt := by
  unfold hostRead
  split <;> simp

@[simp] theorem zeroRead_mgt (s : State) (o : Owner) : (zeroRead s o).mgt = s.mgt := by
  unfold zeroRead
  split <;> simp

@[simp] theorem castHw_mgt (s : State) (slot d : Nat) : (castHw s slot d).mgt = s.mgt := rfl

@[simp] theorem dropHw_mgt (s : State) (slot d : Nat) : (dropHw s slot d).mgt = s.mgt := rfl

@[simp] theorem voteHw_mgt (s : State) (slot d : Nat) (on : Bool) : (voteHw s slot d on).mgt = s.mgt := by
  unfold voteHw
  repeat' split
  all_goals simp

@[simp] theorem forceP1_mgt (s : State) (d : Nat) : (forceP1 s d).mgt = s.mgt := by
  unfold forceP1
  dsimp only
  repeat' split
  all_goals simp

@[simp] theorem dmaVotes_mgt (s : State) (j : Nat) : (dmaVotes s j).mgt = s.mgt := by
  unfold dmaVotes
  simp only [each_mgt, forceP1_mgt, voteHw_mgt, implies_true]

@[simp] theorem copyPi_mgt (s : State) (o : Owner) (q pi : Nat) : (copyPi s o q pi).mgt = s.mgt := by
  unfold copyPi
  split <;> simp

@[simp] theorem copyCi_mgt (s : State) (o : Owner) (q ci : Nat) : (copyCi s o q ci).mgt = s.mgt := by
  unfold copyCi
  dsimp only
  repeat' split
  all_goals simp

@[simp] theorem mirror_mgt (s : State) (k : Nat) : (mirror s k).mgt = s.mgt := by
  unfold mirror
  repeat' split
  all_goals simp

@[simp] theorem writeCq_mgt (s : State) (k : Nat) (dws : List Word) (irq : Bool) : (writeCq s k dws irq).mgt = s.mgt := by
  unfold writeCq
  dsimp only
  repeat' split
  all_goals simp

@[simp] theorem cqFilled_mgt (s : State) (k : Nat) : (cqFilled s k).mgt = s.mgt := by
  unfold cqFilled
  repeat' split
  all_goals simp

@[simp] theorem postEntry_mgt (s : State) (t : Nat) (x : Tq) (p : Post) : (postEntry s t x p).mgt = s.mgt := by simp [postEntry]

@[simp] theorem closeBatch_mgt (s : State) (t : Nat) : (closeBatch s t).mgt = s.mgt := by
  unfold closeBatch
  repeat' split
  all_goals simp

@[simp] theorem advanceCi_mgt (s : State) (t : Nat) (ci : Nat) : (advanceCi s t ci).mgt = s.mgt := by
  unfold advanceCi
  split <;> simp

@[simp] theorem snoop_mgt (s : State) (ep : Nat) (setup : List Byte) : (snoop s ep setup).mgt = s.mgt := by
  unfold snoop
  dsimp only
  repeat' split
  all_goals simp

@[simp] theorem doPost_mgt (s : State) (t : Nat) : (doPost s t).mgt = s.mgt := by
  unfold doPost
  dsimp only
  repeat' split
  all_goals simp

@[simp] theorem noteFull_mgt (s : State) (t : Nat) : (noteFull s t).mgt = s.mgt := by
  unfold noteFull
  repeat' split
  all_goals simp

@[simp] theorem drainPosts_mgt (s : State) (t : Nat) : (drainPosts s t).mgt = s.mgt := by
  unfold drainPosts
  split
  · rfl
  · rw [noteFull_mgt]
    exact each_mgt _ _ _ fun s _ => by
      split
      · split <;> simp
      · rfl

@[simp] theorem noteSpill_mgt (s : State) : (noteSpill s).mgt = s.mgt := rfl

@[simp] theorem leaveLists_mgt (s : State) (c : Nat) (post : Bool) : (leaveLists s c post).mgt = s.mgt := rfl

@[simp] theorem dropWork_mgt (s : State) (t c : Nat) : (dropWork s t c).mgt = s.mgt := by
  unfold dropWork
  repeat' split
  all_goals simp

@[simp] theorem writeAbort_mgt (s : State) (t : Nat) : (writeAbort s t).mgt = s.mgt := by
  unfold writeAbort
  dsimp only
  repeat' split
  all_goals simp

@[simp] theorem dropRef_mgt (s : State) (o : Owner) (q : Nat) : (dropRef s o q).mgt = s.mgt := rfl

@[simp] theorem endStop_mgt (s : State) (t : Nat) (why : Stop) : (endStop s t why).mgt = s.mgt := by
  unfold endStop
  dsimp only
  repeat' split
  all_goals simp

@[simp] theorem noteFree_mgt (s : State) : (noteFree s).mgt = s.mgt := rfl

@[simp] theorem releaseBuf_mgt (s : State) (e : Ep) : (releaseBuf s e).mgt = s.mgt := rfl

@[simp] theorem setBeats_mgt (s : State) (ch : Nat) (b : Beats) : (setBeats s ch b).mgt = s.mgt := rfl

@[simp] theorem readBeat_mgt (s : State) (ch : Nat) (o : Owner) (a : Nat) : (readBeat s ch o a).mgt = s.mgt := by
  unfold readBeat
  split <;> simp

@[simp] theorem readOn_mgt (s : State) (ch : Nat) : (readOn s ch).mgt = s.mgt := by
  unfold readOn
  dsimp only
  repeat' split
  all_goals simp

@[simp] theorem dropChan_mgt (s : State) (ch : Nat) : (dropChan s ch).mgt = s.mgt := by
  unfold dropChan
  dsimp only
  split
  · rw [dmaVotes_mgt]
    split <;> simp [foldl_mgt _ s (fun s (p : Nat × Word) => wr s p.1 p.2) fun _ _ => rfl]
  · simp

@[simp] theorem freeOp_mgt (s : State) (c : Nat) (w : Work) : (freeOp s c w).mgt = s.mgt := by
  unfold freeOp
  dsimp only
  repeat' split
  all_goals simp

@[simp] theorem wheelPut_mgt (s : State) (a : Nat) (d : List Byte) : (wheelPut s a d).mgt = s.mgt := by
  unfold wheelPut
  split <;> simp

/-- Writes of the wheel's region in turn. -/
theorem each_wheelPut_mgt {α : Type} (l : List α) (s : State) (a : State → α → Nat) (d : State → α → List Byte) :
    (each l s fun s x => wheelPut s (a s x) (d s x)).mgt = s.mgt := by
  unfold each
  induction l generalizing s with
  | nil => rfl
  | cons x l ih => rw [List.foldl_cons, ih, wheelPut_mgt]

@[simp] theorem writeChanges_mgt (old s : State) : (writeChanges old s).mgt = s.mgt := by
  have twoPasses : writeChanges old s = each _ (each _ s fun s (b : Nat × List Word) => wheelPut s (blockAddr s b.1) (wordBytes b.2))
      fun s n => wheelPut s (wheelBase s + 8 * n) (leBytes 8 (slotWord s s.pln.wheel n)) := rfl
  rw [twoPasses, each_wheelPut_mgt _ _ (fun s n => wheelBase s + 8 * n) fun s n => leBytes 8 (slotWord s s.pln.wheel n),
    each_wheelPut_mgt _ _ (fun s (b : Nat × List Word) => blockAddr s b.1) fun _ (b : Nat × List Word) => wordBytes b.2]

@[simp] theorem dropPse_mgt (s : State) (c : Nat) (e : Ep) (phase : Nat) : (dropPse s c e phase).mgt = s.mgt := by
  unfold dropPse
  dsimp only
  repeat' split
  all_goals simp

@[simp] theorem leaveCohort_mgt (s : State) (n : Option Nat) (c : Nat) : (leaveCohort s n c).mgt = s.mgt := rfl

@[simp] theorem releaseRsv_mgt (s : State) (c : Nat) : (releaseRsv s c).mgt = s.mgt := by
  unfold releaseRsv
  repeat' split
  all_goals simp

@[simp] theorem unbind_mgt (s : State) (c : Nat) : (unbind s c).mgt = s.mgt := by
  unfold unbind
  dsimp only
  repeat' split
  all_goals simp

@[simp] theorem removeTq_mgt (s : State) (t : Nat) : (removeTq s t).mgt = s.mgt := by
  unfold removeTq
  dsimp only
  repeat' split
  all_goals simp

@[simp] theorem flushMarks_mgt (s : State) (n : Nat) : (flushMarks s n).mgt = s.mgt := rfl

@[simp] theorem dropObjects_mgt (s : State) (n : Nat) : (dropObjects s n).mgt = s.mgt := by simp [dropObjects]

@[simp] theorem dropPorts_mgt (s : State) (n : Nat) : (dropPorts s n).mgt = s.mgt := by
  exact each_mgt _ _ _ fun s p => by split <;> simp

end Sys2Proof.Machine
end

section
/-!
PROOFS. Functions, their resets, mailboxes and masks (R241 to R258; O54).
-/
namespace Sys2Proof.Machine

/-! ### What an event leaves of the instances -/

@[simp] theorem setEgress_inst (s : State) (ringB : Bool) (e : Egress) : (setEgress s ringB e).inst = s.inst := by
  unfold setEgress
  split <;> rfl

@[simp] theorem queueCell_inst (s : State) (ringB transit : Bool) (c : Cell) : (queueCell s ringB transit c).inst = s.inst :=
  setEgress_inst _ _ _

@[simp] theorem enqueue_inst (s : State) (ringB transit : Bool) (c : Cell) : (enqueue s ringB transit c).inst = s.inst := by
  unfold enqueue
  repeat' split
  all_goals simp

@[simp] theorem inject_inst (s : State) (c : Cell) : (inject s c).inst = s.inst := enqueue_inst _ _ _ _

@[simp] theorem waitCell_inst (s : State) (c : Cell) : (waitCell s c).inst = s.inst := rfl

@[simp] theorem submit_inst (s : State) (c : Cell) : (submit s c).inst = s.inst := by
  unfold submit
  dsimp only
  repeat' split
  all_goals simp

@[simp] theorem sendCell_inst (s : State) (dst typ cls auth : Nat) (tag : Word) (d : List Byte) :
    (sendCell s dst typ cls auth tag d).inst = s.inst := submit_inst _ _

/-- An instance that takes the place of one in the same state leaves the state of every instance. -/
theorem setInst_state {s : State} {k : Nat} {i : Inst} (h : i.state = (instAt s k).state) (j : Nat) :
    (instAt (setInst s k i) j).state = (instAt s j).state := by
  by_cases hj : j = k
  · rw [hj, instAt_setInst, h]
  · rw [instAt_setInst_ne _ _ _ _ hj]

/-- A message or its pending bit leaves the state of every instance. -/
theorem msix_state (s : State) (o : Owner) (v : BitVec 8) (j : Nat) : (instAt (msix s o v) j).state = (instAt s j).state := by
  unfold msix
  dsimp only
  split
  · refine setInst_state ?_ j
    rfl
  · rw [instAt_emit]

theorem posEvent_state (s : State) (p j : Nat) : (instAt (posEvent s p) j).state = (instAt s j).state := by
  unfold posEvent
  generalize adr pTen _ = a
  dsimp only
  split
  · rw [msix_state, instAt_wr]
  · rw [instAt_wr]

theorem pageIntr_state (s : State) (j : Nat) : (instAt (pageIntr s) j).state = (instAt s j).state := by
  unfold pageIntr
  split
  · rfl
  · split
    · rw [instAt_of (sendCell_inst _ _ _ _ _ _ _)]
    · exact posEvent_state _ _ _

theorem intrBits_state (s : State) (m : Word) (j : Nat) : (instAt (intrBits s m) j).state = (instAt s j).state := by
  unfold intrBits each
  induction (List.range 32).filter (fun n => bit m n) generalizing s with
  | nil => rfl
  | cons n l ih => rw [List.foldl_cons, ih, pageIntr_state]

/-- An event, with its interrupt, leaves the state of every instance. -/
theorem evt_state (s : State) (page n j : Nat) : (instAt (evt s page n) j).state = (instAt s j).state := by
  unfold evt evtSet
  dsimp only
  rw [intrBits_state, instAt_wr]

/-! ### The end of a reset -/

/-- The state of an instance after its reset (R251): ACTIVE again, unless it is removed and NumVFs does not reach it. -/
theorem endReset_state {s : State} {n : Nat} (hm : isMember s = false) (h4 : (instAt s n).state = 4) :
    (instAt (endReset s n) n).state = if (instAt s n).removing = false ∨ n < s.mgt.vfs then 1 else 0 := by
  have hhere : ¬ isMember s = true := by simp [hm]
  have hres : ¬ ((instAt s n).state != 4) = true := by simp [h4]
  have hmgt (s0 : State) (h0 : s0.mgt = s.mgt) :
      (if (instAt s n).removing then dropPorts (dropObjects s0 n) n else dropObjects s0 n).mgt = s.mgt := by
    split <;> simp [h0]
  have hfrom : (if (instAt s n).unqReset then zeroRead s (ownerOf n) else s).mgt = s.mgt := by
    split <;> simp
  unfold endReset
  dsimp only
  rw [if_neg hhere, if_neg hres, evt_state, instAt_setInst, hmgt _ hfrom]
  simp only [Bool.or_eq_true, Bool.not_eq_true', decide_eq_true_eq]

theorem endReset_member {s : State} {n : Nat} (hm : isMember s = true) :
    endReset s n =
      (let s1 := dropObjects (setInst s n { instAt s n with away := 0, quiesce := none }) n
       if bit (freeNow s) 0 then dropPorts (freeStep s1) n else freeStep s1) := by
  unfold endReset
  dsimp only
  rw [if_pos hm]

theorem endReset_idle {s : State} {n : Nat} (hm : isMember s = false) (h : (instAt s n).state ≠ 4) : endReset s n = s := by
  have hhere : ¬ isMember s = true := by simp [hm]
  unfold endReset
  dsimp only
  rw [if_neg hhere, if_pos (by simpa using h)]

/-! ### The commands of instances -/

/-- Behind an inactive endpoint no command of a function reaches anything (R6). -/
theorem functions_inactive {s : State} (h : epActive s = false) (n : BitVec 11) (i : BitVec 10) (o : Owner) (k : MaskCond) :
    exec (.vfEnable n) s = .next s ∧ exec (.vfRemoval n) s = .next s ∧ exec (.functionLevelReset i) s = .next s
      ∧ exec (.msixUnmask o k) s = .next s := by
  have hoff : ¬ epActive s = true := by simp [h]
  have hno (b : Bool) : ¬ (epActive s && b) = true := by simp [h]
  exact ⟨congrArg Host.Outcome.next (if_neg hoff), congrArg Host.Outcome.next (if_neg (hno _)),
    congrArg Host.Outcome.next (if_neg (hno _)), congrArg Host.Outcome.next (if_neg hoff)⟩

/-- VF_ENABLE sets the number of functions, VF_REMOVAL to no more than there are (R242, R251). -/
theorem exec_vfEnable {s : State} (h : epActive s = true) (n : BitVec 11) : exec (.vfEnable n) s = .next (setVfs s n.toNat) :=
  congrArg Host.Outcome.next (if_pos h)

theorem exec_vfRemoval {s : State} (h : epActive s = true) (n : BitVec 11) :
    exec (.vfRemoval n) s = .next (if n.toNat ≤ s.mgt.vfs then setVfs s n.toNat else s) := by
  change Host.Outcome.next (if epActive s && decide (n.toNat ≤ s.mgt.vfs) then setVfs s n.toNat else s) = _
  simp [h]

/-- A Function Level Reset resets an instance that is enabled and not already in a reset (R251). -/
theorem exec_functionLevelReset {s : State} (h : epActive s = true) (i : BitVec 10) :
    exec (.functionLevelReset i) s = .next
      (if (instAt s i.toNat).state = 1 ∨ (instAt s i.toNat).state = 2 ∨ (instAt s i.toNat).state = 3 then beginReset s i.toNat false
        else s) := by
  change Host.Outcome.next (if epActive s && _ then beginReset s i.toNat false else s) = _
  simp [h, or_assoc]

/-- The end of a mask at an active endpoint (R256). -/
theorem exec_msixUnmask {s : State} (h : epActive s = true) (o : Owner) (k : MaskCond) :
    exec (.msixUnmask o k) s = .next (unmask s o k) :=
  congrArg Host.Outcome.next (if_pos h)

theorem unmask_vector (s : State) (o : Owner) (v : BitVec 8) :
    unmask s o (.vector v) = msixFlush (setInst s (ownerKey o)
      (if v.toNat < vectors o ∧ (instAt s (ownerKey o)).unmasked.contains v = false then
        { instAt s (ownerKey o) with unmasked := (instAt s (ownerKey o)).unmasked ++ [v] } else instAt s (ownerKey o))) o := by
  simp [unmask]

theorem exec_instanceResetDone (s : State) (i : BitVec 10) : exec (.instanceResetDone i) s = .next (endReset s i.toNat) := rfl

/-- QUIESCE_DONE ends a quiesce of which nothing is in service any more (R248). -/
theorem exec_quiesceDone (s : State) (i : BitVec 10) :
    exec (.quiesceDone i) s = .next
      (if phaseHere s (instAt s i.toNat) = 2 ∧ instStill s (.inst i) = true then endQuiesce s i.toNat else s) := by
  change Host.Outcome.next (if phaseHere s (instAt s i.toNat) == 2 && instStill s (.inst i) then endQuiesce s i.toNat else s) = _
  simp

/-- The tenant's doorbells act through an open window alone (R84, R244). -/
theorem exec_tenantInRelease (s : State) (i : BitVec 10) :
    exec (.tenantInRelease i) s = .next (if windowOpen s (.inst i) = true then tenantIn s i.toNat else s) := rfl

theorem exec_tenantOutPost (s : State) (i : BitVec 10) :
    exec (.tenantOutPost i) s = .next (if windowOpen s (.inst i) = true then tenantOut s i.toNat else s) := rfl

/-- The manager's doorbells, through the gate (R244). -/
theorem exec_managerInPost {s : State} {src : Src} (h : gate s src pTen 0x090 true = .ok) :
    exec (.managerInPost src) s = .next (managerIn s) :=
  congrArg Host.Outcome.next (gatedW_ok h)

theorem exec_managerOutRelease {s : State} {src : Src} (h : gate s src pTen 0x090 true = .ok) :
    exec (.managerOutRelease src) s = .next (managerOut s) :=
  congrArg Host.Outcome.next (gatedW_ok h)

/-! ### Mailboxes (R244) -/

/-- A tenant's doorbell on its inbound mailbox releases a full one, and changes nothing of an empty one. -/
theorem tenantIn_eq (s : State) (n : Nat) :
    tenantIn s n = if (instAt s n).inFull = true then evt (setInst s n { instAt s n with inFull := false }) pTen 1 else s := rfl

/-- A tenant's doorbell on its outbound mailbox changes nothing of a full one. -/
theorem tenantOut_full {s : State} {n : Nat} (h : (instAt s n).outFull = true) : tenantOut s n = s := if_pos h

/-- It posts an empty one, with its event, and with the vector that TEN_MBX_CFG enables. -/
theorem tenantOut_empty {s t : State} {n : Nat} (h : (instAt s n).outFull = false)
    (ht : t = evt (setInst s n { instAt s n with outFull := true }) pTen 0) :
    tenantOut s n =
      if rb t pTen TEN_MBX_CFG_EN = true then msix t .mgr (BitVec.ofNat 8 (rf t pTen TEN_MBX_CFG_VECTOR)) else t := by
  subst ht
  exact if_neg (by simp [h])

/-- The manager's post over a full mailbox is an error. -/
theorem managerIn_full {s : State} (h : (instAt s (selInst s)).inFull = true) : managerIn s = err s pTen 4 := if_pos h

/-- The manager's post fills an empty mailbox, and interrupts the tenant where it asks for it. -/
theorem managerIn_empty {s t : State} (h : (instAt s (selInst s)).inFull = false)
    (ht : t = setInst s (selInst s) { instAt s (selInst s) with inFull := true }) :
    managerIn s =
      if bit (instAt s (selInst s)).mbxCtl 2 = true then msix t (ownerOf (selInst s)) (mbxVec (instAt s (selInst s))) else t := by
  subst ht
  exact if_neg (by simp [h])

/-- The manager's release of a full mailbox empties it, and interrupts the tenant where it asks for it. -/
theorem managerOut_full {s t : State} (h : (instAt s (selInst s)).outFull = true)
    (ht : t = setInst s (selInst s) { instAt s (selInst s) with outFull := false }) :
    managerOut s =
      if bit (instAt s (selInst s)).mbxCtl 3 = true then msix t (ownerOf (selInst s)) (mbxVec (instAt s (selInst s))) else t := by
  subst ht
  exact if_pos h

/-- The manager's release of an empty mailbox changes nothing. -/
theorem managerOut_empty {s : State} (h : (instAt s (selInst s)).outFull = false) : managerOut s = s := if_neg (by simp [h])

/-- Settles O54: every command of a function by the equation of its meaning; the state after a reset by `endReset_state`, since nothing
that a reset drops touches NumVFs. -/
theorem instanceLife : Obligations.InstanceLife := by
  refine ⟨fun s => ⟨functions_inactive, fun h => ⟨exec_vfEnable h, fun n => ?removal, fun i => ?flr, fun o => ?masks⟩,
    fun i => ⟨fun hm h4 => ?notReset, fun hm => ?member, fun hm h4 => ⟨exec_instanceResetDone s i, endReset_state hm h4⟩,
      fun hp hs => ?quiesced, fun hq => ?notQuiesced⟩⟩, fun s i => ⟨fun hw => ?closed, fun hw => ?tenant⟩, fun s src hg => ?manager⟩
  case removal =>
    rw [exec_vfRemoval h]
    exact ⟨fun hn => by rw [if_pos hn], fun hn => by rw [if_neg (by omega)]⟩
  case flr =>
    rw [exec_functionLevelReset h]
    refine ⟨fun hst => by rw [if_pos hst], fun hst => congrArg Host.Outcome.next (if_neg ?_)⟩
    rcases hst with hst | hst <;> simp [hst]
  case masks =>
    simp only [exec_msixUnmask h, unmask_vector]
    refine ⟨rfl, rfl, fun v hv hc => by rw [if_pos ⟨hv, hc⟩], fun v hv => ?_⟩
    have hkept : ¬ (v.toNat < vectors o ∧ (instAt s (ownerKey o)).unmasked.contains v = false) := by
      rintro ⟨hlt, hc⟩
      rcases hv with hv | hv
      · exact absurd hlt (by omega)
      · exact absurd (hv.symm.trans hc) (by decide)
    rw [if_neg hkept]
  case notReset => rw [exec_instanceResetDone, endReset_idle hm h4]
  case member => rw [exec_instanceResetDone, endReset_member hm]
  case quiesced => rw [exec_quiesceDone, if_pos ⟨hp, hs⟩]
  case notQuiesced =>
    rw [exec_quiesceDone, if_neg ?_]
    rintro ⟨hp, hs⟩
    exact hq.elim (fun h => h hp) fun h => absurd (hs.symm.trans h) (by decide)
  case closed =>
    have hshut : ¬ windowOpen s (.inst i) = true := by simp [hw]
    rw [exec_tenantInRelease, exec_tenantOutPost, if_neg hshut, if_neg hshut]
    exact ⟨rfl, rfl⟩
  case tenant =>
    rw [exec_tenantInRelease, exec_tenantOutPost, if_pos hw, if_pos hw, tenantIn_eq]
    refine ⟨fun hf => by rw [if_pos hf], fun hf => by rw [if_neg (by simp [hf])], fun hf => by rw [tenantOut_full hf],
      fun hf => ⟨fun he => ?_, fun he => ?_⟩⟩
    · rw [tenantOut_empty hf rfl, if_pos he]
    · rw [tenantOut_empty hf rfl, if_neg (by simp [he])]
  case manager =>
    rw [exec_managerInPost hg, exec_managerOutRelease hg]
    refine ⟨fun hf => by rw [managerIn_full hf], fun hf hi => ?_, fun hf hi => ?_, fun hf hi => ?_, fun hf hi => ?_,
      fun hf => by rw [managerOut_empty hf]⟩
    · rw [managerIn_empty hf rfl, if_neg (by simp [hi])]
    · rw [managerIn_empty hf rfl, if_pos hi]
    · rw [managerOut_full hf rfl, if_neg (by simp [hi])]
    · rw [managerOut_full hf rfl, if_pos hi]

end Sys2Proof.Machine
end

section
/-!
PROOFS. The writes of a mode and the completion of a transition (R29 to R32, R102; O7, O9).
-/
namespace Sys2Proof.Machine

/-! ### The writes of a mode (R29, R102) -/

/-- A mode write that the gate lets through. -/
theorem modeCmd_ok {s : State} {src : Src} {v : Nat} (h : gate s src pMgt 0x04C true = .ok) : modeCmd s src v = modeWrite s src v :=
  gatedW_ok h

/-- A write that no check refuses: the mode is another than 7 and no transition is pending, the write has its row, its cause and its
condition, and no write but that of HOLD is one of a duplicated position. -/
def modeGood (s : State) (src : Src) (v : Nat) : Prop :=
  v ≠ 7 ∧ pendingMode s = false ∧ modeRow (mode s) v (prevMode s) = true ∧ modeCause (mode s) v src = true
    ∧ (rb s pRing RING_POSITION_DUP = false ∨ v = 0) ∧ modeCond s v = true

/-- Its answer: a rejoin out of SEVERED, and the transition elsewhere. -/
theorem modeAnswer_good {s : State} {src : Src} {v : Nat} (h : modeGood s src v) :
    modeAnswer s src v = if mode s = 4 ∧ v ≠ 0 then .rejoin else .accept := by
  obtain ⟨h7, hpend, hrow, hcause, hdup, hcond⟩ := h
  have hnodup : ¬ (rb s pRing RING_POSITION_DUP && v != 0) = true := by rcases hdup with h | h <;> simp [h]
  unfold modeAnswer
  rw [if_neg (by simpa using h7), if_neg (by simp [hpend]), if_neg (by simp [hrow]), if_neg (by simp [hcause]), if_neg hnodup,
    if_neg (by simp [hcond])]
  simp only [Bool.and_eq_true, beq_iff_eq, bne_iff_ne]

/-- Such a write is accepted where it is no rejoin. -/
theorem modeWrite_accept {s : State} {src : Src} {v : Nat} (h : modeGood s src v) (hm : ¬ (mode s = 4 ∧ v ≠ 0)) :
    modeWrite s src v = modeAccept s v := by
  unfold modeWrite
  rw [modeAnswer_good h, if_neg hm]

theorem modeWrite_rejoin {s : State} {src : Src} {v : Nat} (h : modeGood s src v) (hm : mode s = 4) (hv : v ≠ 0) :
    modeWrite s src v = rejoinStart s := by
  unfold modeWrite
  rw [modeAnswer_good h, if_pos ⟨hm, hv⟩]

/-- Out of HOLD a write with its cause and its condition is accepted (R29). -/
theorem modeCmd_fromHold {s : State} {src : Src} {v : Nat} (hg : gate s src pMgt 0x04C true = .ok) (hm : mode s = 0)
    (hp : pendingMode s = false) (hdup : rb s pRing RING_POSITION_DUP = false) (hv : v = 1 ∨ v = 2 ∨ v = 3 ∨ v = 5 ∨ v = 6)
    (hcause : modeCause 0 v src = true) (hcond : modeCond s v = true) : modeCmd s src v = modeAccept s v := by
  rw [modeCmd_ok hg]
  refine modeWrite_accept ⟨by omega, hp, ?_, by rwa [hm], .inl hdup, hcond⟩ (by omega)
  rw [hm]
  rcases hv with rfl | rfl | rfl | rfl | rfl <;> rfl

/-- A write of HOLD by the manager is accepted in every mode of its rows (R29). -/
theorem modeWrite_hold {s : State} {src : Src} (hp : pendingMode s = false) (hmgr : isManager src = true)
    (hm : mode s = 1 ∨ mode s = 2 ∨ mode s = 3 ∨ mode s = 4 ∨ mode s = 5) : modeWrite s src 0 = modeAccept s 0 := by
  refine modeWrite_accept ⟨by decide, hp, ?_, ?_, .inr rfl, ?_⟩ (by simp)
  · rcases hm with h | h | h | h | h <;> simp [modeRow, h]
  · simp [modeCause, hmgr]
  · simp [modeCond]

/-- Settles O7: every write by the answer that its row, its cause and its condition give. -/
theorem modeRequested : Obligations.ModeRequested := by
  refine ⟨fun s src hg hm hp hdup => ?fromHold, fun s src hg hp hmgr => ⟨fun hm => ?hold, fun v hm hv hv23 hring hdup => ?rejoin⟩⟩
  case fromHold =>
    have accepted {v : Nat} := modeCmd_fromHold (v := v) hg hm hp hdup
    refine ⟨fun hmgr hlink hpart => ?_, fun hmgr hlink hel => ?_, fun tag hsrc hel => ?_, fun hsrc => ⟨?_, ?_⟩⟩
    · exact congrArg Host.Outcome.next (accepted (.inl rfl) (by simp [modeCause, hmgr]) (by simp [modeCond, hm, hlink, hpart]))
    · exact congrArg Host.Outcome.next (accepted (.inr (.inl rfl)) (by simp [modeCause, hmgr]) (by simp [modeCond, hm, hlink, hel]))
    · exact congrArg Host.Outcome.next (accepted (.inr (.inr (.inl rfl))) (by simp [modeCause, hsrc]) (by simpa [modeCond, hm] using hel))
    · exact congrArg Host.Outcome.next
        (accepted (.inr (.inr (.inr (.inl rfl)))) (by simpa [modeCause] using hsrc) (by simp [modeCond, hm]))
    · exact congrArg Host.Outcome.next
        (accepted (.inr (.inr (.inr (.inr rfl)))) (by simpa [modeCause] using hsrc) (by simp [modeCond, hm]))
  case hold => exact congrArg Host.Outcome.next ((modeCmd_ok hg).trans (modeWrite_hold hp hmgr hm))
  case rejoin =>
    have hne : v.toNat = 2 ∨ v.toNat = 3 := by rcases hv23 with rfl | rfl <;> simp
    have hgood : modeGood s src v.toNat := by
      refine ⟨by omega, hp, ?_, ?_, .inl hdup, ?_⟩
      · simp [modeRow, hm, hv]
      · rcases hne with h | h <;> simp [modeCause, hm, h, hmgr]
      · rcases hne with h | h <;> simp [modeCond, hm, h, hring]
    exact congrArg Host.Outcome.next ((modeCmd_ok hg).trans (modeWrite_rejoin hgood hm (by omega)))

/-! ### The completion of a transition (R102) -/

/-- Toward HOLD it waits for the stops of R31. -/
theorem completeMode_hold {s s1 : State} (hp : pendingMode s = true) (ht : targetMode s = 0) (hs : s1 = each (allTqs s) s holdTq) :
    completeMode s = if s1.que.tqs.any (fun t => t.2.stop.isSome) then s1 else enterHold s1 := by
  subst hs
  unfold completeMode
  rw [if_neg (by simp [hp])]
  exact if_pos (by simp [ht])

/-- A rejoin waits for its release microframe. -/
theorem completeMode_rejoin {s : State} (hp : pendingMode s = true) (hm : mode s = 4) (ht : targetMode s ≠ 0) : completeMode s = s := by
  unfold completeMode
  rw [if_neg (by simp [hp])]
  exact (if_neg (by simpa using ht)).trans (if_pos (by simp [hm]))

/-- Any other transition enters its mode at once. -/
theorem completeMode_enter {s : State} (hp : pendingMode s = true) (hm : mode s ≠ 4) (ht : targetMode s ≠ 0) :
    completeMode s =
      if targetMode s = 1 then enterStandalone s
      else if targetMode s = 2 then pendBreak (enterHead s)
      else if targetMode s = 3 then pendBreak (enterMember s)
      else if targetMode s = 6 then enterRecovery s
      else rewriteWheel (takeMode s 5) := by
  have h0 : ¬ (targetMode s == 0) = true := by simpa using ht
  have h4 : ¬ (mode s == 4) = true := by simpa using hm
  unfold completeMode
  rw [if_neg (by simp [hp])]
  dsimp only
  rw [if_neg h0, if_neg h4]
  simp only [beq_iff_eq]

/-! ### What taking a mode writes (R25, R102) -/

/-- An event of the service port's record leaves every register but SVC_STATUS (R208). -/
theorem rf_svcEvt (s : State) (e : SvcEvt) (q : Nat) (g : Fld) (h : adr q g.off ≠ adr pSvc 0x040) :
    rf (svcEvt s e) q g = rf s q g :=
  rf_wf_ne _ pSvc q SVC_STATUS_EVT_PENDING g _ h

/-- MODE takes the target. -/
theorem mode_takeMode (s : State) (m : Nat) : mode (takeMode s m) = m % 8 := by
  unfold mode takeMode wb
  simp (disch := decide) only [rf_svcEvt, rf_wf_same, rf_wf_self]
  rfl

/-- PENDING clears. -/
theorem pendingMode_takeMode (s : State) (m : Nat) : pendingMode (takeMode s m) = false := by
  unfold pendingMode takeMode rb wb
  simp (disch := decide) only [rf_svcEvt, rf_wf_same, rf_wf_self]
  rfl

/-- ROLE follows the mode. -/
theorem role_takeMode (s : State) (m : Nat) :
    rf (takeMode s m) pMgt MGT_MODE_ROLE = if m = 1 ∨ m = 2 ∨ m = 3 then m else 0 := by
  unfold takeMode
  simp (disch := decide) only [rf_svcEvt, rf_wf_self]
  by_cases h : m = 1 ∨ m = 2 ∨ m = 3
  · rcases h with rfl | rfl | rfl <;> rfl
  · simp only [not_or] at h
    simp [h]

/-- Settles O9: the completion toward each target by the equation of its entry, and what every entry writes of MGT_MODE. -/
theorem transitionCompletes : Obligations.TransitionCompletes := by
  refine ⟨fun s => ⟨fun hp => ?none, fun hp ht => ⟨fun hstop => ?held, fun hstop => ?stopping⟩, fun hp hm ht => ?rejoin,
    fun hp hm => ?enter⟩, fun s m hm => ⟨(mode_takeMode s m).trans (Nat.mod_eq_of_lt hm),
      pendingMode_takeMode s m, role_takeMode s m, rfl, rfl, rfl, rfl⟩⟩
  case none => exact congrArg Host.Outcome.next (if_pos (by simp [hp]))
  case held => exact congrArg Host.Outcome.next ((completeMode_hold hp ht rfl).trans (if_neg (by simp [hstop])))
  case stopping => exact congrArg Host.Outcome.next ((completeMode_hold hp ht rfl).trans (if_pos hstop))
  case rejoin => exact congrArg Host.Outcome.next (completeMode_rejoin hp hm ht)
  case enter =>
    have entered (ht : targetMode s ≠ 0) := congrArg (Host.Outcome.next (φ := Fault) (ρ := Refusal)) (completeMode_enter hp hm ht)
    refine ⟨fun ht => ?_, fun ht => ?_, fun ht => ?_, fun ht => ?_, fun ht => ?_⟩ <;>
      exact (entered (by omega)).trans (by simp [ht])

end Sys2Proof.Machine
end

section
/-!
SUPPORT. What the cells, the events and the Fault Funnel leave of the registers of page MGT: they write those of pages RING, FLT, TEN and
SVC, and of the page that an event or an error bit names.
-/
namespace Sys2Proof.Machine

/-- A register of page MGT is none of another page's. -/
theorem ne_adr_of_mgt {a page off : Nat} (ha : a < 0x1000) (hp : 0 < page) : a ≠ adr page off := by
  unfold adr
  omega

/-- A write of another page's register leaves those of page MGT. -/
theorem rd_wr_mgt {s : State} {a page off : Nat} {v : Word} (ha : a < 0x1000) (hp : 0 < page) : rd (wr s (adr page off) v) a = rd s a :=
  rd_wr_ne _ _ _ _ (ne_adr_of_mgt ha hp)

theorem rd_wf_mgt {s : State} {a page : Nat} {f : Fld} {v : Nat} (ha : a < 0x1000) (hp : 0 < page) : rd (wf s page f v) a = rd s a :=
  rd_wr_mgt ha hp

theorem rd_incF_mgt {s : State} {a page : Nat} {f : Fld} (ha : a < 0x1000) (hp : 0 < page) : rd (incF s page f) a = rd s a :=
  rd_wr_mgt ha hp

/-- Operations in turn leave a register when each of them does. -/
theorem rd_each {α : Type} {l : List α} {s : State} {f : State → α → State} {a : Nat} (hf : ∀ s x, rd (f s x) a = rd s a) :
    rd (each l s f) a = rd s a := by
  unfold each
  induction l generalizing s with
  | nil => rfl
  | cons x l ih => exact (ih (s := f s x)).trans (hf s x)

/-- A frame that joins the sideband's queue leaves the registers. -/
@[simp] theorem rd_sbdFault (s : State) (l : BitVec 64) (code : BitVec 16) (z : Nat) : rd (sbdFault s l code) z = rd s z := by
  unfold sbdFault
  dsimp only
  split <;> rfl

/-- R289 changes records and the sideband's queue alone. -/
@[simp] theorem rd_chipLost (s : State) (i z : Nat) : rd (chipLost s i) z = rd s z := by
  unfold chipLost
  dsimp only
  split
  · rfl
  · split
    · split
      · rw [rd_sbdFault, rd_setRec, rd_setRec]
      · rfl
    · rfl

section
variable {a : Nat} (ha : a < 0x1000)
include ha

/-! ### Cells -/

theorem rd_enqueue_mgt (s : State) (ringB transit : Bool) (c : Cell) : rd (enqueue s ringB transit c) a = rd s a := by
  have hqueue (b : Bool) (c : Cell) : rd (queueCell s b transit c) a = rd s a := by cases b <;> rfl
  unfold enqueue
  split_ifs
  · exact hqueue _ _
  · exact hqueue _ _
  · rfl
  · exact rd_incF_mgt ha (by decide)

theorem rd_submit_mgt (s : State) (c : Cell) : rd (submit s c) a = rd s a := by
  unfold submit
  dsimp only
  split_ifs
  · rfl
  · rfl
  · rfl
  · exact rd_enqueue_mgt ha _ _ _ _
  · rfl
  · exact rd_enqueue_mgt ha _ _ _ _

theorem rd_sendCell_mgt (s : State) (dst typ cls auth : Nat) (tag : Word) (d : List Byte) :
    rd (sendCell s dst typ cls auth tag d) a = rd s a := rd_submit_mgt ha _ _

/-! ### Events -/

theorem rd_posEvent_mgt (s : State) (p : Nat) : rd (posEvent s p) a = rd s a := by
  have hmsix (s : State) (o : Owner) (v : BitVec 8) : rd (msix s o v) a = rd s a := by
    unfold msix
    dsimp only
    split <;> simp
  unfold posEvent
  generalize (if p < 32 then 0x09C else 0x0A0) = off
  dsimp only
  split
  · rw [hmsix, rd_wr_mgt ha (by decide)]
  · exact rd_wr_mgt ha (by decide)

theorem rd_pageIntr_mgt (s : State) : rd (pageIntr s) a = rd s a := by
  unfold pageIntr
  split_ifs
  · rfl
  · exact rd_sendCell_mgt ha _ _ _ _ _ _ _
  · exact rd_posEvent_mgt ha _ _

theorem rd_evt_mgt {page : Nat} (hp : 0 < page) (s : State) (n : Nat) : rd (evt s page n) a = rd s a :=
  (rd_each fun s _ => rd_pageIntr_mgt ha s).trans (rd_wr_mgt ha hp)

theorem rd_svcEvt_mgt (s : State) (e : SvcEvt) : rd (svcEvt s e) a = rd s a := rd_wf_mgt (page := pSvc) ha (by decide)

/-! ### The Fault Funnel -/

theorem rd_errBit_mgt {page : Nat} (hp : 0 < page) (s : State) (n : Nat) : rd (errBit s page n) a = rd s a := by
  unfold errBit
  dsimp only
  rw [rd_wr_mgt ha hp]
  split
  · exact rd_wr_mgt ha hp
  · rfl

theorem rd_rootCause_mgt (s : State) : rd (rootCause s) a = rd s a :=
  (rd_svcEvt_mgt ha _ _).trans (rd_evt_mgt ha (by decide) _ _)

theorem rd_overflowRec_mgt (s : State) : rd (overflowRec s) a = rd s a := by
  unfold overflowRec
  dsimp only
  split
  · rw [rd_rootCause_mgt ha, rd_errBit_mgt ha (by decide), rd_incF_mgt ha (by decide), rd_setRec]
  · rw [rd_errBit_mgt ha (by decide), rd_incF_mgt ha (by decide), rd_setRec]

theorem rd_tellHead_mgt (s : State) (l : BitVec 64) (code : BitVec 16) : rd (tellHead s l code) a = rd s a := by
  unfold tellHead
  split
  · exact rd_sendCell_mgt ha _ _ _ _ _ _ _
  · rfl

theorem rd_funnelWith_mgt (s : State) (l : BitVec 64) (code : BitVec 16) (tell : Bool) : rd (funnelWith s l code tell).2 a = rd s a := by
  have htold (t : State) : rd (if tell then tellHead t l code else t) a = rd t a := by
    split
    · exact rd_tellHead_mgt ha _ _ _
    · rfl
  have hcount (i : Nat) (r : Rec) : rd (countUnder s i r) a = rd s a := (rd_incF_mgt ha (by decide)).trans (rd_setRec _ _ _ _)
  unfold funnelWith
  dsimp only
  split
  · split
    · exact rd_incF_mgt ha (by decide)
    · exact hcount _ _
  · split
    · exact (htold _).trans (rd_incF_mgt ha (by decide))
    · split
      · exact hcount _ _
      · split
        · exact (rd_chipLost _ _ _).trans (htold _)
        · exact (htold _).trans (rd_overflowRec_mgt ha _)

theorem rd_report_mgt (s : State) (l : BitVec 64) (code : BitVec 16) : rd (report s l code) a = rd s a := rd_funnelWith_mgt ha _ _ _ _

theorem rd_err_mgt {page : Nat} (hp : 0 < page) (s : State) (n : Nat) : rd (err s page n) a = rd s a := by
  unfold err
  dsimp only
  split
  · rw [rd_report_mgt ha, rd_errBit_mgt ha hp]
  · exact rd_errBit_mgt ha hp _ _

/-! ### Accesses -/

theorem rd_errorAnswer_mgt (s : State) (src : Src) (w ur : Bool) : rd (errorAnswer s src w ur) a = rd s a := by
  cases src with
  | ring auth pos tag =>
    cases w
    · exact rd_sendCell_mgt ha _ _ _ _ _ _ _
    · rfl
  | pf => exact rd_of (errorAnswer_frame s _ w ur (by simp)).1 a
  | vf i => exact rd_of (errorAnswer_frame s _ w ur (by simp)).1 a
  | svc => exact rd_of (errorAnswer_frame s _ w ur (by simp)).1 a
  | jtag => exact rd_of (errorAnswer_frame s _ w ur (by simp)).1 a

/-- A cell discarded for its authority. -/
theorem rd_authDrop_mgt (s : State) : rd (authDrop s) a = rd s a :=
  (rd_err_mgt ha (by decide) _ _).trans (rd_incF_mgt ha (by decide))

end

end Sys2Proof.Machine
end

section
/-!
PROOFS. The writes of 7 to MGT_MODE, and what leads out of VAULT (R30; O8).
-/
namespace Sys2Proof.Machine

/-! ### The write of 7 -/

/-- MGT_MODE_REFUSED as a refused write leaves it (R29). -/
def modeRefusedWord (s : State) (v reason : Nat) : Nat :=
  v % 8 + mode s * 2 ^ 4 + reason * 2 ^ 8 + satTo 16 (rf s pMgt MGT_MODE_REFUSED_COUNT + 1) * 2 ^ 16

theorem modeRefuse_eq (s : State) (v reason : Nat) :
    modeRefuse s v reason = wr s (adr pMgt 0x050) (BitVec.ofNat 32 (modeRefusedWord s v reason)) := rfl

/-- Its fields. -/
theorem modeRefusedWord_fields (s : State) (v reason : Nat) (hr : reason < 16) :
    fget (BitVec.ofNat 32 (modeRefusedWord s v reason)) MGT_MODE_REFUSED_REQ = v % 8
      ∧ fget (BitVec.ofNat 32 (modeRefusedWord s v reason)) MGT_MODE_REFUSED_FROM = mode s
      ∧ fget (BitVec.ofNat 32 (modeRefusedWord s v reason)) MGT_MODE_REFUSED_REASON = reason
      ∧ fget (BitVec.ofNat 32 (modeRefusedWord s v reason)) MGT_MODE_REFUSED_COUNT
        = min 65535 (rf s pMgt MGT_MODE_REFUSED_COUNT + 1) := by
  have hm : mode s < 8 := fget_lt _ MGT_MODE_MODE
  have hlt : modeRefusedWord s v reason < 2 ^ 32 := by unfold modeRefusedWord satTo; omega
  simp only [fget_ofNat _ _ hlt]
  simp only [modeRefusedWord, satTo, MGT_MODE_REFUSED_REQ, MGT_MODE_REFUSED_FROM, MGT_MODE_REFUSED_REASON, MGT_MODE_REFUSED_COUNT]
  refine ⟨?_, ?_, ?_, ?_⟩ <;> omega

/-- A write of 7 is refused with reason VAULT. -/
theorem modeWrite_vault (s : State) (src : Src) : modeWrite s src 7 = modeRefuse s 7 4 := rfl

/-! ### In VAULT -/

/-- A refused mode write leaves MGT_MODE. -/
theorem rd_modeRefuse (s : State) (v reason : Nat) : rd (modeRefuse s v reason) (adr pMgt 0x04C) = rd s (adr pMgt 0x04C) :=
  rd_wr_ne _ _ _ _ (by decide)

/-- In VAULT every mode write is refused: no row of R29 starts there. -/
theorem modeWrite_inVault {s : State} {src : Src} {v : Nat} (hm : mode s = 7) (hp : pendingMode s = false) :
    ∃ reason, modeWrite s src v = modeRefuse s v reason := by
  have hrow : modeRow 7 v (prevMode s) = false := by simp [modeRow]
  unfold modeWrite modeAnswer
  by_cases hv : v = 7
  · exact ⟨4, by simp [hv]⟩
  · exact ⟨1, by simp [hv, hp, hm, hrow]⟩

/-- An access to MGT_MODE that does not come to the register leaves it, whatever becomes of it (R83, R93 to R101). -/
theorem rd_gatedW_mode {s : State} {src : Src} {v : Word} {eff : State → State}
    (h : rd (eff s) (adr pMgt 0x04C) = rd s (adr pMgt 0x04C)) :
    rd (gatedW s src pMgt 0x04C v eff) (adr pMgt 0x04C) = rd s (adr pMgt 0x04C) := by
  have hpage : adr pMgt 0x04C < 0x1000 := by decide
  unfold gatedW
  rw [gated_of (b := true) rfl]
  cases gate s src pMgt 0x04C true with
  | ok => exact h
  | refuse r ur =>
    refine (rd_errorAnswer_mgt hpage _ _ _ _).trans ?_
    rw [noteRefused_eq, rd_wr_ne _ _ _ _ (by decide)]
    exact rd_wf_ne _ _ _ MGT_ACCESS_REFUSED_COUNT _ (by decide)
  | drop => exact rd_authDrop_mgt hpage _
  | dark => exact (rd_errorAnswer_mgt hpage _ _ _ _).trans (rd_wf_ne _ _ _ PAGE_DARK_WRITES _ (by decide))
  | wake => exact (rd_each fun s d => rd_setDom s d _ _).trans (rd_wf_ne _ _ _ PAGE_DARK_WAKES _ (by decide))
  | hold => rfl
  | absent => rfl

/-- MODE and PENDING are fields of MGT_MODE. -/
theorem mode_of_rd {s t : State} (h : rd t (adr pMgt 0x04C) = rd s (adr pMgt 0x04C)) : mode t = mode s ∧ pendingMode t = pendingMode s := by
  have hf (f : Fld) (hf : f.off = 0x04C) : rf t pMgt f = rf s pMgt f := by rw [rf, rf, hf, h]
  exact ⟨hf MGT_MODE_MODE rfl, congrArg (· == 1) (hf MGT_MODE_PENDING rfl)⟩

/-- No mode write leads out of VAULT. -/
theorem modeCmd_inVault {s : State} (src : Src) (v : Nat) (hm : mode s = 7) (hp : pendingMode s = false) :
    mode (modeCmd s src v) = 7 ∧ pendingMode (modeCmd s src v) = false := by
  obtain ⟨reason, hw⟩ := modeWrite_inVault (src := src) (v := v) hm hp
  have hkept : rd (modeWrite s src v) (adr pMgt 0x04C) = rd s (adr pMgt 0x04C) := by rw [hw, rd_modeRefuse]
  obtain ⟨hmode, hpend⟩ := mode_of_rd (rd_gatedW_mode (src := src) (v := BitVec.ofNat 32 v) (eff := fun s => modeWrite s src v) hkept)
  exact ⟨hmode.trans hm, hpend.trans hp⟩

/-- Settles O8: the write of 7 is refused before any other check, and in VAULT every write is, whatever becomes of the access. -/
theorem vaultRefused : Obligations.VaultRefused := by
  refine ⟨fun s src hg => ?_, fun s src v c hm hp hc => ?_⟩
  · obtain ⟨hreq, hfrom, hreason, hcount⟩ := modeRefusedWord_fields s 7 4 (by decide)
    exact ⟨_, congrArg Host.Outcome.next ((gatedW_ok hg).trans ((modeWrite_vault s src).trans (modeRefuse_eq s 7 4))),
      (mode_of_rd (rd_modeRefuse s 7 4)).1, hreq, hfrom, hreason, hcount⟩
  · have written (n : Nat) := modeCmd_inVault src n hm hp
    simp only [List.mem_cons, List.not_mem_nil, or_false] at hc
    rcases hc with rfl | rfl | rfl | rfl | rfl | rfl | rfl | rfl | rfl
    case inr.inr.inr.inr.inr.inr.inr.inr => exact ⟨s, congrArg Host.Outcome.next (if_pos (by simp [hp])), hm, hp⟩
    all_goals exact ⟨_, rfl, written _⟩

end Sys2Proof.Machine
end

section
/-!
PROOFS. Power-up, the boot, the chip watchdog and the module (R20, R308, R309, R321, R339; O11).
-/
namespace Sys2Proof.Machine

/-! ### What a reset leaves of the other state -/

/-- The record of the cause changes registers alone. -/
theorem resetChip_mgt (s : State) (cause : Nat) : (resetChip s cause).mgt = (resetCore s cause).mgt := by
  unfold resetChip
  dsimp only
  split <;> simp only [incF_mgt, wf_mgt]

theorem resetChip_ring (s : State) (cause : Nat) : (resetChip s cause).ring = (resetCore s cause).ring := by
  unfold resetChip
  dsimp only
  split <;> simp only [incF_ring, wf_ring]

theorem resetChip_cold (s : State) : rf (resetChip s 0) pAon AON_RESET_CAUSE_CAUSE = 0 :=
  rf_wf_self _ pAon AON_RESET_CAUSE_CAUSE 0 rfl

/-- Power on an unpowered chip: the COLD sequence, with both feeds present (R308). -/
theorem feedUp_unpowered {s : State} (h : s.mgt.boot = .unpowered) :
    (feedUp s).mgt.boot = .inReset ∧ (feedUp s).mgt.pins = s.mgt.pins ∧ rf (feedUp s) pAon AON_RESET_CAUSE_CAUSE = 0
      ∧ (feedUp s).ring.east.feed = true ∧ (feedUp s).ring.west.feed = true := by
  unfold feedUp
  rw [if_pos (by simp [h])]
  refine ⟨?_, ?_, resetChip_cold _, ?_, ?_⟩
  · rw [resetChip_mgt]; rfl
  · rw [resetChip_mgt]; rfl
  · rw [resetChip_ring]; rfl
  · rw [resetChip_ring]; rfl

/-! ### The boot (R308, R313) -/

/-- The release of the reset latches the straps, and the hash check begins. -/
theorem release_mgt (s : State) (straps : Nat) :
    (release s straps).mgt = { s.mgt with pins := BitVec.ofNat 6 straps, boot := .hashing } := by
  have hselected (t : State) (rev fb : Bool) :
      (if rev then err (wf t pNvm NVM_BOOT_BOOT_FAILS 0) pNvm 2 else if fb then err t pNvm 0 else t).mgt = t.mgt := by
    split_ifs <;> simp
  unfold release
  exact hselected _ _ _

theorem release_straps (s : State) (straps : BitVec 6) :
    (release s straps.toNat).mgt.pins = straps ∧ (release s straps.toNat).mgt.boot = .hashing := by
  rw [release_mgt]
  exact ⟨BitVec.ofNat_toNat 6 straps, rfl⟩

/-- A slot whose hash is good is loaded, while the boot has not failed three times. -/
theorem hashDone_good {s : State} (h : hashOk s.nvm (booted s) = true) (hf : rf s pNvm NVM_BOOT_BOOT_FAILS < 3) :
    hashDone s = { s with mgt := { s.mgt with boot := .checking } } := by
  have hfew : ¬ (decide (3 ≤ rf s pNvm NVM_BOOT_BOOT_FAILS) && !s.nvm.fallback) = true := by simp [hf]
  unfold hashDone
  dsimp only
  rw [if_pos h, if_neg hfew]

theorem exitBooted_other {s : State} (h : rf s pAon AON_RESET_CAUSE_CAUSE ≠ 4) : exitBooted s = s := by
  unfold exitBooted
  rw [if_neg (by simp [h])]

/-- The pull-up writes SVC_STATUS alone. -/
theorem rf_svcAttach (s : State) (q : Nat) (g : Fld) (h : adr q g.off ≠ adr pSvc 0x040) : rf (svcAttach s) q g = rf s q g := by
  unfold svcAttach wb
  split
  · rw [rf_wf_ne _ _ _ SVC_STATUS_HIGH_SPEED _ _ h, rf_wf_ne _ _ _ SVC_STATUS_ATTACHED _ _ h]
  · rfl

theorem svcAttach_mgt (s : State) : (svcAttach s).mgt = s.mgt := by
  unfold svcAttach
  split <;> rfl

/-- The end of a boot (R308): MODE, the boot done, the watchdog started. -/
theorem endBoot_mode (s : State) (m cause : Nat) : mode (endBoot s m cause) = m % 8 := by
  unfold mode endBoot
  simp (disch := decide) only [rf_svcAttach, rf_wf_ne, rf_wf_self]
  rfl

theorem endBoot_cause (s : State) (m cause : Nat) : rf (endBoot s m cause) pAon AON_RESET_CAUSE_CAUSE = rf s pAon AON_RESET_CAUSE_CAUSE := by
  unfold endBoot
  simp (disch := decide) only [rf_svcAttach, rf_wf_ne]
  rfl

theorem endBoot_mgt (s : State) (m cause : Nat) : (endBoot s m cause).mgt = { s.mgt with boot := .running, wdogAt := (rct s).toNat } :=
  svcAttach_mgt _

/-- The self-check has passed after another reset than a P5 exit (R308). -/
theorem bootDone_other {s : State} (h : rf s pAon AON_RESET_CAUSE_CAUSE ≠ 4) :
    bootDone s = { endBoot s 0 0 with ring := { (endBoot s 0 0).ring with joinTimer := true } } :=
  exitBooted_other (by rwa [← endBoot_cause s 0 0] at h)

theorem bootDone_state {s : State} (h : rf s pAon AON_RESET_CAUSE_CAUSE ≠ 4) :
    mode (bootDone s) = 0 ∧ (bootDone s).mgt.boot = .running ∧ (bootDone s).ring.joinTimer = true
      ∧ (bootDone s).mgt.wdogAt = (rct s).toNat := by
  rw [bootDone_other h]
  exact ⟨endBoot_mode s 0 0, congrArg Mgt.boot (endBoot_mgt s 0 0), rfl, congrArg Mgt.wdogAt (endBoot_mgt s 0 0)⟩

/-! ### The watchdog's duties (R20, R321) -/

/-- In RECOVERY the ROM kicks the watchdog (R320). -/
theorem dutiesRun_recovery {s : State} (h : mode s = 6) : dutiesRun s = true := by
  unfold dutiesRun
  simp [h]

/-- MC7 takes the duties of one core alone. -/
theorem dutiesRun_twoOut {s : State} (h : 1 < coresOut s) (hm : mode s ≠ 6) : dutiesRun s = false := by
  have hmany : decide (coresOut s ≤ 1) = false := by simpa using h
  unfold dutiesRun
  simp [hm, hmany]

/-- Settles O11: each command by its equation, the state that it leaves by the lemma of its operation. -/
theorem powerAndBoot : Obligations.PowerAndBoot := by
  refine ⟨fun s => ⟨fun h => ?powerUp, fun straps h => ?released, fun h => ?hashed, fun h => ?checked, fun h => ?late,
    fun hr hb hd => ?restart⟩, fun s => ⟨fun hb hd => ?kick, fun hd => ?noKick, dutiesRun_twoOut, dutiesRun_recovery, rfl,
      fun h => ?expired, fun h => ?running⟩, fun s => ⟨fun straps h => ?insert, powerLost s, rfl, rfl, rfl, rfl⟩⟩
  case powerUp =>
    obtain ⟨hboot, -, hcause, hfeeds⟩ := feedUp_unpowered h
    exact ⟨feedUp s, rfl, hboot, hcause, hfeeds⟩
  case released => exact ⟨congrArg Host.Outcome.next (if_pos (by simp [h])), release_straps s straps⟩
  case hashed => exact ⟨congrArg Host.Outcome.next (if_pos (by simp [h])), hashDone_good⟩
  case checked => exact ⟨congrArg Host.Outcome.next (if_pos (by simp [h])), bootDone_state⟩
  case late => exact congrArg Host.Outcome.next (if_pos (by simpa using h))
  case restart => exact congrArg Host.Outcome.next (if_pos (by simp [hr, hb, hd]))
  case kick => exact congrArg Host.Outcome.next (if_pos (by simp [hb, hd]))
  case noKick => exact congrArg Host.Outcome.next (if_neg (by simp [hd]))
  case expired => exact congrArg Host.Outcome.next (if_pos h)
  case running => exact congrArg Host.Outcome.next (if_neg (by simp [h]))
  case insert =>
    obtain ⟨hboot, hpins, -⟩ := feedUp_unpowered (s := { s with mgt := { s.mgt with pins := straps } }) h
    exact ⟨_, congrArg Host.Outcome.next (if_pos (by simp [h])), hboot, hpins⟩

end Sys2Proof.Machine
end

section
/-!
PROOFS. Port engines, the termination, and the watchers of the engines and the margins (R19, R201, R293, R298, R300, R301, R344; O50, O59).
-/
namespace Sys2Proof.Machine

/-! ### Port engines (R201) -/

/-- Settles O50: each command by the branch of its meaning that its engine's state, or the microframe, selects. -/
theorem portEngines : Obligations.PortEngines := by
  refine ⟨fun s pe => ⟨fun h => ?expired, fun h => ?idle, fun h hmate => ?alone, fun h hmate => ?mate, fun h => ?notChecking⟩,
    fun s p v => ⟨fun h => ?calibrated, fun h => ?later⟩⟩
  case expired => exact congrArg Host.Outcome.next (if_pos (by simp [h]))
  case idle => exact congrArg Host.Outcome.next (if_neg (by simp [h]))
  case alone => exact congrArg Host.Outcome.next ((if_pos (by simp [h])).trans (if_pos (by simp [hmate])))
  case mate => exact congrArg Host.Outcome.next ((if_pos (by simp [h])).trans (if_neg (by simp [hmate])))
  case notChecking => exact congrArg Host.Outcome.next (if_neg (by simp [h]))
  case calibrated => exact congrArg Host.Outcome.next (if_pos (by simp [h]))
  case later => exact congrArg Host.Outcome.next (if_neg (by simpa [and_assoc] using h))

/-! ### The margins (R298) -/

/-- FLT_CAL_RING as it shows four measured margins. -/
def marginWord (em wm eu wu : BitVec 8) : Nat := em.toNat + wm.toNat * 2 ^ 8 + eu.toNat * 2 ^ 16 + wu.toNat * 2 ^ 24

theorem marginWord_fields (em wm eu wu : BitVec 8) :
    fget (BitVec.ofNat 32 (marginWord em wm eu wu)) FLT_CAL_RING_EAST_MV = em.toNat
      ∧ fget (BitVec.ofNat 32 (marginWord em wm eu wu)) FLT_CAL_RING_WEST_MV = wm.toNat
      ∧ fget (BitVec.ofNat 32 (marginWord em wm eu wu)) FLT_CAL_RING_EAST_UI = eu.toNat
      ∧ fget (BitVec.ofNat 32 (marginWord em wm eu wu)) FLT_CAL_RING_WEST_UI = wu.toNat := by
  have hem := em.isLt
  have hwm := wm.isLt
  have heu := eu.isLt
  have hwu := wu.isLt
  have hlt : marginWord em wm eu wu < 2 ^ 32 := by unfold marginWord; omega
  simp only [fget_ofNat _ _ hlt]
  simp only [marginWord, FLT_CAL_RING_EAST_MV, FLT_CAL_RING_WEST_MV, FLT_CAL_RING_EAST_UI, FLT_CAL_RING_WEST_UI]
  refine ⟨?_, ?_, ?_, ?_⟩ <;> omega

/-- The tick of the equalisers writes it, where the funnel runs. -/
theorem exec_eqAdaptTick {s : State} (h : funnelRuns s = true) (em wm eu wu : BitVec 8) :
    exec (.eqAdaptTick em wm eu wu) s = .next (wr s (adr pFlt 0x054) (BitVec.ofNat 32 (marginWord em wm eu wu))) :=
  congrArg Host.Outcome.next (if_pos h)

/-! ### The watchers -/

/-- Settles O59: each watcher by the branch of its meaning; the margins are the bytes of one register. -/
theorem watchers : Obligations.Watchers := by
  refine ⟨fun s => ⟨fun hf => ⟨fun l => ?noBeat, fun e => ?noExpiry, fun em wm eu wu => ?noTick, fun k => ?noTimer⟩,
    fun hf => ⟨fun l => ?beat, fun e => ⟨fun hr => ?expired, fun hr => ?idle⟩, fun em wm eu wu => ?shown, fun k hk => ?good,
    fun p hk => ?term, fun d hk => ?eye⟩⟩, fun s e => ⟨fun hn he => ?restarted, fun h => ?notRestarting⟩,
    fun s => ⟨fun hb => ?unpowered, fun hb => ?hot⟩⟩
  case noBeat => exact congrArg Host.Outcome.next (if_neg (by simp [hf]))
  case noExpiry => exact congrArg Host.Outcome.next (if_neg (by simp [hf]))
  case noTick => exact congrArg Host.Outcome.next (if_neg (by simp [hf]))
  case noTimer => exact congrArg Host.Outcome.next (if_neg (by simp [hf]))
  case beat => exact congrArg Host.Outcome.next (if_pos hf)
  case expired => exact congrArg Host.Outcome.next (if_pos (by simp [hf, hr]))
  case idle => exact congrArg Host.Outcome.next (if_neg (by simp [hr]))
  case shown =>
    obtain ⟨hem, hwm, heu, hwu⟩ := marginWord_fields em wm eu wu
    have hread (f : Fld) (ho : f.off = 0x054) (w : Word) : rf (wr s (adr pFlt 0x054) w) pFlt f = fget w f := by
      rw [← ho, rf_wr_self]
    exact ⟨_, exec_eqAdaptTick hf em wm eu wu, (hread _ rfl _).trans hem, (hread _ rfl _).trans hwm, (hread _ rfl _).trans heu,
      (hread _ rfl _).trans hwu, fun a ha => rd_wr_ne _ _ _ _ ha, wr_out _ _ _, wr_ebm _ _ _⟩
  case good => exact congrArg Host.Outcome.next (if_neg (by simp [hk]))
  case term => exact congrArg Host.Outcome.next (if_pos (by simp [hf, hk]))
  case eye => exact congrArg Host.Outcome.next (if_pos (by simp [hf, hk]))
  case restarted => exact congrArg Host.Outcome.next (if_pos (by simp [hn, he]))
  case notRestarting =>
    refine congrArg Host.Outcome.next (if_neg ?_)
    rcases h with h | h <;> simp [h]
  case unpowered => exact congrArg Host.Outcome.next (if_pos (by simp [hb]))
  case hot => exact congrArg Host.Outcome.next (if_neg (by simpa using hb))

end Sys2Proof.Machine
end

section
/-!
PROOFS. Ring time: the choice of a timing cell and what it does, the loss of LOCKED, the recovered clock, the microframe boundary (R25, R47,
R55 to R58, R140; O14).
-/
namespace Sys2Proof.Machine

/-! ### The choice of a timing cell (R47, R57) -/

/-- The state without the cells of a wrong authority (R47). -/
def timingDropped (s : State) (a b : Option Timing) : State := each ([a, b].filter authBad) s (fun s _ => authDrop s)

section
variable {s : State} {a b : Option Timing} (hh : isHead s = false) (ho : onRing s = true)
include hh ho

/-- After the microframe's own cell no other is used. -/
theorem takeTiming_seen (hs : s.clk.seen = true) : takeTiming s a b = timingDropped s a b := by
  unfold takeTiming
  rw [if_neg (by simp [hh, ho])]
  exact if_pos hs

theorem takeTiming_chosen {t : Timing} {ringB : Bool} (hs : s.clk.seen = false) (hc : chosen a b = some (t, ringB)) :
    takeTiming s a b = useTiming (timingDropped s a b) t ringB := by
  unfold takeTiming
  rw [if_neg (by simp [hh, ho]), hc]
  exact if_neg (by simp [hs])

theorem takeTiming_none (hs : s.clk.seen = false) (hc : chosen a b = none) : takeTiming s a b = timingDropped s a b := by
  unfold takeTiming
  rw [if_neg (by simp [hh, ho]), hc]
  exact if_neg (by simp [hs])

end

/-- The head, and a chip off the ring, take no timing cell. -/
theorem takeTiming_other {s : State} (a b : Option Timing) (h : isHead s = true ∨ onRing s = false) : takeTiming s a b = s := by
  unfold takeTiming
  rw [if_pos (by simpa using h)]

/-- Of two usable cells the one over fewer hops is taken, ring A's when they are equal; of one, that one (R57). -/
theorem chosen_cases (a b : Option Timing) :
    (∀ x y, usable a = some x → usable b = some y → chosen a b =
        if y.c.hops.toNat < x.c.hops.toNat then some (y, true) else some (x, false))
      ∧ (∀ x, usable a = some x → usable b = none → chosen a b = some (x, false))
      ∧ (∀ y, usable a = none → usable b = some y → chosen a b = some (y, true))
      ∧ (usable a = none → usable b = none → chosen a b = none) := by
  unfold chosen
  refine ⟨fun x y hx hy => ?_, fun x hx hy => ?_, fun y hx hy => ?_, fun hx hy => ?_⟩ <;> rw [hx, hy]

/-! ### What a chosen cell does (R42, R57, R58) -/

/-- The state in which a chosen cell acts: the head that it names is known, and with it a duplicated position (R42, R44). -/
def timingHead (s : State) (t : Timing) : State := foundDup (knowHead s (payNum t.c 21 1 % 64)) 0 (payNum t.c 21 1 % 64)

/-- The run of good offsets with one more (R58). -/
def timingRun (s : State) (o : Int) : Nat := if o.natAbs ≤ 4 * 65536 then min 16 (s.clk.lockRun + 1) else 0

/-- RING_TIME_STATUS with an offset. -/
def timingShown (h : State) (o : Int) : State :=
  wf (wf (wb h pRing RING_TIME_STATUS_HOLDOVER false) pRing RING_TIME_STATUS_MISSED 0) pRing RING_TIME_STATUS_OFFSET (offsetField o)

/-- The clock stepped by an offset, to the cell's microframe. -/
def timingStep (x : State) (t : Timing) (u : Int) : State :=
  let y := setRctUnits (wb x pRing RING_TIME_STATUS_STEPPED true) u
  { y with clk := { y.clk with slew := 0, uframe := BitVec.ofNat 32 (payNum t.c 16 4) } }

/-- The clock that slews an offset away. -/
def timingSlew (x : State) (o u : Int) : State :=
  let y := setRctUnits x u
  { y with clk := { y.clk with slew := max (-65536) (min 65536 (-o)) } }

/-- The microframe has its cell, and the run of good offsets its length. -/
def timingUsed (y : State) (run : Nat) : State := { y with clk := { y.clk with seen := true, lockRun := run } }

/-- The state after the cell's offset, before LOCKED follows. -/
def timingTaken (s : State) (t : Timing) (ringB : Bool) : State :=
  let o := timeOffset s t ringB
  let now := max (t.atRct.toNat : Int) (rctUnits s)
  let x := timingShown (timingHead s t) o
  timingUsed (if decide (64 * 65536 < o.natAbs) then timingStep x t (now - o) else timingSlew x o now) (timingRun s o)

/-- A chosen cell, in these parts. -/
theorem useTiming_eq (s : State) (t : Timing) (ringB : Bool) :
    useTiming s t ringB =
      if 5 * 65536 < (timeOffset s t ringB).natAbs then
        if rb (timingTaken s t ringB) pRing RING_TIME_STATUS_LOCKED then timeLost (timingTaken s t ringB) else timingTaken s t ringB
      else if timingRun s (timeOffset s t ringB) = 16 then wb (timingTaken s t ringB) pRing RING_TIME_STATUS_LOCKED true
      else timingTaken s t ringB := by
  simp only [← beq_iff_eq (a := timingRun s (timeOffset s t ringB))]
  rfl

@[simp] theorem setRctUnits_regs (x : State) (u : Int) : (setRctUnits x u).regs = x.regs := rfl
@[simp] theorem setRctUnits_que (x : State) (u : Int) : (setRctUnits x u).que = x.que := rfl
@[simp] theorem setRctUnits_ebm (x : State) (u : Int) : (setRctUnits x u).ebm = x.ebm := rfl
@[simp] theorem setRctUnits_ring (x : State) (u : Int) : (setRctUnits x u).ring = x.ring := rfl
@[simp] theorem setRctUnits_out (x : State) (u : Int) : (setRctUnits x u).out = x.out := rfl

/-- RCT that is set depends on the units alone. -/
theorem setRctUnits_rct (x : State) (u : Int) : (setRctUnits x u).clk.rct = BitVec.ofNat 64 ((u % (2 ^ 80 : Int)).toNat / 65536) := rfl

/-- Beyond 64 ns the clock steps. -/
theorem timingTaken_far {s : State} {t : Timing} {ringB : Bool} (h : 64 * 65536 < (timeOffset s t ringB).natAbs) :
    timingTaken s t ringB =
      timingUsed (timingStep (timingShown (timingHead s t) (timeOffset s t ringB)) t
        (max (t.atRct.toNat : Int) (rctUnits s) - timeOffset s t ringB)) (timingRun s (timeOffset s t ringB)) := by
  unfold timingTaken
  simp only [h, decide_true, if_true]

/-- Within 64 ns it slews. -/
theorem timingTaken_near {s : State} {t : Timing} {ringB : Bool} (h : (timeOffset s t ringB).natAbs ≤ 64 * 65536) :
    timingTaken s t ringB =
      timingUsed (timingSlew (timingShown (timingHead s t) (timeOffset s t ringB)) (timeOffset s t ringB)
        (max (t.atRct.toNat : Int) (rctUnits s))) (timingRun s (timeOffset s t ringB)) := by
  unfold timingTaken
  simp only [Nat.not_lt.2 h, decide_false]
  rfl

theorem timingUsed_regs (y : State) (run : Nat) : (timingUsed y run).regs = y.regs := rfl
theorem timingStep_regs (x : State) (t : Timing) (u : Int) :
    (timingStep x t u).regs = (wb x pRing RING_TIME_STATUS_STEPPED true).regs := setRctUnits_regs _ u
theorem timingSlew_regs (x : State) (o u : Int) : (timingSlew x o u).regs = x.regs := setRctUnits_regs x u

/-- The registers after the offset: a step sets STEPPED. -/
theorem timingTaken_regs (s : State) (t : Timing) (ringB : Bool) :
    (timingTaken s t ringB).regs =
      (if 64 * 65536 < (timeOffset s t ringB).natAbs then
        wb (timingShown (timingHead s t) (timeOffset s t ringB)) pRing RING_TIME_STATUS_STEPPED true
       else timingShown (timingHead s t) (timeOffset s t ringB)).regs := by
  by_cases h : 64 * 65536 < (timeOffset s t ringB).natAbs
  · rw [timingTaken_far h, if_pos h, timingUsed_regs, timingStep_regs]
  · rw [timingTaken_near (Nat.not_lt.1 h), if_neg h, timingUsed_regs, timingSlew_regs]

/-- OFFSET, MISSED and HOLDOVER as they are shown. -/
theorem timingTaken_status (s : State) (t : Timing) (ringB : Bool) :
    rf (timingTaken s t ringB) pRing RING_TIME_STATUS_OFFSET = offsetField (timeOffset s t ringB) % 2 ^ RING_TIME_STATUS_OFFSET.w
      ∧ rf (timingTaken s t ringB) pRing RING_TIME_STATUS_MISSED = 0
      ∧ rb (timingTaken s t ringB) pRing RING_TIME_STATUS_HOLDOVER = false := by
  have hread (f : Fld) := rf_of (timingTaken_regs s t ringB) pRing f
  simp only [rb, hread]
  unfold timingShown wb
  split <;> simp (disch := decide) [rf_wf_same, rf_wf_self, b2n]

/-- The rest of the state after the offset: the clock is the cell's, all else but the registers as the head's finding leaves it. -/
theorem timingTaken_frame (s : State) (t : Timing) (ringB : Bool) :
    (timingTaken s t ringB).que = (timingHead s t).que ∧ (timingTaken s t ringB).ebm = (timingHead s t).ebm
      ∧ (timingTaken s t ringB).ring = (timingHead s t).ring ∧ (timingTaken s t ringB).out = (timingHead s t).out
      ∧ (timingTaken s t ringB).clk.seen = true ∧ (timingTaken s t ringB).clk.lockRun = timingRun s (timeOffset s t ringB) := by
  by_cases h : 64 * 65536 < (timeOffset s t ringB).natAbs
  · rw [timingTaken_far h]
    simp [timingUsed, timingStep, timingShown]
  · rw [timingTaken_near (Nat.not_lt.1 h)]
    simp [timingUsed, timingSlew, timingShown]

/-- The clock after a step (R57). -/
theorem timingTaken_stepped {s : State} {t : Timing} {ringB : Bool} (h : 64 * 65536 < (timeOffset s t ringB).natAbs) :
    (timingTaken s t ringB).clk.uframe = BitVec.ofNat 32 (payNum t.c 16 4) ∧ (timingTaken s t ringB).clk.slew = 0
      ∧ rb (timingTaken s t ringB) pRing RING_TIME_STATUS_STEPPED = true
      ∧ (timingTaken s t ringB).clk.rct
        = (setRctUnits (timingHead s t) (max (t.atRct.toNat : Int) (rctUnits s) - timeOffset s t ringB)).clk.rct := by
  refine ⟨?_, ?_, ?_, ?_⟩
  · rw [timingTaken_far h]
    rfl
  · rw [timingTaken_far h]
    rfl
  · rw [rb_of (timingTaken_regs s t ringB), if_pos h]
    exact rb_wb_self _ _ _ _ rfl (by decide)
  · rw [timingTaken_far h, setRctUnits_rct]
    exact setRctUnits_rct (wb (timingShown (timingHead s t) (timeOffset s t ringB)) pRing RING_TIME_STATUS_STEPPED true) _

/-- The clock that slews (R57). -/
theorem timingTaken_slewed {s : State} {t : Timing} {ringB : Bool} (h : (timeOffset s t ringB).natAbs ≤ 64 * 65536) :
    (timingTaken s t ringB).clk.uframe = (timingHead s t).clk.uframe
      ∧ (timingTaken s t ringB).clk.slew = max (-65536) (min 65536 (-timeOffset s t ringB))
      ∧ (timingTaken s t ringB).clk.rct = (setRctUnits (timingHead s t) (max (t.atRct.toNat : Int) (rctUnits s))).clk.rct := by
  rw [timingTaken_near h]
  refine ⟨rfl, rfl, ?_⟩
  rw [setRctUnits_rct]
  exact setRctUnits_rct (timingShown (timingHead s t) (timeOffset s t ringB)) _

/-! ### The boundary (R58, R140) -/

/-- Time that moves on to a boundary changes the clock alone (R139). -/
theorem toBoundary_frame (s : State) (k : Nat) :
    (toBoundary s k).clk.uframe = BitVec.ofNat 32 k ∧ (toBoundary s k).clk.slew = 0 ∧ (toBoundary s k).que = s.que
      ∧ (toBoundary s k).ebm = s.ebm ∧ (toBoundary s k).regs = s.regs := by
  simp [toBoundary]

/-- A microframe without a cell on a LOCKED chip that is not the head (R58). -/
theorem timingBoundary_missed {s : State} (hh : isHead s = false) (hs : s.clk.seen = false)
    (hl : rb s pRing RING_TIME_STATUS_LOCKED = true) :
    timingBoundary s =
      incF (wb { s with clk := { s.clk with seen := false, lockRun := 0 } } pRing RING_TIME_STATUS_HOLDOVER true) pRing
        RING_TIME_STATUS_MISSED := by
  unfold timingBoundary
  rw [if_neg (by simp [hh]), if_pos (by simp [hs, hl])]

/-- It shows HOLDOVER, ends the run and is counted. -/
theorem timingBoundary_status {s : State} (hh : isHead s = false) (hs : s.clk.seen = false)
    (hl : rb s pRing RING_TIME_STATUS_LOCKED = true) :
    rb (timingBoundary s) pRing RING_TIME_STATUS_HOLDOVER = true ∧ (timingBoundary s).clk.lockRun = 0
      ∧ rf (timingBoundary s) pRing RING_TIME_STATUS_MISSED
        = min (2 ^ RING_TIME_STATUS_MISSED.w - 1) (rf s pRing RING_TIME_STATUS_MISSED + 1) := by
  rw [timingBoundary_missed hh hs hl]
  refine ⟨?_, rfl, ?_⟩
  · unfold rb incF addF wb
    simp (disch := decide) only [rf_wf_same, rf_wf_self]
    rfl
  · rw [rf_incF_self _ _ _ rfl, Nat.min_comm, wb]
    simp (disch := decide) only [rf_wf_same]
    rfl

/-- A microframe with its cell ends. -/
theorem timingBoundary_seen {s : State} (hh : isHead s = false) (hs : s.clk.seen = true) :
    timingBoundary s = { s with clk := { s.clk with seen := false } } := by
  unfold timingBoundary
  rw [if_neg (by simp [hh]), if_neg (by simp [hs])]

/-- Settles O14: the taken cell by `timingTaken`, its branches by the size of the offset; the rest by the branch of each meaning. -/
theorem ringTime : Obligations.RingTime := by
  refine ⟨fun s a b => ⟨fun hh ho => ⟨fun hs => ?seen, fun t r hs hc => ?chosen, fun hs hc => ?none⟩, fun h => ?other, chosen_cases a b⟩,
    fun s t r => ?taken, fun s => ⟨fun hl hm => ?lost, fun h => ?held, fun hr hm => ?clockFails, fun h => ?clockKept⟩,
    fun s => ⟨⟨rfl, toBoundary_frame s _⟩, timingBoundary_status,
      timingBoundary_seen⟩⟩
  case seen => exact congrArg Host.Outcome.next (takeTiming_seen hh ho hs)
  case chosen => exact congrArg Host.Outcome.next (takeTiming_chosen hh ho hs hc)
  case none => exact congrArg Host.Outcome.next (takeTiming_none hh ho hs hc)
  case other => exact congrArg Host.Outcome.next (takeTiming_other a b h)
  case taken =>
    obtain ⟨hque, hebm, hring, hout, hseen, hrun⟩ := timingTaken_frame s t r
    obtain ⟨hoff, hmissed, hhold⟩ := timingTaken_status s t r
    exact ⟨timingTaken s t r, hque, hebm, hring, hout, hseen, hrun, hoff, hmissed, hhold, timingTaken_stepped, timingTaken_slewed,
      fun h => (useTiming_eq s t r).trans (if_neg (Nat.not_lt.2 h)), fun h => (useTiming_eq s t r).trans (if_pos h)⟩
  case lost => exact congrArg Host.Outcome.next (if_pos (by simp [hl, hm]))
  case held =>
    refine congrArg Host.Outcome.next (if_neg ?_)
    rcases h with h | h <;> simp [h]
  case clockFails => exact congrArg Host.Outcome.next (if_pos (by simpa [hr] using hm))
  case clockKept =>
    refine congrArg Host.Outcome.next (if_neg ?_)
    rcases h with h | ⟨hm, ho⟩
    · simp [h]
    · have hmode : ¬ (mode s = 4 ∧ prevMode s = 3) := fun ⟨h4, h3⟩ => hm.elim (fun h => h h4) fun h => h h3
      simpa [ho] using fun _ h4 h3 => hmode ⟨h4, h3⟩

end Sys2Proof.Machine
end

section
/-!
SUPPORT. What the ring's own operations leave: the other fields of RING_STATUS and the other state over the start of a training, a severing
and the closing of the switches (R29, R59 to R62, R66).
-/
namespace Sys2Proof.Machine

/-! ### A port beside its registers -/

@[simp] theorem setSide_regs (s : State) (d : Side) (x : LinkSide) : (setSide s d x).regs = s.regs := by cases d <;> rfl

/-- A field written leaves what a port has beside its registers. -/
@[simp] theorem sideOf_wf (s : State) (p : Nat) (f : Fld) (v : Nat) (d : Side) : sideOf (wf s p f v) d = sideOf s d := by cases d <;> rfl

@[simp] theorem sideOf_incF (s : State) (p : Nat) (f : Fld) (d : Side) : sideOf (incF s p f) d = sideOf s d := sideOf_wf _ _ _ _ _

/-- The start of a training leaves BYPASS_CLOSED. -/
@[simp] theorem bypassed_startTrain (s : State) (d : Side) : bypassed (startTrain s d) = bypassed s := by
  unfold startTrain
  split
  · rfl
  · unfold bypassed setLink rb
    rw [rf_wf_same _ _ _ _ _ (by cases d <;> rfl) rfl (by cases d <;> rfl), rf_of (setSide_regs _ _ _)]

/-- An event of the service port's record leaves BYPASS_CLOSED. -/
@[simp] theorem bypassed_svcEvt (s : State) (e : SvcEvt) : bypassed (svcEvt s e) = bypassed s := by
  unfold bypassed rb
  rw [rf_svcEvt _ _ _ _ (by decide)]

/-! ### A severing -/

/-- A break during a pending transition changes `mgt` alone (R102). -/
theorem breakPending_frame (s : State) :
    (breakPending s).regs = s.regs ∧ (breakPending s).ring = s.ring ∧ (breakPending s).ebm = s.ebm ∧ (breakPending s).que = s.que := by
  unfold breakPending
  split <;> exact ⟨rfl, rfl, rfl, rfl⟩

/-- A severing leaves every field of RING_STATUS but SEG_ROLE. -/
theorem rf_enterSevered (s : State) (role : Nat) {g : Fld} (ho : g.off = 0x048) (hg : g.ok = true)
    (ha : RING_STATUS_SEG_ROLE.apart g = true) : rf (enterSevered s role) pRing g = rf s pRing g := by
  have hrole : rf (wf s pRing RING_STATUS_SEG_ROLE role) pRing g = rf s pRing g := rf_wf_same _ _ _ _ _ ho hg ha
  unfold enterSevered
  dsimp only
  split_ifs
  · rw [rf_of (breakPending_frame _).1, hrole]
  · rw [rf_svcEvt _ _ _ _ (by rw [ho]; decide), rf_wf_ne _ _ _ _ _ _ (by rw [ho]; decide), rf_wf_ne _ _ _ _ _ _ (by rw [ho]; decide),
      hrole]
  · exact hrole

/-- A severing leaves the ring's own state, EBM and the queues. -/
theorem enterSevered_frame (s : State) (role : Nat) :
    (enterSevered s role).ring = s.ring ∧ (enterSevered s role).ebm = s.ebm ∧ (enterSevered s role).que = s.que := by
  unfold enterSevered
  dsimp only
  split_ifs
  · exact (breakPending_frame _).2
  · exact ⟨rfl, rfl, rfl⟩
  · exact ⟨rfl, rfl, rfl⟩

/-! ### The closing of the switches -/

/-- LINK of both ports as the closed switches leave it: the lanes carry power only in STANDALONE, and nothing elsewhere (R40, R62). -/
def closedLink (s : State) : Nat := if mode s = 1 then 3 else 0

/-- RING_STATUS when the switches have closed. -/
def statusClosed (s : State) : State :=
  wb (setLink (setLink s .east (closedLink s)) .west (closedLink s)) pRing RING_STATUS_BYPASS_CLOSED true

/-- A closing leaves RING_STATUS so, but for SEG_ROLE. -/
theorem rf_closeNow (s : State) {g : Fld} (ho : g.off = 0x048) (hg : g.ok = true) (ha : RING_STATUS_SEG_ROLE.apart g = true) :
    rf (closeNow s) pRing g = rf (statusClosed s) pRing g := by
  unfold closeNow statusClosed closedLink
  dsimp only
  rw [rf_enterSevered _ _ ho hg ha, rf_svcEvt _ _ _ _ (by rw [ho]; decide)]
  simp only [beq_iff_eq]
  rfl

/-- The switches are closed. -/
theorem bypassed_closeNow (s : State) : bypassed (closeNow s) = true := by
  unfold bypassed rb
  rw [rf_closeNow s rfl rfl rfl]
  exact rb_wb_self _ _ _ _ rfl (by decide)

/-- Both links read as the closed switches leave them. -/
theorem linkOf_closeNow (s : State) (d : Side) : linkOf (closeNow s) d = closedLink s := by
  have hlt : closedLink s % 2 ^ 2 = closedLink s := by unfold closedLink; split <;> rfl
  unfold linkOf
  cases d <;> rw [rf_closeNow s rfl rfl rfl] <;> unfold statusClosed wb setLink
  · simp (disch := decide) only [rf_wf_same, linkFld, rf_wf_self]
    exact hlt
  · simp (disch := decide) only [rf_wf_same, linkFld, rf_wf_self]
    exact hlt

/-- A closing ends a planned one, and leaves EBM and the queues. -/
theorem closeNow_frame (s : State) :
    (closeNow s).ring.closeTimer = false ∧ (closeNow s).ring.leaving = none ∧ (closeNow s).ebm = s.ebm ∧ (closeNow s).que = s.que := by
  unfold closeNow
  dsimp only
  obtain ⟨hring, hebm, hque⟩ := enterSevered_frame _ _
  rw [hring, hebm, hque]
  exact ⟨rfl, rfl, rfl, rfl⟩

end Sys2Proof.Machine
end

section
/-!
PROOFS. The bypass switches, and the training of a ring port (R40, R59 to R67, R303; O12, O13).
-/
namespace Sys2Proof.Machine

/-! ### The switches -/

theorem openNow_opens {s : State} (hb : bypassed s = true) (hh : heldClosed s = false) :
    openNow s = svcEvt (startTrain (startTrain (wb s pRing RING_STATUS_BYPASS_CLOSED false) .east) .west) .ring :=
  if_pos (by simp [hb, hh])

theorem openNow_keeps {s : State} (h : bypassed s = false ∨ heldClosed s = true) : openNow s = s := by
  refine if_neg ?_
  rcases h with h | h <;> simp [h]

/-- The switches that open are open. -/
theorem bypassed_openNow {s : State} (hb : bypassed s = true) (hh : heldClosed s = false) : bypassed (openNow s) = false := by
  rw [openNow_opens hb hh, bypassed_svcEvt, bypassed_startTrain, bypassed_startTrain]
  exact rb_wb_self _ _ _ _ rfl (by decide)

/-- A join that is due: the timer runs, the chip too, and no deep state is near (R62). -/
theorem exec_autoJoinTimer {s : State} (hj : s.ring.joinTimer = true) (hb : s.mgt.boot = .running) (hp : s.pwr.phase = .idle) :
    exec .autoJoinTimer s = .next
      (if rb s pRing RING_CONTROL_AUTO_JOIN then joinRing s else { s with ring := { s.ring with joinTimer := false } }) :=
  congrArg Host.Outcome.next (if_pos (by simp [hj, hb, hp]))

theorem exec_autoJoinTimer_none {s : State} (h : s.ring.joinTimer = false ∨ s.mgt.boot ≠ .running ∨ s.pwr.phase ≠ .idle) :
    exec .autoJoinTimer s = .next s := by
  refine congrArg Host.Outcome.next (if_neg ?_)
  rcases h with h | h | h <;> simp [h]

/-- Settles O12: the commands by the branch of their meaning, the switches by `bypassed_openNow` and `bypassed_closeNow`. -/
theorem bypassSwitches : Obligations.BypassSwitches := by
  refine ⟨fun s => ⟨fun hj hb hp => ⟨fun ha => ?joins, fun ha => ?waits⟩, exec_autoJoinTimer_none, fun src hg => ?controls,
      fun h => ?closes, fun h => ?noTimer, fun h => ?lost, fun h => ?closed⟩,
    fun s => ⟨fun h => ?requested, fun h => ?opens, bypassed_openNow, openNow_keeps⟩, fun s => ?leaves⟩
  case joins => rw [exec_autoJoinTimer hj hb hp, if_pos ha]
  case waits => rw [exec_autoJoinTimer hj hb hp, if_neg (by simp [ha])]
  case controls =>
    have hgated (v : Word) : gatedW s src pRing 0x044 v (fun s => ringControl s v) = ringControl s v := gatedW_ok hg
    exact ⟨congrArg _ (hgated _), congrArg _ (hgated _), congrArg _ (hgated _), congrArg _ (hgated _), fun v => congrArg _ (hgated _)⟩
  case closes => exact congrArg Host.Outcome.next (if_pos h)
  case noTimer => exact congrArg Host.Outcome.next (if_neg (by simp [h]))
  case lost => exact congrArg Host.Outcome.next (if_neg (by simp [h]))
  case closed => exact congrArg Host.Outcome.next (if_pos h)
  case requested => exact if_pos h
  case opens => exact if_neg (ne_true_of_eq_false h)
  case leaves =>
    obtain ⟨htimer, hleaving, hebm, hque⟩ := closeNow_frame s
    exact ⟨bypassed_closeNow s, htimer, hleaving, linkOf_closeNow s, hebm, hque⟩

/-! ### Training -/

/-- A port that does not train takes nothing. -/
theorem stepDone_idle {s : State} {d : Side} {m : Train} (h : linkOf s d ≠ 1) : stepDone s d m = s := by
  simp [stepDone, h]

/-- The field of a port's loss (R64). -/
def lossFld : Side → Fld
  | .east => RING_LOSS_EAST_LOSS
  | .west => RING_LOSS_WEST_LOSS
/-- The field of a port's delay (R57). -/
def delayFld : Side → Fld
  | .east => RING_DELAY_EAST_DELAY
  | .west => RING_DELAY_WEST_DELAY

section
variable {s : State} {d : Side} (h : linkOf s d = 1)
include h

theorem stepDone_early (m : Train) (hx : (sideOf s d).step = 1 ∨ (sideOf s d).step = 2 ∨ (sideOf s d).step = 3) :
    stepDone s d m = setSide s d { sideOf s d with step := (sideOf s d).step + 1 } := by
  rcases hx with hx | hx | hx <;> simp [stepDone, h, hx]

/-- Step 4 takes the loss. -/
theorem stepDone_loss (m : Train) (hx : (sideOf s d).step = 4) :
    stepDone s d m = setSide (wf s pRing (lossFld d) m.loss.toNat) d { sideOf s d with step := 5 } := by
  cases d <;> simp [stepDone, h, hx, lossFld]

/-- Step 5 takes the delay. -/
theorem stepDone_delay (m : Train) (hx : (sideOf s d).step = 5) :
    stepDone s d m = setSide (wf s pRing (delayFld d) m.delay.toNat) d { sideOf s d with step := 6 } := by
  cases d <;> simp [stepDone, h, hx, delayFld]

/-- Step 6 knows the neighbour. -/
theorem stepDone_last (m : Train) (hx : (sideOf s d).step = 6) : stepDone s d m = identify s d m := by
  simp [stepDone, h, hx]

end

theorem stepDone_unstarted {s : State} {d : Side} (m : Train) (hx : (sideOf s d).step = 0) : stepDone s d m = s := by
  simp [stepDone, hx]

theorem stepLate_training {s : State} {d : Side} (h : linkOf s d = 1) :
    stepLate s d = setSide (incF s pRing RING_STATUS_TRAINING_FAIL) d { sideOf s d with step := 1 } := by
  simp [stepLate, h]

theorem stepLate_idle {s : State} {d : Side} (h : linkOf s d ≠ 1) : stepLate s d = s := by
  simp [stepLate, h]

/-- The receive lanes of an UP port go down: it breaks, unless its wrap is a planned one, and trains again (R63, R65). -/
theorem lanesDown_up {s : State} {d : Side} (h : linkOf s d = 2) :
    lanesDown s d = startTrain (if (sideOf s d).planned then setLink s d 0 else breakAt (setLink s d 0) d) d :=
  if_neg (by simp [h])

/-- Settles O13: a step by its number, the lanes by the port's link, the orphan time-out by its condition. -/
theorem ringTraining : Obligations.RingTraining := by
  refine ⟨fun s d m => ⟨fun h => ⟨fun hx => ?early, fun hx => ?loss, fun hx => ?delay, fun hx => ?last, fun hx => ?none,
      congrArg Host.Outcome.next (stepLate_training h)⟩,
      fun h => ⟨congrArg Host.Outcome.next (stepDone_idle h), congrArg Host.Outcome.next (stepLate_idle h)⟩⟩,
    fun s d => ⟨fun h hp => ?breaks, fun h hp => ?planned, fun h => congrArg Host.Outcome.next (if_pos (by simp [h]))⟩,
    fun s => ⟨fun hm hh hk ht => ?orphan, fun h => ?kept⟩⟩
  case early => exact congrArg Host.Outcome.next (stepDone_early h m hx)
  case loss => exact congrArg Host.Outcome.next (stepDone_loss h m hx)
  case delay => exact congrArg Host.Outcome.next (stepDone_delay h m hx)
  case last => exact congrArg Host.Outcome.next (stepDone_last h m hx)
  case none => exact congrArg Host.Outcome.next (stepDone_unstarted m hx)
  case breaks => exact congrArg Host.Outcome.next ((lanesDown_up h).trans (by rw [if_neg (by simp [hp])]))
  case planned => exact congrArg Host.Outcome.next ((lanesDown_up h).trans (by rw [if_pos hp]))
  case orphan =>
    refine congrArg Host.Outcome.next (if_pos ?_)
    rcases hm with hm | hm <;> simp [hm, hh, hk, ht]
  case kept =>
    refine congrArg Host.Outcome.next (if_neg ?_)
    rcases h with ⟨h3, h4⟩ | h | h | h
    · simp [h3, h4]
    · simp [h]
    · simp [h]
    · simp [h]

end Sys2Proof.Machine
end

section
/-!
PROOFS. The TOPO cells of an epoch, the grants and the head's notices (R43, R44, R52, R54, R63, R68; O15).
-/
namespace Sys2Proof.Machine

/-! ### Arrival -/

/-- A good cell has its effect, in the state that has taken it. -/
theorem arrive_effect {s t : State} {c : Cell} {typ : Nat} {eff : State → State} (h : cellGood s c typ = true)
    (ht : eff (cellTaken s c) = t) :
    (Host.Outcome.next (arrive s c typ eff) : Host.Outcome State Fault Refusal) =
      .next (settleCell (cellTaken s c).held.length t c) := by
  rw [arrive_good h, ht]

/-! ### Epochs (R43, R44) -/

/-- The circulating TOPO cell at the head (R43). -/
theorem exec_topoCirculate_head {s : State} {c : Cell} (hh : isHead s = true) (ho : onRing s = true) (hc : cellOk c = true)
    (ht : c.typ = 11) (map dup : BitVec 64) (epoch : BitVec 8) (slot : BitVec 6) :
    exec (.topoCirculate ⟨c, map⟩ dup epoch slot) s = .next (topoPass s c map dup epoch slot.toNat) :=
  congrArg Host.Outcome.next ((if_pos hh).trans (if_pos (by simp [ho, hc, ht])))

/-- The head completes the map of its own epoch and no other (R43). -/
theorem topoPass_head {s : State} (hh : isHead s = true) (c : Cell) (map dup : BitVec 64) (epoch : BitVec 8) (slot : Nat) :
    topoPass s c map dup epoch slot =
      if epoch.toNat = rf s pRing RING_STATUS_EPOCH then
        noteDup (peersLost (sendGrants (loadMap (tellAll { s with ring := { s.ring with mapDue := false, topoSeen := true } } 0
          (.live (withoutClosing s map) dup epoch (BitVec.ofNat 6 (ownSlot s)))) (withoutClosing s map)))) dup (ownSlot s)
      else s := by
  unfold topoPass
  rw [if_pos hh]
  by_cases he : epoch.toNat = rf s pRing RING_STATUS_EPOCH <;> simp [he]

/-- Another chip adds its position to the map, or to the duplicates when the map has it already, and passes the cell on (R43, R44). -/
theorem topoPass_other {s : State} (hh : isHead s = false) (c : Cell) (map dup : BitVec 64) (epoch : BitVec 8) (slot : Nat) :
    topoPass s c map dup epoch slot =
      (let v := knowHead s slot
       let p := ownPos v
       if bits64 map p 1 = 1 then foundDup (passRound v c map (mapWith dup p) epoch slot) (mapWith dup p) slot
       else foundDup (passRound v c (mapWith map p) dup epoch slot) dup slot) := by
  unfold topoPass
  rw [if_neg (by simp [hh])]
  simp only [beq_iff_eq]

/-! ### Grants (R52, R54) -/

/-- A count put under a key leaves every other key's. -/
theorem cnt_setCnt (t : Tab Nat) (k j v : Nat) : cnt (setCnt t k v) j = if j = k then v else cnt t j := tabGet_set _ _ _ _ _

/-- A position's keys of two classes differ, whatever their rings. -/
theorem crdKey_cls_inj {pos a b : Nat} {x y : Bool} (h : crdKey pos a x = crdKey pos b y) : a = b := by
  have hring (b : Bool) : b2n b < 2 := by cases b <;> decide
  have hx := hring x
  have hy := hring y
  unfold crdKey at h
  omega

/-- The credits of a source with those that it grants for a class, on both rings. -/
def grantCredits (pos : Nat) (t : Tab Nat) (p : Nat × Nat) : Tab Nat :=
  setCnt (setCnt t (crdKey pos p.1 false) p.2) (crdKey pos p.1 true) p.2

/-- Of the credits of its source a grant replaces those of its class alone. -/
theorem cnt_grantCredits (pos : Nat) (t : Tab Nat) (p : Nat × Nat) (cls : Nat) (b : Bool) :
    cnt (grantCredits pos t p) (crdKey pos cls b) = if cls = p.1 then p.2 else cnt t (crdKey pos cls b) := by
  unfold grantCredits
  rw [cnt_setCnt, cnt_setCnt]
  by_cases hc : cls = p.1
  · subst hc
    cases b <;> simp
  · have hne (x : Bool) : crdKey pos cls b ≠ crdKey pos p.1 x := fun h => hc (crdKey_cls_inj h)
    rw [if_neg (hne true), if_neg (hne false), if_neg hc]

theorem takeGrant_ignored {s : State} {pos : Nat} {epoch : BitVec 8} (iso ctrl data : Nat)
    (h : epoch.toNat ≠ rf s pRing RING_STATUS_EPOCH ∨ live s pos = false ∨ pos = ownPos s) : takeGrant s pos epoch iso ctrl data = s := by
  refine if_pos ?_
  rcases h with h | h | h <;> simp [h]

/-- A grant of the present epoch from another live chip counts, and the cells that wait are offered again. -/
theorem takeGrant_counts {s : State} {pos : Nat} {epoch : BitVec 8} (iso ctrl data : Nat)
    (he : epoch.toNat = rf s pRing RING_STATUS_EPOCH) (hl : live s pos = true) (hp : pos ≠ ownPos s) :
    takeGrant s pos epoch iso ctrl data = flushCells { s with ring := { s.ring with
      credits := grantCredits pos (grantCredits pos (grantCredits pos s.ring.credits (1, iso)) (2, ctrl)) (3, data) } } :=
  if_neg (by simp [he, hl, hp])

/-! ### Notices (R63, R68) -/

/-- A notice with manager authority has its effect. -/
theorem headNotice_effect {s : State} {c : Cell} (h : cellGood s c 11 = true) (ha : c.auth = 1) (eff : State → State) :
    (Host.Outcome.next (headNotice s c eff) : Host.Outcome State Fault Refusal) =
      .next (settleCell (cellTaken s c).held.length (eff (cellTaken s c)) c) :=
  arrive_effect h (if_pos (by simp [ha]))

/-- A chip that is not the head keeps the notice of a closing (R63). -/
theorem closingTold_other {s : State} (hh : isHead s = false) (pos : BitVec 6) (w : Word) :
    closingTold s pos w = { s with ring := { s.ring with
      closing := some (pos, w, false), leaving := if pos.toNat = ownPos s then some w else s.ring.leaving } } := by
  unfold closingTold
  rw [if_neg (by simp [hh])]
  simp only [beq_iff_eq]

/-- Settles O15: the cells by their arrival, the head's own by `topoPass_head`, the grants by the counts that they put. -/
theorem epochCells : Obligations.EpochCells := by
  refine ⟨fun s c => ⟨fun map dup epoch slot hh ho hc ht => ⟨fun he => ?completes, fun he => ?stale⟩, fun hg => ⟨fun hh map dup epoch slot =>
      ⟨?passes, ?loads⟩, fun _ _ _ _ => arrive_effect hg rfl, fun _ => arrive_effect hg rfl,
      fun ha w => ⟨fun _ => headNotice_effect hg ha _, headNotice_effect hg ha _⟩⟩⟩,
    fun s c map dup epoch slot hh => topoPass_other hh c map dup epoch slot,
    fun s pos epoch iso ctrl data => ⟨takeGrant_ignored iso ctrl data, fun he hl hp => ⟨_, takeGrant_counts iso ctrl data he hl hp, fun b => ?_⟩⟩,
    fun s => ⟨fun pos hh hc hl => ?asked, fun pos w hh => closingTold_other hh pos w, fun w hh => if_neg (by simp [hh])⟩⟩
  case completes => rw [exec_topoCirculate_head hh ho hc ht, topoPass_head hh, if_pos he]
  case stale => rw [exec_topoCirculate_head hh ho hc ht, topoPass_head hh, if_neg he]
  case passes => exact (congrArg Host.Outcome.next (if_neg (by simp [hh]))).trans (arrive_effect hg rfl)
  case loads => exact (congrArg Host.Outcome.next (if_neg (by simp [hh]))).trans (arrive_effect hg rfl)
  case asked =>
    have hgo : ¬ (!isHead s || s.ring.closing.isSome || !live s pos.toNat) = true := by simp [hh, hc, hl]
    refine (if_neg hgo).trans ?_
    rw [BitVec.ofNat_toNat, BitVec.setWidth_eq]
  · simp [cnt_grantCredits]

end Sys2Proof.Machine
end

section
/-!
PROOFS. The effect of a good cell of each type, the cells that are discarded, and those that pass (R38, R45 to R49, R53, R56; O16 to O18).
-/
namespace Sys2Proof.Machine

/-! ### The effect of each type (R46) -/

/-- Settles O16: a good cell has the effect of its type, which its authority, its LEN or the chip's role chooses. -/
theorem cellsArrive : Obligations.CellsArrive := by
  refine fun s c => ⟨fun hg => ⟨fun hh => ?dataHead, fun hh => ?dataHere⟩, fun hg => ⟨fun hh => ?readHead, fun hh => ?readHere⟩,
    fun hg => ⟨fun h2 h1 => ?access, fun h1 ho => ?window, fun h2 => ?index⟩, fun hg => arrive_effect hg rfl,
    fun hg => arrive_effect hg rfl, fun hg => arrive_effect hg rfl, fun hg p => arrive_effect hg rfl, fun hg hl => ?relay,
    fun hg hl => ?room, fun hg => arrive_effect hg rfl, fun hg loc code => arrive_effect hg rfl⟩
  case dataHead => exact arrive_effect hg (if_pos hh)
  case dataHere => exact arrive_effect hg (if_neg (by simp [hh]))
  case readHead => exact arrive_effect hg (congrArg (readBack · _ _ _) (if_pos hh))
  case readHere => exact arrive_effect hg (congrArg (readBack · _ _ _) (if_neg (by simp [hh])))
  case access =>
    refine arrive_effect hg ((if_neg (by simpa using h2)).trans (if_neg ?_))
    simpa using h1
  case window => exact arrive_effect hg ((if_neg (by simp [h1])).trans (if_pos (by simpa [h1] using ho)))
  case index => exact arrive_effect hg (if_pos (by simp [h2]))
  case relay => exact (congrArg Host.Outcome.next (if_neg (by simpa using hl))).trans (arrive_effect hg rfl)
  case room => exact (congrArg Host.Outcome.next (if_neg (by simp [hl]))).trans (arrive_effect hg rfl)

/-! ### Discarded cells (R46 to R49) -/

/-- A relay cell arrives by the command of its LEN (R172). -/
theorem exec_relayCell (s : State) (c : Cell) :
    ∃ eff, exec (if c.len = 0 then .relayRoomReportRx c else .relayCellRx c) s = .next (arrive s c 8 eff) := by
  by_cases hl : c.len = 0
  · rw [if_pos hl]
    exact ⟨_, congrArg Host.Outcome.next (if_neg (by simp [hl]))⟩
  · rw [if_neg hl]
    exact ⟨_, congrArg Host.Outcome.next (if_neg (by simpa using hl))⟩

/-- A TOPO cell of an epoch arrives on a chip that is not the head. -/
theorem exec_topoCell (s : State) (c : Cell) (w : Word) {i : Instr} {eff : State → State}
    (hi : isHead s = false → exec i s = .next (arrive s c 11 eff)) :
    ∃ eff, exec (if isHead s then .topoReleaseRx ⟨c, w⟩ else i) s = .next (arrive s c 11 eff) := by
  cases hh : isHead s with
  | true => exact ⟨_, rfl⟩
  | false => exact ⟨eff, hi hh⟩

/-- The commands that bring a cell of a type to its destination, each with its type (R46). -/
def cellCommands (s : State) (c : Cell) (p : PostMsg) (loc map dup : BitVec 64) (code iso ctrl data : BitVec 16) (ep : BitVec 8)
    (pos : BitVec 6) (w : Word) : List (Nat × Instr) :=
  [(1, .dataCellRx c), (2, .readReqCellRx c), (3, .regWrCellRx c), (4, .regRdCellRx c), (5, .regCplCellRx c), (6, .eventCellRx c),
    (7, .postCellRx c p), (8, if c.len = 0 then .relayRoomReportRx c else .relayCellRx c), (9, .creditCellRx c), (12, .faultCellRx c loc code),
    (11, .creditGrantRx c ep iso ctrl data), (11, .topoLeaveRequestRx ⟨c, pos⟩), (11, .topoClosingNoticeRx ⟨c, pos⟩ w), (11, .topoReleaseRx ⟨c, w⟩),
    (11, if isHead s then .topoReleaseRx ⟨c, w⟩ else .liveMapRx ⟨c, map⟩ dup ep pos),
    (11, if isHead s then .topoReleaseRx ⟨c, w⟩ else .topoCirculate ⟨c, map⟩ dup ep pos)]

/-- Each of them makes the cell arrive as one of its type. -/
theorem exec_cellCommand (s : State) (c : Cell) (p : PostMsg) (loc map dup : BitVec 64) (code iso ctrl data : BitVec 16) (ep : BitVec 8)
    (pos : BitVec 6) (w : Word) :
    ∀ x ∈ cellCommands s c p loc map dup code iso ctrl data ep pos w, ∃ eff, exec x.2 s = .next (arrive s c x.1 eff) := by
  unfold cellCommands
  simp only [List.forall_mem_cons]
  exact ⟨⟨_, rfl⟩, ⟨_, rfl⟩, ⟨_, rfl⟩, ⟨_, rfl⟩, ⟨_, rfl⟩, ⟨_, rfl⟩, ⟨_, rfl⟩, exec_relayCell s c, ⟨_, rfl⟩, ⟨_, rfl⟩, ⟨_, rfl⟩, ⟨_, rfl⟩,
    ⟨_, rfl⟩, ⟨_, rfl⟩, exec_topoCell s c w fun hh => congrArg Host.Outcome.next (if_neg (by simp [hh])),
    exec_topoCell s c w fun hh => congrArg Host.Outcome.next (if_neg (by simp [hh])), List.forall_mem_nil _⟩

/-- Settles O17: each command makes its cell arrive, and the first check that the cell fails decides. -/
theorem cellsDiscarded : Obligations.CellsDiscarded := by
  intro s c typ i p loc map dup code iso ctrl data ep pos w hi ho ht hc
  obtain ⟨eff, hexec⟩ : ∃ eff, exec i s = .next (arrive s c typ eff) :=
    exec_cellCommand s c p loc map dup code iso ctrl data ep pos w (typ, i) hi
  rw [hexec]
  simp only [Host.Outcome.next.injEq]
  refine ⟨fun hok hb => ?crc, fun hok hh hb => ?hops, fun hbad hb => ?copy, fun hok hh ha hs => arrive_auth ho ht hc hok hh ha hs⟩
  case crc => exact (arrive_crc ho ht hc hok).trans (if_neg (by simp [hb]))
  case hops => exact (arrive_hops ho ht hc hok hh).trans (if_neg (by simp [hb]))
  case copy =>
    cases hok : cellOk c with
    | false => exact (arrive_crc ho ht hc hok).trans (if_pos hb)
    | true => exact (arrive_hops ho ht hc hok (hbad.resolve_left (by simp [hok]))).trans (if_pos hb)

/-! ### Transit (R46, R48, R49, R53) -/

/-- A cell for this chip that passes: a reserved TYPE alone is dealt with here (R46). -/
theorem transit_here {s : State} {b : Bool} {c : Cell} (res : Nat) (ho : onRing s = true) (hb : c.bcast = false)
    (hd : c.dst.toNat = ownPos s) :
    transit s b c res =
      if reservedType c.typ = false then s
      else if cellOk c then freeIngress (noDst (takeIngress s c)) c else crcFail s b := by
  unfold transit
  rw [if_neg (by simp [ho]), if_pos (by simp [hb, hd])]
  cases reservedType c.typ <;> cases cellOk c <;> simp

/-- A cell for another chip, or for every chip. -/
theorem transit_past {s : State} {b : Bool} {c : Cell} (res : Nat) (ho : onRing s = true) (h : c.bcast = true ∨ c.dst.toNat ≠ ownPos s) :
    transit s b c res =
      (let s1 := if cellOk c then s else crcFail s b
       if c.hops = 127 then hopDrop s1
       else if c.src.toNat = ownPos s ∧ headKnown s = true then (if c.bcast then s1 else noDst s1)
       else if c.bcast = true ∧ reservedType c.typ = true ∧ cellOk c = true then forward (noDst s1) b c res
       else forward s1 b c res) := by
  unfold transit
  rw [if_neg (by simp [ho]), if_neg (by rcases h with h | h <;> simp [h])]
  simp only [beq_iff_eq, Bool.and_eq_true, and_assoc]

/-- Settles O18: a cell for this chip by `transit_here`, any other by `transit_past`; the credits that are owed by the timer's condition. -/
theorem cellTransit : Obligations.CellTransit := by
  refine ⟨fun s b c res => ⟨fun ho => ?off, fun ho => ⟨fun hb hd => ⟨fun hr => ?other, fun hr hok => ?reserved, fun hr hok => ?broken⟩,
      fun h => ⟨fun hh => ?hops, fun hh own hb => ?ownCopy, fun hh own hb => ?ownCell, fun hh own hr => ?forwarded,
        fun hh own hb hr hok => ?copied⟩⟩⟩,
    fun s pos cls b => ⟨fun h => ?kept, fun hn hl => ?sent⟩⟩
  case off => exact congrArg Host.Outcome.next (if_pos (by simp [ho]))
  case other => exact congrArg Host.Outcome.next ((transit_here _ ho hb hd).trans (if_pos hr))
  case reserved => exact congrArg Host.Outcome.next ((transit_here _ ho hb hd).trans ((if_neg (by simp [hr])).trans (if_pos hok)))
  case broken => exact congrArg Host.Outcome.next ((transit_here _ ho hb hd).trans ((if_neg (by simp [hr])).trans (if_neg (by simp [hok]))))
  case hops => exact congrArg Host.Outcome.next ((transit_past _ ho h).trans (if_pos hh))
  case ownCopy => exact congrArg Host.Outcome.next ((transit_past _ ho h).trans ((if_neg hh).trans ((if_pos own).trans (if_pos hb))))
  case ownCell =>
    exact congrArg Host.Outcome.next ((transit_past _ ho h).trans ((if_neg hh).trans ((if_pos own).trans (if_neg (by simp [hb])))))
  case forwarded =>
    refine congrArg Host.Outcome.next ((transit_past _ ho h).trans ((if_neg hh).trans ((if_neg own).trans (if_neg ?_))))
    rcases hr with hr | hr | hr <;> simp [hr]
  case copied =>
    refine congrArg Host.Outcome.next ((transit_past _ ho h).trans ((if_neg hh).trans ((if_neg own).trans ((if_pos ⟨hb, hr, hok⟩).trans ?_))))
    rw [if_pos hok]
    rfl
  case kept =>
    refine congrArg Host.Outcome.next (if_pos ?_)
    rcases h with h | h <;> simp [h]
  case sent =>
    refine congrArg Host.Outcome.next ((if_neg (by simp [hn, hl])).trans ?_)
    rw [BitVec.ofNat_toNat, BitVec.setWidth_eq]

end Sys2Proof.Machine
end

section
/-!
PROOFS. The sideband: the election, the frames on the line and the frames heard (R71 to R78, R274, R275, R289, R353, R354; O20 to O22).
-/
namespace Sys2Proof.Machine

/-! ### What the sideband's operations leave -/

/-- The mode and the role of head are read from MGT_MODE alone. -/
theorem role_of_rd {s t : State} (h : rd t (adr pMgt 0x04C) = rd s (adr pMgt 0x04C)) : mode t = mode s ∧ isHead t = isHead s := by
  have hfield (f : Fld) (hf : f.off = 0x04C) : rf t pMgt f = rf s pMgt f := by
    unfold rf
    rw [hf, h]
  have hmode : mode t = mode s := hfield MGT_MODE_MODE rfl
  have hprev : prevMode t = prevMode s := hfield MGT_MODE_PREV rfl
  refine ⟨hmode, ?_⟩
  unfold isHead
  rw [hmode, hprev]

/-- The count of a capture leaves the straps and the boot (R74). -/
theorem capture_mgt (s : State) (b : Bool) : (capture s b).mgt = s.mgt := by
  unfold capture
  split <;> rfl

/-- So does an ELECT noted. -/
theorem noteElect_mgt (s : State) (slot : Nat) : (noteElect s slot).mgt = s.mgt := by
  unfold noteElect
  split_ifs <;> rfl

/-- An ELECT noted leaves the mode. -/
theorem isHead_noteElect (s : State) (slot : Nat) : isHead (noteElect s slot) = isHead s := by
  refine (role_of_rd ?_).2
  unfold noteElect
  split_ifs
  · rfl
  · rfl
  · exact (rd_wf_mgt (by decide) (by decide)).trans (rd_wf_mgt (by decide) (by decide))

/-- So does a HEAD_CLAIM noted. -/
theorem isHead_noteClaim (s : State) (slot : Nat) : isHead (noteClaim s slot) = isHead s :=
  (role_of_rd ((rd_wf_mgt (by decide) (by decide)).trans (rd_wf_mgt (by decide) (by decide)))).2

/-! ### The election (R76, R77, R354) -/

/-- The word that ELECT_GO is written with has its bit. -/
theorem bit_electGo (v : Word) : bit (v ||| 0x2) 1 = true := by
  have h : (v ||| 0x2#32).toNat.testBit 1 = true := by
    rw [BitVec.toNat_or, Nat.testBit_or, show (0x2#32).toNat.testBit 1 = true from rfl, Bool.or_true]
  unfold bit
  simpa [Nat.testBit_eq_decide_div_mod_eq] using h

/-- A write of SBD_CONTROL with ELECT_GO. -/
theorem sbdControl_electGo (s : State) (v : Word) :
    sbdControl s (v ||| 0x2) = electGo (dropSuppressed (writeFields s pSbd 0x040 (v ||| 0x2))) := if_pos (bit_electGo v)

/-- WINNER cleared (R354). -/
def winnerCleared (s : State) : State :=
  wb (wf { s with sbd := { s.sbd with claimed := false } } pSbd SBD_ELECT_WINNER 0) pSbd SBD_ELECT_WINNER_VALID false

theorem mode_winnerCleared (s : State) : mode (winnerCleared s) = mode s :=
  (role_of_rd (s := s) ((rd_wf_mgt (by decide) (by decide)).trans (rd_wf_mgt (by decide) (by decide)))).1

theorem electGo_enabled {s : State} (h : rb s pSbd SBD_CONTROL_ENABLE = true) :
    electGo s = if mode s = 0 then queueElect (winnerCleared s) else winnerCleared s := by
  have hgo : electGo s = if mode (winnerCleared s) == 0 then queueElect (winnerCleared s) else winnerCleared s := if_neg (by simp [h])
  rw [hgo, mode_winnerCleared]
  simp only [beq_iff_eq]

/-- The window that closes on a CANDIDATE (R76). -/
theorem windowClose_won {s : State} (hw : s.sbd.window = true) (he : electState s = 1) :
    windowClose s = wf { s with sbd := { s.sbd with window := false } } pSbd SBD_ELECT_STATE 2 := if_pos (by simp [hw, he])

/-- Settles O20: the write by the gate, the election by what clears WINNER, the timers by their conditions. -/
theorem election : Obligations.Election := by
  refine ⟨fun s => ⟨fun src hg => ?go, fun hw he => ⟨_, congrArg Host.Outcome.next (windowClose_won hw he), ?won, rfl, rfl, rfl, rfl⟩,
      fun h => ?stays, fun h => congrArg Host.Outcome.next (if_pos h), fun h => congrArg Host.Outcome.next (if_neg (by simp [h]))⟩,
    fun s => ⟨sbdControl_electGo s, fun h => if_pos (by simp [h]), fun h => ⟨fun hm => ?hold, fun hm => ?other⟩⟩⟩
  case go => exact congrArg Host.Outcome.next (access_write hg)
  case won => exact rf_wf_self _ _ _ _ rfl
  case stays =>
    refine congrArg Host.Outcome.next (if_neg ?_)
    rcases h with h | h <;> simp [h]
  case hold => exact (electGo_enabled h).trans (if_pos hm)
  case other => exact (electGo_enabled h).trans (if_neg hm)

/-! ### The line (R73, R75) -/

/-- A frame of a free line starts: nothing else is on it, and no back-off is under way. -/
theorem frameStart_free {s : State} {f : Frame} {rest : List Frame} (hq : s.sbd.queue = f :: rest) (hb : s.mgt.boot ≠ .unpowered)
    (hl : s.sbd.onLine = false) (hk : s.sbd.backoff = false) (hm : maySend s f = true) (a : Arb) :
    frameStart s a =
      match a with
      | .clean => lfsrStep (setFrames s (f :: rest) true false)
      | .lost typ slot => frameLost s f rest typ.toNat slot.toNat
      | .collided => frameCollided s f rest := by
  unfold frameStart
  rw [if_neg (by simp [hb, hl, hk]), hq]
  exact if_neg (by simp [hm])

/-- The frame that ends on the line has left (R73, R75). -/
def frameGone (s : State) (f : Frame) (rest : List Frame) : State :=
  emit (setFrames s rest false false) (.frame f.typ f.body (frameWire f.typ s.mgt.pins.toNat Config.dieSerial f.body))

/-- What the end of a frame tells of it. -/
theorem frameSent_ends {s : State} {f : Frame} {rest : List Frame} (hq : s.sbd.queue = f :: rest) (hl : s.sbd.onLine = true)
    (hm : maySend s f = true) :
    frameSent s =
      if f.soft then wb (frameGone s f rest) pSbd SBD_TX_DONE true
      else if f.typ = 3 then
        noteElect (wf { frameGone s f rest with sbd := { (frameGone s f rest).sbd with window := true } } pSbd SBD_ELECT_STATE 1)
          (ownSlot (frameGone s f rest))
      else if f.typ = 2 then noteClaim (frameGone s f rest) (ownSlot (frameGone s f rest))
      else frameGone s f rest := by
  unfold frameSent
  rw [hq]
  dsimp only
  rw [if_neg (by simp [hl, hm])]
  simp only [beq_iff_eq]
  rfl

/-- A frame that may not leave stays as it is. -/
theorem frame_held {s : State} {f : Frame} {rest : List Frame} (hq : s.sbd.queue = f :: rest) (hm : maySend s f = false) :
    frameSent s = s ∧ ∀ a, frameStart s a = s := by
  constructor
  · unfold frameSent
    rw [hq]
    exact if_pos (by simp [hm])
  · intro a
    unfold frameStart
    rw [hq]
    simp [hm]

/-- Nothing starts without power, on a line in use, in a back-off, or with no frame that waits. -/
theorem frameStart_none {s : State} (a : Arb)
    (h : s.mgt.boot = .unpowered ∨ s.sbd.onLine = true ∨ s.sbd.backoff = true ∨ s.sbd.queue = []) : frameStart s a = s := by
  unfold frameStart
  rcases h with h | h | h | h <;> simp [h]

/-- Nothing ends on a line without a frame of this chip. -/
theorem frameSent_none {s : State} (h : s.sbd.onLine = false ∨ s.sbd.queue = []) : frameSent s = s := by
  unfold frameSent
  rcases h with h | h
  · cases s.sbd.queue <;> simp [h]
  · simp [h]

/-- Settles O21: a frame that starts by the arbitration, one that ends by its type. -/
theorem frameLine : Obligations.FrameLine := by
  refine ⟨fun s f rest hq => ⟨fun hm => ?held, fun hb hl hk hm => ?starts, fun hl hm => ?ends⟩,
    fun s => ⟨fun a h => congrArg Host.Outcome.next (frameStart_none a h), fun h => congrArg Host.Outcome.next (frameSent_none h), rfl,
      fun src hg => ⟨congrArg Host.Outcome.next (access_write hg), congrArg Host.Outcome.next (access_write hg)⟩⟩⟩
  case held =>
    obtain ⟨hsent, hstart⟩ := frame_held hq hm
    exact ⟨congrArg Host.Outcome.next hsent, fun a => congrArg Host.Outcome.next (hstart a)⟩
  case starts =>
    have hstart (a : Arb) := frameStart_free hq hb hl hk hm a
    refine ⟨congrArg Host.Outcome.next (hstart .clean), fun typ slot => congrArg Host.Outcome.next (hstart (.lost typ slot)),
      fun ht => congrArg Host.Outcome.next ((hstart .collided).trans (if_neg ?_)),
      fun ht hf => congrArg Host.Outcome.next ((hstart .collided).trans (if_pos (by simpa [ht] using hf)))⟩
    rcases ht with ht | ht
    · simp [Nat.not_le.2 ht]
    · simp [ht]
  case ends =>
    have hends := frameSent_ends hq hl hm
    exact ⟨fun hs => congrArg Host.Outcome.next (hends.trans (if_pos hs)),
      fun hs h3 => congrArg Host.Outcome.next (hends.trans ((if_neg (by simp [hs])).trans (if_pos h3))),
      fun hs h2 => congrArg Host.Outcome.next
        (hends.trans ((if_neg (by simp [hs])).trans ((if_neg (by simp [h2])).trans (if_pos h2)))),
      fun hs h3 h2 => congrArg Host.Outcome.next
        (hends.trans ((if_neg (by simp [hs])).trans ((if_neg h3).trans (if_neg h2))))⟩

/-! ### Frames heard (R74 to R78) -/

/-- A frame with a slot mask has its effect on the chips that it names (R72, R275). -/
theorem masked_heard {s : State} (h : hears s = true) (b : Bool) (mask : BitVec 64) (eff : State → State) :
    (if (capture s b).mgt.boot != .unpowered && named (capture s b) mask then eff (capture s b) else capture s b) =
      if named s mask then eff (capture s b) else capture s b := by
  have hboot : ((capture s b).mgt.boot != .unpowered) = true := by rw [capture_mgt]; exact h
  have hnamed : named (capture s b) mask = named s mask := by unfold named; rw [capture_mgt]
  rw [hboot, hnamed, Bool.true_and]

theorem exec_wakeFrameRx {s : State} (h : hears s = true) (b : Bool) (mask : BitVec 64) :
    exec (.wakeFrameRx mask b) s = .next (if named s mask then armAlarm (capture s b) (rtc (capture s b)) 2 else capture s b) := by
  change execWakeFrameRx mask b s = _
  unfold execWakeFrameRx
  rw [if_pos h]
  exact congrArg Host.Outcome.next (masked_heard h b mask fun s => armAlarm s (rtc s) 2)

theorem exec_alarmSetFrameRx {s : State} (h : hears s = true) (b : Bool) (mask alarm : BitVec 64) :
    exec (.alarmSetFrameRx mask alarm b) s = .next (if named s mask then armAlarm (capture s b) alarm 3 else capture s b) := by
  change execAlarmSetFrameRx mask alarm b s = _
  unfold execAlarmSetFrameRx
  rw [if_pos h]
  exact congrArg Host.Outcome.next (masked_heard h b mask fun s => armAlarm s alarm 3)

theorem exec_faultFrameRx {s : State} (h : hears s = true) (loc : BitVec 64) (code : BitVec 16) (r : Word) (b : Bool) :
    exec (.faultFrameRx loc code r b) s = .next (if awake s then hearFault (capture s b) loc code else capture s b) := by
  change execFaultFrameRx loc code r b s = _
  unfold execFaultFrameRx
  rw [if_pos h]

/-- Without power nothing runs, and nothing is heard. -/
theorem boot_of_deaf {s : State} (h : hears s = false) : s.mgt.boot = .unpowered := by
  simpa [hears] using h

/-- A chip that loses is LOST (R76). -/
theorem electState_electLost (s : State) : electState (electLost s) = 3 := rf_wf_self _ _ _ _ rfl

/-- What SBD_ELECT shows beside STATE stays. -/
theorem rf_electLost (s : State) {g : Fld} (ho : g.off = 0x044) (hg : g.ok = true) (ha : SBD_ELECT_STATE.apart g = true) :
    rf (electLost s) pSbd g = rf s pSbd g := (rf_wf_same _ _ _ _ _ ho hg ha).trans (rf_of rfl _ _)

/-- A claim on a chip that is not the head (R354): WINNER is the claimant, and the chip is LOST. -/
theorem hearClaim_loses {s : State} {slot : Nat} (h : isHead s = false) : hearClaim s slot = electLost (noteClaim s slot) :=
  if_neg (by simp [isHead_noteClaim, h])

theorem hearElect_loses {s : State} {slot : Nat} (h : isHead s = false) (hs : slot < strapSlot s) :
    hearElect s slot = electLost (noteElect s slot) := by
  have hstrap : strapSlot (noteElect s slot) = strapSlot s := by unfold strapSlot; rw [noteElect_mgt]
  exact (if_neg (by simp [isHead_noteElect, h])).trans (if_pos (by rwa [hstrap]))

/-- WINNER as a claim shows it. -/
theorem hearClaim_winner {s : State} {slot : Nat} (hs : slot < 64) (h : isHead s = false) :
    rf (hearClaim s slot) pSbd SBD_ELECT_WINNER = slot ∧ rb (hearClaim s slot) pSbd SBD_ELECT_WINNER_VALID = true := by
  rw [hearClaim_loses h]
  constructor
  · rw [rf_electLost _ rfl rfl rfl]
    unfold noteClaim wb
    simp (disch := decide) only [rf_wf_same, rf_wf_self]
    exact Nat.mod_eq_of_lt hs
  · unfold rb
    rw [rf_electLost _ rfl rfl rfl]
    exact rb_wb_self _ _ _ _ rfl (by decide)

/-- A quantity is the join of its halves (R8). -/
theorem join64_lo32_hi32 (x : BitVec 64) : join64 (lo32 x) (hi32 x) = x := by
  apply BitVec.eq_of_toNat_eq
  have := x.isLt
  simp only [join64, lo32, hi32, BitVec.toNat_ofNat]
  omega

/-- The alarm's registers after it is armed (R275). -/
theorem armAlarm_regs (s : State) (a : BitVec 64) (k : BitVec 3) :
    rd (armAlarm s a k) (adr pAon 0x048) = lo32 a ∧ rd (armAlarm s a k) (adr pAon 0x04C) = hi32 a := by
  unfold armAlarm wb
  rw [rd_wf_ne _ _ _ _ _ (by decide), rd_wf_ne _ _ _ _ _ (by decide)]
  exact ⟨(rd_wr_ne _ _ _ _ (by decide)).trans (rd_wr_self _ _ _), rd_wr_self _ _ _⟩

/-- Settles O22: a frame heard is counted when it captured the receiver, and has its effect; without power no frame has one. -/
theorem framesHeard : Obligations.FramesHeard := by
  refine ⟨fun s b h => ⟨fun loc code r => ⟨fun ha => ?runs, fun ha => ?stands⟩, fun slot ep => congrArg Host.Outcome.next (if_pos h),
      fun slot tr => congrArg Host.Outcome.next (if_pos h), fun mask => ⟨fun hn => ?wakes, fun hn => ?others⟩,
      fun mask alarm => ⟨fun hn => ?sets, fun hn => ?unset⟩, congrArg Host.Outcome.next (if_pos h)⟩,
    fun s b tr loc mask alarm code r slot ep h => ?deaf, fun s slot hs h => ?claim, fun s a k => ?alarm⟩
  case runs => rw [exec_faultFrameRx h, if_pos ha]
  case stands => rw [exec_faultFrameRx h, if_neg (by simp [ha])]
  case wakes => rw [exec_wakeFrameRx h, if_pos hn]
  case others => rw [exec_wakeFrameRx h, if_neg (by simp [hn])]
  case sets => rw [exec_alarmSetFrameRx h, if_pos hn]
  case unset => rw [exec_alarmSetFrameRx h, if_neg (by simp [hn])]
  case deaf =>
    have hoff := boot_of_deaf h
    have hear (t : State) : (if hears s then t else s) = s := if_neg (by simp [h])
    refine ⟨congrArg Host.Outcome.next ?_, congrArg Host.Outcome.next (hear _), congrArg Host.Outcome.next (hear _),
      congrArg Host.Outcome.next ?_, congrArg Host.Outcome.next ?_, congrArg Host.Outcome.next (hear _)⟩
    · rw [hear, if_neg (by simp [awake, hoff])]
    · rw [hear, if_neg (by simp [hoff])]
    · rw [hear, if_neg (by simp [hoff])]
  case claim =>
    obtain ⟨hwin, hvalid⟩ := hearClaim_winner hs h
    refine ⟨?_, hwin, hvalid, ?_, fun hlow => ?_⟩
    · rw [hearClaim_loses h, electState_electLost]
    · rw [hearClaim_loses h]
      rfl
    · rw [hearElect_loses h hlow, electState_electLost]
  case alarm =>
    obtain ⟨hlo, hhi⟩ := armAlarm_regs s a k
    refine ⟨?_, rb_wb_self _ _ _ _ rfl (by decide), rfl⟩
    rw [hlo, hhi, join64_lo32_hi32]

end Sys2Proof.Machine
end

section
/-!
PROOFS. The queue and the history over a step, chip resets, and the authority of an access (R96 to R100, R103, R306; O1, O5, O10, O24).
-/
namespace Sys2Proof.Machine

/-! ### The queue and the history -/

/-- Settles O5: the queue, what was sent and the counter of free values are among what every command keeps. -/
theorem execKeepsHistory : Obligations.ExecKeepsHistory := by
  intro c s t h
  obtain ⟨hpending, hout, hfresh, -, -⟩ := kept_exec c (Kept.refl s) t h
  exact ⟨hpending, hout, hfresh⟩

/-- Settles O1: a step splits on the queue alone. -/
theorem stepRunsFront : Obligations.StepRunsFront := ⟨fun _ _ _ => step_cons rfl, fun _ => step_nil⟩

/-! ### Chip resets (R103, R306) -/

/-- The record of a reset's cause changes registers alone. -/
theorem resetChip_beside {α : Type} (f : State → α) (hf : ∀ s a v, f (wr s a v) = f s) (s : State) (cause : Nat) :
    f (resetChip s cause) = f (resetCore s cause) := by
  unfold resetChip incF addF wf
  dsimp only
  split
  · exact (hf _ _ _).trans (hf _ _ _)
  · exact hf _ _ _

/-- The record of a reset's cause, beside which the count of watchdog resets may rise. -/
theorem resetChip_cause (s : State) (cause : BitVec 3) : rf (resetChip s cause.toNat) pAon AON_RESET_CAUSE_CAUSE = cause.toNat := by
  have hcause (t : State) : rf (wf t pAon AON_RESET_CAUSE_CAUSE cause.toNat) pAon AON_RESET_CAUSE_CAUSE = cause.toNat :=
    (rf_wf_self _ _ _ _ rfl).trans (Nat.mod_eq_of_lt cause.isLt)
  unfold resetChip
  dsimp only
  split
  · exact (rf_wf_same _ pAon AON_RESET_CAUSE_WDOG_COUNT AON_RESET_CAUSE_CAUSE _ rfl rfl rfl).trans (hcause _)
  · exact hcause _

/-- What a chip reset leaves beside the registers: the queue, the outputs and the pins, and EBM but for COLD and the P5 exit. -/
theorem resetChip_frame (s : State) (cause : Nat) :
    (resetChip s cause).mgt.boot = .inReset ∧ (resetChip s cause).que = State.reset.que ∧ (resetChip s cause).prt.tab = []
      ∧ (resetChip s cause).pending = s.pending ∧ (resetChip s cause).out = s.out ∧ (resetChip s cause).mgt.pins = s.mgt.pins
      ∧ (resetChip s cause).ebm = (if cause = 0 ∨ cause = 4 then [] else s.ebm) := by
  have hmgt : (resetCore s cause).mgt = { State.reset.mgt with
    boot := .inReset, pins := s.mgt.pins, checks := if cause == 4 then s.mgt.checks else [] } := rfl
  have hebm : (resetCore s cause).ebm = if cause == 0 || cause == 4 then [] else s.ebm := rfl
  rw [resetChip_mgt, hmgt, resetChip_beside State.ebm fun _ _ _ => rfl, hebm]
  exact ⟨rfl, resetChip_beside State.que (fun _ _ _ => rfl) s cause, resetChip_beside (·.prt.tab) (fun _ _ _ => rfl) s cause,
    resetChip_beside State.pending (fun _ _ _ => rfl) s cause, resetChip_beside State.out (fun _ _ _ => rfl) s cause, rfl, by simp⟩

/-- Settles O10: the command is `resetChip` of a cause, where there is something to reset; MGT_RESET.GO is the write of its register. -/
theorem chipReset : Obligations.ChipReset := by
  refine ⟨fun s cause h => ?none, fun s cause hc hb hd => ?resets, fun s src hg => ⟨fun hq => ?go, fun hq => ?refused⟩⟩
  case none => exact congrArg Host.Outcome.next (if_neg (by rcases h with h | h <;> simp [h]))
  case resets =>
    exact ⟨_, congrArg Host.Outcome.next (if_pos (by simp [hc, hb, hd])), resetChip_cause s cause, resetChip_frame s cause.toNat⟩
  case go => exact congrArg Host.Outcome.next ((gatedW_ok hg).trans (if_pos hq))
  case refused => exact congrArg Host.Outcome.next ((gatedW_ok hg).trans (if_neg (by simp [hq])))

/-! ### Authority (R96 to R99) -/

/-- The discard of a cell for its authority goes ahead of every wait (R47). -/
theorem gate_drop {s : State} {src : Src} {page off : Nat} {w : Bool} (hu : unanswered s src page (off % 0x1000) = false)
    (hr : refusedBy s src page off w = some .drop) : gate s src page off w = .drop := by
  unfold gate
  simp [hu, hr]

/-- An access that must wait waits, or is discarded. -/
theorem gate_waits {s : State} {src : Src} {page off : Nat} {w : Bool} (hu : unanswered s src page (off % 0x1000) = false)
    (hm : mustWait s src page (off % 0x1000) = true) : gate s src page off w = .hold ∨ gate s src page off w = .drop := by
  by_cases hr : refusedBy s src page off w = some .drop
  · exact .inr (gate_drop hu hr)
  · left
    unfold gate
    simp [hu, hm, hr]

/-- What the checks refuse is refused, once it waits for nothing. -/
theorem gate_refused {s : State} {src : Src} {page off : Nat} {w : Bool} {g : Gate} (hu : unanswered s src page (off % 0x1000) = false)
    (hm : mustWait s src page (off % 0x1000) = false) (hr : refusedBy s src page off w = some g) : gate s src page off w = g := by
  unfold gate
  by_cases hd : g = .drop
  · simp [hu, hr, hd]
  · simp [hu, hm, hr, hd]

section
variable {s : State} {src : Src} {page off : Nat} {w : Bool} (ha : off % 4 = 0) (hlt : off < 0x1000) (hb : blockOf page ≠ none)
include ha hlt hb

/-- An aligned access off the ring to a page of the map is refused for its authority first, then for the mode. -/
theorem refusedBy_local (h : ∀ a p tag, src ≠ .ring a p tag) :
    refusedBy s src page off w =
      if authorised src page off w = false then some (.refuse 1 false)
      else if modeAllows s src page off w = false then some (.refuse 2 false) else none := by
  cases src with
  | ring a p tag => exact absurd rfl (h a p tag)
  | pf | vf _ | svc | jtag => simp [refusedBy, ha, hb, Nat.not_le.2 hlt, srcPort]

/-- A cell is discarded: its authority is neither MANAGER nor MAINTENANCE, or MAINTENANCE writes outside the lifeline, or no head gave it. -/
theorem refusedBy_cell {a : BitVec 3} {p : BitVec 6} {tag : Word}
    (h : (a ≠ 1 ∧ a ≠ 3) ∨ (a = 3 ∧ w = true ∧ lifeline page off = false) ∨ (a ≠ 0 ∧ p ≠ 0)) :
    refusedBy s (.ring a p tag) page off w = some .drop := by
  unfold refusedBy
  dsimp only
  by_cases hcell : (a ≠ 1 ∧ a ≠ 3) ∨ (a ≠ 0 ∧ p ≠ 0)
  · rw [if_pos (by simpa [or_comm] using hcell)]
  · obtain ⟨h3, hw, hl⟩ : a = 3 ∧ w = true ∧ lifeline page off = false := by tauto
    rw [if_neg (by simpa [or_comm] using hcell)]
    simp [ha, hb, Nat.not_le.2 hlt, authorised, srcPort, h3, hw, hl]

end

/-- VAULT answers accesses to the AON page alone (R99). -/
theorem modeAllows_vault {s : State} {src : Src} {page off : Nat} {w : Bool} (hm : mode s = 7) (hp : page ≠ pAon) :
    modeAllows s src page off w = false := by
  simp [modeAllows, hm, hp]

/-- Settles O24: the checks of the gate, for each port of arrival. -/
theorem authority : Obligations.Authority := by
  intro s page off w ha hlt hb
  have hmod : off % 0x1000 = off := Nat.mod_eq_of_lt hlt
  refine ⟨fun src hu hm => gate_waits (by rwa [hmod]) (by rwa [hmod]), fun src hu hm => ?_, fun a p tag hu => ?_⟩
  · have refused {g : Gate} (hr : refusedBy s src page off w = some g) : gate s src page off w = g :=
      gate_refused (by rwa [hmod]) (by rwa [hmod]) hr
    refine ⟨?function, ?service, ?debug, ?vault⟩
    case function =>
      rintro i rfl
      exact refused ((refusedBy_local ha hlt hb (by simp)).trans (if_pos rfl))
    case service =>
      rintro rfl hw hl
      exact refused ((refusedBy_local ha hlt hb (by simp)).trans (if_pos (by simp [authorised, hw, hl])))
    case debug =>
      rintro rfl hq
      exact refused ((refusedBy_local ha hlt hb (by simp)).trans ((if_neg (by simp [authorised])).trans (if_pos (by simp [modeAllows, hq]))))
    case vault =>
      rintro hsrc hm hp
      have hring : ∀ a p tag, src ≠ .ring a p tag := by rcases hsrc with rfl | rfl <;> simp
      have hauth : authorised src page off w = true := by rcases hsrc with rfl | rfl <;> rfl
      exact refused ((refusedBy_local ha hlt hb hring).trans ((if_neg (by simp [hauth])).trans (if_pos (modeAllows_vault hm hp))))
  · have discarded (h : (a ≠ 1 ∧ a ≠ 3) ∨ (a = 3 ∧ w = true ∧ lifeline page off = false) ∨ (a ≠ 0 ∧ p ≠ 0)) :
        gate s (.ring a p tag) page off w = .drop := gate_drop (by rwa [hmod]) (refusedBy_cell ha hlt hb h)
    exact ⟨fun h1 h3 => discarded (.inl ⟨h1, h3⟩), fun h3 hw hl => discarded (.inr (.inl ⟨h3, hw, hl⟩)),
      fun h0 hp => discarded (.inr (.inr ⟨h0, hp⟩))⟩

end Sys2Proof.Machine
end

section
/-!
PROOFS. Accesses to dark blocks and the commands of the page header (R82, R87 to R94, R101, R351; O26, O28).
-/
namespace Sys2Proof.Machine

/-! ### Dark blocks (R93, R94) -/

/-- Votes cast on domains leave the accesses that wait. -/
theorem each_castHw_held (l : List Nat) (s : State) (slot : Nat) : (each l s (fun s d => castHw s slot d)).held = s.held := by
  unfold each
  induction l generalizing s with
  | nil => rfl
  | cons d l ih => exact ih (castHw s slot d)

/-- An access that wakes its block casts the votes of slot 63, and waits. -/
theorem wakeHold_waits (s : State) (src : Src) (page off : Nat) (op : Op) :
    (wakeHold s src page off op).held = s.held ++ [⟨src, page, off, op, none⟩]
      ∧ { wakeHold s src page off op with held := s.held } =
        each (domsOf page) (incF s page PAGE_DARK_WAKES) (fun s d => castHw s 63 d) := by
  have hheld : (each (domsOf page) (incF s page PAGE_DARK_WAKES) (fun s d => castHw s 63 d)).held = s.held := each_castHw_held _ _ _
  constructor
  · exact congrArg (· ++ [⟨src, page, off, op, none⟩]) hheld
  · rw [← hheld]
    rfl

/-- Settles O26: the gate's answer decides what becomes of the access, and the accesses that wait decide on the release. -/
theorem darkBlocks : Obligations.DarkBlocks := by
  refine fun s => ⟨fun src page off v hg => congrArg Host.Outcome.next (access_dark rfl hg),
    fun src page off hg => congrArg Host.Outcome.next (access_dark rfl hg), fun src page off op w hw hg => ?_,
    fun dom hok => ⟨fun h => ?_, fun h => congrArg Host.Outcome.next (if_pos h)⟩⟩
  · exact ⟨_, congrArg Host.Outcome.next (access_wake hw.symm hg), wakeHold_waits _ _ _ _ _⟩
  · exact congrArg Host.Outcome.next ((if_neg (Bool.eq_false_iff.1 h)).trans (if_pos hok))

/-! ### The page header (R87 to R92, R351) -/

/-- LOCK sets, and the check of the page's covered fields is captured. -/
theorem lockWrite_sets {s : State} {page : Nat} (h : locked s page = false) :
    locked (lockWrite s page 1) page = true
      ∧ tabGet (fun _ => (0 : Word)) (lockWrite s page 1).mgt.checks page = pageCheck s page := by
  have hset : (bit 1 0 && !locked s page) = true := by rw [h]; rfl
  unfold lockWrite
  rw [if_pos hset]
  exact ⟨rb_wb_self _ _ _ _ rfl (by decide), tabGet_set_self _ _ _ _⟩

/-- A lock that is set stays. -/
theorem lockWrite_locked {s : State} {page : Nat} (h : locked s page = true) (v : Word) : lockWrite s page v = s := by
  unfold lockWrite
  rw [if_neg (by simp [h])]

/-- Settles O28: each command is a write of its header register, or the end of the page's soft reset. -/
theorem pageHeader : Obligations.PageHeader := by
  intro s src page
  refine ⟨fun v hg => ?cast, fun v hg => ?drop, fun hg hl => ?lock, fun hg hl => ?held, fun v hg => ?events, fun hg => ?reset,
    fun h => congrArg Host.Outcome.next (if_pos h), fun h => congrArg Host.Outcome.next (if_neg (by simp [h]))⟩
  case cast => exact congrArg Host.Outcome.next (access_write hg)
  case drop => exact congrArg Host.Outcome.next (access_write hg)
  case lock => exact ⟨_, congrArg Host.Outcome.next (access_write hg), lockWrite_sets hl⟩
  case held => exact congrArg Host.Outcome.next ((access_write hg).trans (lockWrite_locked hl 1))
  case events => exact congrArg Host.Outcome.next (access_write hg)
  case reset => exact congrArg Host.Outcome.next (access_write hg)

end Sys2Proof.Machine
end

section
/-!
PROOFS. Writes of windows: where they come to their register and where they do not, the index registers and the admin queue's (R84, R94, R99,
R108, R128 to R130, R360; O31, O32).
-/
namespace Sys2Proof.Machine

/-! ### The way to a window's register (R80, R84, R94) -/

/-- The port by which an owner's function writes its window. -/
def ownerSrc : Owner → Src
  | .mgr => .pf
  | .inst i => .vf i

/-- Nothing writes a window of a chip that does not run, or is in a deep state. -/
theorem winCmd_off {s : State} {o : Owner} {off : Nat} {v : Word} (h : s.mgt.boot ≠ .running ∨ chipDeep s = true) :
    winCmd s o off v = s := if_pos (by simpa using h)

/-- A member takes the index writes that its head forwards (R27). -/
theorem winCmd_member {s : State} {o : Owner} {off : Nat} {v : Word} (hb : s.mgt.boot = .running) (hd : chipDeep s = false)
    (hm : isMember s = true) :
    winCmd s o off v =
      if off < 0x1000 then s else if off % 8 == 0 then setPi s o ((off - 0x1000) / 8) v else setCi s o ((off - 0x1000) / 8) v :=
  (if_neg (by simp [hb, hd])).trans (if_pos hm)

section
variable {s : State} {o : Owner} {off : Nat} {v : Word} (hb : s.mgt.boot = .running) (hd : chipDeep s = false) (hm : isMember s = false)
include hb hd hm

/-- A virtual function's window lies behind its own checks alone (R84). -/
theorem winCmd_inst {i : BitVec 10} (ho : o = .inst i) : winCmd s o off v = winAccess s (.vf i) o off (.write v) := by
  subst ho
  exact (if_neg (by simp [hb, hd])).trans (if_neg (by simp [hm]))

/-- The manager window lies behind the PCIe endpoint, in order behind a wake (R6, R94). -/
theorem winCmd_mgr (ho : o = .mgr) :
    winCmd s o off v =
      if mode s = 7 then s
      else if wakePending s .pf then { s with held := s.held ++ [⟨.pf, 0x10000, off, .write v, none⟩] }
      else winAccess s .pf o off (.write v) := by
  subst ho
  have hend : (!epActive s) = decide (mode s = 7) := by rw [Bool.eq_iff_iff]; simp [epActive, hm]
  have hway : winCmd s .mgr off v = pfAccess s 0x10000 off (.write v) := (if_neg (by simp [hb, hd])).trans (if_neg (by simp [hm]))
  rw [hway, pfAccess, hend]
  simp

/-- Past the wait for a wake, every write of a window goes to its tenant engine. -/
theorem winCmd_access (h7 : o = .mgr → mode s ≠ 7) (hw : o = .mgr → wakePending s .pf = false) :
    winCmd s o off v = winAccess s (ownerSrc o) o off (.write v) := by
  cases o with
  | mgr => exact (winCmd_mgr hb hd hm rfl).trans ((if_neg (h7 rfl)).trans (if_neg (by simp [hw rfl])))
  | inst i => exact winCmd_inst hb hd hm rfl

/-- The manager window is open while the endpoint is active. -/
theorem windowOpen_mgr (h7 : mode s ≠ 7) : windowOpen s .mgr = true := by
  simp [windowOpen, hb, hd, epActive, hm, h7]

end

/-! ### The window's own checks (R84, R99, R101) -/

section
variable {s : State} {src : Src} {o : Owner} {off : Nat} {v : Word} (ha : off % 4 = 0)
include ha

theorem winAccess_closed (ho : windowOpen s o = false) :
    winAccess s src o off (.write v) = refuseAccess s src (off / 4096) off true 3 true :=
  (if_neg (by simp [ha])).trans (if_pos (by simp [ho]))

theorem winAccess_mode (ho : windowOpen s o = true) (hm : windowMode s off true = false) :
    winAccess s src o off (.write v) = refuseAccess s src (off / 4096) off true 2 false :=
  (if_neg (by simp [ha])).trans ((if_neg (by simp [ho])).trans (if_pos (by simp [hm])))

theorem winAccess_dark (ho : windowOpen s o = true) (hm : windowMode s off true = true) (ht : tenDown s o = true) :
    winAccess s src o off (.write v) = darkRefuse s src (tePage s o) true :=
  (if_neg (by simp [ha])).trans ((if_neg (by simp [ho])).trans ((if_neg (by simp [hm])).trans (if_pos ht)))

theorem winAccess_write (ho : windowOpen s o = true) (hm : windowMode s off true = true) (ht : tenDown s o = false) :
    winAccess s src o off (.write v) = winWrite s o off v :=
  (if_neg (by simp [ha])).trans ((if_neg (by simp [ho])).trans ((if_neg (by simp [hm])).trans (if_neg (by simp [ht]))))

end

/-- VAULT serves no window (R99). -/
theorem mode_of_windowMode {s : State} {off : Nat} {w : Bool} (h : windowMode s off w = true) : mode s ≠ 7 := by
  rintro h7
  simp [windowMode, h7] at h

/-- The conditions of a write that its window serves, off a member. -/
theorem winServes_iff {s : State} {o : Owner} {off : Nat} (hm : isMember s = false) :
    winServes s o off = true ↔
      s.mgt.boot = .running ∧ chipDeep s = false ∧ windowOpen s o = true ∧ windowMode s off true = true ∧ tenDown s o = false
        ∧ (o = .mgr → wakePending s .pf = false) := by
  cases o <;> simp [winServes, hm, and_assoc]

/-- A write that its window serves comes to the register, at every aligned offset of which the mode allows as much. -/
theorem winCmd_serves {s : State} {o : Owner} {off off' : Nat} {v : Word} (ha : off' % 4 = 0) (hm : isMember s = false)
    (hs : winServes s o off = true) (hmode : windowMode s off' true = windowMode s off true) : winCmd s o off' v = winWrite s o off' v := by
  obtain ⟨hb, hd, hopen, hallow, hten, hwake⟩ := (winServes_iff hm).1 hs
  rw [winCmd_access hb hd hm (fun _ => mode_of_windowMode hallow) hwake, winAccess_write ha hopen (hmode.trans hallow) hten]

/-! ### The index registers (R108, R111) -/

/-- The mode treats the index registers of a window alike (R99). -/
theorem windowMode_idx {s : State} {off : Nat} (h : 0x1000 ≤ off) : windowMode s off true = windowMode s 0x1000 true := by
  have hlate : ¬ off < 0x180 := by omega
  simp [windowMode, hlate]

/-- From 0x1000 on a window holds a PI and a CI for each queue number (R108). -/
theorem winWrite_idx {s : State} {o : Owner} {off : Nat} {v : Word} (h : 0x1000 ≤ off) :
    winWrite s o off v = if off % 8 == 0 then setPi s o ((off - 0x1000) / 8) v else setCi s o ((off - 0x1000) / 8) v := by
  unfold winWrite
  simp (disch := omega) only [if_neg, if_pos, beq_iff_eq, Bool.or_eq_true]

/-- An index write that its window serves, on a member or not. -/
theorem winCmd_idx {s : State} {o : Owner} {off : Nat} {v : Word} (hs : winServes s o 0x1000 = true) (ha : off % 4 = 0) (h : 0x1000 ≤ off) :
    winCmd s o off v = if off % 8 == 0 then setPi s o ((off - 0x1000) / 8) v else setCi s o ((off - 0x1000) / 8) v := by
  cases hm : isMember s with
  | true =>
    have hrun : s.mgt.boot = .running ∧ chipDeep s = false := by
      simp only [winServes, Bool.and_eq_true, beq_iff_eq, Bool.not_eq_true'] at hs
      exact hs.1
    rw [winCmd_member hrun.1 hrun.2 hm, if_neg (by omega)]
  | false =>
    rw [winCmd_serves ha hm hs (windowMode_idx h), winWrite_idx h]

/-- A write of TQ.PI that its window serves. -/
theorem exec_tqPiWrite {s : State} {o : Owner} (hs : winServes s o 0x1000 = true) (q : BitVec 11) (v : Word) :
    exec (.tqPiWrite o q v) s = .next (setPi s o q.toNat v) := by
  have hpi : (0x1000 + 8 * q.toNat) % 8 = 0 := by omega
  have hq : (0x1000 + 8 * q.toNat - 0x1000) / 8 = q.toNat := by omega
  have hway := winCmd_idx (v := v) hs (off := 0x1000 + 8 * q.toNat) (by omega) (by omega)
  rw [hpi, hq] at hway
  exact congrArg Host.Outcome.next hway

/-- A write of CQ.CI that its window serves. -/
theorem exec_cqCiWrite {s : State} {o : Owner} (hs : winServes s o 0x1000 = true) (q : BitVec 11) (v : Word) :
    exec (.cqCiWrite o q v) s = .next (setCi s o q.toNat v) := by
  have hci : (0x1004 + 8 * q.toNat) % 8 = 4 := by omega
  have hq : (0x1004 + 8 * q.toNat - 0x1000) / 8 = q.toNat := by omega
  have hway := winCmd_idx (v := v) hs (off := 0x1004 + 8 * q.toNat) (by omega) (by omega)
  rw [hci, hq] at hway
  exact congrArg Host.Outcome.next hway

/-- A PI of a TQ at home. -/
theorem setPi_home {s : State} {o : Owner} {q t : Nat} {x : Tq} (h : tqOf s o q = some (t, x)) (w : Word) :
    setPi s o q w =
      if qSize x.log2 ≤ bits w 0 16 then err s (lePage t) 2
      else if x.stop.isSome then s else copyPi (setTq s t { x with pi := bits w 0 16 }) o q (bits w 0 16) := by
  unfold setPi
  rw [h]

/-- A PI of a TQ of another chip goes into the head's copy and on to that chip. -/
theorem setPi_away {s : State} {o : Owner} {q : Nat} {r : QRef} (h : tqOf s o q = none) (hr : refAt s o q = some r) (w : Word) :
    setPi s o q w =
      if r.isCq || r.pos == ownPos s then s else forwardIdx (copyIdx s o q r true (bits w 0 16)) r.pos o (0x1000 + 8 * q) w := by
  simp only [setPi, h, hr]

/-- A PI of a number that has no queue. -/
theorem setPi_none {s : State} {o : Owner} {q : Nat} (h : tqOf s o q = none) (hr : refAt s o q = none) (w : Word) :
    setPi s o q w = s := by
  simp only [setPi, h, hr]

section
variable {s : State} {o : Owner} {q k : Nat} {c : Cq} {w : Word} (h : cqOf s o q = some (k, c))
include h

/-- A CI of a CQ at home that S does not reach. -/
theorem setCi_beyondSize (hv : qSize c.log2 ≤ bits w 0 16) : setCi s o q w = err s pLe 2 := by
  simp only [setCi, h, if_pos hv]

/-- A CI of a CQ at home that PI does not reach. -/
theorem setCi_beyondPi (hv : bits w 0 16 < qSize c.log2) (hspan : span c.log2 c.ci c.pi < span c.log2 c.ci (bits w 0 16)) :
    setCi s o q w = err s pLe 3 := by
  simp only [setCi, h, if_neg (Nat.not_le.2 hv), if_pos hspan]

/-- A CI of a CQ at home that is taken, and that the head's copy follows. -/
theorem setCi_taken (hv : bits w 0 16 < qSize c.log2) (hspan : span c.log2 c.ci (bits w 0 16) ≤ span c.log2 c.ci c.pi) :
    (refAt s o q = none → setCi s o q w = cqFreed (setCq s k { c with ci := bits w 0 16 }) k)
      ∧ ∀ r, refAt s o q = some r →
        setCi s o q w = cqFreed (copyIdx (setCq s k { c with ci := bits w 0 16 }) o q r false (bits w 0 16)) k := by
  have href : refAt (setCq s k { c with ci := bits w 0 16 }) o q = refAt s o q := rfl
  simp only [setCi, h, if_neg (Nat.not_le.2 hv), if_neg (Nat.not_lt.2 hspan), href]
  exact ⟨fun hr => by rw [hr], fun r hr => by rw [hr]⟩

end

/-- A CI of a CQ of another chip goes into the head's copy and on to that chip. -/
theorem setCi_away {s : State} {o : Owner} {q : Nat} {r : QRef} (h : cqOf s o q = none) (hr : refAt s o q = some r) (w : Word) :
    setCi s o q w =
      if !r.isCq || r.pos == ownPos s then s else forwardIdx (copyIdx s o q r false (bits w 0 16)) r.pos o (0x1004 + 8 * q) w := by
  simp only [setCi, h, hr]

/-- A CI of a number that has no queue. -/
theorem setCi_none {s : State} {o : Owner} {q : Nat} (h : cqOf s o q = none) (hr : refAt s o q = none) (w : Word) :
    setCi s o q w = s := by
  simp only [setCi, h, hr]

/-- Settles O31: the index that a served write brings meets the queue at home, or the head's copy of a queue of another chip. -/
theorem indexWrites : Obligations.IndexWrites := by
  intro s o q v hs
  simp only [exec_tqPiWrite hs, exec_cqCiWrite hs, Host.Outcome.next.injEq]
  refine ⟨fun t x h => ?piHome, fun h => ⟨fun hr => setPi_none h hr v, fun r hr => ?piAway⟩,
    fun k c h => ⟨setCi_beyondSize h, setCi_beyondPi h, setCi_taken h⟩, fun h => ⟨fun hr => setCi_none h hr v, fun r hr => ?ciAway⟩⟩
  case piHome =>
    rw [setPi_home h]
    refine ⟨fun hstop hv => ?_, fun hstop hv => ?_, fun hv => if_pos hv⟩
    · rw [if_neg (Nat.not_le.2 hv), if_neg (by simp [hstop])]
    · rw [if_neg (Nat.not_le.2 hv), if_pos (Option.isSome_iff_ne_none.2 hstop)]
  case piAway =>
    rw [setPi_away h hr]
    exact ⟨fun hn => if_pos (by simpa using hn), fun hc hp => if_neg (by simp [hc, hp])⟩
  case ciAway =>
    rw [setCi_away h hr]
    exact ⟨fun hn => if_pos (by simpa using hn), fun hc hp => if_neg (by simp [hc, hp])⟩

end Sys2Proof.Machine
end

section
/-!
PROOFS. The admin queue's registers, an entry that cannot be read, and the writes that no window serves (R84, R94, R99, R128 to R130, R360;
O32).
-/
namespace Sys2Proof.Machine

/-! ### Words of INST_AQ_CFG (R128) -/

theorem bit_eq_getLsbD (x : Word) (n : Nat) : bit x n = x.getLsbD n := by
  rw [BitVec.getLsbD, Nat.testBit_eq_decide_div_mod_eq]
  rfl

/-- The size field of two words with the same five low bits. -/
theorem size_congr {x y : Word} (h : ∀ k < 5, x.getLsbD k = y.getLsbD k) : bits x 0 5 = bits y 0 5 := by
  change fget x ⟨0, 0, 5⟩ = fget y ⟨0, 0, 5⟩
  apply Nat.eq_of_testBit_eq
  intro i
  rw [fget_bit, fget_bit]
  by_cases hi : i < 5
  · simp [hi, h i hi]
  · simp [hi]

theorem bitW8_bit (k : Nat) : (bitW 8).getLsbD k = decide (k = 8) := by
  have h : bitW 8 = BitVec.twoPow 32 8 := rfl
  rw [h, BitVec.getLsbD_twoPow]
  simp [eq_comm]

theorem sizeMask_bit (k : Nat) : (0x1F : Word).getLsbD k = decide (k < 5) := by
  have h : (0x1F : Word) = fmask ⟨0, 0, 5⟩ := rfl
  by_cases hk : k < 32
  · rw [h, fmask_bit _ _ hk]
    simp
  · rw [BitVec.getLsbD_of_ge _ _ (by omega)]
    simp
    omega

/-- The configuration with ENABLE as a write sets it. -/
def enabled (x : Word) : Word := x ||| bitW 8

/-- The configuration with ENABLE as a write clears it. -/
def disabled (x : Word) : Word := x &&& ~~~ bitW 8

/-- The configuration that a write leaves while the queues do not run: its size alone. -/
def sized (x : Word) : Word := x &&& 0x1F

@[simp] theorem bit_enabled (x : Word) : bit (enabled x) 8 = true := by
  rw [bit_eq_getLsbD, enabled, BitVec.getLsbD_or, bitW8_bit]
  simp

@[simp] theorem bit_disabled (x : Word) : bit (disabled x) 8 = false := by
  rw [bit_eq_getLsbD, disabled, BitVec.getLsbD_and, BitVec.getLsbD_not, bitW8_bit]
  simp

@[simp] theorem bit_sized (x : Word) : bit (sized x) 8 = false := by
  rw [bit_eq_getLsbD, sized, BitVec.getLsbD_and, sizeMask_bit]
  simp

@[simp] theorem size_enabled (x : Word) : bits (enabled x) 0 5 = bits x 0 5 := size_congr fun k hk => by
  rw [enabled, BitVec.getLsbD_or, bitW8_bit]
  simp [show k ≠ 8 by omega]

@[simp] theorem size_disabled (x : Word) : bits (disabled x) 0 5 = bits x 0 5 := size_congr fun k hk => by
  rw [disabled, BitVec.getLsbD_and, BitVec.getLsbD_not, bitW8_bit]
  simp [show k ≠ 8 by omega, show k < 32 by omega]

@[simp] theorem size_sized (x : Word) : bits (sized x) 0 5 = bits x 0 5 := size_congr fun k hk => by
  rw [sized, BitVec.getLsbD_and, sizeMask_bit]
  simp [hk]

/-! ### The admin queue's registers (R128, R129, R360) -/

/-- A write of ENABLE sets it in the word as it stands. -/
theorem aqCfgWrite_enable {s : State} {o : Owner} {x : Word} (h : aqOn (instAt s (ownerKey o)) = false) :
    aqCfgWrite s o (enabled x) = enableAq (setInst s (ownerKey o) { instAt s (ownerKey o) with aqCfg := sized (enabled x) }) o :=
  (if_neg (by simp [h])).trans (if_pos (bit_enabled x))

/-- While the queues run, ENABLE written 1 changes nothing. -/
theorem aqCfgWrite_running {s : State} {o : Owner} {x : Word} (h : aqOn (instAt s (ownerKey o)) = true) :
    aqCfgWrite s o (enabled x) = s := (if_pos h).trans (if_pos (bit_enabled x))

/-- ENABLE written 0 stops queues that run. -/
theorem aqCfgWrite_stop {s : State} {o : Owner} {x : Word} (h : aqOn (instAt s (ownerKey o)) = true) :
    aqCfgWrite s o (disabled x) = disableAq s o := (if_pos h).trans (if_neg (by simp))

/-- ENABLE written 0 while the queues do not run leaves the size alone. -/
theorem aqCfgWrite_stopped {s : State} {o : Owner} {x : Word} (h : aqOn (instAt s (ownerKey o)) = false) :
    aqCfgWrite s o (disabled x) = setInst s (ownerKey o) { instAt s (ownerKey o) with aqCfg := sized (disabled x) } :=
  (if_neg (by simp [h])).trans (if_neg (by simp))

/-- The sizes and the bases of both queues are in order (R128). -/
def aqInOrder (i : Inst) : Prop :=
  4 ≤ bits i.aqCfg 0 5 ∧ bits i.aqCfg 0 5 ≤ 16 ∧ 4 ≤ bits i.acqCfg 0 5 ∧ bits i.acqCfg 0 5 ≤ 16 ∧ i.aqBase ≠ 0 ∧ i.acqBase ≠ 0

/-- Both queues start at 0. -/
theorem enableAq_starts {s : State} {o : Owner} {i : Inst} (hi : instAt s (ownerKey o) = i) (hoff : aqOn i = false) (h : aqInOrder i) :
    enableAq s o = setInst s (ownerKey o) { i with aqCfg := enabled i.aqCfg, aqPi := 0, aqCi := 0, acqPi := 0, acqCi := 0 } := by
  obtain ⟨h1, h2, h3, h4, h5, h6⟩ := h
  subst hi
  exact (if_neg (by simp [hoff])).trans (if_neg (by simpa [h1, h2, h3, h4] using ⟨h5, h6⟩))

/-- A configuration out of order sets CFG_ERR. -/
theorem enableAq_refuses {s : State} {o : Owner} {i : Inst} (hi : instAt s (ownerKey o) = i) (hoff : aqOn i = false)
    (h : ¬ aqInOrder i) : enableAq s o = setInst s (ownerKey o) { i with cfgErr := true } := by
  subst hi
  refine (if_neg (by simp [hoff])).trans (if_pos ?_)
  unfold aqInOrder at h
  simp only [Bool.or_eq_true, Bool.not_eq_true', Bool.and_eq_false_iff, decide_eq_false_iff_not, beq_iff_eq]
  tauto

/-- The parts of the state that a write of ENABLE leaves: every other instance, the registers, the queues, EBM and the outputs. -/
def othersKept (s t : State) (k : Nat) : Prop :=
  (∀ j, j ≠ k → instAt t j = instAt s j) ∧ t.regs = s.regs ∧ t.que = s.que ∧ t.ebm = s.ebm ∧ t.out = s.out

/-- An instance written twice. -/
theorem othersKept_twice (s : State) (k : Nat) (x y : Inst) : othersKept s (setInst (setInst s k x) k y) k :=
  ⟨fun _ hj => (instAt_setInst_ne _ _ _ _ hj).trans (instAt_setInst_ne _ _ _ _ hj), rfl, rfl, rfl, rfl⟩

section
variable {s : State} {o : Owner} (hoff : aqOn (instAt s (ownerKey o)) = false)
include hoff

/-- ENABLE written with sizes and bases in order starts both queues. -/
theorem aqCfgWrite_starts (h : aqInOrder (instAt s (ownerKey o))) :
    ∃ t w, aqCfgWrite s o (enabled (instAt s (ownerKey o)).aqCfg) = t ∧ othersKept s t (ownerKey o) ∧ bit w 8 = true
      ∧ bits w 0 5 = bits (instAt s (ownerKey o)).aqCfg 0 5
      ∧ instAt t (ownerKey o) = { instAt s (ownerKey o) with aqCfg := w, aqPi := 0, aqCi := 0, acqPi := 0, acqCi := 0 } := by
  refine ⟨_, enabled (sized (enabled (instAt s (ownerKey o)).aqCfg)), (aqCfgWrite_enable hoff).trans
    (enableAq_starts (instAt_setInst _ _ _) (by simp [aqOn]) ?_), othersKept_twice _ _ _ _, by simp, by simp, instAt_setInst _ _ _⟩
  simpa [aqInOrder] using h

/-- ENABLE written out of order sets CFG_ERR, and the queues do not run. -/
theorem aqCfgWrite_refuses (h : ¬ aqInOrder (instAt s (ownerKey o))) :
    ∃ t w, aqCfgWrite s o (enabled (instAt s (ownerKey o)).aqCfg) = t ∧ othersKept s t (ownerKey o) ∧ bit w 8 = false
      ∧ bits w 0 5 = bits (instAt s (ownerKey o)).aqCfg 0 5
      ∧ instAt t (ownerKey o) = { instAt s (ownerKey o) with aqCfg := w, cfgErr := true } := by
  refine ⟨_, sized (enabled (instAt s (ownerKey o)).aqCfg), (aqCfgWrite_enable hoff).trans
    (enableAq_refuses (instAt_setInst _ _ _) (by simp [aqOn]) ?_), othersKept_twice _ _ _ _, by simp, by simp, instAt_setInst _ _ _⟩
  simpa [aqInOrder] using h

end

section
variable {s : State} {o : Owner} (hs : winServes s o 0x108 = true) (hm : isMember s = false)
include hs hm

/-- A write of INST_AQ_IDX.PI that its window serves. -/
theorem exec_aqPiWrite (v : BitVec 16) : exec (.aqPiWrite o v) s = .next (writeAqPi s o v.toNat) := by
  have hv : bits (BitVec.ofNat 32 v.toNat) 0 16 = v.toNat := by
    have := v.isLt
    rw [bits, BitVec.toNat_ofNat]
    omega
  rw [← hv]
  exact congrArg Host.Outcome.next (winCmd_serves (off' := 0x10C) (by decide) hm hs (by simp [windowMode]))

/-- A write of INST_ACQ_IDX.CI that its window serves. -/
theorem exec_acqCiWrite (v : BitVec 16) : exec (.acqCiWrite o v) s = .next (writeAcqCi s o v.toNat) := by
  have hv : bits (BitVec.ofNat 32 (v.toNat * 65536)) 16 16 = v.toNat := by
    have := v.isLt
    rw [bits, BitVec.toNat_ofNat]
    omega
  rw [← hv]
  exact congrArg Host.Outcome.next (winCmd_serves (off' := 0x11C) (by decide) hm hs (by simp [windowMode]))

/-- A write of ENABLE = 1 that its window serves. -/
theorem exec_aqEnable : exec (.aqEnable o) s = .next (aqCfgWrite s o (enabled (instAt s (ownerKey o)).aqCfg)) :=
  congrArg Host.Outcome.next (winCmd_serves (off' := 0x108) (by decide) hm hs rfl)

/-- A write of ENABLE = 0 that its window serves. -/
theorem exec_aqDisable : exec (.aqDisable o) s = .next (aqCfgWrite s o (disabled (instAt s (ownerKey o)).aqCfg)) :=
  congrArg Host.Outcome.next (winCmd_serves (off' := 0x108) (by decide) hm hs rfl)

end

/-- INST_ACQ_IDX.CI is taken within S and PI, and sets IDX_ERR beyond them (R360). -/
theorem writeAcqCi_eq (s : State) (o : Owner) (v : Nat) :
    writeAcqCi s o v =
      (let i := instAt s (ownerKey o)
       if acqSize i ≤ v ∨ (i.acqPi + acqSize i - i.acqCi) % acqSize i < (v + acqSize i - i.acqCi) % acqSize i
       then setInst s (ownerKey o) { i with idxErr := true } else setInst s (ownerKey o) { i with acqCi := v }) := by
  unfold writeAcqCi idxErr
  simp only [Bool.or_eq_true, decide_eq_true_eq]

/-! ### The writes that no window serves (R84, R93, R94, R99) -/

/-- The commands that write a window's register, with its offset and the value. -/
def windowWrites (s : State) (o : Owner) (q : BitVec 11) (v : Word) (w : BitVec 16) : List (Instr × Nat × Word) :=
  [(.tqPiWrite o q v, 0x1000 + 8 * q.toNat, v), (.cqCiWrite o q v, 0x1004 + 8 * q.toNat, v),
    (.aqPiWrite o w, 0x10C, BitVec.ofNat 32 w.toNat), (.acqCiWrite o w, 0x11C, BitVec.ofNat 32 (w.toNat * 65536)),
    (.aqEnable o, 0x108, (instAt s (ownerKey o)).aqCfg ||| bitW 8), (.aqDisable o, 0x108, (instAt s (ownerKey o)).aqCfg &&& ~~~ bitW 8)]

/-- Each is the write of its register, at an aligned offset. -/
theorem exec_windowWrite {s : State} {o : Owner} {q : BitVec 11} {v : Word} {w : BitVec 16} {c : Instr} {off : Nat} {x : Word}
    (h : (c, off, x) ∈ windowWrites s o q v w) : exec c s = .next (winCmd s o off x) ∧ off % 4 = 0 := by
  simp only [windowWrites, List.mem_cons, Prod.mk.injEq, List.not_mem_nil, or_false] at h
  rcases h with ⟨rfl, rfl, rfl⟩ | ⟨rfl, rfl, rfl⟩ | ⟨rfl, rfl, rfl⟩ | ⟨rfl, rfl, rfl⟩ | ⟨rfl, rfl, rfl⟩ | ⟨rfl, rfl, rfl⟩
  all_goals exact ⟨rfl, by omega⟩

/-- Settles O32: a served write by its register's lemma, the read that fails by its one condition, and a write that its window does not serve
by the check that stops it. -/
theorem adminQueue : Obligations.AdminQueue := by
  refine ⟨fun s o hs hm => ?served, fun s o => ⟨fun hr hc => ?fails, fun h => ?keeps⟩, fun s o q v w c off x hc => ?unserved⟩
  case served =>
    simp only [exec_aqPiWrite hs hm, exec_acqCiWrite hs hm, exec_aqEnable hs hm, exec_aqDisable hs hm, writeAcqCi_eq,
      Host.Outcome.next.injEq]
    refine ⟨fun v hv => if_neg (Nat.not_le.2 hv), fun v hv => if_pos hv, fun v hv => if_pos (.inl hv),
      fun v hv => ⟨fun hspan => if_neg (by omega), fun hspan => if_pos (.inr hspan)⟩, aqCfgWrite_running,
      fun hoff => ⟨fun h => ?starts, fun h => ?refuses⟩, aqCfgWrite_stop, fun hoff => ?stopped⟩
    case starts => exact aqCfgWrite_starts hoff h
    case refuses =>
      refine aqCfgWrite_refuses hoff ?_
      rintro ⟨h1, h2, h3, h4, h5, h6⟩
      rcases h with h | h | h | h | h | h
      · exact h5 h
      · exact h6 h
      all_goals omega
    case stopped => exact ⟨_, aqCfgWrite_stopped hoff, by simp, by simp⟩
  case fails => exact congrArg Host.Outcome.next (if_pos (by simp [hr, hc]))
  case keeps => exact congrArg Host.Outcome.next (if_neg (by rcases h with h | h <;> simp [h]))
  case unserved =>
    obtain ⟨hexec, ha⟩ := exec_windowWrite hc
    simp only [hexec, Host.Outcome.next.injEq]
    refine ⟨winCmd_off, fun hm hoff => ?member, fun hb hd hm => ?_⟩
    case member =>
      by_cases hrun : s.mgt.boot = .running ∧ chipDeep s = false
      · rw [winCmd_member hrun.1 hrun.2 hm, if_pos hoff]
      · exact winCmd_off ((not_and_or.1 hrun).imp_right Bool.eq_true_of_not_eq_false)
    refine ⟨?vault, ?wake, ?mode, ?closed, ?darkMgr, ?darkInst⟩
    case vault => exact fun ho h7 => (winCmd_mgr hb hd hm ho).trans (if_pos h7)
    case wake => exact fun ho h7 hwake => (winCmd_mgr hb hd hm ho).trans ((if_neg h7).trans (if_pos hwake))
    case mode =>
      rintro rfl h7 hwake hmode
      exact (winCmd_access hb hd hm (fun _ => h7) (fun _ => hwake)).trans (winAccess_mode ha (windowOpen_mgr hb hd hm h7) hmode)
    case closed =>
      rintro i rfl hopen
      exact (winCmd_inst hb hd hm rfl).trans (winAccess_closed ha hopen)
    case darkMgr =>
      rintro rfl hwake hmode hten
      have h7 := mode_of_windowMode hmode
      exact (winCmd_access hb hd hm (fun _ => h7) (fun _ => hwake)).trans
        (winAccess_dark ha (windowOpen_mgr hb hd hm h7) hmode hten)
    case darkInst =>
      rintro i rfl hopen hmode hten
      exact (winCmd_inst hb hd hm rfl).trans (winAccess_dark ha hopen hmode hten)

end Sys2Proof.Machine
end

section
/-!
PROOFS. The list engines: poll ticks, FETCHes and their ends, refills, chain time-outs and posts (R106, R109, R112 to R115, R121; O33).
-/
namespace Sys2Proof.Machine

/-- Of the entries from an index on, those that are being read. -/
def fetchedOf (x : Tq) (idx n : Nat) : List Nat :=
  ((List.range n).map (fun j => (idx + j) % qSize x.log2)).filter (x.fetching.contains ·)

/-- The queue with entries that were read, and what was read. -/
def withRead (x : Tq) (is : List Nat) (c : Option (List Word)) : Tq :=
  { x with fetching := x.fetching.filter (fun i => !is.contains i), cache := x.cache ++ is.map (fun i => ⟨i, c⟩) }

/-- The conditions under which a list engine issues no FETCH for a queue. -/
def fetchBarred (s : State) (t : Nat) (x : Tq) : Bool :=
  let async := match epAt s x.ep with | some e => e.typ == 0 || e.typ == 2 | none => true
  x.error || x.stop.isSome || ownerStill s x.owner || orphan s || !runsSchedules s
    || (rb s pPln PLN_STATUS_BP_ACTIVE && async) || toHold s || !pageOn s (lePage t)

/-- The status with which a late chain without work ends: the one that it has, else SEQ_ERR. -/
def lateStatus (c : Chain) : BitVec 4 × Option Word :=
  match c.dead with | some d => (if d.1 = 0 then (14, none) else d) | none => (14, none)

section
variable {s : State} {t : Nat} {x : Tq} (hx : tqAt s t = some x)
include hx

/-! ### Poll ticks (R112, R115) -/

/-- A poll tick finds nothing to do on a queue that is stopped or in ERROR, or on a chip or a page that does not work. -/
theorem pollTq_barred (h : x.error = true ∨ x.stop ≠ none ∨ runsSchedules s = false ∨ pageOn s (lePage t) = false) :
    pollTq s t = s := by
  unfold pollTq
  rw [hx]
  exact if_pos (by rcases h with h | h | h | h <;> simp [h, Option.isSome_iff_ne_none])

/-- What a poll tick of a queue that works does, by its island, by the cover of its PI and by its batch. -/
theorem pollTq_works (h : x.error = false ∧ x.stop = none ∧ runsSchedules s = true ∧ pageOn s (lePage t) = true) :
    pollTq s t =
      (let taken := setTq s t { x with sampled := x.pi, due := false }
       if pageLit s (lePage t) = false then leVotes (setTq s t { x with due := true })
       else if piCovers x = false then err (stopTq (setTq s t { x with sampled := x.pi }) t .error) (lePage t) 0
       else if (x.pi == x.ci % qSize x.log2 && x.batch.isSome && x.posts.isEmpty && mayPost taken x) = true
         then leVotes (fetch (closeBatch taken t) t)
       else leVotes (fetch taken t)) := by
  obtain ⟨herr, hstop, hmode, hpage⟩ := h
  unfold pollTq
  rw [hx]
  refine (if_neg (by simp [herr, hstop, hmode, hpage])).trans ?_
  simp only [Bool.not_eq_true']
  split_ifs <;> rfl

/-! ### Ends of FETCHes (R113, R114) -/

/-- A read of entries none of which is awaited does nothing. -/
theorem fetched_stray {idx n : Nat} {e : Option (List Word)} (h : fetchedOf x idx n = []) : fetched s t idx n e = s := by
  unfold fetched
  rw [hx]
  exact if_pos (List.isEmpty_iff.2 h)

/-- Entries that were read are cached, and the queue is served. -/
theorem fetched_read {idx n : Nat} {e : List Word} (h : fetchedOf x idx n ≠ []) :
    fetched s t idx n (some e) = noteBp (serve (leVotes (setTq s t (withRead x (fetchedOf x idx n) (some e)))) t) := by
  unfold fetched
  rw [hx]
  exact if_neg (by rwa [List.isEmpty_iff])

/-- Entries whose read failed are cached as such, and LE_READ is set. -/
theorem fetched_failed {idx n : Nat} (h : fetchedOf x idx n ≠ []) :
    fetched s t idx n none = noteBp (serve (leVotes (err (setTq s t (withRead x (fetchedOf x idx n) none)) (lePage t) 1)) t) := by
  unfold fetched
  rw [hx]
  exact if_neg (by rwa [List.isEmpty_iff])

/-! ### FETCHes that are issued (R113) -/

/-- A queue that is barred or wants nothing. -/
theorem fetch_none (h : fetchBarred s t x = true ∨ wanted x = []) : fetch s t = s := by
  unfold fetch
  rw [hx]
  rcases h with h | h
  · exact if_pos h
  · simp [h]

/-- A FETCH waits while the island or the DMA is dark. -/
theorem fetch_dark (h : fetchBarred s t x = false) (hw : wanted x ≠ []) (hd : pageLit s (lePage t) = false ∨ dmaLit s = false) :
    fetch s t = noteBusy (setTq s t { x with due := true }) := by
  unfold fetch
  rw [hx]
  refine (if_neg (Bool.eq_false_iff.1 h)).trans ((if_neg (by rwa [List.isEmpty_iff])).trans (if_pos ?_))
  rcases hd with hd | hd <;> simp [hd]

/-- One read of host memory for each contiguous run of the entries that are wanted. -/
theorem fetch_lit (h : fetchBarred s t x = false) (hw : wanted x ≠ []) (hp : pageLit s (lePage t) = true) (hd : dmaLit s = true) :
    fetch s t = each (runs (wanted x)) (noteBusy (setTq s t { x with fetching := x.fetching ++ wanted x }))
      (fun s p => hostRead s x.owner (x.base + BitVec.ofNat 64 (32 * p.1)) (32 * p.2)) := by
  unfold fetch
  rw [hx]
  exact (if_neg (Bool.eq_false_iff.1 h)).trans ((if_neg (by rwa [List.isEmpty_iff])).trans (if_neg (by simp [hp, hd])))

/-! ### Chain time-outs (R121, R123) -/

/-- A queue without an open chain has none that is late. -/
theorem chainLate_none (hc : x.chain = none) : chainLate s t = s := by
  unfold chainLate
  rw [hx]
  simp [hc]

section
variable {c : Chain} (hc : x.chain = some c)
include hc

/-- A late chain without work ends with the status that it has, else SEQ_ERR. -/
theorem chainLate_idle (hw : (epAt s x.ep).bind (·.work) = none) (hn : x.next = x.pi) (hs : x.stop = none) :
    chainLate s t = goOn (endOpen s t (lateStatus c).1 (lateStatus c).2) x.ep := by
  unfold chainLate lateStatus
  rw [hx]
  simp only [hc, hw, hn, hs, bne_self_eq_false, Option.isSome_none, Bool.or_self, Bool.false_eq_true, if_false]
  cases c.dead with
  | none => rfl
  | some d => simp only [beq_iff_eq]

/-- A late chain whose work is not in service and is not its last ends with the status that the work has, else SEQ_ERR. -/
theorem chainLate_work {w : Work} (hw : (epAt s x.ep).bind (·.work) = some w) (hn : (w.idx + 1) % qSize x.log2 = x.pi)
    (hs : x.stop = none) (hl : eLast w.e = false) (hi : w.inSvc = false) :
    chainLate s t = goOn (endOpen (failWork s x.ep (w.fail.getD (14, none)).1 (w.fail.getD (14, none)).2) t
      (w.fail.getD (14, none)).1 (w.fail.getD (14, none)).2) x.ep := by
  unfold chainLate
  simp only [hx, hc, hw, hn, hs, hl, hi, bne_self_eq_false, Option.isSome_none, Bool.or_self, Bool.false_eq_true, if_false]

/-- A chain is not late while PI covers its next entry, and waits for a stop. -/
theorem chainLate_idle_waits (hw : (epAt s x.ep).bind (·.work) = none) (h : x.next ≠ x.pi ∨ x.stop ≠ none) : chainLate s t = s := by
  unfold chainLate
  simp only [hx, hc, hw]
  exact if_pos (by simpa [Option.isSome_iff_ne_none] using h)

/-- Nor is one whose work is its last or in service (log entry 57). -/
theorem chainLate_work_waits {w : Work} (hw : (epAt s x.ep).bind (·.work) = some w)
    (h : (w.idx + 1) % qSize x.log2 ≠ x.pi ∨ x.stop ≠ none ∨ eLast w.e = true ∨ w.inSvc = true) : chainLate s t = s := by
  unfold chainLate
  simp only [hx, hc, hw]
  rcases h with h | h | h | h
  · exact if_pos (by simp [h])
  · exact if_pos (by simp [Option.isSome_iff_ne_none, h])
  all_goals simp [h]

end

end

/-! ### Posts (R109) -/

/-- A post is written when there is one and its CQ has room, and the queue goes on. -/
theorem exec_postDone {s : State} {t : BitVec 12} {x : Tq} (hx : tqAt s t.toNat = some x) :
    exec (.postDone t) s = .next (if x.posts.isEmpty || !mayPost s x then s
      else noteLists (serve (finishStop (fetch (doPost s t.toNat) t.toNat) t.toNat) t.toNat)) := by
  change Host.Outcome.next _ = _
  rw [hx]

/-- A number that is no TQ. -/
theorem listEngine_noTq {s : State} {t : BitVec 12} (hx : tqAt s t.toNat = none) :
    exec (.pollTick t) s = .next s ∧ exec (.chainTimeout t) s = .next s ∧ exec (.postDone t) s = .next s
      ∧ exec (.prefetchRefill t) s = .next (leVotes s) ∧ (∀ idx e, exec (.entryFetchDone t idx e) s = .next s)
      ∧ (∀ idx n, exec (.entryFetchFail t idx n) s = .next s) := by
  have hpoll : pollTq s t.toNat = s := by simp only [pollTq, hx]
  have hlate : chainLate s t.toNat = s := by simp only [chainLate, hx]
  have hfetch : fetch s t.toNat = s := by simp only [fetch, hx]
  have hread (i n : Nat) (e : Option (List Word)) : fetched s t.toNat i n e = s := by simp only [fetched, hx]
  have hpost : exec (.postDone t) s = .next s := by
    change Host.Outcome.next _ = _
    rw [hx]
  exact ⟨congrArg _ hpoll, congrArg _ hlate, hpost, congrArg (Host.Outcome.next ∘ leVotes) hfetch, fun _ _ => congrArg _ (hread _ _ _),
    fun _ _ => congrArg _ (hread _ _ _)⟩

/-- Settles O33: each command by the condition of its queue that decides. -/
theorem listEngine : Obligations.ListEngine := by
  refine ⟨fun s t x hx => ⟨?poll, fun idx n e => ?reads, ?refill, fun hc => congrArg _ (chainLate_none hx hc), fun c hc => ?late,
    fun hp hm => ?post, fun h => ?wait⟩, fun s t => listEngine_noTq⟩
  case poll =>
    refine ⟨fun h => congrArg _ (pollTq_barred hx h), fun h hd => ?_, fun h hd hc => ?_, fun h hd hc => ⟨fun hi => ?_, fun hi => ?_⟩⟩
    all_goals refine congrArg Host.Outcome.next ((pollTq_works hx h).trans ?_)
    · exact if_pos hd
    · exact (if_neg (by simp [hd])).trans (if_pos hc)
    · exact (if_neg (by simp [hd])).trans ((if_neg (by simp [hc])).trans (if_pos hi))
    · exact (if_neg (by simp [hd])).trans ((if_neg (by simp [hc])).trans (if_neg hi))
  case reads =>
    exact ⟨fun h => congrArg _ (fetched_read hx h), fun h => congrArg _ (fetched_stray hx h), fun h => congrArg _ (fetched_failed hx h),
      fun h => congrArg _ (fetched_stray hx h)⟩
  case refill =>
    exact ⟨fun h => congrArg (Host.Outcome.next ∘ leVotes) (fetch_none hx h),
      fun hb hw hd => congrArg (Host.Outcome.next ∘ leVotes) (fetch_dark hx hb hw hd),
      fun hb hw hp hd => congrArg (Host.Outcome.next ∘ leVotes) (fetch_lit hx hb hw hp hd)⟩
  case late =>
    exact ⟨fun hw hn hs => congrArg _ (chainLate_idle hx hc hw hn hs), fun hw h => congrArg _ (chainLate_idle_waits hx hc hw h),
      fun w hw => ⟨fun hn hs hl hi => congrArg _ (chainLate_work hx hc hw hn hs hl hi),
        fun h => congrArg _ (chainLate_work_waits hx hc hw h)⟩⟩
  case post => rw [exec_postDone hx, if_neg (by simp [hp, hm])]
  case wait => rw [exec_postDone hx, if_pos (by rcases h with h | h <;> simp [h])]

end Sys2Proof.Machine
end

section
/-!
PROOFS. The PI mirror of a CQ and the invalidation through TQ_INVAL (R110, R116, R137; O34).
-/
namespace Sys2Proof.Machine

/-! ### The PI mirror (R110) -/

section
variable {s : State} {k : Nat} {c : Cq} (hc : cqAt s k = some c)
include hc

/-- No microsecond passes on a CQ without a mirror, or on one whose mirror was not written. -/
theorem mirrorTick_off (h : c.mirror = none ∨ c.mirrorHold = false) : mirrorTick s k = s := by
  cases hm : c.mirror with
  | none => simp only [mirrorTick, hc, hm]
  | some a =>
    have hh : c.mirrorHold = false := h.resolve_left (by simp [hm])
    simp [mirrorTick, hc, hm, hh]

/-- At the end of the microsecond a change that waits is written, unless its instance is held. -/
theorem mirrorTick_held {a : Addr} (hm : c.mirror = some a) (hh : c.mirrorHold = true) :
    mirrorTick s k =
      (let s1 := setCq s k { c with mirrorDue := false }
       if c.mirrorDue = false then setCq s k { c with mirrorHold := false }
       else if instHeld (instAt s (ownerKey c.owner)) = true then s
       else if isMember s1 = true then sendPost s1 ⟨c.owner, BitVec.ofNat 11 c.q, 0, [], BitVec.ofNat 16 c.pi, some a, none, none⟩
       else hostWrite s1 c.owner a (leBytes 4 (c.pi % 65536))) := by
  simp only [mirrorTick, hc, hm, hh, Bool.not_true, Bool.false_or]
  cases c.mirrorDue <;> simp

end

/-! ### TQ_INVAL (R116) -/

/-- What the end of an invalidation shows. -/
def invalShown (s : State) (k : Nat) : State :=
  leVotes (wb (wf s pLe TQ_INVAL_RESULT_IN_SERVICE k) pLe TQ_INVAL_RESULT_DONE true)

/-- The end of an invalidation that runs, on its queue as it stands. -/
theorem invalEnd_some {s : State} {t a n : Nat} (h : s.que.inval = some (t, a, n)) :
    invalEnd s =
      (let s1 := wb { s with que := { s.que with inval := none } } pLe TQ_INVAL_BUSY false
       let p := match tqAt s t with
         | some x => if destroying x then (s1, 0) else if invalOk x a n then invalidate s1 t a n else (err s1 (lePage t) 2, 0)
         | none => (s1, 0)
       invalShown p.1 p.2) := by
  simp only [invalEnd, h]
  rfl

/-- Settles O34: the mirror by what its CQ waits for, the invalidation by what the queue is. -/
theorem mirrorAndInvalidation : Obligations.MirrorAndInvalidation := by
  refine ⟨fun s k => ⟨fun c a hc hm hh => ?mirror, fun c hc h => congrArg _ (mirrorTick_off hc h), fun hc => ?noCq⟩,
    fun s src v hg => ?go, fun s => ⟨fun h => ?idle, fun t a n h => ?ends⟩⟩
  case mirror =>
    have hexec : exec (.piMirrorWrite k) s = _ := congrArg Host.Outcome.next (mirrorTick_held hc hm hh)
    rw [hexec]
    refine ⟨fun hd => ?_, fun hd hs => ?_, fun hd hs hi => ?_, fun hd hs hi => ?_⟩
    · simp [hd]
    · simp [hd, hs]
    · simp [hd, hs, hi]
    · simp [hd, hs, hi]
  case noCq => exact congrArg Host.Outcome.next (by simp only [mirrorTick, hc])
  case go =>
    have hexec : exec (.tqInvalGo src v) s = .next (invalGo s v) := congrArg Host.Outcome.next (gatedW_ok hg)
    rw [hexec]
    refine ⟨fun h => congrArg _ (if_pos ?_), fun hv hi => congrArg _ (if_neg ?_)⟩
    · rcases h with h | h <;> simp [h, Option.isSome_iff_ne_none]
    · simp [hv, hi]
  case idle => exact congrArg Host.Outcome.next (by simp only [invalEnd, h])
  case ends =>
    have hexec : exec .tqInvalDone s = _ := congrArg Host.Outcome.next (invalEnd_some h)
    rw [hexec]
    refine ⟨fun hx => by rw [hx]; rfl, fun x hx => ?_⟩
    simp only [hx]
    exact ⟨fun hd => by simp [hd]; rfl, fun hd ho => by simp [hd, ho]; rfl, fun hd ho => by simp [hd, ho]; rfl⟩

end Sys2Proof.Machine
end

section
/-!
PROOFS. What the admin commands share beyond their checks: a command for another chip, and one on an endpoint, here or on another chip (R130,
R133, R246).
-/
namespace Sys2Proof.Machine

/-! ### Commands for another chip (R133) -/

section
variable {s : State} {o : Owner} {e : List Word} {pos : Nat}

/-- A chip out of reach runs no command. -/
theorem elsewhere_unreachable {res : Word → Word} {f : State → Word → State} (h : reachable s pos = false) :
    elsewhere s o e pos res f = bad s o e 12 := if_pos (by simp [h])

theorem waitFar_unreachable (h : reachable s pos = false) : waitFar s o e pos = bad s o e 12 := if_pos (by simp [h])

/-- A command for an object of this chip runs here. -/
theorem atPos_here {f : State → State} (h : pos = ownPos s) : atPos s o e pos f = f s := if_pos (by simp [h])

/-- Any other is carried to its chip. -/
theorem atPos_away {f : State → State} (h : pos ≠ ownPos s) : atPos s o e pos f = elsewhere s o e pos id (fun s _ => s) :=
  if_neg (by simp [h])

end

/-! ### Who may act on an object (R246) -/

/-- The manager acts on everything, an instance on what it owns. -/
theorem mayAct {a b : Owner} (h : a = .mgr ∨ a = b) : (a != .mgr && a != b) = false := by
  rcases h with h | h <;> simp [h]

theorem mayNotAct {a b : Owner} (hm : a ≠ .mgr) (hb : a ≠ b) : (a != .mgr && a != b) = true := by simp [hm, hb]

/-! ### Endpoints here (R130, R133) -/

section
variable {s : State} {o : Owner} {e : List Word} {w : Word} {f : State → Nat → Ep → State}

/-- An EPREF with a reserved bit set names no endpoint of another chip. -/
theorem isFar_bad (h : epBad w = true) : isFar s w = false := by simp [isFar, h]

theorem isFar_here (h : epPos w = ownPos s) : isFar s w = false := by simp [isFar, h]

theorem isFar_away (hb : epBad w = false) (h : epPos w ≠ ownPos s) : isFar s w = true := by simp [isFar, hb, h]

theorem onEp_bad (h : epBad w = true) : onEp s o e w f = bad s o e 2 := if_pos h

section
variable (hb : epBad w = false) (hp : epPos w = ownPos s)
include hb hp

theorem onEp_none (h : epAt s (epCtx w) = none) : onEp s o e w f = bad s o e 4 := by
  unfold onEp
  rw [if_neg (by simp [hb]), atPos_here hp, h]

theorem onEp_foreign {x : Ep} (h : epAt s (epCtx w) = some x) (hm : acting o e ≠ .mgr) (ha : acting o e ≠ x.owner) :
    onEp s o e w f = bad s o e 5 := by
  unfold onEp
  rw [if_neg (by simp [hb]), atPos_here hp, h]
  exact if_pos (mayNotAct hm ha)

theorem onEp_own {x : Ep} (h : epAt s (epCtx w) = some x) (ha : acting o e = .mgr ∨ acting o e = x.owner) :
    onEp s o e w f = f s (epCtx w) x := by
  unfold onEp
  rw [if_neg (by simp [hb]), atPos_here hp, h]
  exact if_neg (by simp [mayAct ha])

end

end

/-! ### Endpoints of other chips, as the head knows them (R133, R246) -/

section
variable {s : State} {o : Owner} {e : List Word} {w : Word} {f : State → FarEp → State}

theorem onFar_unreachable (h : reachable s (epPos w) = false) : onFar s o e w f = bad s o e 12 := if_pos (by simp [h])

section
variable (hr : reachable s (epPos w) = true)
include hr

theorem onFar_none (h : farAt s w = none) : onFar s o e w f = bad s o e 4 := by
  unfold onFar
  rw [if_neg (by simp [hr]), h]

theorem onFar_foreign {x : FarEp} (h : farAt s w = some x) (hm : acting o e ≠ .mgr) (ha : acting o e ≠ x.ep.owner) :
    onFar s o e w f = bad s o e 5 := by
  unfold onFar
  rw [if_neg (by simp [hr]), h]
  exact if_pos (mayNotAct hm ha)

theorem onFar_own {x : FarEp} (h : farAt s w = some x) (ha : acting o e = .mgr ∨ acting o e = x.ep.owner) :
    onFar s o e w f = f s x := by
  unfold onFar
  rw [if_neg (by simp [hr]), h]
  exact if_neg (by simp [mayAct ha])

end

end

end Sys2Proof.Machine
end

section
/-!
PROOFS. CREATE_TQ and CREATE_CQ, here and for another chip (R104, R107, R133, R134, R246; O35).
-/
namespace Sys2Proof.Machine

/-! ### CREATE_TQ here (R133, R134) -/

/-- The fields of CREATE_TQ are in order. -/
def tqForm (e : List Word) : Prop :=
  queueForm e = true ∧ bits (dw e 4) 6 2 = 0 ∧ bits (dw e 4) 12 4 = 0 ∧ epBad (dw e 5) = false ∧ bits (dw e 6) 11 21 = 0

/-- The submitter's quota of queues is used up, or it has no queue number left (R104, R246). -/
def noQueue (s : State) (a : Owner) : Prop := queueQuota s a ≤ queuesHeld s a ∨ freeQueue s a = none

section
variable {s : State} {o : Owner} {e : List Word}

section
variable {x : Ep} (hx : epAt s (epCtx (dw e 5)) = some x)

theorem createTqHere_noEp (h : epAt s (epCtx (dw e 5)) = none) : createTqHere s o e = bad s o e 4 := by
  unfold createTqHere
  simp only [h]

include hx

theorem createTqHere_foreign (hm : acting o e ≠ .mgr) (ho : acting o e ≠ x.owner) : createTqHere s o e = bad s o e 5 := by
  unfold createTqHere
  simp only [hx, mayNotAct hm ho, if_true]

section
variable (ha : acting o e = .mgr ∨ acting o e = x.owner)
include ha

/-- Without the CQ here, the command's answer tells a CQ of another chip from none. -/
theorem createTqHere_noCq (h : cqOf s (acting o e) (bits (dw e 6) 0 11) = none) :
    (refAt s (acting o e) (bits (dw e 6) 0 11) = none → createTqHere s o e = bad s o e 4)
      ∧ ∀ r, refAt s (acting o e) (bits (dw e 6) 0 11) = some r → createTqHere s o e = bad s o e (if r.isCq then 13 else 4) := by
  unfold createTqHere
  simp only [hx, h, mayAct ha, Bool.false_eq_true, if_false]
  exact ⟨fun hr => by rw [hr], fun r hr => by rw [hr]⟩

section
variable {k : Nat} {c : Cq} (hc : cqOf s (acting o e) (bits (dw e 6) 0 11) = some (k, c))
include hc

theorem createTqHere_inUse (ht : x.tq ≠ none) : createTqHere s o e = bad s o e 6 := by
  unfold createTqHere
  simp only [hx, hc, mayAct ha, Bool.false_eq_true, if_false, Option.isSome_iff_ne_none.2 ht, if_true]

theorem createTqHere_full (ht : x.tq = none) (h : noQueue s (acting o e) ∨ tabFree s.que.tqs 4096 0 = none) :
    createTqHere s o e = bad s o e 7 := by
  unfold createTqHere
  simp only [hx, hc, mayAct ha, ht, Bool.false_eq_true, if_false, Option.isSome_none]
  rcases h with (h | h) | h
  · exact if_pos h
  · simp only [h, ite_self]
  · cases freeQueue s (acting o e) <;> simp only [h, ite_self]

theorem createTqHere_makes {q t : Nat} (ht : x.tq = none) (hq : ¬ queueQuota s (acting o e) ≤ queuesHeld s (acting o e))
    (hn : freeQueue s (acting o e) = some q) (hf : tabFree s.que.tqs 4096 0 = some t) :
    createTqHere s o e = good (updEp (setRef (setTq (drawn s) t (newTq (acting o e) q e k)) (refKey (acting o e) q)
      (newRef false (ownPos s) t (bits (dw e 4) 0 5))) (epCtx (dw e 5)) (fun x => { x with tq := some t })) o e (q + t * 2 ^ 16) 0 := by
  unfold createTqHere
  simp only [hx, hc, mayAct ha, ht, hn, hf, Bool.false_eq_true, if_false, Option.isSome_none, if_neg hq]

end

end

end

/-! ### CREATE_TQ for an endpoint of another chip (R104, R107) -/

/-- What refuses a command on the endpoint refuses CREATE_TQ. -/
theorem createTqFar_refused {d : Nat} (h : ∀ f, onFar s o e (dw e 5) f = bad s o e d) : createTqFar s o e = bad s o e d := by
  unfold createTqFar
  exact h _

section
variable {x : FarEp} (hr : reachable s (epPos (dw e 5)) = true) (hx : farAt s (dw e 5) = some x)
  (ha : acting o e = .mgr ∨ acting o e = x.ep.owner)
include hr hx ha

theorem createTqFar_noRef (h : refAt s (acting o e) (bits (dw e 6) 0 11) = none) : createTqFar s o e = bad s o e 4 := by
  unfold createTqFar
  simp only [onFar_own hr hx ha, h]

section
variable {r : QRef} (hq : refAt s (acting o e) (bits (dw e 6) 0 11) = some r)
include hq

theorem createTqFar_tq (hc : r.isCq = false) : createTqFar s o e = bad s o e 4 := by
  unfold createTqFar
  simp only [onFar_own hr hx ha, hq, hc, Bool.not_false, if_true]

section
variable (hc : r.isCq = true)
include hc

theorem createTqFar_cqHome (hp : r.pos ≠ epPos (dw e 5)) : createTqFar s o e = bad s o e 13 := by
  unfold createTqFar
  simp only [onFar_own hr hx ha, hq, hc, bne_iff_ne.2 hp, Bool.not_true, Bool.false_eq_true, if_false, if_true]

section
variable (hp : r.pos = epPos (dw e 5))
include hp

theorem createTqFar_inUse (ht : x.ep.tq ≠ none) : createTqFar s o e = bad s o e 6 := by
  unfold createTqFar
  simp only [onFar_own hr hx ha, hq, hc, hp, Option.isSome_iff_ne_none.2 ht, bne_self_eq_false, Bool.not_true, Bool.false_eq_true,
    if_false, if_true]

theorem createTqFar_full (ht : x.ep.tq = none) (h : noQueue s (acting o e)) : createTqFar s o e = bad s o e 7 := by
  unfold createTqFar
  simp only [onFar_own hr hx ha, hq, hc, hp, ht, bne_self_eq_false, Bool.not_true, Bool.false_eq_true, if_false, Option.isSome_none]
  rcases h with h | h
  · cases freeQueue s (acting o e) with
    | none => rfl
    | some q => exact if_pos h
  · simp only [h]

theorem createTqFar_carried {q : Nat} (ht : x.ep.tq = none) (hf : ¬ queueQuota s (acting o e) ≤ queuesHeld s (acting o e))
    (hn : freeQueue s (acting o e) = some q) :
    createTqFar s o e = elsewhere s o e (epPos (dw e 5)) (fun w => BitVec.ofNat 32 (q + bits w 16 12 * 2 ^ 16)) (fun s r0 =>
      updFar (setRef s (refKey (acting o e) q) (newRef false (epPos (dw e 5)) (bits r0 16 12) (bits (dw e 4) 0 5))) (dw e 5)
        (fun x => { x with tq := some (bits r0 16 12) })) := by
  unfold createTqFar
  simp only [onFar_own hr hx ha, hq, hc, hp, ht, hn, bne_self_eq_false, Bool.not_true, Bool.false_eq_true, if_false, Option.isSome_none,
    if_neg hf]

end

end

end

end

/-! ### CREATE_TQ by its form and the home of its endpoint -/

section
variable (h : admPasses s o e false 7 = true)
include h

theorem exec_createTq_field (hf : ¬ tqForm e) : exec (.createTq o e) s = .next (bad s o e 2) := by
  refine congrArg Host.Outcome.next ((adm_passes h).trans (if_pos ?_))
  by_contra hn
  exact hf (by simpa [tqForm, and_assoc] using hn)

section
variable (hf : tqForm e)
include hf

theorem exec_createTq_home :
    exec (.createTq o e) s = .next (if epPos (dw e 5) == ownPos s then createTqHere s o e else createTqFar s o e) := by
  obtain ⟨h1, h2, h3, h4, h5⟩ := hf
  exact congrArg Host.Outcome.next ((adm_passes h).trans (if_neg (by simp [h1, h2, h3, h4, h5])))

theorem exec_createTq_here (hp : epPos (dw e 5) = ownPos s) : exec (.createTq o e) s = .next (createTqHere s o e) := by
  rw [exec_createTq_home h hf, if_pos (by simp [hp])]

theorem exec_createTq_away (hp : epPos (dw e 5) ≠ ownPos s) : exec (.createTq o e) s = .next (createTqFar s o e) := by
  rw [exec_createTq_home h hf, if_neg (by simp [hp])]

end

end

/-! ### CREATE_CQ (R110, R133, R134, R255) -/

/-- The fields of CREATE_CQ are in order: an instance has 64 vectors, and the mirror is aligned. -/
def cqForm (o : Owner) (e : List Word) : Prop :=
  queueForm e = true ∧ bit (dw e 4) 7 = false ∧ bits (dw e 4) 22 10 = 0 ∧ (acting o e ≠ .mgr → bits (dw e 4) 8 8 ≤ 63)
    ∧ (bit (dw e 4) 5 = true → bits (dw e 5) 0 2 = 0)

/-- The test that the command makes of its fields. -/
theorem cqForm_iff : cqForm o e ↔
    (!queueForm e || bit (dw e 4) 7 || bits (dw e 4) 22 10 != 0 || (acting o e != .mgr && decide (63 < bits (dw e 4) 8 8))
      || (bit (dw e 4) 5 && bits (dw e 5) 0 2 != 0)) = false := by
  simp [cqForm, and_assoc, Decidable.imp_iff_not_or]

section
variable (h : admPasses s o e false 7 = true)
include h

theorem exec_createCq_field (hf : ¬ cqForm o e) : exec (.createCq o e) s = .next (bad s o e 2) :=
  congrArg Host.Outcome.next ((adm_passes h).trans (if_pos (Bool.eq_true_of_not_eq_false (mt cqForm_iff.2 hf))))

section
variable (hf : cqForm o e)
include hf

section
variable (hp : bits (dw e 4) 16 6 = ownPos s)
include hp

theorem exec_createCq_full (hn : noQueue s (acting o e) ∨ tabFree s.que.cqs 1024 0 = none) :
    exec (.createCq o e) s = .next (bad s o e 7) := by
  refine congrArg Host.Outcome.next ((adm_passes h).trans ((if_neg (by simp [cqForm_iff.1 hf])).trans ((if_neg (by simp [hp])).trans ?_)))
  rcases hn with (hn | hn) | hn
  · exact if_pos hn
  · simp only [hn, ite_self]
  · cases freeQueue s (acting o e) <;> simp only [hn, ite_self]

theorem exec_createCq_makes {q k : Nat} (hq : ¬ queueQuota s (acting o e) ≤ queuesHeld s (acting o e))
    (hn : freeQueue s (acting o e) = some q) (hk : tabFree s.que.cqs 1024 0 = some k) :
    exec (.createCq o e) s = .next (good (setRef (setCq (drawn s) k (newCq (acting o e) q e)) (refKey (acting o e) q)
      (newRef true (bits (dw e 4) 16 6) k (bits (dw e 4) 0 5))) o e q 0) := by
  refine congrArg Host.Outcome.next ((adm_passes h).trans ((if_neg (by simp [cqForm_iff.1 hf])).trans ((if_neg (by simp [hp])).trans ?_)))
  simp only [if_neg hq, hn, hk]

end

section
variable (hp : bits (dw e 4) 16 6 ≠ ownPos s)
include hp

theorem exec_createCq_refused (hn : noQueue s (acting o e)) :
    exec (.createCq o e) s = .next (bad s o e (if reachable s (bits (dw e 4) 16 6) then 7 else 12)) := by
  refine congrArg Host.Outcome.next ((adm_passes h).trans ((if_neg (by simp [cqForm_iff.1 hf])).trans ((if_pos (by simp [hp])).trans ?_)))
  rcases hn with hn | hn
  · cases freeQueue s (acting o e) with
    | none => rfl
    | some q => exact if_pos hn
  · simp only [hn]

theorem exec_createCq_carried {q : Nat} (hq : ¬ queueQuota s (acting o e) ≤ queuesHeld s (acting o e))
    (hn : freeQueue s (acting o e) = some q) :
    exec (.createCq o e) s = .next (elsewhere s o e (bits (dw e 4) 16 6) (fun _ => BitVec.ofNat 32 q)
      (fun s _ => setRef s (refKey (acting o e) q) (newRef true (bits (dw e 4) 16 6) 0 (bits (dw e 4) 0 5)))) := by
  refine congrArg Host.Outcome.next ((adm_passes h).trans ((if_neg (by simp [cqForm_iff.1 hf])).trans ((if_pos (by simp [hp])).trans ?_)))
  simp only [if_neg hq, hn]

theorem exec_createCq_unreachable (hr : reachable s (bits (dw e 4) 16 6) = false) : exec (.createCq o e) s = .next (bad s o e 12) := by
  by_cases hn : noQueue s (acting o e)
  · rw [exec_createCq_refused h hf hp hn, hr]
    rfl
  · obtain ⟨hq, hf'⟩ := not_or.1 hn
    obtain ⟨q, hq'⟩ := Option.ne_none_iff_exists'.1 hf'
    rw [exec_createCq_carried h hf hp hq hq', elsewhere_unreachable hr]

end

end

end

end

/-- Settles O35: each command by its form, by the home of what it names, and by the first thing that it lacks. -/
theorem createQueues : Obligations.CreateQueues := by
  refine fun s o e h => ⟨⟨exec_createTq_field h, fun hf hp => ?tqHere, fun hf hp => ?tqAway⟩,
    ⟨exec_createCq_field h, fun hf hp hn => exec_createCq_full h hf hp (or_assoc.2 hn),
      fun q k hf hp hq hn hk => exec_createCq_makes h hf hp hq hn hk, exec_createCq_unreachable h, fun hf hp hr hn => ?cqFull,
      fun q hf hp hr hq hn => exec_createCq_carried h hf hp hq hn⟩⟩
  case tqHere =>
    rw [exec_createTq_here h hf hp]
    refine ⟨fun hx => congrArg _ (createTqHere_noEp hx), fun x hx => ⟨fun hm ho => congrArg _ (createTqHere_foreign hx hm ho),
      fun ha => ⟨fun hc => ?_, fun k c hc => ⟨fun ht => congrArg _ (createTqHere_inUse hx ha hc ht),
        fun ht hn => congrArg _ (createTqHere_full hx ha hc ht (or_assoc.2 hn)),
        fun q t ht hq hn hf => congrArg _ (createTqHere_makes hx ha hc ht hq hn hf)⟩⟩⟩⟩
    obtain ⟨hnone, hsome⟩ := createTqHere_noCq hx ha hc
    exact ⟨fun hr => congrArg _ (hnone hr), fun r hr => congrArg _ (hsome r hr)⟩
  case tqAway =>
    rw [exec_createTq_away h hf hp]
    refine ⟨fun hr => congrArg _ (createTqFar_refused fun _ => onFar_unreachable hr),
      fun hr hx => congrArg _ (createTqFar_refused fun _ => onFar_none hr hx),
      fun x hr hx => ⟨fun hm ho => congrArg _ (createTqFar_refused fun _ => onFar_foreign hr hx hm ho),
        fun ha => ⟨fun hq => congrArg _ (createTqFar_noRef hr hx ha hq),
          fun r hq => ⟨fun hc => congrArg _ (createTqFar_tq hr hx ha hq hc), fun hc hp => congrArg _ (createTqFar_cqHome hr hx ha hq hc hp),
          fun hc hp => ⟨fun ht => congrArg _ (createTqFar_inUse hr hx ha hq hc hp ht),
            fun ht hn => congrArg _ (createTqFar_full hr hx ha hq hc hp ht hn),
            fun q ht hf hn => congrArg _ (createTqFar_carried hr hx ha hq hc hp ht hf hn)⟩⟩⟩⟩⟩
  case cqFull => rw [exec_createCq_refused h hf hp hn, if_pos hr]

end Sys2Proof.Machine
end

section
/-!
PROOFS. DESTROY_TQ, RESET_TQ, INVALIDATE_TQ and DESTROY_CQ, here and on another chip (R116, R133 to R135, R137; O36).
-/
namespace Sys2Proof.Machine

/-! ### Commands on a queue by its home (R133) -/

section
variable {s : State} {o : Owner} {e : List Word} {isCq : Bool} {here : State → State} {far : State → Nat → State}

theorem onQueue_field (hf : bits (dw e 2) 11 21 ≠ 0) : onQueue s o e isCq here far = bad s o e 2 := if_pos (by simp [hf])

section
variable (hf : bits (dw e 2) 11 21 = 0)
include hf

theorem onQueue_tq {p : Nat × Tq} (h : tqOf s (acting o e) (bits (dw e 2) 0 11) = some p) : onQueue s o e false here far = here s :=
  (if_neg (by simp [hf])).trans (if_pos (by simp [h]))

theorem onQueue_cq {p : Nat × Cq} (h : cqOf s (acting o e) (bits (dw e 2) 0 11) = some p) : onQueue s o e true here far = here s :=
  (if_neg (by simp [hf])).trans (if_pos (by simp [h]))

section
variable (ht : isCq = false → tqOf s (acting o e) (bits (dw e 2) 0 11) = none)
  (hc : isCq = true → cqOf s (acting o e) (bits (dw e 2) 0 11) = none)
include ht hc

/-- A queue that is not here is where the head's reference says, if there is one of its kind. -/
theorem onQueue_ref :
    onQueue s o e isCq here far = match refAt s (acting o e) (bits (dw e 2) 0 11) with
      | some r => if r.isCq != isCq || r.pos == ownPos s then bad s o e dNotFound else far s r.pos
      | none => bad s o e dNotFound := by
  refine (if_neg (by simp [hf])).trans ((if_neg ?_).trans rfl)
  cases isCq with
  | false => simp [ht]
  | true => simp [hc]

theorem onQueue_none (hr : refAt s (acting o e) (bits (dw e 2) 0 11) = none) : onQueue s o e isCq here far = bad s o e 4 := by
  rw [onQueue_ref hf ht hc, hr]

section
variable {r : QRef} (hr : refAt s (acting o e) (bits (dw e 2) 0 11) = some r)
include hr

theorem onQueue_other (h : r.isCq ≠ isCq ∨ r.pos = ownPos s) : onQueue s o e isCq here far = bad s o e 4 := by
  rw [onQueue_ref hf ht hc, hr]
  exact if_pos (by simpa using h)

theorem onQueue_far (hq : r.isCq = isCq) (hp : r.pos ≠ ownPos s) : onQueue s o e isCq here far = far s r.pos := by
  rw [onQueue_ref hf ht hc, hr]
  exact if_neg (by simp [hq, hp])

end

end

end

end

/-! ### The four commands (R133, R137) -/

/-- The commands on a queue, with the dwords that they use and the kind of their queue. -/
def queueCmds (o : Owner) (e : List Word) : List (Nat × Bool × Instr) :=
  [(3, false, .destroyTq o e), (3, false, .resetTq o e), (4, false, .invalidateTq o e), (3, true, .destroyCq o e)]

/-- What a command does about a queue whose home is at a position. -/
def carriedOut (s : State) (o : Owner) (e : List Word) (c : Instr) (pos : Nat) (t : State) : Prop :=
  (reachable s pos = false → t = bad s o e 12)
    ∧ ((c = .destroyTq o e ∨ c = .resetTq o e) → t = waitFar s o e pos)
    ∧ (c = .invalidateTq o e → t = elsewhere s o e pos (fun w => BitVec.ofNat 32 (bits w 0 16)) (fun s _ => s))
    ∧ (c = .destroyCq o e → t = elsewhere s o e pos id (fun s _ => dropRef s (acting o e) (bits (dw e 2) 0 11)))

/-- Each is a command on the queue of a number, and has its own way to another chip. -/
theorem exec_queueCommand {s : State} {o : Owner} {e : List Word} {n : Nat} {isCq : Bool} {c : Instr}
    (h : (n, isCq, c) ∈ queueCmds o e) (hp : admPasses s o e false n = true) :
    ∃ here far, exec c s = .next (onQueue s o e isCq here far) ∧ ∀ pos, carriedOut s o e c pos (far s pos) := by
  simp only [queueCmds, List.mem_cons, Prod.mk.injEq, List.not_mem_nil, or_false] at h
  rcases h with ⟨rfl, rfl, rfl⟩ | ⟨rfl, rfl, rfl⟩ | ⟨rfl, rfl, rfl⟩ | ⟨rfl, rfl, rfl⟩
  · exact ⟨_, _, congrArg _ (adm_passes hp), fun pos => ⟨waitFar_unreachable, fun _ => rfl, nofun, nofun⟩⟩
  · exact ⟨_, _, congrArg _ (adm_passes hp), fun pos => ⟨waitFar_unreachable, fun _ => rfl, nofun, nofun⟩⟩
  · exact ⟨_, _, congrArg _ (adm_passes hp), fun pos => ⟨elsewhere_unreachable, by simp, fun _ => rfl, nofun⟩⟩
  · exact ⟨_, _, congrArg _ (adm_passes hp), fun pos => ⟨elsewhere_unreachable, by simp, nofun, fun _ => rfl⟩⟩

/-! ### Queues of this chip (R116, R134, R135) -/

section
variable {s : State} {o : Owner} {e : List Word} {t : Nat} {x : Tq} (ht : tqOf s (acting o e) (bits (dw e 2) 0 11) = some (t, x))
include ht

/-- A TQ that no command stops begins to stop. -/
theorem stopByCmd_begins {why : Stop} (hd : ∀ p d, x.stop ≠ some (.destroy p d)) (hr : ∀ p d, x.stop ≠ some (.reset p d)) :
    stopByCmd s o e why = stopTq s t why := by
  unfold stopByCmd
  rw [ht]
  dsimp only
  split
  · next h => exact absurd h (hd _ _)
  · next h => exact absurd h (hr _ _)
  · rfl

/-- A stop of a command goes first (log entry 59). -/
theorem stopByCmd_waits {why : Stop} {p : Owner} {d : List Word} (h : x.stop = some (.destroy p d) ∨ x.stop = some (.reset p d)) :
    stopByCmd s o e why = s := by
  unfold stopByCmd
  rw [ht]
  rcases h with h | h <;> simp only [h]

end

section
variable {s : State} {o : Owner} {e : List Word} (hf : bits (dw e 2) 11 21 = 0)
include hf

section
variable {t : Nat} {x : Tq} (ht : tqOf s (acting o e) (bits (dw e 2) 0 11) = some (t, x))
include ht

section
variable (h : admPasses s o e false 3 = true)
include h

theorem exec_destroyTq_here : exec (.destroyTq o e) s = .next (stopByCmd s o e (.destroy o e)) :=
  congrArg _ ((adm_passes h).trans (onQueue_tq hf ht))

theorem exec_resetTq_here : exec (.resetTq o e) s = .next (stopByCmd s o e (.reset o e)) :=
  congrArg _ ((adm_passes h).trans (onQueue_tq hf ht))

end

section
variable (h : admPasses s o e false 4 = true)
include h

theorem exec_invalidateTq_here :
    exec (.invalidateTq o e) s = .next
      (let inv := invalidate s t (bits (dw e 3) 0 16) (bits (dw e 3) 16 16)
       if destroying x = true then bad s o e 4
       else if invalOk x (bits (dw e 3) 0 16) (bits (dw e 3) 16 16) = false then bad s o e 2
       else good inv.1 o e inv.2 0) := by
  refine congrArg _ ((adm_passes h).trans ((onQueue_tq hf ht).trans ?_))
  simp only [ht, Bool.not_eq_true']

end

end

section
variable {k : Nat} {c : Cq} (hc : cqOf s (acting o e) (bits (dw e 2) 0 11) = some (k, c)) (h : admPasses s o e false 3 = true)
include hc h

theorem exec_destroyCq_here :
    exec (.destroyCq o e) s = .next (if s.que.tqs.any (fun t => t.2.cq == k) then bad s o e 6
      else good (dropRef { s with que := { s.que with cqs := tabDel s.que.cqs k } } (acting o e) (bits (dw e 2) 0 11)) o e 0 0) := by
  refine congrArg _ ((adm_passes h).trans ((onQueue_cq hf hc).trans ?_))
  simp only [hc]

end

end

/-- Settles O36: the queue's home decides, and here its state. -/
theorem queueCommands : Obligations.QueueCommands := by
  refine ⟨fun s o e n isCq c hc h => ?away, fun s o e hf => ⟨fun t x h ht => ⟨fun hd hr => ?stops, fun p d hs => ?stopping⟩,
    fun t x h ht => ?invalidates, fun k c h hc => ?frees⟩⟩
  case away =>
    obtain ⟨here, far, hexec, hfar⟩ := exec_queueCommand hc h
    rw [hexec]
    refine ⟨fun hf => congrArg _ (onQueue_field hf), fun hf ht hc => ⟨fun hr => congrArg _ (onQueue_none hf ht hc hr),
      fun r hr => ⟨fun ho => congrArg _ (onQueue_other hf ht hc hr ho), fun hq hp => ?_, fun hq hp _ => ?_⟩⟩⟩
    all_goals
      obtain ⟨hunreachable, hwait, hinval, hcq⟩ := hfar r.pos
      rw [onQueue_far hf ht hc hr hq hp]
    · exact fun hn => congrArg _ (hunreachable hn)
    · exact ⟨fun h => congrArg _ (hwait h), fun h => congrArg _ (hinval h), fun h => congrArg _ (hcq h)⟩
  case stops =>
    rw [exec_destroyTq_here hf ht h, exec_resetTq_here hf ht h]
    exact ⟨congrArg _ (stopByCmd_begins ht hd hr), congrArg _ (stopByCmd_begins ht hd hr)⟩
  case stopping =>
    rw [exec_destroyTq_here hf ht h, exec_resetTq_here hf ht h]
    exact ⟨congrArg _ (stopByCmd_waits ht hs), congrArg _ (stopByCmd_waits ht hs)⟩
  case invalidates =>
    rw [exec_invalidateTq_here hf ht h]
    exact ⟨fun hd => congrArg _ (if_pos hd), fun hd ho => congrArg _ ((if_neg (by simp [hd])).trans (if_pos ho)),
      fun hd ho => congrArg _ ((if_neg (by simp [hd])).trans (if_neg (by simp [ho])))⟩
  case frees =>
    rw [exec_destroyCq_here hf hc h]
    exact ⟨fun hu => congrArg _ (if_pos hu), fun hu => congrArg _ (if_neg (by simp [hu]))⟩

end Sys2Proof.Machine
end

section
/-!
SUPPORT. What writes to host memory and what reports an error leave of `State.ctx`, the devices and the endpoint contexts, one lemma for each
operation on the way; and what the operations on a reservation do to its endpoint.
-/
namespace Sys2Proof.Machine

/-- Operations in turn leave `ctx` when each of them does. -/
@[simp] theorem foldl_ctx {α : Type} (l : List α) (s : State) (f : State → α → State) (hf : ∀ s a, (f s a).ctx = s.ctx) :
    (l.foldl f s).ctx = s.ctx := by
  induction l generalizing s with
  | nil => rfl
  | cons a l ih => exact (ih (f s a)).trans (hf s a)

@[simp] theorem each_ctx {α : Type} (l : List α) (s : State) (f : State → α → State) (hf : ∀ s a, (f s a).ctx = s.ctx) :
    (each l s f).ctx = s.ctx := foldl_ctx l s f hf

@[simp] theorem dirtyEvict_ctx (s : State) (k n : Nat) : (dirtyEvict s k n).ctx = s.ctx := by
  induction n generalizing s with
  | zero => rfl
  | succ n ih =>
    unfold dirtyEvict
    dsimp only
    split
    · split
      · rfl
      · rw [ih]; simp
    · rfl

@[simp] theorem msix_ctx (s : State) (o : Owner) (v : BitVec 8) : (msix s o v).ctx = s.ctx := by
  unfold msix
  dsimp only
  repeat' split
  all_goals simp

@[simp] theorem dirtyLog_ctx (s : State) (o : Owner) (a : Addr) (n : Nat) : (dirtyLog s o a n).ctx = s.ctx := by
  unfold dirtyLog
  dsimp only
  repeat' split
  all_goals simp

@[simp] theorem setEgress_ctx (s : State) (ringB : Bool) (e : Egress) : (setEgress s ringB e).ctx = s.ctx := by
  unfold setEgress
  split <;> simp

@[simp] theorem queueCell_ctx (s : State) (ringB transit : Bool) (c : Cell) : (queueCell s ringB transit c).ctx = s.ctx := by simp [queueCell]

@[simp] theorem enqueue_ctx (s : State) (ringB transit : Bool) (c : Cell) : (enqueue s ringB transit c).ctx = s.ctx := by
  unfold enqueue
  repeat' split
  all_goals simp

@[simp] theorem inject_ctx (s : State) (c : Cell) : (inject s c).ctx = s.ctx := by simp [inject]

@[simp] theorem waitCell_ctx (s : State) (c : Cell) : (waitCell s c).ctx = s.ctx := rfl

@[simp] theorem submit_ctx (s : State) (c : Cell) : (submit s c).ctx = s.ctx := by
  unfold submit
  dsimp only
  repeat' split
  all_goals simp

@[simp] theorem sendCell_ctx (s : State) (dst typ cls auth : Nat) (tag : Word) (d : List Byte) :
    (sendCell s dst typ cls auth tag d).ctx = s.ctx := by simp [sendCell]

@[simp] theorem sendFault_ctx (s : State) (loc : BitVec 64) (code : BitVec 16) : (sendFault s loc code).ctx = s.ctx := by simp [sendFault]

@[simp] theorem posEvent_ctx (s : State) (p : Nat) : (posEvent s p).ctx = s.ctx := by
  unfold posEvent
  dsimp only
  repeat' split
  all_goals simp

@[simp] theorem pageIntr_ctx (s : State) : (pageIntr s).ctx = s.ctx := by
  unfold pageIntr
  repeat' split
  all_goals simp

@[simp] theorem intrBits_ctx (s : State) (m : Word) : (intrBits s m).ctx = s.ctx := by simp [intrBits]

@[simp] theorem evtSet_ctx (s : State) (page : Nat) (m : Nat) : (evtSet s page m).ctx = s.ctx := by simp [evtSet]

@[simp] theorem evt_ctx (s : State) (page n : Nat) : (evt s page n).ctx = s.ctx := by simp [evt]

@[simp] theorem svcEvt_ctx (s : State) (e : SvcEvt) : (svcEvt s e).ctx = s.ctx := rfl

@[simp] theorem errBit_ctx (s : State) (page n : Nat) : (errBit s page n).ctx = s.ctx := by
  unfold errBit
  dsimp only
  repeat' split
  all_goals simp

@[simp] theorem rootCause_ctx (s : State) : (rootCause s).ctx = s.ctx := by simp [rootCause]

@[simp] theorem countUnder_ctx (s : State) (i : Nat) (r : Rec) : (countUnder s i r).ctx = s.ctx := rfl

@[simp] theorem tellHead_ctx (s : State) (l : BitVec 64) (code : BitVec 16) : (tellHead s l code).ctx = s.ctx := by
  unfold tellHead
  split <;> simp

@[simp] theorem sbdFault_ctx (s : State) (l : BitVec 64) (code : BitVec 16) : (sbdFault s l code).ctx = s.ctx := by
  unfold sbdFault
  split <;> simp

@[simp] theorem openRec_ctx (s : State) (i : Nat) (l : BitVec 64) (code : BitVec 16) : (openRec s i l code).ctx = s.ctx := rfl

@[simp] theorem chipLost_ctx (s : State) (i : Nat) : (chipLost s i).ctx = s.ctx := by
  unfold chipLost
  dsimp only
  repeat' split
  all_goals simp

@[simp] theorem overflowRec_ctx (s : State) : (overflowRec s).ctx = s.ctx := by
  unfold overflowRec
  dsimp only
  repeat' split
  all_goals simp

@[simp] theorem funnelWith_ctx (s : State) (l : BitVec 64) (code : BitVec 16) (tell : Bool) : (funnelWith s l code tell).2.ctx = s.ctx := by
  unfold funnelWith
  dsimp only
  repeat' split
  all_goals simp

@[simp] theorem funnel_ctx (s : State) (l : BitVec 64) (code : BitVec 16) : (funnel s l code).2.ctx = s.ctx := by simp [funnel]

@[simp] theorem report_ctx (s : State) (l : BitVec 64) (code : BitVec 16) : (report s l code).ctx = s.ctx := by simp [report]

@[simp] theorem err_ctx (s : State) (page n : Nat) : (err s page n).ctx = s.ctx := by
  unfold err
  split <;> simp

@[simp] theorem sendData_ctx (s : State) (iso : Bool) (tag : Word) (d : List Byte) : (sendData s iso tag d).ctx = s.ctx := by
  unfold sendData
  split <;> simp

@[simp] theorem hostStore_ctx (s : State) (o : Owner) (a : Addr) (d : List Byte) : (hostStore s o a d).ctx = s.ctx := by
  unfold hostStore
  split <;> simp

@[simp] theorem hostWriteAs_ctx (s : State) (iso : Bool) (tag : Word) (o : Owner) (a : Addr) (d : List Byte) :
    (hostWriteAs s iso tag o a d).ctx = s.ctx := by simp [hostWriteAs]

@[simp] theorem hostWrite_ctx (s : State) (o : Owner) (a : Addr) (d : List Byte) : (hostWrite s o a d).ctx = s.ctx := by
  unfold hostWrite
  split <;> simp

@[simp] theorem wheelPut_ctx (s : State) (a : Nat) (d : List Byte) : (wheelPut s a d).ctx = s.ctx := by
  unfold wheelPut
  split <;> simp

/-- Writes of the wheel's region in turn. -/
theorem each_wheelPut_ctx {α : Type} (l : List α) (s : State) (a : State → α → Nat) (d : State → α → List Byte) :
    (each l s fun s x => wheelPut s (a s x) (d s x)).ctx = s.ctx := by
  unfold each
  induction l generalizing s with
  | nil => rfl
  | cons x l ih => rw [List.foldl_cons, ih, wheelPut_ctx]

@[simp] theorem writeChanges_ctx (old s : State) : (writeChanges old s).ctx = s.ctx := by
  have twoPasses : writeChanges old s = each _ (each _ s fun s (b : Nat × List Word) => wheelPut s (blockAddr s b.1) (wordBytes b.2))
      fun s n => wheelPut s (wheelBase s + 8 * n) (leBytes 8 (slotWord s s.pln.wheel n)) := rfl
  rw [twoPasses, each_wheelPut_ctx _ _ (fun s n => wheelBase s + 8 * n) fun s n => leBytes 8 (slotWord s s.pln.wheel n),
    each_wheelPut_ctx _ _ (fun s (b : Nat × List Word) => blockAddr s b.1) fun _ (b : Nat × List Word) => wordBytes b.2]

@[simp] theorem dropPse_ctx (s : State) (c : Nat) (e : Ep) (phase : Nat) : (dropPse s c e phase).ctx = s.ctx := by
  unfold dropPse
  dsimp only
  repeat' split
  all_goals simp

@[simp] theorem leaveCohort_ctx (s : State) (n : Option Nat) (c : Nat) : (leaveCohort s n c).ctx = s.ctx := rfl


@[simp] theorem addPse_ctx (s : State) (c : Nat) (e : Ep) (phase : Nat) : (addPse s c e phase).ctx = s.ctx := by
  have hnode (nd : Node) : (withPse s nd c).1.ctx = s.ctx := by
    unfold withPse
    dsimp only
    split <;> rfl
  simp [addPse, hnode]

/-! ### Endpoint contexts (R143, R167, R170) -/

/-- An endpoint context that was put. -/
@[simp] theorem epAt_setEp_self (s : State) (c : Nat) (x : Ep) : epAt (setEp s c x) c = some x := look_put_self _ _ _

/-- An endpoint context that was put through a function. -/
theorem epAt_updEp_self {s : State} {c : Nat} {x : Ep} (h : epAt s c = some x) (f : Ep → Ep) :
    epAt (updEp s c f) c = some (f x) := by
  unfold updEp
  rw [h]
  exact epAt_setEp_self s c (f x)

/-- The end of a reservation leaves its endpoint bound. -/
theorem epAt_releaseRsv {s : State} {c : Nat} {x : Ep} (h : epAt s c = some x) : ∃ y, epAt (releaseRsv s c) c = some y := by
  unfold releaseRsv
  rw [h]
  cases hr : x.rsv with
  | none => exact ⟨x, by simp only [hr, h]⟩
  | some r =>
    by_cases hg : r.gone.isSome
    · exact ⟨x, by simp only [hr, hg, if_true, h]⟩
    · simp only [hr, hg, Bool.false_eq_true, if_false]
      exact ⟨_, (epAt_of ((leaveCohort_ctx _ _ _).trans (dropPse_ctx _ _ _ _)) c).trans (epAt_setEp_self _ _ _)⟩

end Sys2Proof.Machine
end

section
/-!
PROOFS. BIND_ENDPOINT, UNBIND_ENDPOINT, RESERVE_BW and RELEASE_BW, here and on another chip (R133, R164 to R167, R188, R189, R246; O37).
-/
namespace Sys2Proof.Machine

/-! ### BIND_ENDPOINT on a port here (R188) -/

/-- The submitter's quota of endpoint contexts is used up (R246). -/
def noContext (s : State) (a : Owner) : Prop := epQuota s a ≤ epsHeld s a

/-- A device on a port has the address that a bind of a new device names. -/
def addrTaken (s : State) (p : Nat) (e : List Word) : Bool := (devsOn s p).any (fun h => (devAt s h).any (fun d => d.addr.toNat == bAddr e))

section
variable {s : State} {o : Owner} {e : List Word} {p : Nat}

theorem bindHere_foreign (hm : mayPort s o e p = false) : bindHere s o e p = bad s o e 5 := if_pos (by simp [hm])

section
variable (hm : mayPort s o e p = true)
include hm

theorem bindHere_misfit (hf : bindFits s p e = false) : bindHere s o e p = bad s o e 2 :=
  (if_neg (by simp [hm])).trans (if_pos (by simp [hf]))

section
variable (hf : bindFits s p e = true)
include hf

/-- A bind of a new device, once its port allows it. -/
theorem bindHere_new (hn : bNew e = true) :
    bindHere s o e p =
      if addrTaken s p e then bad s o e 2
      else if epQuota s (acting o e) ≤ epsHeld s (acting o e) then bad s o e 7
      else match tabFree s.ctx.devs 2048 0 with
        | some h => bindMake s o e p h
        | none => bad s o e 7 := by
  unfold bindHere
  simp only [hm, hf, hn, bindHandle, Bool.not_true, Bool.false_eq_true, if_false, if_true]
  rfl

section
variable (hn : bNew e = true)
include hn

theorem bindHere_new_taken (ht : addrTaken s p e = true) : bindHere s o e p = bad s o e 2 := by
  rw [bindHere_new hm hf hn, if_pos ht]

theorem bindHere_new_full (ht : ¬ addrTaken s p e = true) (h : noContext s (acting o e) ∨ tabFree s.ctx.devs 2048 0 = none) :
    bindHere s o e p = bad s o e 7 := by
  rw [bindHere_new hm hf hn, if_neg ht]
  rcases h with h | h
  · exact if_pos h
  · rw [h, ite_self]

theorem bindHere_new_makes {h : Nat} (ht : ¬ addrTaken s p e = true) (hq : ¬ noContext s (acting o e))
    (hd : tabFree s.ctx.devs 2048 0 = some h) : bindHere s o e p = bindMake s o e p h := by
  rw [bindHere_new hm hf hn, if_neg ht, hd]
  exact if_neg hq

end

section
variable (hn : bNew e = false)
include hn

theorem bindHere_old_none (hd : devAt s (bHandle e) = none) : bindHere s o e p = bad s o e 4 := by
  unfold bindHere
  simp only [hm, hf, hn, hd, Bool.not_true, Bool.not_false, Bool.false_eq_true, if_false, if_true]

/-- A bind on a device that is bound already, once its port allows it. -/
theorem bindHere_old {d : Dev} (hd : devAt s (bHandle e) = some d) :
    bindHere s o e p =
      if d.port ≠ p then bad s o e 4
      else if ¬ (d.addr.toNat = bAddr e ∧ d.route = bRoute e ∧ d.speed = bSpeed e) ∨ numTaken s (bHandle e) e = true then bad s o e 2
      else if epQuota s (acting o e) ≤ epsHeld s (acting o e) then bad s o e 7
      else bindMake s o e p (bHandle e) := by
  unfold bindHere
  simp only [hm, hf, hn, hd, Bool.not_true, Bool.false_eq_true, if_false, bne_iff_ne, Bool.or_eq_true, Bool.not_eq_true',
    Bool.and_eq_false_iff, beq_eq_false_iff_ne, not_and_or, or_assoc]

end

end

end

end

/-! ### The contexts of a bind (R188, R210) -/

theorem bindMake_full {s : State} {o : Owner} {e : List Word} (h : allocBuf s.ctx (bCls e) = none ∨ tabFree s.ctx.eps 8192 0 = none)
    (p d : Nat) : bindMake s o e p d = bad s o e 7 := by
  unfold bindMake
  rcases h with h | h
  · cases hc : tabFree s.ctx.eps 8192 0 <;> simp only [h]
  · simp only [h]

theorem bindMake_makes {s : State} {o : Owner} {e : List Word} {b c : Nat} {x : Ctxs} (hb : allocBuf s.ctx (bCls e) = some (b, x))
    (hc : tabFree s.ctx.eps 8192 0 = some c) (p h : Nat) :
    bindMake s o e p h =
      (let s1 : State := { s with ctx := x }
       good (noteFree (setEp (if bNew e then setDev s1 h (newDev (acting o e) p e) else s1) c (newEp (acting o e) h b e))) o e
         (c + h * 2 ^ 16) 0) := by
  unfold bindMake
  simp only [hb, hc]

/-! ### BIND_ENDPOINT by its form and the position of its port -/

section
variable {s : State} {o : Owner} {e : List Word} (h : admPasses s o e false 6 = true)
include h

theorem exec_bindEndpoint_field (hf : bindForm e = false) : exec (.bindEndpoint o e) s = .next (bad s o e 2) :=
  congrArg Host.Outcome.next ((adm_passes h).trans (if_pos (by simp [hf])))

theorem exec_bindEndpoint_here (hf : bindForm e = true) (hp : gpPos (dw e 2) = ownPos s) :
    exec (.bindEndpoint o e) s = .next (bindHere s o e (gpPort (dw e 2))) :=
  congrArg Host.Outcome.next ((adm_passes h).trans ((if_neg (by simp [hf])).trans (if_pos (by simp [hp]))))

theorem exec_bindEndpoint_away (hf : bindForm e = true) (hp : gpPos (dw e 2) ≠ ownPos s) :
    exec (.bindEndpoint o e) s = .next (bindFar s o e (gpPos (dw e 2))) :=
  congrArg Host.Outcome.next ((adm_passes h).trans ((if_neg (by simp [hf])).trans (if_neg (by simp [hp]))))

end

/-! ### Commands on an endpoint that is bound (R130, R246) -/

/-- UNBIND_ENDPOINT, RELEASE_BW and RESERVE_BW, with the dwords that they use. -/
def boundCommands (o : Owner) (e : List Word) : List (Nat × Instr) :=
  [(3, .unbindEndpoint o e), (3, .releaseBw o e), (4, .reserveBw o e)]

/-- RESERVE_BW for an endpoint of another chip is a command on what the head knows of it. -/
theorem reserveFar_onFar (s : State) (o : Owner) (e : List Word) : ∃ far, reserveFar s o e = onFar s o e (dw e 2) far := by
  unfold reserveFar
  exact ⟨_, rfl⟩

section
variable {s : State} {o : Owner} {e : List Word}

/-- Each is a command on the endpoint that its EPREF names, here or on another chip. -/
theorem exec_boundCommand {n : Nat} {i : Instr} (hi : (n, i) ∈ boundCommands o e) (h : admPasses s o e false n = true) :
    ∃ far here, exec i s = .next (if isFar s (dw e 2) then onFar s o e (dw e 2) far else onEp s o e (dw e 2) here) := by
  simp only [boundCommands, List.mem_cons, Prod.mk.injEq, List.not_mem_nil, or_false] at hi
  rcases hi with ⟨rfl, rfl⟩ | ⟨rfl, rfl⟩ | ⟨rfl, rfl⟩
  · exact ⟨_, _, congrArg Host.Outcome.next (adm_passes h)⟩
  · exact ⟨_, _, congrArg Host.Outcome.next (adm_passes h)⟩
  · obtain ⟨far, hfar⟩ := reserveFar_onFar s o e
    refine ⟨far, fun s c x => reserveHere s o e c x, congrArg Host.Outcome.next ((adm_passes h).trans ?_)⟩
    rw [hfar]

section
variable {x : Ep} (hb : epBad (dw e 2) = false) (hp : epPos (dw e 2) = ownPos s) (hx : epAt s (epCtx (dw e 2)) = some x)
  (ha : acting o e = .mgr ∨ acting o e = x.owner)
include hb hp hx ha

/-- UNBIND_ENDPOINT on an endpoint here (R189). -/
theorem exec_unbindEndpoint_here (h : admPasses s o e false 3 = true) :
    exec (.unbindEndpoint o e) s = .next (if x.tq.isSome then bad s o e 6 else good (unbind s (epCtx (dw e 2))) o e 0 0) :=
  congrArg Host.Outcome.next ((adm_passes h).trans ((if_neg (by simp [isFar_here hp])).trans (onEp_own hb hp hx ha)))

/-- RELEASE_BW on an endpoint here (R167). -/
theorem exec_releaseBw_here (h : admPasses s o e false 3 = true) :
    exec (.releaseBw o e) s = .next (good (releaseRsv s (epCtx (dw e 2))) o e 0 0) :=
  congrArg Host.Outcome.next ((adm_passes h).trans ((if_neg (by simp [isFar_here hp])).trans (onEp_own hb hp hx ha)))

/-- RESERVE_BW on an endpoint here (R164). -/
theorem exec_reserveBw_here (h : admPasses s o e false 4 = true) :
    exec (.reserveBw o e) s = .next (reserveHere s o e (epCtx (dw e 2)) x) :=
  congrArg Host.Outcome.next ((adm_passes h).trans ((if_neg (by simp [isFar_here hp])).trans (onEp_own hb hp hx ha)))

end

/-! ### RESERVE_BW here (R143, R164 to R166) -/

/-- An endpoint context with a reservation granted, as the one before it leaves it. -/
def reserved (s : State) (x : Ep) (bytes p : Nat) : Ep → Ep := fun y =>
  { y with rsv := some ⟨bytes, p, ufAdd (lastOpen s) 1, none⟩, old := y.old ++ y.rsv.toList, cohort := x.cohort }

/-- The state with a reservation granted. -/
def reservedState (s : State) (c : Nat) (x : Ep) (bytes p : Nat) : State :=
  let t := addPse (updEp (releaseRsv s c) c (reserved s x bytes p)) c x p
  { t with pln := { t.pln with cohorts := stayMember t.pln.cohorts x.cohort c } }

theorem reservedState_ctx (s : State) (c : Nat) (x : Ep) (bytes p : Nat) :
    (reservedState s c x bytes p).ctx = (updEp (releaseRsv s c) c (reserved s x bytes p)).ctx := by
  unfold reservedState
  dsimp only
  exact addPse_ctx _ _ _ _

section
variable {c : Nat} {x : Ep}

theorem reserveHere_field (hb : reserveBad (slowDev s x) x (bits (dw e 3) 0 16) (bits (dw e 3) 16 16) = true) :
    reserveHere s o e c x = bad s o e 2 := if_pos hb

section
variable (hb : reserveBad (slowDev s x) x (bits (dw e 3) 0 16) (bits (dw e 3) 16 16) = false)
include hb

theorem reserveHere_noWheel (hw : wheelBase s = 0) : reserveHere s o e c x = noBw s o e 11 :=
  (if_neg (by simp [hb])).trans (if_pos (by simp [hw]))

section
variable (hw : wheelBase s ≠ 0)
include hw

theorem reserveHere_refused {d : Nat} (hg : grant s x (bits (dw e 3) 0 16) (bits (dw e 3) 16 16) (admitted s c) = .error d) :
    reserveHere s o e c x = noBw s o e d := by
  refine (if_neg (by simp [hb])).trans ((if_neg (by simp [hw])).trans ?_)
  simp only [hg]

/-- A reservation that is granted stands in its endpoint's context, which keeps its cohort (log entry 81). -/
theorem reserveHere_granted {p : Nat} (hx : epAt s c = some x)
    (hg : grant s x (bits (dw e 3) 0 16) (bits (dw e 3) 16 16) (admitted s c) = .ok p) :
    ∃ t, reserveHere s o e c x =
        good t o e p (portBudget (portKind s x) - worstLoad s ⟨x, bits (dw e 3) 0 16, p⟩ (admitted s c))
      ∧ ∃ y, epAt t c = some y ∧ y.rsv = some ⟨bits (dw e 3) 0 16, p, ufAdd (lastOpen s) 1, none⟩ ∧ y.cohort = x.cohort := by
  obtain ⟨z, hz⟩ := epAt_releaseRsv hx
  have hmade := (epAt_of (reservedState_ctx s c x (bits (dw e 3) 0 16) p) c).trans (epAt_updEp_self hz _)
  refine ⟨reservedState s c x (bits (dw e 3) 0 16) p, ?_, _, hmade, rfl, rfl⟩
  unfold reserveHere reservedState reserved
  simp only [hb, hw, hg, Bool.false_eq_true, if_false, beq_iff_eq]

end

end

end

/-! ### Endpoints of other chips (R133, R164 to R166) -/

theorem exec_reserveBw_away (hb : epBad (dw e 2) = false) (hp : epPos (dw e 2) ≠ ownPos s) (h : admPasses s o e false 4 = true) :
    exec (.reserveBw o e) s = .next (reserveFar s o e) :=
  congrArg Host.Outcome.next ((adm_passes h).trans (if_pos (isFar_away hb hp)))

section
variable {x : FarEp} (hb : epBad (dw e 2) = false) (hp : epPos (dw e 2) ≠ ownPos s) (hr : reachable s (epPos (dw e 2)) = true)
  (hx : farAt s (dw e 2) = some x) (ha : acting o e = .mgr ∨ acting o e = x.ep.owner)
include hb hp hr hx ha

theorem exec_unbindEndpoint_away (h : admPasses s o e false 3 = true) :
    exec (.unbindEndpoint o e) s = .next (if x.ep.tq.isSome then bad s o e 6 else elsewhere s o e (epPos (dw e 2)) id
      (fun s _ => { s with ctx := { s.ctx with far := tabDel s.ctx.far (farKey (dw e 2)) } })) :=
  congrArg Host.Outcome.next ((adm_passes h).trans ((if_pos (isFar_away hb hp)).trans (onFar_own hr hx ha)))

theorem exec_releaseBw_away (h : admPasses s o e false 3 = true) :
    exec (.releaseBw o e) s = .next (elsewhere s o e (epPos (dw e 2)) id (fun s _ =>
      updFar s (dw e 2) (fun y => { y with rsv := none, cohort := none }))) :=
  congrArg Host.Outcome.next ((adm_passes h).trans ((if_pos (isFar_away hb hp)).trans (onFar_own hr hx ha)))

end

/-- The phases that a request for an endpoint of another chip may be granted: those asked for that the links of the way hold (R166). -/
def farPhases (s : State) (e : List Word) (x : FarEp) : List Nat :=
  (if bits (dw e 3) 16 16 == 0xFFFF then (List.range (2 ^ x.ep.log2i)).filter (fun p => !decide (x.dev.speed < 2) || p % 8 == 0)
    else [bits (dw e 3) 16 16]).filter (fun p =>
      linksHold s (farKey (dw e 2)) (epPos (dw e 2)) ⟨x.ep, bits (dw e 3) 0 16, p⟩)

theorem farPhases_eq (s : State) (e : List Word) (x : FarEp) :
    farPhases s e x =
      (if bits (dw e 3) 16 16 = 0xFFFF then (List.range (2 ^ x.ep.log2i)).filter (fun p => !decide (x.dev.speed < 2) || p % 8 == 0)
        else [bits (dw e 3) 16 16]).filter (fun p =>
          linksHold s (farKey (dw e 2)) (epPos (dw e 2)) ⟨x.ep, bits (dw e 3) 0 16, p⟩) := by
  simp only [farPhases, beq_iff_eq]

/-- The free value that stands for what the other chip makes of a request. -/
def farVerdict (s : State) (o : Owner) (e : List Word) : Word := freeNow (forwardCmd s (epPos (dw e 2)) o e)

/-- The state after the free values of a request have been drawn. -/
def farDrawn (s : State) (o : Owner) (e : List Word) : State := freeStep (freeStep (forwardCmd s (epPos (dw e 2)) o e))

section
variable {x : FarEp} (hr : reachable s (epPos (dw e 2)) = true)
  (hx : farAt s (dw e 2) = some x) (ha : acting o e = .mgr ∨ acting o e = x.ep.owner)
include hr hx ha

theorem reserveFar_field (hb : reserveBad (decide (x.dev.speed < 2)) x.ep (bits (dw e 3) 0 16) (bits (dw e 3) 16 16) = true) :
    reserveFar s o e = bad s o e 2 := by
  unfold reserveFar
  rw [onFar_own hr hx ha]
  exact if_pos hb

section
variable (hb : reserveBad (decide (x.dev.speed < 2)) x.ep (bits (dw e 3) 0 16) (bits (dw e 3) 16 16) = false)
include hb

/-- A request that the links and the free value allow: the phase is another free value's choice (log entry 18). -/
theorem reserveFar_granted (hps : farPhases s e x ≠ []) (hv : bit (farVerdict s o e) 0 = false) :
    reserveFar s o e =
      (let p := (farPhases s e x).getD (bits (farVerdict s o e) 8 24 % (farPhases s e x).length) 0
       good (updFar (farDrawn s o e) (dw e 2) (fun y => { y with rsv := some ⟨bits (dw e 3) 0 16, p, 0, none⟩ })) o e p
         (bits (freeNow (freeStep (forwardCmd s (epPos (dw e 2)) o e))) 0 24)) := by
  have hverdict : ((farPhases s e x).isEmpty || bit (farVerdict s o e) 0) = false := by
    rw [hv, Bool.or_false, List.isEmpty_eq_false_iff]
    exact hps
  unfold reserveFar
  rw [onFar_own hr hx ha]
  refine (if_neg (Bool.eq_false_iff.1 hb)).trans ?_
  unfold farPhases farVerdict at *
  simp only [hverdict]
  rfl

/-- Any other request is refused, with a detail that the free value chooses (log entry 18). -/
theorem reserveFar_refused (h : farPhases s e x = [] ∨ bit (farVerdict s o e) 0 = true) :
    reserveFar s o e = noBw (farDrawn s o e) o e
      (if bits (farVerdict s o e) 1 2 = 0 then 9
       else if bits (farVerdict s o e) 1 2 = 1 then (if x.dev.ttHub = 0 then 9 else 10) else 11) := by
  have hverdict : ((farPhases s e x).isEmpty || bit (farVerdict s o e) 0) = true := by
    rcases h with h | h <;> simp [h]
  unfold reserveFar
  rw [onFar_own hr hx ha]
  refine (if_neg (Bool.eq_false_iff.1 hb)).trans ?_
  unfold farPhases farVerdict at *
  simp only [hverdict]
  generalize bits (freeNow (forwardCmd s (epPos (dw e 2)) o e)) 1 2 = n
  match n with
  | 0 => rfl
  | 1 => simp only [beq_iff_eq]; rfl
  | n + 2 => rfl

end

end

end

/-- Settles O37: each command by its form, by the home of what it names, and by the first thing that it lacks. -/
theorem endpointCommands : Obligations.EndpointCommands := by
  refine ⟨fun s o e h => ⟨exec_bindEndpoint_field h, fun hf hp => ?bindHere, fun hf hp => ?bindAway⟩,
    fun s o e c b => ⟨fun h p d => bindMake_full h p d, fun x p d hb hc => bindMake_makes hb hc p d⟩,
    fun s o e n i hi h => ?refused, fun s o e hb => ⟨fun x hp hx ha => ?here, fun x hp hr hx ha => ?away⟩⟩
  case bindHere =>
    rw [exec_bindEndpoint_here h hf hp]
    simp only [Host.Outcome.next.injEq]
    refine ⟨bindHere_foreign, bindHere_misfit, fun hm hf hn => ⟨bindHere_new_taken hm hf hn, bindHere_new_full hm hf hn,
      fun d => bindHere_new_makes hm hf hn⟩, fun hm hf hn => ⟨bindHere_old_none hm hf hn, fun d hd => ?_⟩⟩
    rw [bindHere_old hm hf hn hd]
    exact ⟨fun hp => if_pos hp, fun hp h => (if_neg (not_not.2 hp)).trans (if_pos h),
      fun hp hs ht hq => (if_neg (not_not.2 hp)).trans ((if_neg (by simp [hs, ht])).trans (if_pos hq)),
      fun hp hs ht hq => (if_neg (not_not.2 hp)).trans ((if_neg (by simp [hs, ht])).trans (if_neg hq))⟩
  case bindAway =>
    rw [exec_bindEndpoint_away h hf hp]
    simp only [Host.Outcome.next.injEq]
    exact ⟨fun hr => if_pos (by simp [hr]), fun hr hq => (if_neg (by simp [hr])).trans (if_pos hq),
      fun hr hq => (if_neg (by simp [hr])).trans (if_neg hq)⟩
  case refused =>
    obtain ⟨far, here, hexec⟩ := exec_boundCommand hi h
    rw [hexec]
    simp only [Host.Outcome.next.injEq]
    refine ⟨fun hb => ?_, fun hb hp => ?_, fun hb hp => ?_⟩
    · rw [if_neg (by simp [isFar_bad hb]), onEp_bad hb]
    · rw [if_neg (by simp [isFar_here hp])]
      exact ⟨fun hx => onEp_none hb hp hx, fun x hx hm ho => onEp_foreign hb hp hx hm ho⟩
    · rw [if_pos (isFar_away hb hp)]
      exact ⟨fun hr => onFar_unreachable hr, fun hr hx => onFar_none hr hx, fun x hr hx hm ho => onFar_foreign hr hx hm ho⟩
  case here =>
    refine ⟨fun h => ?three, fun h => ?four⟩
    case three =>
      rw [exec_unbindEndpoint_here hb hp hx ha h]
      exact ⟨fun ht => congrArg Host.Outcome.next (if_neg (by simp [ht])),
        fun ht => congrArg Host.Outcome.next (if_pos (Option.isSome_iff_ne_none.2 ht)), exec_releaseBw_here hb hp hx ha h⟩
    case four =>
      simp only [exec_reserveBw_here hb hp hx ha h, Host.Outcome.next.injEq]
      exact ⟨reserveHere_field, reserveHere_noWheel, fun hf hw => ⟨fun d => reserveHere_refused hf hw,
        fun p hg => reserveHere_granted hf hw hx hg⟩⟩
  case away =>
    refine ⟨fun h => ?three, fun h => ?four⟩
    case three =>
      rw [exec_unbindEndpoint_away hb hp hr hx ha h]
      exact ⟨fun ht => congrArg Host.Outcome.next (if_neg (by simp [ht])),
        fun ht => congrArg Host.Outcome.next (if_pos (Option.isSome_iff_ne_none.2 ht)), exec_releaseBw_away hb hp hr hx ha h⟩
    case four =>
      rw [exec_reserveBw_away hb hp h]
      simp only [Host.Outcome.next.injEq, ← farPhases_eq]
      refine ⟨reserveFar_field hr hx ha, reserveFar_granted hr hx ha, fun hf hn => ?_⟩
      rw [reserveFar_refused hr hx ha hf hn]
      unfold farVerdict
      exact ⟨fun h0 => congrArg (noBw _ o e) (if_pos h0), fun h1 => congrArg (noBw _ o e) ((if_neg (by omega)).trans (if_pos h1)),
        fun h2 => congrArg (noBw _ o e) ((if_neg (by omega)).trans (if_neg (by omega)))⟩

end Sys2Proof.Machine
end

section
/-!
PROOFS. SET_PORT in its forms (R133, R176, R179, R180, R199; O38).
-/
namespace Sys2Proof.Machine

/-- The forms of SET_PORT, each with the entries that are of it. -/
def setPortForms (o : Owner) (e : List Word) : List (Instr × Bool) :=
  [(.setPortPowerOn o e, pAction e == 1), (.setPortPowerOff o e, pAction e == 2), (.setPortReset o e, pAction e == 3),
    (.setPortDisable o e, pAction e == 4), (.setPortSuspend o e, pAction e == 5), (.setPortResume o e, pAction e == 6),
    (.setPortSetLpm o e, pAction e == 7), (.setPortTest o e, pAction e == 8),
    (.setPortSetOwner o e, pSetOwner e && (pAction e == 0 || decide (8 < pAction e))),
    (.setPortNoOwner o e, !pSetOwner e && (pAction e == 0 || decide (8 < pAction e)))]

/-- A form runs SET_PORT on an entry of its own, and changes nothing on any other. -/
theorem exec_setPort {s : State} {o : Owner} {e : List Word} {c : Instr} {mine : Bool} (h : (c, mine) ∈ setPortForms o e) :
    exec c s = .next (if mine then setPortCmd s o e else s) := by
  simp only [setPortForms, List.mem_cons, Prod.mk.injEq, List.not_mem_nil, or_false] at h
  rcases h with ⟨rfl, rfl⟩ | ⟨rfl, rfl⟩ | ⟨rfl, rfl⟩ | ⟨rfl, rfl⟩ | ⟨rfl, rfl⟩ | ⟨rfl, rfl⟩ | ⟨rfl, rfl⟩ | ⟨rfl, rfl⟩
    | ⟨rfl, rfl⟩ | ⟨rfl, rfl⟩
  all_goals rfl

/-! ### The command by its form, its authority and its port's position (R133, R180) -/

section
variable {s : State} {o : Owner} {e : List Word} (h : admPasses s o e false 5 = true)
include h

theorem setPortCmd_field (hf : setPortForm e = false) : setPortCmd s o e = bad s o e 2 :=
  (adm_passes h).trans (if_pos (by simp [hf]))

section
variable (hf : setPortForm e = true)
include hf

/-- The owner fields are the manager's. -/
theorem setPortCmd_authority (ho : (pSetOwner e || pNoOwner e) = true) (hm : o ≠ .mgr) : setPortCmd s o e = bad s o e 3 :=
  (adm_passes h).trans ((if_neg (by simp [hf])).trans (if_pos (by simp [ho, hm])))

section
variable (ho : (pSetOwner e || pNoOwner e) = true → o = .mgr)
include ho

theorem setPortCmd_at :
    setPortCmd s o e = atPos s o e (gpPos (dw e 2)) (fun s => setPortHere s o e (gpPort (dw e 2))) := by
  refine (adm_passes h).trans ((if_neg (by simp [hf])).trans (if_neg ?_))
  simpa using ho

theorem setPortCmd_away (hp : gpPos (dw e 2) ≠ ownPos s) :
    setPortCmd s o e = elsewhere s o e (gpPos (dw e 2)) id (fun s _ => s) := by
  rw [setPortCmd_at h hf ho, atPos_away hp]

theorem setPortCmd_here (hp : gpPos (dw e 2) = ownPos s) : setPortCmd s o e = setPortHere s o e (gpPort (dw e 2)) := by
  rw [setPortCmd_at h hf ho, atPos_here hp]

end

end

end

/-! ### SET_PORT on a port here (R178 to R180) -/

section
variable {s : State} {o : Owner} {e : List Word} {p : Nat}

theorem setPortHere_foreign (hm : mayPort s o e p = false) : setPortHere s o e p = bad s o e 5 := if_pos (by simp [hm])

section
variable (hm : mayPort s o e p = true)
include hm

theorem setPortHere_state (ha : actionOk s p (pAction e) = false) : setPortHere s o e p = bad s o e 8 :=
  (if_neg (by simp [hm])).trans (if_pos (by simp [ha]))

section
variable (ha : actionOk s p (pAction e) = true)
include ha

/-- A port with devices keeps its owner (R180). -/
theorem setPortHere_devices (hn : newOwner s p e ≠ portOwner s p) (hd : devsOn s p ≠ []) : setPortHere s o e p = bad s o e 8 :=
  (if_neg (by simp [hm])).trans ((if_neg (by simp [ha])).trans (if_pos (by simp [hn, hd])))

/-- The owner first, then the action. -/
theorem setPortHere_acts (hn : newOwner s p e = portOwner s p ∨ devsOn s p = []) :
    setPortHere s o e p = good (portAct (ownPort s p (newOwner s p e)) p (pAction e) (dw e 4)) o e 0 0 :=
  (if_neg (by simp [hm])).trans ((if_neg (by simp [ha])).trans (if_neg (by rcases hn with hn | hn <;> simp [hn])))

end

end

end

/-! ### The actions (R179, R199, R202) -/

theorem portAct_reset (s : State) (p : Nat) (w : Word) :
    portAct s p 3 w =
      if portState s p = 6 then setPort s p { portAt s p with resetWaits := some w } else startReset s p (bit w 0) := by
  simp only [portAct, beq_iff_eq]

theorem portAct_resume (s : State) (p : Nat) (w : Word) :
    portAct s p 6 w = if portState s p = 4 then startResume s p false else s := by
  simp only [portAct, beq_iff_eq]

/-- Settles O38: the command by the first of its checks that fails, and the action that is left. -/
theorem setPortCommands : Obligations.SetPort := by
  refine ⟨fun s o e c mine hc => ⟨fun hm => ?other, fun hm h => ?mine⟩, fun s o e h hf ho hp hm ha hn => ?acts⟩
  case other => rw [exec_setPort hc, hm, if_neg Bool.false_ne_true]
  case mine =>
    rw [exec_setPort hc, if_pos hm]
    simp only [Host.Outcome.next.injEq]
    refine ⟨setPortCmd_field h, setPortCmd_authority h, fun hf ho hp => ?_, fun hf ho hp => ?_⟩
    · rw [setPortCmd_away h hf ho hp]
      exact ⟨elsewhere_unreachable, fun _ => rfl⟩
    · rw [setPortCmd_here h hf ho hp]
      exact ⟨setPortHere_foreign, setPortHere_state, setPortHere_devices⟩
  case acts =>
    have hacts {c : Instr} (hc : (c, true) ∈ setPortForms o e) : exec c s = .next (good (portAct
        (ownPort s (gpPort (dw e 2)) (newOwner s (gpPort (dw e 2)) e)) (gpPort (dw e 2)) (pAction e) (dw e 4)) o e 0 0) := by
      rw [exec_setPort hc, if_pos rfl, setPortCmd_here h hf ho hp, setPortHere_acts hm ha hn]
    refine ⟨fun h1 => ?on, fun h2 => ?off, fun h3 hr => ?reset, fun h3 hr => ?resetWaits, fun h4 => ?disable, fun h5 => ?suspend,
      fun h6 hr => ?resume, fun h6 hr => ?resumes, fun h7 => ?lpm, fun h8 => ?test, fun h0 hs => ?setOwner, fun h0 hs hno => ?noOwner,
      fun h0 hs hno => ?same⟩
    case on => rw [hacts (by simp [setPortForms, h1]), h1]; rfl
    case off => rw [hacts (by simp [setPortForms, h2]), h2]; rfl
    case reset => rw [hacts (by simp [setPortForms, h3]), h3, portAct_reset, if_neg hr]
    case resetWaits => rw [hacts (by simp [setPortForms, h3]), h3, portAct_reset, if_pos hr]
    case disable => rw [hacts (by simp [setPortForms, h4]), h4]; rfl
    case suspend => rw [hacts (by simp [setPortForms, h5]), h5]; rfl
    case resume => rw [hacts (by simp [setPortForms, h6]), h6, portAct_resume, if_pos hr]
    case resumes => rw [hacts (by simp [setPortForms, h6]), h6, portAct_resume, if_neg hr]
    case lpm => rw [hacts (by simp [setPortForms, h7]), h7]; rfl
    case test => rw [hacts (by simp [setPortForms, h8]), h8]; rfl
    case setOwner => rw [hacts (by simp [setPortForms, h0, hs]), h0, newOwner, if_pos hs]; rfl
    case noOwner => rw [hacts (by simp [setPortForms, h0, hs]), h0, newOwner, if_neg (by simp [hs]), if_pos hno]; rfl
    case same => rw [hacts (by simp [setPortForms, h0, hs]), h0]; rfl

end Sys2Proof.Machine
end

section
/-!
PROOFS. GET_PORT, GET_TOPOLOGY, SET_VOTE and CLEAR_VOTE (R133, R181, R182, R265; O39).
-/
namespace Sys2Proof.Machine

/-! ### The four commands by their form and their chip's position (R133) -/

/-- The commands that look at a port or cast a vote: the dwords that they use, whether they are the manager's, the position that they name,
whether their fields are in order. -/
def portQueryForms (o : Owner) (e : List Word) : List (Nat × Bool × Nat × Bool × Instr) :=
  [(3, false, gpPos (dw e 2), bits (dw e 2) 15 17 == 0, .getPort o e),
    (6, false, gpPos (dw e 2), bits (dw e 2) 15 17 == 0 && bits (dw e 5) 16 16 == 0 && bits (dw e 5) 0 16 % 16 == 0, .getTopology o e),
    (4, true, bits (dw e 2) 8 6, bits (dw e 2) 14 18 == 0 && bits (dw e 3) 6 26 == 0 && domOk (bits (dw e 2) 0 8)
      && (decide (bits (dw e 3) 0 6 ≤ 31) || bits (dw e 3) 0 6 == 63), .setVote o e),
    (4, true, bits (dw e 2) 8 6, bits (dw e 2) 14 18 == 0 && bits (dw e 3) 6 26 == 0 && domOk (bits (dw e 2) 0 8)
      && decide (bits (dw e 3) 0 6 ≤ 31), .clearVote o e)]

/-- A command that tests its fields for what is out of order. -/
theorem ite_outOfForm {α : Type} {b form : Bool} {x y : α} (h : b = !form) : (if b then x else y) = if form then y else x := by
  subst h
  cases form <;> rfl

section
variable {s : State} {o : Owner} {e : List Word}

/-- GET_PORT on a port here (R181). -/
def getPortHere (s : State) (o : Owner) (e : List Word) (p : Nat) : State :=
  if !mayPort s o e p then bad s o e 5
  else good s o e (rd s (adr (cluPage p) (0x080 + p % 8 * 0x10))).toNat
    (prf s p PRT_STATE_OWNER + prf s p PRT_STATE_OWNED * 2 ^ 10 + (devsOn s p).length * 2 ^ 16)

/-- The records that GET_TOPOLOGY writes for the devices that there is room for (R182). -/
def topoBytes (s : State) (p len : Nat) : List Byte := wordBytes (((devsOn s p).take (len / 16)).flatMap (topoRecord s))

/-- GET_TOPOLOGY on a port here (R182). -/
def getTopologyHere (s : State) (o : Owner) (e : List Word) (p len : Nat) : State :=
  if !mayPort s o e p then bad s o e 5
  else
    let n := ((devsOn s p).take (len / 16)).length
    good (if (topoBytes s p len).isEmpty then s else hostWrite s o (join64 (dw e 3) (dw e 4)) (topoBytes s p len)) o e
      (n + b2n (decide (n < (devsOn s p).length)) * 2 ^ 16) 0

/-- CLEAR_VOTE on a domain here (R265). -/
def clearVoteHere (s : State) (o : Owner) (e : List Word) (d slot : Nat) : State :=
  let s1 := dropSw s d (bitW slot)
  if !bit (domAt s d).alloc slot then bad s o e 4
  else good (setDom s1 d { domAt s1 d with alloc := (domAt s1 d).alloc &&& ~~~ bitW slot }) o e 0 0

theorem exec_getPort (h : admPasses s o e false 3 = true) :
    exec (.getPort o e) s = .next (if bits (dw e 2) 15 17 == 0 then
      atPos s o e (gpPos (dw e 2)) (fun s => getPortHere s o e (gpPort (dw e 2))) else bad s o e 2) :=
  congrArg Host.Outcome.next ((adm_passes h).trans (ite_outOfForm rfl))

theorem exec_getTopology (h : admPasses s o e false 6 = true) :
    exec (.getTopology o e) s = .next
      (if bits (dw e 2) 15 17 == 0 && bits (dw e 5) 16 16 == 0 && bits (dw e 5) 0 16 % 16 == 0 then
        atPos s o e (gpPos (dw e 2)) (fun s => getTopologyHere s o e (gpPort (dw e 2)) (bits (dw e 5) 0 16)) else bad s o e 2) :=
  congrArg Host.Outcome.next ((adm_passes h).trans (ite_outOfForm (by simp only [bne, Bool.not_and])))

theorem exec_setVote (h : admPasses s o e true 4 = true) :
    exec (.setVote o e) s = .next
      (if bits (dw e 2) 14 18 == 0 && bits (dw e 3) 6 26 == 0 && domOk (bits (dw e 2) 0 8)
          && (decide (bits (dw e 3) 0 6 ≤ 31) || bits (dw e 3) 0 6 == 63) then
        atPos s o e (bits (dw e 2) 8 6) (fun s => setVoteHere s o e (bits (dw e 2) 0 8) (bits (dw e 3) 0 6)) else bad s o e 2) := by
  refine congrArg Host.Outcome.next ((adm_passes h).trans (ite_outOfForm ?_))
  simp only [bne, Bool.not_and, Bool.not_or, ← decide_not, Nat.not_le]

theorem exec_clearVote (h : admPasses s o e true 4 = true) :
    exec (.clearVote o e) s = .next
      (if bits (dw e 2) 14 18 == 0 && bits (dw e 3) 6 26 == 0 && domOk (bits (dw e 2) 0 8) && decide (bits (dw e 3) 0 6 ≤ 31) then
        atPos s o e (bits (dw e 2) 8 6) (fun s => clearVoteHere s o e (bits (dw e 2) 0 8) (bits (dw e 3) 0 6)) else bad s o e 2) := by
  refine congrArg Host.Outcome.next ((adm_passes h).trans (ite_outOfForm ?_))
  simp only [bne, Bool.not_and, ← decide_not, Nat.not_le]

/-- Each is judged by its fields and runs where its position says; one that looks at a port is its owner's. -/
theorem exec_portQuery {n pos : Nat} {m form : Bool} {c : Instr} (hc : (n, m, pos, form, c) ∈ portQueryForms o e)
    (h : admPasses s o e m n = true) :
    ∃ here, exec c s = .next (if form then atPos s o e pos here else bad s o e 2)
      ∧ (m = false → mayPort s o e (gpPort (dw e 2)) = false → here s = bad s o e 5) := by
  simp only [portQueryForms, List.mem_cons, Prod.mk.injEq, List.not_mem_nil, or_false] at hc
  rcases hc with ⟨rfl, rfl, rfl, rfl, rfl⟩ | ⟨rfl, rfl, rfl, rfl, rfl⟩ | ⟨rfl, rfl, rfl, rfl, rfl⟩ | ⟨rfl, rfl, rfl, rfl, rfl⟩
  · exact ⟨_, exec_getPort h, fun _ hm => if_pos (by simp [hm])⟩
  · exact ⟨_, exec_getTopology h, fun _ hm => if_pos (by simp [hm])⟩
  · exact ⟨_, exec_setVote h, nofun⟩
  · exact ⟨_, exec_clearVote h, nofun⟩

/-! ### GET_TOPOLOGY (R182) -/

theorem wordBytes_isEmpty (ws : List Word) : (wordBytes ws).isEmpty = ws.isEmpty := by
  cases ws <;> rfl

theorem topoRecords_isEmpty (s : State) (hs : List Nat) : (hs.flatMap (topoRecord s)).isEmpty = hs.isEmpty := by
  cases hs with
  | nil => rfl
  | cons h hs =>
    have hrecord : topoRecord s h ≠ [] := by
      unfold topoRecord
      split <;> simp
    simp [List.isEmpty_eq_false_iff, hrecord]

/-- Nothing is written where there is no device or no room. -/
theorem topoBytes_isEmpty (s : State) (p len : Nat) : (topoBytes s p len).isEmpty = ((devsOn s p).take (len / 16)).isEmpty := by
  rw [topoBytes, wordBytes_isEmpty, topoRecords_isEmpty]

section
variable {p len : Nat} (hm : mayPort s o e p = true)
include hm

theorem getTopologyHere_none (h : devsOn s p = [] ∨ len = 0) :
    getTopologyHere s o e p len = good s o e (b2n (decide (0 < (devsOn s p).length)) * 2 ^ 16) 0 := by
  have htake : (devsOn s p).take (len / 16) = [] := by rcases h with h | h <;> simp [h]
  simp [getTopologyHere, hm, topoBytes_isEmpty, htake]

theorem getTopologyHere_some (hl : len % 16 = 0) (hd : devsOn s p ≠ []) (h0 : len ≠ 0) :
    getTopologyHere s o e p len = good (hostWrite s o (join64 (dw e 3) (dw e 4)) (topoBytes s p len)) o e
      (min (len / 16) (devsOn s p).length + b2n (decide (len / 16 < (devsOn s p).length)) * 2 ^ 16) 0 := by
  have hroom : len / 16 ≠ 0 := by omega
  have htake : ((devsOn s p).take (len / 16)).isEmpty = false := by
    rw [List.isEmpty_eq_false_iff]
    simp [hd, hroom]
  simp [getTopologyHere, hm, topoBytes_isEmpty, htake]

end

/-! ### Vote slots (R265) -/

theorem bitW_getLsbD {n : Nat} (k : Nat) (hn : n ≤ 31) : (bitW n).getLsbD k = decide (k = n) := by
  rw [bitW, BitVec.getLsbD_ofNat, Nat.testBit_two_pow]
  by_cases h : k = n
  · simp [h, show n < 32 by omega]
  · simp [h, Ne.symm h]

/-- A word without a bit that is taken out. -/
theorem bit_clear {x m : Word} {n : Nat} (hm : m.getLsbD n = true) : bit (x &&& ~~~ m) n = false := by
  rw [bit_eq_getLsbD, BitVec.getLsbD_and, BitVec.getLsbD_not, hm]
  simp

/-- A domain that settles keeps its software votes and its slots. -/
theorem settled_votes (d : Dom) : (settled d).sw = d.sw ∧ (settled d).alloc = d.alloc := by
  unfold settled
  split_ifs <;> exact ⟨rfl, rfl⟩

theorem freeSlot_some {x : Dom} {k : Nat} (hk : k ≤ 31) (hf : bit x.alloc k = false) (hl : ∀ j, j < k → bit x.alloc j = true) :
    freeSlot x = some k := by
  rw [freeSlot, List.find?_range_eq_some]
  exact ⟨by simp [hf], List.mem_range.2 (by omega), fun j hj => by simp [hl j hj]⟩

theorem freeSlot_none {x : Dom} (h : ∀ j, j ≤ 31 → bit x.alloc j = true) : freeSlot x = none := by
  rw [freeSlot, List.find?_range_eq_none]
  exact fun j hj => by simp [h j (by omega)]

section
variable {d n : Nat}

/-- A slot that is free is allocated, and the vote cast. -/
theorem setVoteHere_casts {k : Nat} (hn : (if n == 63 then freeSlot (domAt s d) else some n) = some k)
    (hf : bit (domAt s d).alloc k = false) :
    setVoteHere s o e d n =
      good (castSw (setDom s d { domAt s d with alloc := (domAt s d).alloc ||| bitW k }) d (bitW k)) o e k 0 := by
  simp only [setVoteHere, hn, hf, Bool.false_eq_true, if_false]

theorem setVoteHere_inUse (hn : n ≤ 31) (ht : bit (domAt s d).alloc n = true) : setVoteHere s o e d n = bad s o e 6 := by
  have h63 : (n == 63) = false := by simp; omega
  simp only [setVoteHere, h63, ht, Bool.false_eq_true, if_false, if_true]

theorem setVoteHere_none (hn : freeSlot (domAt s d) = none) : setVoteHere s o e d 63 = bad s o e 7 := by
  simp only [setVoteHere, hn, beq_self_eq_true, if_true]

theorem clearVoteHere_none (hf : bit (domAt s d).alloc n = false) : clearVoteHere s o e d n = bad s o e 4 := if_pos (by simp [hf])

/-- A slot that is allocated loses its vote and is free. -/
theorem clearVoteHere_frees (hn : n ≤ 31) (ht : bit (domAt s d).alloc n = true) :
    ∃ t, clearVoteHere s o e d n = good t o e 0 0 ∧ bit (domAt t d).alloc n = false ∧ bit (domAt t d).sw n = false
      ∧ t.que = s.que ∧ t.ebm = s.ebm := by
  have hbit : (bitW n).getLsbD n = true := by simp [bitW_getLsbD n hn]
  refine ⟨_, if_neg (by simp [ht]), ?_, ?_, rfl, rfl⟩
  · rw [domAt_setDom]
    exact bit_clear hbit
  · rw [domAt_setDom, dropSw, domAt_setDom, (settled_votes _).1]
    refine bit_clear ?_
    rw [BitVec.getLsbD_and, hbit, ← bit_eq_getLsbD, ht]
    rfl

end

end

/-- Settles O39: each command by its form and its position, then by what its port or its domain holds. -/
theorem portQueries : Obligations.PortQueries := by
  refine ⟨fun s o e m n pos form c hc h => ?judged, fun s o e => ⟨fun h hf hp hm => ?getPort, fun h hf hg hl hp hm => ?getTopology⟩,
    fun s o e h hf hg hd hp => ?votes⟩
  case judged =>
    obtain ⟨here, hexec, hmay⟩ := exec_portQuery hc h
    rw [hexec]
    simp only [Host.Outcome.next.injEq]
    refine ⟨fun hf => if_neg (by simp [hf]), fun hf hp hr => ?_, fun hf hp hr => ?_, fun hf hp hm hmine => ?_⟩
    all_goals rw [if_pos hf]
    · rw [atPos_away hp, elsewhere_unreachable hr]
    · exact atPos_away hp
    · rw [atPos_here hp, hmay hm hmine]
  case getPort =>
    rw [exec_getPort h, if_pos (by simp [hf]), atPos_here hp]
    exact congrArg Host.Outcome.next (if_neg (by simp [hm]))
  case getTopology =>
    rw [exec_getTopology h, if_pos (by simp [hf, hg, hl]), atPos_here hp]
    exact ⟨fun hn => congrArg Host.Outcome.next (getTopologyHere_none hm hn),
      fun hs h0 => congrArg Host.Outcome.next (getTopologyHere_some hm hl hs h0)⟩
  case votes =>
    have hset (hn : bits (dw e 3) 0 6 ≤ 31 ∨ bits (dw e 3) 0 6 = 63) :
        exec (.setVote o e) s = .next (setVoteHere s o e (bits (dw e 2) 0 8) (bits (dw e 3) 0 6)) := by
      rw [exec_setVote h, if_pos (by simpa [hf, hg, hd] using hn), atPos_here hp]
    have hclear (hn : bits (dw e 3) 0 6 ≤ 31) :
        exec (.clearVote o e) s = .next (clearVoteHere s o e (bits (dw e 2) 0 8) (bits (dw e 3) 0 6)) := by
      rw [exec_clearVote h, if_pos (by simp [hf, hg, hd, hn]), atPos_here hp]
    refine ⟨fun hn hfree => ?_, fun hn ht => ?_, fun k hn hk hfree hl => ?_, fun hn ht => ?_, fun hn ht => ?_, fun hn hfree => ?_⟩
    · have h63 : (bits (dw e 3) 0 6 == 63) = false := by simp; omega
      rw [hset (.inl hn), setVoteHere_casts (by rw [h63]; rfl) hfree]
    · rw [hset (.inl hn), setVoteHere_inUse hn ht]
    · rw [hset (.inr hn), setVoteHere_casts (by rw [hn]; exact freeSlot_some hk hfree hl) hfree]
    · rw [hset (.inr hn), hn, setVoteHere_none (freeSlot_none ht)]
    · rw [hclear hn]
      simp only [Host.Outcome.next.injEq]
      exact clearVoteHere_frees hn ht
    · rw [hclear hn, clearVoteHere_none hfree]

end Sys2Proof.Machine
end

section
/-!
PROOFS. The update stages on the admin path and on the register path, and the revocation of keys (R133, R310 to R317, R320; O41).
-/
namespace Sys2Proof.Machine

/-! ### The stages (R315 to R317) -/

section
variable {s : State} {reg : Bool}

theorem updBegin_state {len : Nat} (h : mode s = 7 ∨ (bootRec s.nvm).stA = 3 ∨ (bootRec s.nvm).stB = 3) :
    updBegin s reg len = (.state, s) := if_pos (by simpa [or_assoc] using h)

/-- BEGIN outside VAULT and without a trial, by the length of its image. -/
theorem updBegin_free {len : Nat} (h7 : mode s ≠ 7) (ha : (bootRec s.nvm).stA ≠ 3) (hb : (bootRec s.nvm).stB ≠ 3) :
    updBegin s reg len = if len = 0 ∨ 4194304 < len then (.field, s)
      else (.ok, { s with nvm := { commit s.nvm (fun r => withSlot r (target s) 1) with session := some (reg, len) } }) := by
  refine (if_neg (by simp [h7, ha, hb])).trans ?_
  simp only [Bool.or_eq_true, beq_iff_eq, decide_eq_true_eq]

theorem updWrite_state {off : Nat} {d : List Byte} (h : s.nvm.session = none ∨ mode s = 7 ∨ ∃ l, s.nvm.session = some (!reg, l)) :
    updWrite s reg off d = (.state, s) := by
  unfold updWrite
  rcases h with h | h | ⟨l, h⟩
  · rw [h]
  · cases s.nvm.session with
    | none => rfl
    | some p => exact if_pos (by simp [h])
  · rw [h]
    exact if_pos (by simp)

/-- WRITE of the path that holds the session, by its place in the image. -/
theorem updWrite_held {off len : Nat} {d : List Byte} (h : s.nvm.session = some (reg, len)) (h7 : mode s ≠ 7) :
    updWrite s reg off d = if off % 4 ≠ 0 ∨ len < off + d.length then (.field, s)
      else (.ok, { s with
        nvm := setSlot s.nvm (target s) { bytes := memWrite (slotAt s.nvm (target s)).bytes off d, factory := false } }) := by
  unfold updWrite
  rw [h]
  refine (if_neg (by simp [h7])).trans ?_
  simp only [Bool.or_eq_true, bne_iff_ne, decide_eq_true_eq]

theorem updVerify_state (h : mode s = 7 ∨ otherHolds s reg = true
      ∨ (slotState (bootRec s.nvm) (target s) ≠ 1 ∧ slotState (bootRec s.nvm) (target s) ≠ 6)) : updVerify s reg = (.state, s) :=
  if_pos (by simpa [or_assoc] using h)

section
variable (h7 : mode s ≠ 7) (ho : otherHolds s reg = false)
  (ht : slotState (bootRec s.nvm) (target s) = 1 ∨ slotState (bootRec s.nvm) (target s) = 6)
include h7 ho ht

theorem updVerify_verified (hv : verifyReason s = 0) :
    updVerify s reg = (.ok, { s with nvm := { commit s.nvm (fun r => withSlot r (target s) 2) with session := none } }) :=
  (if_neg (by rcases ht with ht | ht <;> simp [h7, ho, ht])).trans (if_pos (by simp [hv]))

/-- A VERIFY that fails keeps the session (log entry 20). -/
theorem updVerify_rejected (hv : verifyReason s ≠ 0) :
    updVerify s reg = (⟨0xF, 0, verifyReason s⟩, err { s with
      nvm := if slotState (bootRec s.nvm) (target s) = 1 then s.nvm else commit s.nvm (fun r => withSlot r (target s) 1) } pNvm 1) := by
  refine (if_neg (by rcases ht with ht | ht <;> simp [h7, ho, ht])).trans ((if_neg (by simp [hv])).trans ?_)
  simp only [beq_iff_eq]

end

theorem updActivate_state (h : quietMode s = false ∨ otherHolds s reg = true ∨ slotState (bootRec s.nvm) (target s) ≠ 2) :
    updActivate s reg = (.state, s) := if_pos (by simpa [or_assoc] using h)

section
variable (hq : quietMode s = true) (ho : otherHolds s reg = false) (ht : slotState (bootRec s.nvm) (target s) = 2)
include hq ho ht

/-- The key of the target's image is revoked (R319). -/
theorem updActivate_revoked (hf : (slotAt s.nvm (target s)).factory = false)
    (hk : rf s pNvm NVM_MIN_SECVER_KEY_REVOKED / 2 ^ imgNum (slotAt s.nvm (target s)).bytes 10 1 % 2 = 1) :
    updActivate s reg = (⟨0xF, 0, 7⟩, s) := (if_neg (by simp [hq, ho, ht])).trans (if_pos (by simp [hf, hk]))

theorem updActivate_starts (hk : ¬ ((slotAt s.nvm (target s)).factory = false
      ∧ rf s pNvm NVM_MIN_SECVER_KEY_REVOKED / 2 ^ imgNum (slotAt s.nvm (target s)).bytes 10 1 % 2 = 1)) :
    updActivate s reg = (.ok, { s with nvm := { commit s.nvm (fun r =>
      { withSlot (withSlot r (target s) 3) (!target s) 5 with trial := true, count := 0, active := !target s }) with
        restart := true, session := none } }) :=
  (if_neg (by simp [hq, ho, ht])).trans (if_neg (by simpa using hk))

end

theorem updConfirm_state (h : mode s = 7 ∨ otherHolds s reg = true ∨ (bootRec s.nvm).trial = false
      ∨ slotState (bootRec s.nvm) (booted s) ≠ 3) : updConfirm s reg = (.state, s) := if_pos (by simpa [or_assoc] using h)

theorem updConfirm_ends (h7 : mode s ≠ 7) (ho : otherHolds s reg = false) (ht : (bootRec s.nvm).trial = true)
    (hb : slotState (bootRec s.nvm) (booted s) = 3) :
    updConfirm s reg =
      (let n := commit s.nvm (fun r => { withSlot r (booted s) 4 with trial := false, active := booted s })
       (.ok, wf { s with nvm := n } pNvm NVM_MIN_SECVER_SECVER
         (max (rf s pNvm NVM_MIN_SECVER_SECVER) (slotSecver n (booted s))))) := if_neg (by simp [h7, ho, ht, hb])

end

/-! ### The admin path (R133, R316, R320) -/

/-- The stages on the admin path, with the dwords that they use. -/
def updStages (o : Owner) (e : List Word) (d : List Byte) : List (Nat × Instr) :=
  [(4, .updateBegin o e), (7, .updateWrite o e d), (3, .updateVerify o e), (3, .updateActivate o e), (3, .updateConfirm o e)]

/-- The length of UPDATE_WRITE is out of its range, or not that of the data. -/
def writeLenBad (e : List Word) (d : List Byte) : Prop :=
  (dw e 6).toNat < 4 ∨ 65536 < (dw e 6).toNat ∨ (dw e 6).toNat % 4 ≠ 0 ∨ d.length ≠ (dw e 6).toNat

/-- What a stage makes of this chip's own store. -/
def stageHere (s : State) (o : Owner) (e : List Word) (d : List Byte) (c : Instr) (p : Upd × State) : Prop :=
  (c = .updateBegin o e → p = updBegin s false (dw e 3).toNat)
    ∧ (c = .updateWrite o e d →
      (writeLenBad e d → p = (.field, s))
      ∧ (¬ writeLenBad e d → p = updWrite (hostRead s o (join64 (dw e 4) (dw e 5)) (dw e 6).toNat) false (dw e 3).toNat d))
    ∧ (c = .updateVerify o e → p = updVerify s false)
    ∧ (c = .updateActivate o e → p = updActivate s false)
    ∧ (c = .updateConfirm o e → p = updConfirm s false)

theorem exec_updStage {s : State} {o : Owner} {e : List Word} {d : List Byte} {n : Nat} {c : Instr} (h : (n, c) ∈ updStages o e d) :
    ∃ f, exec c s = .next (updCmd s o e n f) ∧ stageHere s o e d c (f s) := by
  simp only [updStages, List.mem_cons, Prod.mk.injEq, List.not_mem_nil, or_false] at h
  rcases h with ⟨rfl, rfl⟩ | ⟨rfl, rfl⟩ | ⟨rfl, rfl⟩ | ⟨rfl, rfl⟩ | ⟨rfl, rfl⟩
  · exact ⟨_, rfl, fun _ => rfl, nofun, nofun, nofun, nofun⟩
  · refine ⟨_, rfl, nofun, fun _ => ⟨fun hl => if_pos ?_, fun hl => if_neg ?_⟩, nofun, nofun, nofun⟩
    all_goals simpa [writeLenBad, or_assoc] using hl
  · exact ⟨_, rfl, nofun, nofun, fun _ => rfl, nofun, nofun⟩
  · exact ⟨_, rfl, nofun, nofun, nofun, fun _ => rfl, nofun⟩
  · exact ⟨_, rfl, nofun, nofun, nofun, nofun, fun _ => rfl⟩

section
variable {s : State} {o : Owner} {e : List Word} {n : Nat} {f : State → Upd × State} (h : admPasses s o e true n = true)
include h

theorem updCmd_field (hf : bits (dw e 2) 6 26 ≠ 0) : updCmd s o e n f = bad s o e 2 := (adm_passes h).trans (if_pos (by simp [hf]))

section
variable (hf : bits (dw e 2) 6 26 = 0)
include hf

/-- RECOVERY serves its own chip alone (R320). -/
theorem updCmd_recovery (h6 : mode s = 6) (hp : bits (dw e 2) 0 6 ≠ ownPos s) : updCmd s o e n f = bad s o e 8 :=
  (adm_passes h).trans ((if_neg (by simp [hf])).trans (if_pos (by simp [h6, hp])))

theorem updCmd_away (h6 : mode s ≠ 6) (hp : bits (dw e 2) 0 6 ≠ ownPos s) : updCmd s o e n f = waitFar s o e (bits (dw e 2) 0 6) :=
  (adm_passes h).trans ((if_neg (by simp [hf])).trans ((if_neg (by simp [h6])).trans (if_neg (by simp [hp]))))

theorem updCmd_here (hp : bits (dw e 2) 0 6 = ownPos s) :
    updCmd s o e n f = if pageOn s pNvm then updDone o e (f s) else bad s o e 8 :=
  (adm_passes h).trans ((if_neg (by simp [hf])).trans ((if_neg (by simp [hp])).trans (if_pos (by simp [hp]))))

end

end

/-! ### The register path (R315) -/

/-- The length stands in a register of its own, which a write of NVM_UPD_CTRL leaves. -/
theorem rf_writeFields_len (s : State) (v : Word) :
    rf (writeFields s pNvm 0x05C v) pNvm NVM_UPD_LEN_LENGTH = rf s pNvm NVM_UPD_LEN_LENGTH := by
  unfold rf
  rw [rd_writeFields_ne _ _ _ _ _ (by decide) (by decide)]

/-- A field of RW bits alone, in a page that is not locked, reads what was written to it (R10). -/
theorem rf_writeFields_rw {s : State} {page : Nat} {f : Fld} {v : Word} {r : RegDesc} (hr : regDesc page f.off = some r)
    (hl : locked s page = false) (hok : f.ok = true)
    (hrw : ∀ i < f.w, (BitVec.ofNat 32 r.rw).getLsbD (f.lo + i) = true ∧ (BitVec.ofNat 32 r.w1c).getLsbD (f.lo + i) = false) :
    rf (writeFields s page f.off v) page f = fget v f := by
  have hbits : f.lo + f.w ≤ 32 := by simpa [Fld.ok] using hok
  unfold rf
  rw [rd_writeFields_self hr, lockMask_unlocked _ hl]
  apply Nat.eq_of_testBit_eq
  intro i
  rw [fget_bit, fget_bit]
  by_cases hi : i < f.w
  · obtain ⟨hw, hc⟩ := hrw i hi
    rw [fieldWord_bit _ _ _ _ _ (by omega), hw, hc]
    simp
  · simp [hi]

theorem regDesc_updCtrl : regDesc pNvm 0x05C = some ⟨0x05C, 1, 0, false, 0, 0x7, 0x20, 0, 0xFF3F, 0⟩ := rfl

/-- OP is the stage that a write of an unlocked NVM_UPD_CTRL names. -/
theorem rf_writeFields_op {s : State} (hl : locked s pNvm = false) (v : Word) :
    rf (writeFields s pNvm 0x05C v) pNvm NVM_UPD_CTRL_OP = fget v NVM_UPD_CTRL_OP :=
  rf_writeFields_rw (f := NVM_UPD_CTRL_OP) regDesc_updCtrl hl rfl (by decide)

section
variable {s : State}

theorem updOp_begin (h : rf s pNvm NVM_UPD_CTRL_OP = 1) : updOp s = updShow (updBegin s true (rf s pNvm NVM_UPD_LEN_LENGTH)) := by
  simp only [updOp, h]

theorem updOp_verify (h : rf s pNvm NVM_UPD_CTRL_OP = 2) : updOp s = updShow (updVerify s true) := by simp only [updOp, h]

theorem updOp_activate (h : rf s pNvm NVM_UPD_CTRL_OP = 3) : updOp s = updShow (updActivate s true) := by simp only [updOp, h]

theorem updOp_confirm (h : rf s pNvm NVM_UPD_CTRL_OP = 4) : updOp s = updShow (updConfirm s true) := by simp only [updOp, h]

end

/-- GO runs the stage where the page is on (log entry 104). -/
theorem updCtrl_go (s : State) {v : Word} (hv : bit v 3 = true) :
    updCtrl s v = if pageOn s pNvm = true then updOp (writeFields s pNvm 0x05C v) else writeFields s pNvm 0x05C v := by
  unfold updCtrl
  rw [hv, Bool.true_and]

/-- The four writes of NVM_UPD_CTRL with GO. -/
def updGos (src : Src) : List (Word × Instr) :=
  [(0x9, .nvmUpdBegin src), (0xA, .nvmUpdVerify src), (0xB, .nvmUpdActivate src), (0xC, .nvmUpdConfirm src)]

theorem exec_updGo {s : State} {src : Src} {v : Word} {c : Instr} (hg : gate s src pNvm 0x05C true = .ok) (hc : (v, c) ∈ updGos src) :
    exec c s = .next (if pageOn s pNvm = true then updOp (writeFields s pNvm 0x05C v) else writeFields s pNvm 0x05C v) := by
  simp only [updGos, List.mem_cons, Prod.mk.injEq, List.not_mem_nil, or_false] at hc
  rcases hc with ⟨rfl, rfl⟩ | ⟨rfl, rfl⟩ | ⟨rfl, rfl⟩ | ⟨rfl, rfl⟩
  all_goals exact congrArg Host.Outcome.next ((gatedW_ok hg).trans (updCtrl_go s rfl))

/-! ### NVM_UPD_DATA (R315) -/

section
variable {s : State} {v : Word}

theorem updData_off (h : pageOn s pNvm = false) : updData s v = s := if_pos (by simp [h])

section
variable (h : pageOn s pNvm = true)
include h

theorem updData_takes {t : State} (hw : updWrite s true (4 * rf s pNvm NVM_UPD_OFFSET_OFFSET) (leBytes 4 v.toNat) = (.ok, t)) :
    updData s v = wf t pNvm NVM_UPD_OFFSET_OFFSET (rf t pNvm NVM_UPD_OFFSET_OFFSET + 1) := by
  unfold updData
  simp only [hw]
  exact (if_neg (by simp [h])).trans (if_pos rfl)

theorem updData_drops {u : Upd} (hu : u.status ≠ 0)
    (hw : updWrite s true (4 * rf s pNvm NVM_UPD_OFFSET_OFFSET) (leBytes 4 v.toNat) = (u, s)) :
    updData s v = wf (if otherHolds s true then wf s pNvm NVM_UPD_CTRL_STATUS 8 else s) pNvm NVM_UPD_CTRL_REASON u.reason := by
  unfold updData
  simp only [hw]
  exact (if_neg (by simp [h])).trans (if_neg (by simp [hu]))

end

end

theorem otherHolds_none {s : State} {reg : Bool} (h : s.nvm.session = none) : otherHolds s reg = false := by rw [otherHolds, h]

theorem otherHolds_some {s : State} {reg p : Bool} {len : Nat} (h : s.nvm.session = some (p, len)) : otherHolds s reg = (p != reg) := by
  rw [otherHolds, h]

theorem slotAt_setSlot (n : Nvm) (b : Bool) (x : Slot) : slotAt (setSlot n b x) b = x := by
  cases b <;> rfl

theorem slotAt_setSlot_other (n : Nvm) (b : Bool) (x : Slot) : slotAt (setSlot n (!b) x) b = slotAt n b := by
  cases b <;> rfl

/-- The store with a dword written at the offset. -/
def dataWritten (s : State) (v : Word) : State :=
  let bytes := memWrite (slotAt s.nvm (target s)).bytes (4 * rf s pNvm NVM_UPD_OFFSET_OFFSET) (leBytes 4 v.toNat)
  { s with nvm := setSlot s.nvm (target s) { bytes := bytes, factory := false } }

theorem dataWritten_bytes (s : State) (v : Word) (a : Nat) :
    memGet (slotAt (dataWritten s v).nvm (target s)).bytes a =
      if 4 * rf s pNvm NVM_UPD_OFFSET_OFFSET ≤ a ∧ a < 4 * rf s pNvm NVM_UPD_OFFSET_OFFSET + 4
      then (leBytes 4 v.toNat).getD (a - 4 * rf s pNvm NVM_UPD_OFFSET_OFFSET) 0
      else memGet (slotAt s.nvm (target s)).bytes a := by
  unfold dataWritten
  rw [slotAt_setSlot]
  exact memGet_write _ _ _ _

/-- A dword within the session's length is written at the offset, which advances. -/
theorem updData_writes {s : State} {v : Word} {len : Nat} (h : pageOn s pNvm = true) (hs : s.nvm.session = some (true, len))
    (h7 : mode s ≠ 7) (hl : 4 * rf s pNvm NVM_UPD_OFFSET_OFFSET + 4 ≤ len) :
    updData s v = wf (dataWritten s v) pNvm NVM_UPD_OFFSET_OFFSET (rf s pNvm NVM_UPD_OFFSET_OFFSET + 1) := by
  have hfits : ¬ ((4 * rf s pNvm NVM_UPD_OFFSET_OFFSET) % 4 ≠ 0
      ∨ len < 4 * rf s pNvm NVM_UPD_OFFSET_OFFSET + (leBytes 4 v.toNat).length) := by
    have hfour : (leBytes 4 v.toNat).length = 4 := rfl
    omega
  exact updData_takes h ((updWrite_held hs h7).trans (if_neg hfits))

/-! ### Keys (R310) -/

theorem revoke_on {s : State} (v : Word) (h : pageOn s pNvm = true) :
    revoke s v = wf s pNvm NVM_MIN_SECVER_KEY_REVOKED (Nat.lor (rf s pNvm NVM_MIN_SECVER_KEY_REVOKED) (bits v 16 4)) :=
  if_neg (by simp [h])

/-- The keys that are revoked stay so, and those named are added. -/
theorem rf_revoke {s : State} (keys : BitVec 4) (h : pageOn s pNvm = true) :
    rf (revoke s (BitVec.ofNat 32 (keys.toNat * 2 ^ 16))) pNvm NVM_MIN_SECVER_KEY_REVOKED =
      Nat.lor (rf s pNvm NVM_MIN_SECVER_KEY_REVOKED) keys.toNat := by
  have hkeys : bits (BitVec.ofNat 32 (keys.toNat * 2 ^ 16)) 16 4 = keys.toNat := by
    have := keys.isLt
    rw [bits, BitVec.toNat_ofNat]
    omega
  rw [revoke_on _ h, hkeys, rf_wf_self _ _ _ _ rfl]
  exact Nat.mod_eq_of_lt (Nat.or_lt_two_pow (fget_lt _ NVM_MIN_SECVER_KEY_REVOKED) keys.isLt)

/-- Settles O41: a stage by the check that stops it or by what it does to the store, each path by what leads to the stage. -/
theorem updateStages : Obligations.UpdateStages := by
  refine ⟨fun s o e n c d hc h => ?admin, fun s src => ⟨fun hg hon hl => ?stages, fun hg v c hc => exec_updGo hg hc, fun v hg => ?data,
    fun keys hg => ?keys⟩, fun s reg => ?store⟩
  case admin =>
    obtain ⟨f, hexec, hbegin, hwrite, hverify, hactivate, hconfirm⟩ := exec_updStage (s := s) hc
    rw [hexec]
    simp only [Host.Outcome.next.injEq]
    refine ⟨updCmd_field h, fun hf h6 hp => updCmd_recovery h hf h6 hp, fun hf h6 hp => updCmd_away h hf h6 hp, fun hf hp hoff => ?_,
      fun hf hp hon => ?_⟩
    · rw [updCmd_here h hf hp, hoff]
      rfl
    · rw [updCmd_here h hf hp, if_pos hon]
      refine ⟨fun h => congrArg _ (hbegin h), fun h => ?_, fun h => congrArg _ (hverify h), fun h => congrArg _ (hactivate h),
        fun h => congrArg _ (hconfirm h)⟩
      obtain ⟨hbad, hgood⟩ := hwrite h
      refine ⟨fun hl => congrArg _ (hbad hl), fun h1 h2 h3 h4 => congrArg _ (hgood ?_)⟩
      simp only [writeLenBad]
      omega
  case stages =>
    have hgo {v : Word} {c : Instr} (hc : (v, c) ∈ updGos src) : exec c s = .next (updOp (writeFields s pNvm 0x05C v)) := by
      rw [exec_updGo hg hc, if_pos hon]
    have hop {v : Word} {k : Nat} (hk : fget v NVM_UPD_CTRL_OP = k) : rf (writeFields s pNvm 0x05C v) pNvm NVM_UPD_CTRL_OP = k :=
      (rf_writeFields_op hl v).trans hk
    refine ⟨?_, ?_, ?_, ?_⟩
    · rw [hgo (v := 0x9) (by simp [updGos]), updOp_begin (hop rfl), rf_writeFields_len]
    · rw [hgo (v := 0xA) (by simp [updGos]), updOp_verify (hop rfl)]
    · rw [hgo (v := 0xB) (by simp [updGos]), updOp_activate (hop rfl)]
    · rw [hgo (v := 0xC) (by simp [updGos]), updOp_confirm (hop rfl)]
  case data =>
    have hexec : exec (.nvmUpdData src v) s = .next (updData s v) := congrArg Host.Outcome.next (gatedW_ok hg)
    rw [hexec]
    simp only [Host.Outcome.next.injEq]
    refine ⟨updData_off, fun hon => ⟨fun len hs h7 hl => ?writes, fun len hs h7 hl => ?beyond, fun h => ?closed, fun len hs => ?other⟩⟩
    case writes =>
      refine ⟨_, updData_writes hon hs h7 hl, rf_wf_self _ _ _ _ rfl, fun k hk => ?_, fun a ha => ?_, ?_, rfl, rfl⟩
      · rw [wf_nvm, dataWritten_bytes, if_pos (by omega), Nat.add_sub_cancel_left]
      · rw [wf_nvm, dataWritten_bytes, if_neg (by omega)]
      · exact slotAt_setSlot_other _ _ _
    case beyond =>
      rw [updData_drops (u := .field) hon (by decide) ((updWrite_held hs h7).trans (if_pos (.inr (by simpa [leBytes] using hl)))),
        otherHolds_some hs]
      rfl
    case closed =>
      have hnot : otherHolds s true = false := by
        rcases h with h | ⟨-, len, h⟩
        · exact otherHolds_none h
        · exact otherHolds_some h
      rw [updData_drops (u := .state) hon (by decide) (updWrite_state (h.imp_right fun h => .inl h.1)), hnot]
      rfl
    case other =>
      rw [updData_drops (u := .state) hon (by decide) (updWrite_state (.inr (.inr ⟨len, hs⟩))), otherHolds_some hs]
      rfl
  case keys =>
    have hexec : exec (.keyRevoke src keys) s = .next (revoke s (BitVec.ofNat 32 (keys.toNat * 2 ^ 16))) :=
      congrArg Host.Outcome.next (gatedW_ok hg)
    rw [hexec]
    simp only [Host.Outcome.next.injEq]
    refine ⟨fun hoff => if_pos (by simp [hoff]), fun hon => ⟨_, rfl, rf_revoke keys hon, ?_⟩⟩
    rw [revoke_on _ hon]
    exact ⟨rfl, rfl, rfl⟩
  case store =>
    refine ⟨fun len => updBegin_state, fun len h7 ha hb hl => ?_, fun len h7 ha hb h0 hl => ?_, fun off d => updWrite_state,
      fun off d len hs h7 => ⟨fun hf => ?_, fun ho hl => ?_⟩, updVerify_state,
      fun h7 ho ht => ⟨updVerify_verified h7 ho ht, updVerify_rejected h7 ho ht⟩,
      updActivate_state, fun hq ho ht => ⟨fun hk => updActivate_revoked hq ho ht hk.1 hk.2, updActivate_starts hq ho ht⟩,
      updConfirm_state, updConfirm_ends⟩
    · rw [updBegin_free h7 ha hb, if_pos hl]
    · rw [updBegin_free h7 ha hb, if_neg (by omega)]
    · rw [updWrite_held hs h7, if_pos hf]
    · rw [updWrite_held hs h7, if_neg (by omega)]

end Sys2Proof.Machine
end

section
/-!
PROOFS. FORM_COHORT and DISSOLVE_COHORT, the checks that all admin commands share, and a reserved opcode (R129, R130, R133, R168, R170, R248,
R320; O42).
-/
namespace Sys2Proof.Machine

/-! ### FORM_COHORT (R168) -/

/-- The state in which the array of a FORM_COHORT has been read. -/
def cohortRead (s : State) (o : Owner) (e : List Word) : State :=
  hostRead s o (join64 (dw e 2) (dw e 3)) (4 * bits (dw e 4) 0 11)

/-- The members of an array on this chip. -/
def nearMembers (s : State) (d : List Word) : List Word := d.filter (fun w => epPos w == ownPos s)

/-- The members of an array on other chips. -/
def farMembers (s : State) (d : List Word) : List Word := d.filter (fun w => epPos w != ownPos s)

/-- The fields of FORM_COHORT and its array are in order. -/
def cohortForm (e d : List Word) : Prop :=
  bits (dw e 4) 11 21 = 0 ∧ 2 ≤ bits (dw e 4) 0 11 ∧ bits (dw e 4) 0 11 ≤ 1024 ∧ d.length = bits (dw e 4) 0 11 ∧ d.any epBad = false

/-- The test that the command makes of them. -/
theorem cohortForm_iff {e d : List Word} : cohortForm e d ↔
    ¬ (bits (dw e 4) 11 21 != 0 || bits (dw e 4) 0 11 < 2 || decide (1024 < bits (dw e 4) 0 11) || d.length != bits (dw e 4) 0 11
      || d.any epBad) = true := by
  simp only [cohortForm, Bool.or_eq_true, not_or, bne_iff_ne, ne_eq, not_not, decide_eq_true_eq, Nat.not_lt, Bool.not_eq_true, and_assoc]

/-- A FORM_COHORT whose members are in reach and stand the judgement: by the bytes that they add and by the numbers that are free. -/
def cohortJudged (s : State) (o : Owner) (e d : List Word) : State :=
  if rf s pPln PLN_COHORT_CAP_BYTES < cohortBytes s (nearMembers s d) then noBw s o e 11
  else match freeCohort s with
    | none => bad s o e 7
    | some n =>
      if (farMembers s d).isEmpty || isMember s then good (makeCohort s (acting o e) n (nearMembers s d) [] (dw e 5).toNat) o e n 0
      else cohortFar s o e n (nearMembers s d) (farMembers s d) (dw e 5).toNat

section
variable {s : State} {o : Owner} {e d : List Word}

section
variable (h : admPasses s o e false 6 = true)
include h

theorem exec_formCohort_field (hf : ¬ cohortForm e d) : exec (.formCohort o e d) s = .next (bad s o e 2) :=
  congrArg Host.Outcome.next ((adm_passes h).trans (if_pos (not_not.1 (mt cohortForm_iff.2 hf))))

section
variable (hf : cohortForm e d)
include hf

theorem exec_formCohort_unreachable
    (hn : ¬ (farMembers (cohortRead s o e) d).any (fun w => !reachable (cohortRead s o e) (epPos w)) = false) :
    exec (.formCohort o e d) s = .next (bad (cohortRead s o e) o e 12) :=
  congrArg Host.Outcome.next ((adm_passes h).trans ((if_neg (cohortForm_iff.1 hf)).trans (if_pos (Bool.eq_true_of_not_eq_false hn))))

section
variable (hn : (farMembers (cohortRead s o e) d).any (fun w => !reachable (cohortRead s o e) (epPos w)) = false)
include hn

theorem exec_formCohort_refused {k : Nat} (hk : cohortRefusal (cohortRead s o e) (acting o e)
      (if isMember (cohortRead s o e) then nearMembers (cohortRead s o e) d else d) (dw e 5).toNat = some k) :
    exec (.formCohort o e d) s = .next (bad (cohortRead s o e) o e k) := by
  refine congrArg Host.Outcome.next ((adm_passes h).trans ((if_neg (cohortForm_iff.1 hf)).trans ((if_neg (Bool.eq_false_iff.1 hn)).trans ?_)))
  unfold cohortRead nearMembers at *
  rw [hk]

theorem exec_formCohort_judged (hk : cohortRefusal (cohortRead s o e) (acting o e)
      (if isMember (cohortRead s o e) then nearMembers (cohortRead s o e) d else d) (dw e 5).toNat = none) :
    exec (.formCohort o e d) s = .next (cohortJudged (cohortRead s o e) o e d) := by
  refine congrArg Host.Outcome.next ((adm_passes h).trans ((if_neg (cohortForm_iff.1 hf)).trans ((if_neg (Bool.eq_false_iff.1 hn)).trans ?_)))
  unfold cohortRead nearMembers at *
  rw [hk]
  rfl

end

end

end

theorem cohortJudged_full (hb : rf s pPln PLN_COHORT_CAP_BYTES < cohortBytes s (nearMembers s d)) :
    cohortJudged s o e d = noBw s o e 11 := if_pos hb

section
variable (hb : cohortBytes s (nearMembers s d) ≤ rf s pPln PLN_COHORT_CAP_BYTES)
include hb

theorem cohortJudged_noNumber (hn : freeCohort s = none) : cohortJudged s o e d = bad s o e 7 := by
  refine (if_neg (by omega)).trans ?_
  rw [hn]

/-- The cohort takes effect here, or on every chip that holds a member. -/
theorem cohortJudged_forms {n : Nat} (hn : freeCohort s = some n) :
    cohortJudged s o e d =
      if farMembers s d = [] ∨ isMember s = true then good (makeCohort s (acting o e) n (nearMembers s d) [] (dw e 5).toNat) o e n 0
      else cohortFar s o e n (nearMembers s d) (farMembers s d) (dw e 5).toNat := by
  refine (if_neg (by omega)).trans ?_
  simp only [hn, Bool.or_eq_true, List.isEmpty_iff]

end

end

/-! ### DISSOLVE_COHORT (R170) -/

/-- The state without a cohort: its members have none, here and on other chips, and the chips that hold some are told. -/
def dissolved (s : State) (o : Owner) (e : List Word) (n : Nat) (k : Cohort) : State :=
  let s1 := { s with pln := { s.pln with cohorts := put s.pln.cohorts n { k with last := some (lastOpen s) } } }
  let s2 := each k.members s1 (fun s c => updEp s c (fun x => if x.cohort == some n then { x with cohort := none } else x))
  let s3 := { s2 with ctx := { s2.ctx with far := s2.ctx.far.map (fun p =>
    if p.2.ep.cohort == some n then (p.1, { p.2 with ep := { p.2.ep with cohort := none } }) else p) } }
  each k.far s3 (fun s p => if reachable s p then forwardCmd s p o e else s)

section
variable {s : State} {o : Owner} {e : List Word} (h : admPasses s o e false 3 = true)
include h

theorem exec_dissolveCohort_field (hf : bits (dw e 2) 12 20 ≠ 0) : exec (.dissolveCohort o e) s = .next (bad s o e 2) :=
  congrArg Host.Outcome.next ((adm_passes h).trans (if_pos (by simp [hf])))

section
variable (hf : bits (dw e 2) 12 20 = 0)
include hf

theorem exec_dissolveCohort_none (hk : look s.pln.cohorts (bits (dw e 2) 0 12) = none) :
    exec (.dissolveCohort o e) s = .next (bad s o e 4) := by
  refine congrArg Host.Outcome.next ((adm_passes h).trans ((if_neg (by simp [hf])).trans ?_))
  rw [hk]

/-- A cohort that is listed, by what is left of it and by its owner. -/
theorem exec_dissolveCohort_some {k : Cohort} (hk : look s.pln.cohorts (bits (dw e 2) 0 12) = some k) :
    exec (.dissolveCohort o e) s = .next (if k.last.isSome then bad s o e 4
      else if acting o e != .mgr && acting o e != k.owner then bad s o e 5
      else good (dissolved s o e (bits (dw e 2) 0 12) k) o e 0 0) := by
  refine congrArg Host.Outcome.next ((adm_passes h).trans ((if_neg (by simp [hf])).trans ?_))
  rw [hk]
  rfl

end

end

/-! ### The checks that all admin commands share (R129, R130, R133, R248, R320) -/

/-- The submitter is quiesced, or on its way there. -/
def quiesced (s : State) (o : Owner) : Prop :=
  o ≠ .mgr ∧ ((instAt s (ownerKey o)).state = 2 ∨ (instAt s (ownerKey o)).state = 3)

/-- The command is the manager's alone, or acts for another, and the submitter is an instance. -/
def denied (o : Owner) (e : List Word) (mgrOnly : Bool) : Prop := o ≠ .mgr ∧ (mgrOnly = true ∨ aBehalf e = true)

section
variable {s : State} {o : Owner} {e : List Word} {m : Bool} {n : Nat} {f : State → State}

theorem quiesced_test (hq : ¬ quiesced s o) :
    ¬ (o != .mgr && ((instAt s (ownerKey o)).state == 2 || (instAt s (ownerKey o)).state == 3)) = true := by
  simpa [quiesced] using hq

theorem adm_notReady (h : admReady s o = false) : adm s o e m n f = s := if_pos (by simp [h])

section
variable (hr : admReady s o = true)
include hr

theorem adm_quiesced (hq : quiesced s o) : adm s o e m n f = done s o e 0xD 0 0 0 :=
  (if_neg (by simp [hr])).trans (if_pos (by simpa [quiesced] using hq))

section
variable (hq : ¬ quiesced s o)
include hq

theorem adm_denied (hd : denied o e m) : adm s o e m n f = bad s o e 3 :=
  (if_neg (by simp [hr])).trans ((if_neg (quiesced_test hq)).trans (if_pos (by simpa [denied] using hd)))

section
variable (hd : ¬ denied o e m)
include hd

/-- RECOVERY serves the update commands alone (R320). -/
theorem adm_recovery (h6 : mode s = 6) (hu : ¬ (0x60 ≤ aOp e ∧ aOp e ≤ 0x64)) : adm s o e m n f = bad s o e 8 := by
  have hother : (mode s == 6 && !(decide (0x60 ≤ aOp e) && decide (aOp e ≤ 0x64))) = true := by
    rw [← Bool.decide_and, decide_eq_false hu, h6]
    rfl
  exact (if_neg (by simp [hr])).trans ((if_neg (quiesced_test hq)).trans ((if_neg (by simpa [denied] using hd)).trans (if_pos hother)))

theorem adm_reserved (hu : mode s = 6 → 0x60 ≤ aOp e ∧ aOp e ≤ 0x64) (ht : aHeadReserved e = true ∨ aTail e n = true) :
    adm s o e m n f = bad s o e 2 :=
  (if_neg (by simp [hr])).trans ((if_neg (quiesced_test hq)).trans ((if_neg (by simpa [denied] using hd)).trans
    ((if_neg (by simpa using hu)).trans (if_pos (by simpa using ht)))))

end

end

end

end

/-- The admin commands that pass through these checks: whether each is the manager's, and the dwords that it uses. -/
def admCommands (o : Owner) (e d : List Word) (b : List Byte) : List (Instr × Bool × Nat) :=
  [(.createTq o e, false, 7), (.destroyTq o e, false, 3), (.resetTq o e, false, 3), (.invalidateTq o e, false, 4),
    (.createCq o e, false, 7), (.destroyCq o e, false, 3), (.bindEndpoint o e, false, 6), (.unbindEndpoint o e, false, 3),
    (.reserveBw o e, false, 4), (.releaseBw o e, false, 3), (.getPort o e, false, 3), (.getTopology o e, false, 6),
    (.setVote o e, true, 4), (.clearVote o e, true, 4), (.quiesceInstance o e, true, 2), (.resumeInstance o e, true, 2),
    (.swapDirtyLog o e, true, 5), (.updateBegin o e, true, 4), (.updateWrite o e b, true, 7), (.updateVerify o e, true, 3),
    (.updateActivate o e, true, 3), (.updateConfirm o e, true, 3), (.formCohort o e d, false, 6), (.dissolveCohort o e, false, 3)]

theorem exec_admCommand {s : State} {o : Owner} {e d : List Word} {b : List Byte} {c : Instr} {m : Bool} {n : Nat}
    (h : (c, m, n) ∈ admCommands o e d b) : ∃ f, exec c s = .next (adm s o e m n f) := by
  simp only [admCommands, List.mem_cons, Prod.mk.injEq, List.not_mem_nil, or_false] at h
  rcases h with ⟨rfl, rfl, rfl⟩ | ⟨rfl, rfl, rfl⟩ | ⟨rfl, rfl, rfl⟩ | ⟨rfl, rfl, rfl⟩ | ⟨rfl, rfl, rfl⟩ | ⟨rfl, rfl, rfl⟩
    | ⟨rfl, rfl, rfl⟩ | ⟨rfl, rfl, rfl⟩ | ⟨rfl, rfl, rfl⟩ | ⟨rfl, rfl, rfl⟩ | ⟨rfl, rfl, rfl⟩ | ⟨rfl, rfl, rfl⟩
    | ⟨rfl, rfl, rfl⟩ | ⟨rfl, rfl, rfl⟩ | ⟨rfl, rfl, rfl⟩ | ⟨rfl, rfl, rfl⟩ | ⟨rfl, rfl, rfl⟩ | ⟨rfl, rfl, rfl⟩
    | ⟨rfl, rfl, rfl⟩ | ⟨rfl, rfl, rfl⟩ | ⟨rfl, rfl, rfl⟩ | ⟨rfl, rfl, rfl⟩ | ⟨rfl, rfl, rfl⟩ | ⟨rfl, rfl, rfl⟩
  all_goals exact ⟨_, rfl⟩

/-! ### A reserved opcode (R133) -/

/-- An opcode that R133 does not list: the queue, the submitter and RECOVERY go first. -/
theorem exec_reservedOpcode {s : State} {o : Owner} {e : List Word} (hr : admReady s o = true) (hq : ¬ quiesced s o) :
    exec (.reservedOpcode o e) s = .next (if mode s = 6 then bad s o e 8 else bad s o e 1) := by
  refine congrArg Host.Outcome.next ((if_neg (by simp [hr])).trans ((if_neg (quiesced_test hq)).trans ?_))
  simp only [beq_iff_eq]

/-- Settles O42: each command by the first check that stops it. -/
theorem cohortCommands : Obligations.CohortCommands := by
  refine ⟨fun s o e d h => ⟨exec_formCohort_field h, fun hf hn => exec_formCohort_unreachable h hf hn,
      fun k hf hn hk => exec_formCohort_refused h hf hn hk, fun hf hn hk hb => ?full, fun hf hn hk hb => ?forms⟩,
    fun s o e h => ⟨exec_dissolveCohort_field h, exec_dissolveCohort_none h, fun k hf hk => ?dissolves⟩,
    fun s o e d b c m n hc => ?checks, fun s o e => ⟨fun hr => ?idle, fun hr hq => ?still, fun hr hq h6 => ?recovery, fun hr hq h6 => ?opcode⟩⟩
  case full => exact (exec_formCohort_judged h hf hn hk).trans (congrArg Host.Outcome.next (cohortJudged_full hb))
  case forms =>
    rw [exec_formCohort_judged h hf hn hk]
    refine ⟨fun hnone => congrArg Host.Outcome.next (cohortJudged_noNumber hb hnone), fun n hsome => ?_⟩
    rw [cohortJudged_forms (s := cohortRead s o e) hb hsome]
    exact ⟨fun hfar => congrArg Host.Outcome.next (if_pos hfar),
      fun hfar hm => congrArg Host.Outcome.next (if_neg (not_or.2 ⟨hfar, Bool.eq_false_iff.1 hm⟩))⟩
  case dissolves =>
    rw [exec_dissolveCohort_some h hf hk]
    simp only [Host.Outcome.next.injEq]
    refine ⟨fun hl => if_pos (Option.isSome_iff_ne_none.2 hl), fun hl hm ho => ?_, fun hl ha => ?_⟩
    · exact (if_neg (by simp [hl])).trans (if_pos (mayNotAct hm ho))
    · exact (if_neg (by simp [hl])).trans (if_neg (by simp [mayAct ha]))
  case checks =>
    obtain ⟨f, hexec⟩ := exec_admCommand hc
    rw [hexec]
    simp only [Host.Outcome.next.injEq]
    exact ⟨adm_notReady, adm_quiesced, adm_denied, adm_recovery, adm_reserved⟩
  case idle => exact congrArg Host.Outcome.next (if_pos (by simp [hr]))
  case still => exact congrArg Host.Outcome.next ((if_neg (by simp [hr])).trans (if_pos (by simpa [quiesced] using hq)))
  case recovery => rw [exec_reservedOpcode hr hq, if_pos h6]
  case opcode => rw [exec_reservedOpcode hr hq, if_neg h6]

end Sys2Proof.Machine
end

section
/-!
PROOFS. The walk of the periodic wheel and the check of the cohorts (R142, R145, R147, R148, R169; O43).
-/
namespace Sys2Proof.Machine

/-! ### The walk (R148) -/

section
variable {s : State} {n a : Nat} {fin : State → State}

theorem walkTo_end (h : a = 0) : walkTo s n a fin = fin s := if_pos (by simp [h])

theorem walkTo_outside (h : a ≠ 0) (hp : inPool s a = false) : walkTo s n a fin = fin (err s pPln 1) :=
  (if_neg (by simp [h])).trans (if_pos (by simp [hp]))

theorem walkTo_block (h : a ≠ 0) (hp : inPool s a = true) :
    walkTo s n a fin = hostRead (updPlan s n (fun p => { p with block := a })) .mgr (BitVec.ofNat 64 a) 4096 :=
  (if_neg (by simp [h])).trans (if_neg (by simp [hp]))

end

/-- The end of a walk that took some time, which PLN_WALK shows. -/
def walkEnded (took m : Nat) (s : State) : State :=
  endWalk (wf (wf s pPln PLN_WALK_LAST took) pPln PLN_WALK_MAX (max took (rf (wf s pPln PLN_WALK_LAST took) pPln PLN_WALK_MAX))) m

/-- The PSEs of a block, taken into a plan. -/
def blockTaken (s : State) (m : Nat) (b : List Word) : State :=
  each ((b.drop 4).take (bits (dw b 2) 0 11)) s (fun s w => takePse s m (bits (dw b 2) 16 4) (bits (dw b 2) 20 11) w)

/-- The address of the block that follows a block. -/
def blockNext (b : List Word) : Nat := (join64 (dw b 0) (dw b 1)).toNat

/-- A block counts more PSEs than it holds, or leads outside the pool. -/
def blockBad (s : State) (b : List Word) : Prop := 1020 < bits (dw b 2) 0 11 ∨ (blockNext b ≠ 0 ∧ inPool s (blockNext b) = false)

section
variable {s : State} {n : Word} {a : Addr} {b : List Word} {took : BitVec 16}

theorem exec_wheel_noPlan (h : planOf s n.toNat = none) :
    exec (.wheelBlockReadDone n a b took) s = .next s ∧ exec (.wheelReadFail n) s = .next s := by
  constructor
  all_goals refine congrArg Host.Outcome.next ?_
  all_goals rw [h]

section
variable {p : Plan} (h : planOf s n.toNat = some p)
include h

/-- A block that is read for a plan: dropped, unless the walk waits for it. -/
theorem exec_wheelBlockReadDone :
    exec (.wheelBlockReadDone n a b took) s = .next (if p.walked || p.block == 0 || a.toNat != p.block then s
      else if p.block == slotAddr s n.toNat then walkTo s n.toNat (blockNext b) (walkEnded took.toNat n.toNat)
      else if 1020 < bits (dw b 2) 0 11 || (blockNext b != 0 && !inPool s (blockNext b))
        then walkEnded took.toNat n.toNat (err s pPln 1)
      else walkTo (blockTaken s n.toNat b) n.toNat (blockNext b) (walkEnded took.toNat n.toNat)) := by
  refine congrArg Host.Outcome.next ?_
  rw [h]
  rfl

/-- A read that fails for a plan. -/
theorem exec_wheelReadFail :
    exec (.wheelReadFail n) s = .next (if p.walked || p.block == 0 then s else endWalk (err s pPln 2) n.toNat) := by
  refine congrArg Host.Outcome.next ?_
  rw [h]

theorem exec_wheel_notWalking (hw : p.walked = true ∨ p.block = 0) :
    exec (.wheelBlockReadDone n a b took) s = .next s ∧ exec (.wheelReadFail n) s = .next s :=
  ⟨(exec_wheelBlockReadDone h).trans (congrArg _ (if_pos (by simp [hw]))),
    (exec_wheelReadFail h).trans (congrArg _ (if_pos (by simpa using hw)))⟩

theorem exec_wheelBlockReadDone_other (ha : a.toNat ≠ p.block) : exec (.wheelBlockReadDone n a b took) s = .next s :=
  (exec_wheelBlockReadDone h).trans (congrArg _ (if_pos (by simp [ha])))

section
variable (hw : p.walked = false) (hb : p.block ≠ 0)
include hw hb

theorem exec_wheelReadFail_walking : exec (.wheelReadFail n) s = .next (endWalk (err s pPln 2) n.toNat) :=
  (exec_wheelReadFail h).trans (congrArg _ (if_neg (by simp [hw, hb])))

section
variable (ha : a.toNat = p.block)
include ha

/-- The slot word leads to the first block (log entry 86). -/
theorem exec_wheelBlockReadDone_slot (hs : p.block = slotAddr s n.toNat) : exec (.wheelBlockReadDone n a b took) s =
    .next (walkTo s n.toNat (blockNext b) (walkEnded took.toNat n.toNat)) :=
  (exec_wheelBlockReadDone h).trans (congrArg _ ((if_neg (by simp [hw, hb, ha])).trans (if_pos (by simp [hs]))))

section
variable (hs : p.block ≠ slotAddr s n.toNat)
include hs

theorem exec_wheelBlockReadDone_bad (hbad : blockBad s b) : exec (.wheelBlockReadDone n a b took) s =
    .next (walkEnded took.toNat n.toNat (err s pPln 1)) :=
  (exec_wheelBlockReadDone h).trans (congrArg _ ((if_neg (by simp [hw, hb, ha])).trans
    ((if_neg (by simp [hs])).trans (if_pos (by simpa [blockBad] using hbad)))))

theorem exec_wheelBlockReadDone_good (hgood : ¬ blockBad s b) : exec (.wheelBlockReadDone n a b took) s =
    .next (walkTo (blockTaken s n.toNat b) n.toNat (blockNext b) (walkEnded took.toNat n.toNat)) :=
  (exec_wheelBlockReadDone h).trans (congrArg _ ((if_neg (by simp [hw, hb, ha])).trans
    ((if_neg (by simp [hs])).trans (if_neg (by simpa [blockBad] using hgood)))))

end

end

end

end

end

/-! ### The cohorts (R169) -/

/-- The members of a cohort here that take part in a microframe, with their contexts. -/
def membersIn (s : State) (n : Nat) (k : Cohort) : List (Nat × Ep) :=
  (k.members.filterMap (fun c => (epAt s c).map (fun e => (c, e)))).filter (fun p => memberIn k n p.1 && rsvIn p.2 n)

section
variable {s : State} {n : Nat} {k : Cohort}

theorem checkCohort_empty (h : membersIn s n k = []) : checkCohort s n k = s := if_pos (List.isEmpty_iff.2 h)

section
variable (h : membersIn s n k ≠ [])
include h

theorem checkCohort_served (ht : timeLocked s = true)
    (hr : ∀ p, p ∈ membersIn s n k → hasGraph p.2 n = true ∧ staged p.2 n = true) :
    checkCohort s n k = incF { s with pln := { s.pln with cohortNow := s.pln.cohortNow ++ (membersIn s n k).map (·.1) } }
      pPln PLN_COHORT_CNT_SERVED := by
  have hready : (timeLocked s && (membersIn s n k).all (fun p => hasGraph p.2 n && staged p.2 n)) = true := by
    simpa only [ht, Bool.true_and, List.all_eq_true, Bool.and_eq_true] using hr
  exact (if_neg (mt List.isEmpty_iff.1 h)).trans (if_pos hready)

theorem checkCohort_suppressed
    (hr : timeLocked s = false ∨ ∃ p, p ∈ membersIn s n k ∧ (hasGraph p.2 n = false ∨ staged p.2 n = false)) :
    checkCohort s n k = evt (incF (each ((membersIn s n k).map (·.1)) s (fun s c => suppress s n c)) pPln PLN_COHORT_CNT_SUPPRESSED)
      pPln 1 := by
  have hunready : ¬ (timeLocked s && (membersIn s n k).all (fun p => hasGraph p.2 n && staged p.2 n)) = true := by
    rw [Bool.and_eq_true, List.all_eq_true]
    rintro ⟨hlocked, hall⟩
    rcases hr with hr | ⟨p, hp, hr⟩
    · simp [hr] at hlocked
    · have hboth := hall p hp
      rcases hr with hr | hr
      all_goals simp [hr] at hboth
  exact (if_neg (mt List.isEmpty_iff.1 h)).trans (if_neg hunready)

end

end

/-- Settles O43: a block by what the plan's walk waits for, a cohort by what its members have. -/
theorem walk : Obligations.Walk := by
  refine ⟨fun s n a b took => ⟨exec_wheel_noPlan, fun p h => ⟨exec_wheel_notWalking h, exec_wheelBlockReadDone_other h,
      fun hw hb ha => ⟨exec_wheelBlockReadDone_slot h hw hb ha, fun hs => ⟨exec_wheelBlockReadDone_bad h hw hb ha hs, fun hc hn => ?good⟩⟩,
      exec_wheelReadFail_walking h⟩⟩,
    fun s n a fin => ⟨walkTo_end, walkTo_outside, walkTo_block⟩, fun s n => ⟨fun ho => ?orphan, fun ho => ?due⟩,
    fun s n k => ⟨checkCohort_empty, checkCohort_served, checkCohort_suppressed⟩⟩
  case good =>
    refine exec_wheelBlockReadDone_good h hw hb ha hs ?_
    rintro (hbad | ⟨hne, hbad⟩)
    · omega
    · rcases hn with hn | hn
      · exact hne hn
      · simp [blockNext, hn] at hbad
  case orphan => exact congrArg Host.Outcome.next (if_pos ho)
  case due => exact congrArg Host.Outcome.next (if_neg (by simp [ho]))

end Sys2Proof.Machine
end

section
/-!
PROOFS. The dispatch of operations, deferred graphs and spilled records (R153 to R159, R193; O44).
-/
namespace Sys2Proof.Machine

/-! ### Operations (R154 to R156) -/

/-- The planner runs: the chip's schedules, and its own. -/
def plannerRuns (s : State) : Prop := runsSchedules s = true ∧ rb s pPln PLN_STATUS_RUNNING = true

theorem plannerRuns_iff {s : State} : plannerRuns s ↔ ¬ (!runsSchedules s || !rb s pPln PLN_STATUS_RUNNING) = true := by
  simp [plannerRuns]

/-- A periodic ISSUE passes: it cannot end within its microframe, or its link is outside U0. -/
def issueLost (s : State) (c t : Nat) (e : Ep) : Prop :=
  isPer e = true ∧ issueReady s c e = true ∧ mayLapse s = true ∧ (fitsNow s e t = false ∨ asleep s (epPort s e) = true)

/-- The service of an ISSUE that passes ends by its type. -/
def issuePassed (s : State) (c : Nat) (e : Ep) (w : Work) : State :=
  if isIsoc e then failLater s c (lateEnd w).1 (lateEnd w).2 else if asleep s (epPort s e) then endService s c else s

/-- An ISSUE that may go, by what its port does. -/
def issueGoes (s : State) (c t : Nat) (e : Ep) (w : Work) : State :=
  if portNext s (epPort s e) t == some c then noteLists (startTxn s (epPort s e) t c)
  else if isPer e && issueReady s c e && mayLapse s && (!fitsNow s e t || asleep s (epPort s e)) then issuePassed s c e w
  else s

section
variable {s : State} {c t : Nat} {e : Ep} {w : Work}

theorem issueGoes_starts (hf : portNext s (epPort s e) t = some c) :
    issueGoes s c t e w = noteLists (startTxn s (epPort s e) t c) := if_pos (by simp [hf])

section
variable (hf : ¬ portNext s (epPort s e) t = some c)
include hf

theorem issueGoes_lost (hl : issueLost s c t e) : issueGoes s c t e w = issuePassed s c e w :=
  (if_neg (by simp [hf])).trans (if_pos (by simpa [issueLost, and_assoc] using hl))

theorem issueGoes_keeps (hl : ¬ issueLost s c t e) : issueGoes s c t e w = s :=
  (if_neg (by simp [hf])).trans (if_neg (by simpa [issueLost, and_assoc] using hl))

end

end

section
variable {s : State} {ctx : BitVec 13} {t : Nat}

theorem exec_operationDispatch_noEp (h : epAt s ctx.toNat = none) : exec (.operationDispatch ctx t) s = .next s := by
  refine congrArg Host.Outcome.next ?_
  rw [h]

section
variable {e : Ep} (h : epAt s ctx.toNat = some e)
include h

theorem exec_operationDispatch_noWork (hw : e.work = none) : exec (.operationDispatch ctx t) s = .next s := by
  refine congrArg Host.Outcome.next ?_
  simp only [h, hw]

section
variable {w : Work} (hw : e.work = some w)
include hw

/-- The operation of a context, by the first thing that decides about it. -/
theorem exec_operationDispatch : exec (.operationDispatch ctx t) s =
    .next (if !runsSchedules s || !rb s pPln PLN_STATUS_RUNNING then s
      else if w.inSvc then relayMove s ctx.toNat
      else if !waits s ctx.toNat w then s
      else if w.op = .issue then issueGoes s ctx.toNat t e w
      else noteLists (startMove s ctx.toNat e w)) := by
  refine congrArg Host.Outcome.next ?_
  simp only [h, hw]
  cases w.op with
  | issue => rfl
  | stage => rfl
  | drain => rfl

theorem exec_operationDispatch_stopped (hr : ¬ plannerRuns s) : exec (.operationDispatch ctx t) s = .next s :=
  (exec_operationDispatch h hw).trans (congrArg _ (if_pos (not_not.1 (mt plannerRuns_iff.2 hr))))

section
variable (hr : plannerRuns s)
include hr

theorem exec_operationDispatch_inSvc (hi : w.inSvc = true) :
    exec (.operationDispatch ctx t) s = .next (relayMove s ctx.toNat) :=
  (exec_operationDispatch h hw).trans (congrArg _ ((if_neg (plannerRuns_iff.1 hr)).trans (if_pos hi)))

section
variable (hi : w.inSvc = false)
include hi

theorem exec_operationDispatch_blocked (hg : waits s ctx.toNat w = false) : exec (.operationDispatch ctx t) s = .next s :=
  (exec_operationDispatch h hw).trans (congrArg _ ((if_neg (plannerRuns_iff.1 hr)).trans
    ((if_neg (by simp [hi])).trans (if_pos (by simp [hg])))))

/-- An operation that may go. -/
theorem exec_operationDispatch_goes (hg : waits s ctx.toNat w = true) : exec (.operationDispatch ctx t) s =
    .next (if w.op = .issue then issueGoes s ctx.toNat t e w else noteLists (startMove s ctx.toNat e w)) :=
  (exec_operationDispatch h hw).trans (congrArg _ ((if_neg (plannerRuns_iff.1 hr)).trans
    ((if_neg (by simp [hi])).trans (if_neg (by simp [hg])))))

end

end

end

end

end

/-! ### Deferred graphs and spilled records (R158, R159) -/

section
variable {s : State} {ctx : BitVec 13}

theorem exec_graphReoffer_accepts (hd : s.pln.deferred.contains ctx.toNat = true) (hl : graphLow s ctx.toNat = true) :
    exec (.graphReoffer ctx) s =
      .next (noteLists { s with pln := { s.pln with deferred := s.pln.deferred.filter (· != ctx.toNat) } }) :=
  congrArg Host.Outcome.next (if_pos (Bool.and_eq_true_iff.2 ⟨hd, hl⟩))

theorem exec_graphReoffer_waits (h : s.pln.deferred.contains ctx.toNat = false ∨ graphLow s ctx.toNat = false) :
    exec (.graphReoffer ctx) s = .next s :=
  congrArg Host.Outcome.next (if_neg (Bool.eq_false_iff.1 (Bool.and_eq_false_iff.2 h)))

theorem exec_spillReturn_none (h : s.pln.spill = [] ∨ epAt s ctx.toNat = none) : exec (.spillReturn ctx) s = .next s := by
  refine congrArg Host.Outcome.next ?_
  rcases h with h | h
  · rw [h]
  · rw [h]
    cases s.pln.spill with
    | nil => rfl
    | cons r rest => rfl

section
variable {d k : Nat} {rest : List (Nat × Nat)} {e : Ep} (hs : s.pln.spill = (d, k) :: rest) (he : epAt s ctx.toNat = some e)
include hs he

/-- The record written first, by its context and the list that it needs. -/
theorem exec_spillReturn : exec (.spillReturn ctx) s = .next (if d == ctx.toNat && listLow (listOf s e k)
    then noteLists (noteSpill { s with pln := { s.pln with spill := rest } }) else s) := by
  refine congrArg Host.Outcome.next ?_
  rw [hs, he]

theorem exec_spillReturn_returns (hd : d = ctx.toNat) (hl : listLow (listOf s e k) = true) :
    exec (.spillReturn ctx) s = .next (noteLists (noteSpill { s with pln := { s.pln with spill := rest } })) :=
  (exec_spillReturn hs he).trans (congrArg _ (if_pos (by simp [hd, hl])))

theorem exec_spillReturn_stays (h : d ≠ ctx.toNat ∨ listLow (listOf s e k) = false) : exec (.spillReturn ctx) s = .next s :=
  (exec_spillReturn hs he).trans (congrArg _ (if_neg (by simpa [Decidable.imp_iff_not_or] using h)))

end

end

/-- Settles O44: an operation by the first thing that keeps it from going, a deferred graph and a spilled record by their lists. -/
theorem dispatching : Obligations.Dispatching := by
  refine ⟨fun s ctx t => ⟨exec_operationDispatch_noEp, fun e h => exec_operationDispatch_noWork h, fun e w h hw =>
      ⟨exec_operationDispatch_stopped h hw, exec_operationDispatch_inSvc h hw, exec_operationDispatch_blocked h hw,
        fun ⟨hr, hi, hg⟩ ho hf => ?starts, fun ⟨hr, hi, hg⟩ ho hf hl => ?lost, fun ⟨hr, hi, hg⟩ ho hf hl => ?keeps,
        fun ⟨hr, hi, hg⟩ ho => ?moves⟩⟩,
    fun s ctx => ⟨exec_graphReoffer_accepts, exec_graphReoffer_waits, exec_spillReturn_none,
      fun d k rest e hs he => ⟨exec_spillReturn_returns hs he, exec_spillReturn_stays hs he⟩⟩⟩
  all_goals rw [exec_operationDispatch_goes h hw hr hi hg]
  case starts => rw [if_pos ho, issueGoes_starts hf]
  case keeps => rw [if_pos ho, issueGoes_keeps hf hl]
  case moves => rw [if_neg ho]
  case lost =>
    rw [if_pos ho, issueGoes_lost hf hl]
    refine ⟨fun hs => congrArg _ (if_pos hs), fun hs ha => congrArg _ ?_, fun hs ha => congrArg _ ?_⟩
    · exact (if_neg (by simp [hs])).trans (if_pos ha)
    · exact (if_neg (by simp [hs])).trans (if_neg (by simp [ha]))

end Sys2Proof.Machine
end

section
/-!
PROOFS. The ends of STAGE and DRAIN, and the start, the end and the errors of transactions (R152, R155, R191 to R196, R213, R357; O45).
-/
namespace Sys2Proof.Machine

/-! ### The ends of STAGE and DRAIN (R152, R153) -/

/-- The work of a context is in service on a channel, which goes. -/
def chanServes (s : State) (c ch : Nat) (w : Work) : Prop :=
  w.inSvc = true ∧ (chanAt s ch).flow = some c ∧ chanGoes s ch = true

/-- A DRAIN whose data has not all moved: its cells wait, or its sink has not taken it. -/
def drainStays (s : State) (c : Nat) (w : Work) : Prop := cellsWait s c w = true ∨ (eType w.e = 4 ∧ w.seg ≠ 0)

/-- The end of an operation at the banks of a buffer, with the correctable error that it met. -/
def banksLeft (s : State) (ch : Nat) (e : Ep) (ce : Option (BitVec 25)) : State :=
  bankDone (eccCe s ce) (dmaReq ch) (banksOf e.buf (clsSize e.cls))

/-- The grants of a STAGE that ends. -/
def stageGranted (s : State) (ch : Nat) (e : Ep) (w : Work) (ce : Option (BitVec 25)) (ws : List (BitVec 16)) : State :=
  arbGrants (banksLeft s ch e ce) (dmaReq ch) (bufRanges e (bufAddr e e.fill) w.segLen) ws

/-- The grants of a DRAIN that ends, from the source that its channel shows. -/
def drainGranted (s : State) (ch : Nat) (e : Ep) (ce : Option (BitVec 25)) (ws : List (BitVec 16)) : State :=
  arbGrants (banksLeft s ch e ce) (dmaReq ch) (bufRanges e (cpair s ch 0x40).toNat (crf s ch DMA_COUNT_COUNT)) ws

/-- A DRAIN lets go of its segment, or of its entry over a bad word. -/
def drainLeaves (s : State) (c : Nat) (e : Ep) (w : Work) : State :=
  match firstBad s (bufRanges e e.head w.seg) with
  | some a => eccFail s c a
  | none => drainEnd s c e w

section
variable {s : State} {c : Nat} {e : Ep} {w : Work}

theorem drainLeaves_clean (h : firstBad s (bufRanges e e.head w.seg) = none) : drainLeaves s c e w = drainEnd s c e w := by
  unfold drainLeaves
  rw [h]

theorem drainLeaves_bad {a : Nat} (h : firstBad s (bufRanges e e.head w.seg) = some a) : drainLeaves s c e w = eccFail s c a := by
  unfold drainLeaves
  rw [h]

end

section
variable {s : State} {ctx : BitVec 13} {d : List Byte} {ce : Option (BitVec 25)} {ws : List (BitVec 16)}

theorem exec_moveDone_noWork (h : (epAt s ctx.toNat).bind (·.work) = none) :
    exec (.stageDone ctx d ce ws) s = .next s ∧ exec (.drainDone ctx ce ws) s = .next s := by
  constructor
  all_goals refine congrArg Host.Outcome.next ?_
  all_goals cases he : epAt s ctx.toNat with
    | none => rfl
    | some e =>
      have hw : e.work = none := by simpa [he] using h
      simp only [hw]

section
variable {e : Ep} {w : Work} (he : epAt s ctx.toNat = some e) (hw : e.work = some w)
include he hw

theorem exec_moveDone_noChan (hc : w.chan = none) :
    exec (.stageDone ctx d ce ws) s = .next s ∧ exec (.drainDone ctx ce ws) s = .next s := by
  constructor
  all_goals refine congrArg Host.Outcome.next ?_
  all_goals simp only [he, hw, hc]

section
variable {ch : Nat} (hc : w.chan = some ch)
include hc

theorem exec_stageDone : exec (.stageDone ctx d ce ws) s =
    .next (if w.op != .stage || !w.inSvc || (chanAt s ch).flow != some ctx.toNat || !chanGoes s ch
        || d.length != hostBytes w.cnd false w.segLen then s
      else flowOn (stageEnd (stageGranted s ch e w ce ws) ctx.toNat w d) ctx.toNat) := by
  refine congrArg Host.Outcome.next ?_
  simp only [he, hw, hc]
  rfl

theorem exec_stageDone_other (h : ¬ chanServes s ctx.toNat ch w ∨ w.op ≠ .stage ∨ ¬ d.length = hostBytes w.cnd false w.segLen) :
    exec (.stageDone ctx d ce ws) s = .next s := by
  refine (exec_stageDone he hw hc).trans (congrArg _ (if_pos ?_))
  simp only [Bool.or_eq_true, bne_iff_ne, Bool.not_eq_true', ← Bool.not_eq_true]
  unfold chanServes at h
  tauto

theorem exec_stageDone_ends (hm : chanServes s ctx.toNat ch w) (ho : w.op = .stage) (hd : d.length = hostBytes w.cnd false w.segLen) :
    exec (.stageDone ctx d ce ws) s = .next (flowOn (stageEnd (stageGranted s ch e w ce ws) ctx.toNat w d) ctx.toNat) := by
  obtain ⟨hi, hf, hg⟩ := hm
  exact (exec_stageDone he hw hc).trans (congrArg _ (if_neg (by simp [ho, hi, hf, hg, hd])))

/-- A DRAIN that ends, by the first bad word that it read. -/
theorem exec_drainDone : exec (.drainDone ctx ce ws) s =
    .next (if w.op != .drain || !w.inSvc || (chanAt s ch).flow != some ctx.toNat || !chanGoes s ch
        || cellsWait s ctx.toNat w || (eType w.e == 4 && w.seg != 0) then s
      else flowOn (drainLeaves (drainGranted s ch e ce ws) ctx.toNat e w) ctx.toNat) := by
  refine congrArg Host.Outcome.next ?_
  simp only [he, hw, hc]
  rfl

theorem exec_drainDone_other (h : ¬ chanServes s ctx.toNat ch w ∨ w.op ≠ .drain ∨ drainStays s ctx.toNat w) :
    exec (.drainDone ctx ce ws) s = .next s := by
  refine (exec_drainDone he hw hc).trans (congrArg _ (if_pos ?_))
  simp only [Bool.or_eq_true, Bool.and_eq_true, bne_iff_ne, beq_iff_eq, Bool.not_eq_true', ← Bool.not_eq_true]
  unfold chanServes drainStays at h
  tauto

theorem exec_drainDone_ends (hm : chanServes s ctx.toNat ch w) (ho : w.op = .drain) (hs : ¬ drainStays s ctx.toNat w) :
    exec (.drainDone ctx ce ws) s = .next (flowOn (drainLeaves (drainGranted s ch e ce ws) ctx.toNat e w) ctx.toNat) := by
  obtain ⟨hi, hf, hg⟩ := hm
  obtain ⟨hcells, hrelay⟩ := not_or.1 hs
  exact (exec_drainDone he hw hc).trans (congrArg _ (if_neg (by simpa [ho, hi, hf, hg, hcells] using hrelay)))

end

end

end

/-! ### The first transaction (R169, R357) -/

section
variable {s : State} {p : BitVec 9}

theorem exec_firstTransactionStart_none (h : portNext s p.toNat (firstToken (speedOf s p.toNat)) = none) :
    exec (.firstTransactionStart p) s = .next s := by
  refine congrArg Host.Outcome.next ?_
  simp only [h]

theorem exec_firstTransactionStart {c : Nat} (h : portNext s p.toNat (firstToken (speedOf s p.toNat)) = some c) :
    exec (.firstTransactionStart p) s =
      .next (if (portAt s p.toNat).lastT == 0 then startTxn s p.toNat (firstToken (speedOf s p.toNat)) c else s) := by
  refine congrArg Host.Outcome.next ?_
  simp only [h]

end

/-! ### The wire after a transaction (R357) -/

/-- When a port's wire is free after a transaction of a packet of some length. -/
def freeAt (s : State) (p : Nat) (w : Wire) (e : Ep) (k : Work) (late : Bool) (len t : Nat) : Nat :=
  max t (w.start + holdTime (speedOf s p) (isIsoc e) late (inTxn e k) len)

/-- The transaction has left the port's wire, and its work is out of service. -/
def wireFreed (s : State) (p : Nat) (w : Wire) (e : Ep) (k : Work) (late : Bool) (len t : Nat) : State :=
  updWork (setPort s p { portAt s p with wire := none, lastT := freeAt s p w e k late len t }) w.ctx (fun w => { w with inSvc := false })

/-- The work of a transaction that has ended. -/
def Work.outOfSvc (k : Work) : Work := { k with inSvc := false }

/-- The context of a transaction that has ended. -/
def Ep.outOfSvc (e : Ep) (k : Work) : Ep := { e with work := some k.outOfSvc }

theorem epAt_wireFreed {s : State} {w : Wire} {e : Ep} {k : Work} (he : epAt s w.ctx = some e) (hk : e.work = some k)
    (p : Nat) (late : Bool) (len t : Nat) : epAt (wireFreed s p w e k late len t) w.ctx = some (e.outOfSvc k) := by
  refine (epAt_updEp_self ((epAt_setPort _ _ _ _).trans he) _).trans ?_
  rw [hk]
  rfl

/-! ### The end of a transaction (R357) -/

/-- The bytes of a transaction: those that came, or those that were sent. -/
def replyLen (s : State) (e : Ep) (k : Work) : Reply → Nat
  | .data d => d.length
  | _ => (nextPacket s e k).length

/-- A handshake or data ends a transaction: a part of a split where the endpoint lay behind a TT, in the state before the end. -/
def replyTaken (s0 s : State) (p c : Nat) (e : Ep) (w : Work) (r : Reply) : State :=
  if viaTt s0 e then splitPart s p c e w r else txnDone s p c e w r

theorem replyTaken_split {s0 s : State} {p c : Nat} {e : Ep} {w : Work} {r : Reply} (h : viaTt s0 e = true) :
    replyTaken s0 s p c e w r = splitPart s p c e w r := if_pos h

theorem replyTaken_whole {s0 s : State} {p c : Nat} {e : Ep} {w : Work} {r : Reply} (h : viaTt s0 e = false) :
    replyTaken s0 s p c e w r = txnDone s p c e w r := if_neg (by simp [h])

section
variable {s : State} {p : BitVec 9} {r : Reply} {t : Nat}

theorem exec_transactionEnd_noWire (h : (portAt s p.toNat).wire = none) : exec (.transactionEnd p r t) s = .next s := by
  refine congrArg Host.Outcome.next ?_
  simp only [h]

section
variable {w : Wire} (hw : (portAt s p.toNat).wire = some w)
include hw

theorem exec_transactionEnd_noWork (h : (epAt s w.ctx).bind (·.work) = none) : exec (.transactionEnd p r t) s = .next s := by
  refine congrArg Host.Outcome.next ?_
  simp only [hw]
  cases he : epAt s w.ctx with
  | none => rfl
  | some e =>
    have hk : e.work = none := by simpa [he] using h
    simp only [hk]

section
variable {e : Ep} {k : Work} (he : epAt s w.ctx = some e) (hk : e.work = some k)
include he hk

/-- An error of a split, by the kind of its flow. -/
theorem exec_transactionEnd_splitErr : exec (.transactionEnd p .splitErr t) s =
    .next (if !viaTt s e then s
      else if isPer e then
        (if k.split == 0 then s
          else afterTxn (splitFail (wireFreed s p.toNat w e k false (nextPacket s e k).length t) w.ctx (e.outOfSvc k) false).1 p.toNat w.ctx)
      else afterTxn ((txnErr s p.toNat false t).2.elim (txnErr s p.toNat false t).1 (loseDev (txnErr s p.toNat false t).1)) p.toNat w.ctx) := by
  have hfreed := epAt_wireFreed he hk p.toNat false (nextPacket s e k).length t
  unfold wireFreed freeAt at hfreed ⊢
  refine congrArg Host.Outcome.next ?_
  simp only [hw, he, hk, hfreed]
  cases (txnErr s p.toNat false t).2 with
  | none => rfl
  | some h => rfl

theorem exec_transactionEnd_splitErr_whole (hv : viaTt s e = false) : exec (.transactionEnd p .splitErr t) s = .next s :=
  (exec_transactionEnd_splitErr hw he hk).trans (congrArg _ (if_pos (by simp [hv])))

section
variable (hv : viaTt s e = true)
include hv

theorem exec_transactionEnd_splitErr_periodic (hp : isPer e = true) : exec (.transactionEnd p .splitErr t) s =
    .next (if k.split == 0 then s
      else afterTxn (splitFail (wireFreed s p.toNat w e k false (nextPacket s e k).length t) w.ctx (e.outOfSvc k) false).1 p.toNat w.ctx) :=
  (exec_transactionEnd_splitErr hw he hk).trans (congrArg _ ((if_neg (by simp [hv])).trans (if_pos hp)))

/-- An error of a non-periodic split counts as one of its transaction (R193). -/
theorem exec_transactionEnd_splitErr_async (hp : isPer e = false) : exec (.transactionEnd p .splitErr t) s =
    .next (afterTxn ((txnErr s p.toNat false t).2.elim (txnErr s p.toNat false t).1 (loseDev (txnErr s p.toNat false t).1))
      p.toNat w.ctx) :=
  (exec_transactionEnd_splitErr hw he hk).trans (congrArg _ ((if_neg (by simp [hv])).trans (if_neg (by simp [hp]))))

end

theorem exec_transactionEnd_babble (past : Bool) : exec (.transactionEnd p (.babble past) t) s =
    (let s2 := failLater (wireFreed s p.toNat w e k false (nextPacket s e k).length t) w.ctx 3 none
     .next (afterTxn (if past then babblePort s2 p.toNat else s2) p.toNat w.ctx)) := by
  have hfreed := epAt_wireFreed he hk p.toNat false (nextPacket s e k).length t
  unfold wireFreed freeAt at hfreed ⊢
  refine congrArg Host.Outcome.next ?_
  simp only [hw, he, hk, hfreed]

/-- A handshake or data, of a split or of no split. -/
theorem exec_transactionEnd_reply (hs : r ≠ .splitErr) (hb : ∀ past, r ≠ .babble past) : exec (.transactionEnd p r t) s =
    .next (afterTxn (endHeld (replyTaken s (wireFreed s p.toNat w e k false (replyLen s e k r) t) p.toNat w.ctx (e.outOfSvc k)
      k.outOfSvc r) w.ctx) p.toNat w.ctx) := by
  have hfreed := epAt_wireFreed he hk p.toNat false (replyLen s e k r) t
  unfold wireFreed freeAt at hfreed ⊢
  refine congrArg Host.Outcome.next ?_
  simp only [hw, he, hk]
  cases r with
  | splitErr => exact absurd rfl hs
  | babble past => exact absurd rfl (hb past)
  | ack | nak | nyet | stall | sent | data =>
    simp only [replyLen] at hfreed ⊢
    simp only [hfreed]
    rfl

end

end

end

/-! ### Time-outs and errors (R193, R194) -/

/-- What an error that ends its chain or its service answers: the device, if it is lost. -/
def errEnds (e : Ep) (r : State × Bool) : State × Option Nat := (r.1, if r.2 then some e.dev else none)

/-- A retry is counted, at its port and in its work. -/
def retryCounted (s : State) (p c : Nat) : State :=
  updWork (incF s (cluPage p) (pfld p PRT_COUNTS_RETRIES)) c (fun w => { w with retries := w.retries + 1 })

/-- A transaction starts again at a time, as it was in the state before. -/
def retrySent (s s3 : State) (p : Nat) (w : Wire) (e : Ep) (k : Work) (free : Nat) : State :=
  issueRead (emit (updWork (setPort s3 p { portAt s3 p with wire := some ⟨w.ctx, free⟩ }) w.ctx (fun w => { w with inSvc := true }))
    (txnOut s p w.ctx e k)) p e k

/-- A retry that does not fit ends the visit. -/
def retryLater (s : State) (p c : Nat) (e : Ep) : State := endVisit (if isIntr e then endService s c else s) p e

/-- A retry, at once where it fits. -/
def retryTried (s s3 : State) (p : Nat) (w : Wire) (e : Ep) (k : Work) (free : Nat) : State × Option Nat :=
  match epAt s3 w.ctx with
  | some e3 => if fitsNow s3 e3 free && portRuns s3 p then (retrySent s s3 p w e k free, none) else (retryLater s3 p w.ctx e, none)
  | none => (s3, none)

theorem txnErr_noWire {s : State} {p t : Nat} {late : Bool} (h : (portAt s p).wire = none) : txnErr s p late t = (s, none) := by
  unfold txnErr
  rw [h]

section
variable {s : State} {p t : Nat} {late : Bool} {w : Wire} {e : Ep} {k : Work}
  (hw : (portAt s p).wire = some w) (he : epAt s w.ctx = some e) (hk : e.work = some k)
include hw he hk

/-- An error of a transaction, by the kind of its flow and the retries that it has had. -/
theorem txnErr_work : txnErr s p late t =
    (let s2 := wireFreed s p w e k late (nextPacket s e k).length t
     if viaTt s e && isPer e then errEnds e (splitFail s2 w.ctx e late)
     else if isIsoc e then errEnds e (isocErr s2 w.ctx e k late)
     else if 3 ≤ k.retries then errEnds e (retriesGone s2 w.ctx late)
     else retryTried s (retryCounted s2 p w.ctx) p w e k (freeAt s p w e k late (nextPacket s e k).length t)) := by
  unfold txnErr
  simp only [hw, he, hk]
  rfl

theorem txnErr_split (hv : viaTt s e = true) (hp : isPer e = true) :
    txnErr s p late t = errEnds e (splitFail (wireFreed s p w e k late (nextPacket s e k).length t) w.ctx e late) :=
  (txnErr_work hw he hk).trans (if_pos (by simp [hv, hp]))

theorem txnErr_isoc (hv : viaTt s e = false) (hi : isIsoc e = true) :
    txnErr s p late t = errEnds e (isocErr (wireFreed s p w e k late (nextPacket s e k).length t) w.ctx e k late) :=
  (txnErr_work hw he hk).trans ((if_neg (by simp [hv])).trans (if_pos hi))

section
variable (hv : viaTt s e = false ∨ isPer e = false) (hi : isIsoc e = false)
include hv hi

theorem txnErr_retriesGone (hr : 3 ≤ k.retries) :
    txnErr s p late t = errEnds e (retriesGone (wireFreed s p w e k late (nextPacket s e k).length t) w.ctx late) :=
  (txnErr_work hw he hk).trans ((if_neg (Bool.eq_false_iff.1 (Bool.and_eq_false_iff.2 hv))).trans
    ((if_neg (by simp [hi])).trans (if_pos hr)))

theorem txnErr_retry (hr : k.retries < 3) :
    txnErr s p late t = retryTried s (retryCounted (wireFreed s p w e k late (nextPacket s e k).length t) p w.ctx) p w e k
      (freeAt s p w e k late (nextPacket s e k).length t) :=
  (txnErr_work hw he hk).trans ((if_neg (Bool.eq_false_iff.1 (Bool.and_eq_false_iff.2 hv))).trans
    ((if_neg (by simp [hi])).trans (if_neg (Nat.not_le.2 hr))))

end

end

section
variable {s s3 : State} {p free : Nat} {w : Wire} {e e3 : Ep} {k : Work} (h : epAt s3 w.ctx = some e3)
include h

theorem retryTried_fits (hf : (fitsNow s3 e3 free && portRuns s3 p) = true) :
    retryTried s s3 p w e k free = (retrySent s s3 p w e k free, none) := by
  unfold retryTried
  rw [h]
  exact if_pos hf

theorem retryTried_later (hf : (fitsNow s3 e3 free && portRuns s3 p) = false) :
    retryTried s s3 p w e k free = (retryLater s3 p w.ctx e, none) := by
  unfold retryTried
  rw [h]
  exact if_neg (by simp [hf])

end

section
variable {s : State} {p : BitVec 9} {k : TErr} {t : Nat}

theorem exec_transactionTimeout_noWire (h : (portAt s p.toNat).wire = none) :
    exec (.transactionTimeout p k t) s = .next (suspendDue s p.toNat) := by
  refine congrArg Host.Outcome.next ?_
  simp only [h, txnErr_noWire h]

section
variable {w : Wire} (h : (portAt s p.toNat).wire = some w)
include h

theorem exec_transactionTimeout_kept (hl : (txnErr s p.toNat (k == .timeout) t).2 = none) :
    exec (.transactionTimeout p k t) s =
      .next (afterTxn (endHeld (txnErr s p.toNat (k == .timeout) t).1 w.ctx) p.toNat w.ctx) := by
  refine congrArg Host.Outcome.next ?_
  simp only [h, hl]

/-- A device that loses two chains in a row is lost (R191). -/
theorem exec_transactionTimeout_lost {d : Nat} (hl : (txnErr s p.toNat (k == .timeout) t).2 = some d) :
    exec (.transactionTimeout p k t) s =
      .next (afterTxn (loseDev (endHeld (txnErr s p.toNat (k == .timeout) t).1 w.ctx) d) p.toNat w.ctx) := by
  refine congrArg Host.Outcome.next ?_
  simp only [h, hl]

end

end

/-- Settles O45: each end by the work that it is for, a transaction's by its reply and its flow, an error by the retries. -/
theorem operationsOnWire : Obligations.OperationsOnWire := by
  refine ⟨fun s ctx d ce ws => ⟨exec_moveDone_noWork, fun e w he hw => ⟨exec_moveDone_noChan he hw, fun ch hc =>
      ⟨exec_stageDone_other he hw hc, exec_stageDone_ends he hw hc, exec_drainDone_other he hw hc,
        fun hm ho hs => ⟨fun hb => ?clean, fun a hb => ?bad⟩⟩⟩⟩,
    fun s p => ⟨exec_firstTransactionStart_none, fun c hc => ⟨fun h0 => ?first, fun h0 => ?later⟩⟩,
    fun s p r t => ⟨exec_transactionEnd_noWire, fun w hw => exec_transactionEnd_noWork hw, fun w e k hw he hk =>
      ⟨fun hr hv => ?whole, fun hr hv hp h0 => ?unsplit, fun hr hv hp h0 => ?splitFails, fun hr hv hp hl => ?splitKept,
        fun h hr hv hp hl => ?splitLost, fun hr => ?past, fun hr => ?babble, fun h1 h2 h3 => ?reply⟩⟩,
    fun s p k t => ⟨exec_transactionTimeout_noWire, fun w hw => ⟨exec_transactionTimeout_kept hw,
      fun h => exec_transactionTimeout_lost hw⟩⟩,
    fun s p t late w e k hw he hk => ⟨txnErr_split hw he hk, txnErr_isoc hw he hk, txnErr_retriesGone hw he hk,
      fun e3 hv hi hr h3 => ⟨fun hf => ?retries, fun hf => ?waits⟩⟩⟩
  case clean =>
    rw [exec_drainDone_ends he hw hc hm ho hs]
    exact congrArg (fun x => Host.Outcome.next (flowOn x ctx.toNat)) (drainLeaves_clean hb)
  case bad =>
    rw [exec_drainDone_ends he hw hc hm ho hs]
    exact congrArg (fun x => Host.Outcome.next (flowOn x ctx.toNat)) (drainLeaves_bad hb)
  case first => exact (exec_firstTransactionStart hc).trans (congrArg _ (if_pos (by simp [h0])))
  case later => exact (exec_firstTransactionStart hc).trans (congrArg _ (if_neg (by simp [h0])))
  case whole =>
    subst hr
    exact exec_transactionEnd_splitErr_whole hw he hk hv
  case unsplit =>
    subst hr
    exact (exec_transactionEnd_splitErr_periodic hw he hk hv hp).trans (congrArg _ (if_pos (by simp [h0])))
  case splitFails =>
    subst hr
    exact (exec_transactionEnd_splitErr_periodic hw he hk hv hp).trans (congrArg _ (if_neg (by simp [h0])))
  case splitKept =>
    subst hr
    rw [exec_transactionEnd_splitErr_async hw he hk hv hp, hl]
    rfl
  case splitLost =>
    subst hr
    rw [exec_transactionEnd_splitErr_async hw he hk hv hp, hl]
    rfl
  case past =>
    subst hr
    exact exec_transactionEnd_babble hw he hk true
  case babble =>
    subst hr
    exact exec_transactionEnd_babble hw he hk false
  case reply =>
    have hb : ∀ past, r ≠ .babble past := fun past => by cases past <;> assumption
    rw [exec_transactionEnd_reply hw he hk h1 hb]
    exact ⟨fun hv => congrArg (fun x => Host.Outcome.next (afterTxn (endHeld x w.ctx) p.toNat w.ctx)) (replyTaken_split hv),
      fun hv => congrArg (fun x => Host.Outcome.next (afterTxn (endHeld x w.ctx) p.toNat w.ctx)) (replyTaken_whole hv)⟩
  case retries => exact (txnErr_retry hw he hk hv hi hr).trans (retryTried_fits h3 hf)
  case waits => exact (txnErr_retry hw he hk hv hi hr).trans (retryTried_later h3 hf)

end Sys2Proof.Machine
end

section
/-!
PROOFS. Root ports: connect and bus reset on the USB 2.0 path (R177, R184, R202; O47), the SuperSpeed side, disconnect and resume (R177, R185,
R187, R199, R202; O48). Each command has an equation that says when it acts.
-/
namespace Sys2Proof.Machine

/-! ### Connect (R184, R202) -/

/-- A changed line of a POWERED port: the debounce starts again, and the detector of its cluster has its event. -/
def lineTaken (s : State) (n : Nat) (l : Line) : State :=
  let s1 := setPort s n { portAt s n with line := l, debouncing := l != .se0 && !portForced s n, stable := false }
  if portForced s n = true then latchEvent s1 n .connect else detect s1 n

/-- A connect is stable: a port on its SuperSpeed path waits for the training, another one connects. -/
def debounced (s : State) (n : Nat) : State :=
  let s1 := setPort s n { portAt s n with debouncing := false, stable := true }
  if ssPath s n = true then s1 else connectUsb2 s1 n

/-- A port that keeps its SuperSpeed side keeps its path. -/
theorem ssPath_setPort {s : State} {n : Nat} {x : Port} (h : x.ss = (portAt s n).ss) : ssPath (setPort s n x) n = ssPath s n := by
  unfold ssPath
  rw [portAt_setPort, h]

section
variable {s : State} {p : BitVec 9}

theorem exec_lineChange_gone (h : goneLatched s p.toNat = true) (l : Line) :
    exec (.lineChange p l) s = .next (latchEvent (setPort s p.toNat { portAt s p.toNat with line := l }) p.toNat .connect) :=
  congrArg Host.Outcome.next (if_pos h)

theorem exec_lineChange (h : goneLatched s p.toNat = false) (l : Line) :
    exec (.lineChange p l) s = .next (if portState s p.toNat ≠ 1 ∨ (portAt s p.toNat).ss = .up ∨ (portAt s p.toNat).line = l then s
      else lineTaken s p.toNat l) :=
  congrArg Host.Outcome.next ((if_neg (by simp [h])).trans (if_congr (by simp [or_assoc]) rfl rfl))

theorem exec_connectDebounceDone : exec (.connectDebounceDone p) s =
    .next (if portState s p.toNat ≠ 1 ∨ (portAt s p.toNat).debouncing = false ∨ portDark s p.toNat = true then s
      else debounced s p.toNat) :=
  congrArg Host.Outcome.next (if_congr (by simp [or_assoc]) rfl (if_congr (Bool.eq_iff_iff.1 (ssPath_setPort (by rfl))) rfl rfl))

end

/-! ### Bus reset (R184) -/

/-- The end of a USB 2.0 reset whose handshake has not failed: ENABLED at its speed, and in recovery. -/
def resetEnded (s : State) (n : Nat) (d h : Bool) (l : ResetLine) : State :=
  setPortState (pwf (setPort s n { portAt s n with reset := none, allowTxn := false }) n PRT_STATE_SPEED
    (if d && h && l == .hsIdle then 2 else if (portAt s n).line == .dMinus then 0 else 1)) n 3

/-- A port outside a USB 2.0 reset has no reset, or a hot or a warm one. -/
theorem reset_cases {r : Option ResetKind} (hr : ∀ d h, r ≠ some (.usb2 d h)) : r = none ∨ r = some .hot ∨ r = some .warm := by
  match r with
  | none => exact .inl rfl
  | some .hot => exact .inr (.inl rfl)
  | some .warm => exact .inr (.inr rfl)
  | some (.usb2 d h) => exact absurd rfl (hr d h)

section
variable {s : State} {p : BitVec 9}

/-- Outside a USB 2.0 reset no chirp is seen, and none ends. -/
theorem usb2Reset_none (hr : ∀ d h, (portAt s p.toNat).reset ≠ some (.usb2 d h)) (l : ResetLine) :
    exec (.deviceChirpEnd p) s = .next s ∧ exec (.busResetEnd p l) s = .next s := by
  constructor
  all_goals refine congrArg Host.Outcome.next ?_
  all_goals rcases reset_cases hr with hk | hk | hk
  all_goals simp only [hk]

section
variable {d h : Bool} (hr : (portAt s p.toNat).reset = some (.usb2 d h))
include hr

theorem exec_deviceChirpEnd : exec (.deviceChirpEnd p) s =
    .next (if (portAt s p.toNat).line = .dPlus then setPort s p.toNat { portAt s p.toNat with reset := some (.usb2 true h) } else s) := by
  refine congrArg Host.Outcome.next ?_
  simp only [hr, beq_iff_eq]

theorem exec_busResetEnd (l : ResetLine) : exec (.busResetEnd p l) s =
    .next (if portState s p.toNat ≠ 5 then s else if d = true ∧ h = true ∧ l = .neither then linkFail s p.toNat
      else resetEnded s p.toNat d h l) := by
  refine congrArg Host.Outcome.next ?_
  simp only [hr]
  exact if_congr (by simp) rfl (if_congr (by simp [and_assoc]) rfl rfl)

end

theorem exec_hostChirpStart (hr : (portAt s p.toNat).reset = some (.usb2 true false)) : exec (.hostChirpStart p) s =
    .next (emit (setPort s p.toNat { portAt s p.toNat with reset := some (.usb2 true true) }) (.port p.toNat "chirp")) := by
  refine congrArg Host.Outcome.next ?_
  simp only [hr]

theorem exec_hostChirpStart_other (hr : (portAt s p.toNat).reset ≠ some (.usb2 true false)) : exec (.hostChirpStart p) s = .next s := by
  refine congrArg Host.Outcome.next ?_
  match hk : (portAt s p.toNat).reset with
  | none | some .hot | some .warm | some (.usb2 false _) | some (.usb2 true true) => rfl
  | some (.usb2 true false) => exact absurd hk hr

/-- The end of a recovery (R184, R199): the transactions of an ENABLED port that no reset holds are allowed. -/
theorem exec_recoveryEnd {c : Instr} (hc : c = .resetRecoveryEnd p ∨ c = .resumeRecoveryEnd p) : exec c s =
    .next (if portState s p.toNat = 3 ∧ (portAt s p.toNat).reset = none then setPort s p.toNat { portAt s p.toNat with allowTxn := true }
      else s) := by
  rcases hc with rfl | rfl
  all_goals exact congrArg Host.Outcome.next (if_congr (by simp) rfl rfl)

end

/-- Settles O47: each command by the condition under which it acts. -/
theorem portConnect : Obligations.PortConnect := by
  refine ⟨fun s p => ⟨fun l hg => exec_lineChange_gone hg l, fun l hg h1 hs hl => ?line, fun l hg h => ?noLine, fun h1 hd hk => ?stable,
      fun h => ?notStable, fun d h hr hl => ?chirp, fun h => ?noChirp, exec_hostChirpStart, exec_hostChirpStart_other⟩,
    fun s p => ⟨fun d h l hr h5 => ⟨fun hl => ?enabled, fun hd hh hl => ?fails⟩, fun l h => ?noReset, fun h3 hr => ?recovered,
      fun h => ?noRecovery⟩⟩
  case line =>
    rw [exec_lineChange hg, if_neg (by simp [h1, hs, hl])]
    exact ⟨fun hf => congrArg Host.Outcome.next (if_pos hf), fun hf => congrArg Host.Outcome.next (if_neg (by simp [hf]))⟩
  case noLine => rw [exec_lineChange hg, if_pos h]
  case stable =>
    rw [exec_connectDebounceDone, if_neg (by simp [h1, hd, hk])]
    exact ⟨fun hp => congrArg Host.Outcome.next (if_pos hp), fun hp => congrArg Host.Outcome.next (if_neg (by simp [hp]))⟩
  case notStable => rw [exec_connectDebounceDone, if_pos h]
  case chirp => rw [exec_deviceChirpEnd hr, if_pos hl]
  case noChirp =>
    by_cases hr : ∃ d h, (portAt s p.toNat).reset = some (.usb2 d h)
    · obtain ⟨d, k, hr⟩ := hr
      have hl : (portAt s p.toNat).line ≠ .dPlus := h.resolve_right fun hn => hn d k hr
      rw [exec_deviceChirpEnd hr, if_neg hl]
    · exact (usb2Reset_none (fun d k hk => hr ⟨d, k, hk⟩) .neither).1
  case enabled =>
    rw [exec_busResetEnd hr, if_neg (not_not.2 h5), if_neg fun ⟨hd, hh, hn⟩ => hl hd hh hn]
    rfl
  case fails => rw [exec_busResetEnd hr, if_neg (not_not.2 h5), if_pos ⟨hd, hh, hl⟩]
  case noReset =>
    by_cases hr : ∃ d h, (portAt s p.toNat).reset = some (.usb2 d h)
    · obtain ⟨d, k, hr⟩ := hr
      rw [exec_busResetEnd hr, if_pos (h.resolve_right fun hn => hn d k hr)]
    · exact (usb2Reset_none (fun d k hk => hr ⟨d, k, hk⟩) l).2
  case recovered => rw [exec_recoveryEnd (.inl rfl), exec_recoveryEnd (.inr rfl), if_pos ⟨h3, hr⟩]; exact ⟨rfl, rfl⟩
  case noRecovery =>
    rw [exec_recoveryEnd (.inl rfl), exec_recoveryEnd (.inr rfl), if_neg fun ⟨h3, hr⟩ => h.elim (· h3) (· hr)]
    exact ⟨rfl, rfl⟩

/-! ### The SuperSpeed side (R185, R202) -/

/-- The SuperSpeed link of a port is in U0: no reset, no debounce, and transactions are allowed. -/
def linkUp (s : State) (n : Nat) : State :=
  setPort s n { portAt s n with ss := .up, reset := none, allowTxn := true, debouncing := false, stable := false }

/-- Far-end termination on a port that looks for it: training begins, in a dark cluster once it is lit. -/
def termFound (s : State) (n : Nat) : State :=
  if portDark s n = true then latchEvent s n .term else detect (noteLink (setPort s n { portAt s n with ss := .training }) n) n

/-- SuperSpeed training has failed: the port is left to the USB 2.0 path. -/
def trainingFailed (s : State) (n : Nat) : State :=
  let s1 := noteLink (setPort s n { portAt s n with ss := .failed }) n
  if (portAt s n).stable = true then connectUsb2 s1 n else s1

/-- A failed SuperSpeed link: LINK_FAIL, its report, and DISABLED (R177, R191). -/
def linkLost (s : State) (n : Nat) : State :=
  let s1 := errBit s (cluPage n) 5
  disablePort (reportRef s1 (portLoc s1 n) 0x03).1 n (some (reportRef s1 (portLoc s1 n) 0x03).2)

section
variable {s : State} {p : BitVec 9}

theorem exec_farEndTerminationFound : exec (.farEndTerminationFound p) s =
    .next (if goneLatched s p.toNat = true ∧ p.toNat < 64 then latchEvent s p.toNat .term
      else if portState s p.toNat = 1 ∧ (portAt s p.toNat).ss = .detect then termFound s p.toNat else s) :=
  congrArg Host.Outcome.next (if_congr (by simp) rfl (if_congr (by simp) rfl rfl))

theorem exec_ssTrainingFail : exec (.ssTrainingFail p) s =
    .next (if portState s p.toNat = 1 ∧ ((portAt s p.toNat).ss = .detect ∨ (portAt s p.toNat).ss = .training) ∧ portDark s p.toNat = false
      then trainingFailed s p.toNat else s) :=
  congrArg Host.Outcome.next (if_congr (by simp [and_assoc]) rfl rfl)

theorem exec_ssResetTimeout : exec (.ssResetTimeout p) s =
    .next (if portState s p.toNat = 5 ∧ ((portAt s p.toNat).reset = some .hot ∨ (portAt s p.toNat).reset = some .warm)
      then linkFail s p.toNat else s) :=
  congrArg Host.Outcome.next (if_congr (by simp) rfl rfl)

theorem exec_ssWarmResetLfpsEnd : exec (.ssWarmResetLfpsEnd p) s =
    .next (if portState s p.toNat = 5 ∧ (portAt s p.toNat).reset = some .warm
      then setPort s p.toNat { portAt s p.toNat with reset := some .hot } else s) :=
  congrArg Host.Outcome.next (if_congr (by simp) rfl rfl)

theorem exec_ssResumeTimeout : exec (.ssResumeTimeout p) s =
    .next (if portState s p.toNat = 6 ∧ (portAt s p.toNat).ss = .up then linkFail s p.toNat else s) :=
  congrArg Host.Outcome.next (if_congr (by simp) rfl rfl)

theorem exec_ssLinkFailure : exec (.ssLinkFailure p) s =
    .next (if portState s p.toNat = 3 ∧ 3 ≤ speedOf s p.toNat then linkLost s p.toNat else s) :=
  congrArg Host.Outcome.next (if_congr (by simp) rfl rfl)

/-- A port of a dark cluster does not act on U0. -/
theorem exec_ssLinkU0_dark (g : Bool) (hd : portDark s p.toNat = true) : exec (.ssLinkU0 p g) s = .next s :=
  congrArg Host.Outcome.next (if_pos hd)

section
variable (g : Bool) (hd : portDark s p.toNat = false)
include hd

theorem exec_ssLinkU0_powered (h1 : portState s p.toNat = 1) : exec (.ssLinkU0 p g) s =
    .next (if (portAt s p.toNat).ss = .training then
      setConnected (setPortState (linkUp (pwf s p.toNat PRT_STATE_SPEED (if g then 4 else 3)) p.toNat) p.toNat 3) p.toNat true else s) := by
  refine congrArg Host.Outcome.next ((if_neg (by simp [hd])).trans ?_)
  simp only [h1]
  exact if_congr (by simp) rfl rfl

theorem exec_ssLinkU0_resetting (h5 : portState s p.toNat = 5) : exec (.ssLinkU0 p g) s =
    .next (if (portAt s p.toNat).reset = some .hot then
      setPortState (linkUp (pwf s p.toNat PRT_STATE_SPEED (if g then 4 else 3)) p.toNat) p.toNat 3 else s) := by
  refine congrArg Host.Outcome.next ((if_neg (by simp [hd])).trans ?_)
  simp only [h5]
  exact if_congr (by simp) rfl rfl

theorem exec_ssLinkU0_resuming (h6 : portState s p.toNat = 6) : exec (.ssLinkU0 p g) s =
    .next (if (portAt s p.toNat).ss = .up then
      resetAfter (setPortState (linkUp (wakeEvt s p.toNat) p.toNat) p.toNat 3) p.toNat else s) := by
  refine congrArg Host.Outcome.next ((if_neg (by simp [hd])).trans ?_)
  simp only [h6]
  exact if_congr (by simp) rfl rfl

theorem exec_ssLinkU0_enabled (h3 : portState s p.toNat = 3) : exec (.ssLinkU0 p g) s =
    .next (if (portAt s p.toNat).ss = .exiting then pwf (linkUp s p.toNat) p.toNat PRT_STATE_LINK 1 else s) := by
  refine congrArg Host.Outcome.next ((if_neg (by simp [hd])).trans ?_)
  simp only [h3]
  exact if_congr (by simp) rfl rfl

theorem exec_ssLinkU0_other
    (h : portState s p.toNat ≠ 1 ∧ portState s p.toNat ≠ 5 ∧ portState s p.toNat ≠ 6 ∧ portState s p.toNat ≠ 3) :
    exec (.ssLinkU0 p g) s = .next s := by
  obtain ⟨h1, h5, h6, h3⟩ := h
  refine congrArg Host.Outcome.next ((if_neg (by simp [hd])).trans ?_)
  split
  · contradiction
  · contradiction
  · contradiction
  · contradiction
  · rfl

end

/-! ### Disconnect, remote wake and resume (R187, R199, R202) -/

theorem exec_disconnect : exec (.disconnect p) s =
    .next (if 2 ≤ portState s p.toNat ∧ prf s p.toNat PRT_STATE_TEST ≠ 1 then
      (if portDark s p.toNat = true then latchGone s p.toNat else doDisconnect (detect s p.toNat) p.toNat) else s) := by
  refine congrArg Host.Outcome.next ((if_congr ?_ rfl rfl).trans (ite_not _ _ _))
  simp [imp_iff_not_or]

theorem exec_remoteWake : exec (.remoteWake p) s =
    .next (if portState s p.toNat ≠ 4 then s
      else if portDark s p.toNat = true then latchEvent s p.toNat .wake else startResume (detect s p.toNat) p.toNat true) :=
  congrArg Host.Outcome.next (if_congr (by simp) rfl rfl)

theorem exec_resumeSignalEnd : exec (.resumeSignalEnd p) s =
    .next (if portState s p.toNat = 6 ∧ (portAt s p.toNat).ss ≠ .up then
      resetAfter (setPortState (setPort (wakeEvt s p.toNat) p.toNat { portAt s p.toNat with allowTxn := false }) p.toNat 3) p.toNat
      else s) :=
  congrArg Host.Outcome.next (if_congr (by simp) rfl rfl)

end

/-- Settles O48: each command by the condition under which it acts; U0 by the state that the link comes out of. -/
theorem superSpeed : Obligations.SuperSpeed := by
  refine ⟨fun s p => ⟨fun hg hn => ?latched, fun ⟨h1, hs, hg⟩ hd => ?trains, fun ⟨h1, hs, hg⟩ hd => ?dark, fun hn hg => ?unseen,
      fun g hd => ⟨fun h1 hs => ?trained, fun h5 hr => ?reset, fun h6 hs => ?resumed, fun h3 hs => ?exited⟩, fun g h => ?noLink,
      ⟨fun ht hs => ?fails, fun ht hs => ?connects, fun ht => ?noTraining⟩,
      ⟨fun h => ?late, fun h => ?notLate, fun h => ?warm, fun h => ?notWarm, fun h => ?resumeLate, fun h => ?notResuming⟩,
      fun h3 hf => ?lost, fun h => ?notLost⟩,
    fun s p => ⟨fun h hd => ?gone, fun h hd => ?goneDark, fun h => ?notGone, fun h4 hd => ?wakes, fun h4 hd => ?wakesDark, fun h4 => ?noWake,
      fun h => ?resumeEnds, fun h => ?noResume⟩⟩
  case latched => rw [exec_farEndTerminationFound, if_pos ⟨hg, hn⟩]
  case trains =>
    rw [exec_farEndTerminationFound, if_neg hg, if_pos ⟨h1, hs⟩]
    exact congrArg Host.Outcome.next (if_neg (by simp [hd]))
  case dark =>
    rw [exec_farEndTerminationFound, if_neg hg, if_pos ⟨h1, hs⟩]
    exact congrArg Host.Outcome.next (if_pos hd)
  case unseen => rw [exec_farEndTerminationFound, if_neg hg, if_neg fun ⟨h1, hs⟩ => hn ⟨h1, hs, hg⟩]
  case trained => exact (exec_ssLinkU0_powered g hd h1).trans (congrArg _ (if_pos hs))
  case reset => exact (exec_ssLinkU0_resetting g hd h5).trans (congrArg _ (if_pos hr))
  case resumed => exact (exec_ssLinkU0_resuming g hd h6).trans (congrArg _ (if_pos hs))
  case exited => exact (exec_ssLinkU0_enabled g hd h3).trans (congrArg _ (if_pos hs))
  case noLink =>
    cases hd : portDark s p.toNat with
    | true => exact exec_ssLinkU0_dark g hd
    | false =>
      rcases h with h | ⟨h1, hs⟩ | ⟨h5, hr⟩ | ⟨h6, hs⟩ | ⟨h3, hs⟩ | h
      · exact absurd (hd.symm.trans h) (by decide)
      · rw [exec_ssLinkU0_powered g hd h1, if_neg hs]
      · rw [exec_ssLinkU0_resetting g hd h5, if_neg hr]
      · rw [exec_ssLinkU0_resuming g hd h6, if_neg hs]
      · rw [exec_ssLinkU0_enabled g hd h3, if_neg hs]
      · exact exec_ssLinkU0_other g hd h
  case fails =>
    rw [exec_ssTrainingFail, if_pos ht]
    exact congrArg Host.Outcome.next (if_neg (by simp [hs]))
  case connects =>
    rw [exec_ssTrainingFail, if_pos ht]
    exact congrArg Host.Outcome.next (if_pos hs)
  case noTraining => rw [exec_ssTrainingFail, if_neg ht]
  case late => rw [exec_ssResetTimeout, if_pos h]
  case notLate => rw [exec_ssResetTimeout, if_neg h]
  case warm => rw [exec_ssWarmResetLfpsEnd, if_pos h]
  case notWarm => rw [exec_ssWarmResetLfpsEnd, if_neg h]
  case resumeLate => rw [exec_ssResumeTimeout, if_pos h]
  case notResuming => rw [exec_ssResumeTimeout, if_neg h]
  case lost =>
    rw [exec_ssLinkFailure, if_pos ⟨h3, hf⟩]
    rfl
  case notLost => rw [exec_ssLinkFailure, if_neg fun ⟨h3, hf⟩ => h.elim (· h3) (Nat.not_lt.2 hf)]
  case gone => rw [exec_disconnect, if_pos h, if_neg (by simp [hd])]
  case goneDark => rw [exec_disconnect, if_pos h, if_pos hd]
  case notGone => rw [exec_disconnect, if_neg h]
  case wakes => rw [exec_remoteWake, if_neg (not_not.2 h4), if_neg (by simp [hd])]
  case wakesDark => rw [exec_remoteWake, if_neg (not_not.2 h4), if_pos hd]
  case noWake => rw [exec_remoteWake, if_pos h4]
  case resumeEnds => rw [exec_resumeSignalEnd, if_pos h]
  case noResume => rw [exec_resumeSignalEnd, if_neg h]

end Sys2Proof.Machine
end

section
/-!
PROOFS. Signal-VBUS and link power management (R177, R183, R198, R200, R334, R358; O49).
-/
namespace Sys2Proof.Machine

/-- A transaction of a port is ready (R198). -/
abbrev l1Ready (s : State) (n : Nat) : Prop := s.ctx.eps.any (fun e => epPort s e.2 == n && issueReady s e.1 e.2) = true

/-- Every device of a port is attached to it directly. -/
abbrev devsDirect (s : State) (n : Nat) : Prop := (devsOn s n).all (fun h => (devAt s h).any (fun d => d.route == 0)) = true

/-- No endpoint of a port holds a reservation or has a transaction ready. -/
abbrev epsIdle (s : State) (n : Nat) : Prop :=
  (s.ctx.eps.filter (fun e => epPort s e.2 == n)).all (fun e => e.2.rsv.isNone && !issueReady s e.1 e.2) = true

/-- A port enters L1 (R198). -/
abbrev l1Enters (s : State) (n : Nat) : Prop :=
  portState s n = 3 ∧ prf s n PRT_STATE_LINK = 1 ∧ speedOf s n = 2 ∧ prf s n PRT_LPM_L1_EN = 1 ∧ devsDirect s n ∧ epsIdle s n
    ∧ (portAt s n).wire = none

/-- The LPM token that a port sends. -/
def l1Token (s : State) (n : Nat) : State := emit s (.lpm n (prf s n PRT_LPM_BESL) true)

section
variable {s : State} {p : BitVec 9}

/-! ### Signal-VBUS (R183, R334) -/

theorem exec_vbusCharged : exec (.vbusCharged p) s =
    .next (if (portAt s p.toNat).charging = true then
      nextCharge (setPortState (setPort s p.toNat { portAt s p.toNat with charging := false }) p.toNat 1) else s) := rfl

theorem exec_vbusChargeTimeout : exec (.vbusChargeTimeout p) s =
    .next (if (portAt s p.toNat).charging = true then vbusDown s p.toNat else s) := rfl

theorem exec_vbusFault : exec (.vbusFault p) s =
    .next (if portState s p.toNat ≠ 0 ∨ (portAt s p.toNat).charging = true then vbusDown s p.toNat else s) :=
  congrArg Host.Outcome.next (if_congr (by simp) rfl rfl)

/-! ### L1 (R198) -/

theorem exec_l1Entry (ack : Bool) : exec (.l1Entry p ack) s =
    .next (if l1Enters s p.toNat then
      (if ack = true then pwf (l1Token s p.toNat) p.toNat PRT_STATE_LINK 2 else l1Token s p.toNat) else s) :=
  congrArg Host.Outcome.next
    (if_congr (by simp only [Bool.and_eq_true, beq_iff_eq, Option.isNone_iff_eq_none, and_assoc]) rfl rfl)

theorem exec_l1Exit (dev : Bool) : exec (.l1Exit p dev) s =
    .next (if prf s p.toNat PRT_STATE_LINK = 2 ∧ (l1Ready s p.toNat ∨ dev = true) then
      emit (setPort s p.toNat { portAt s p.toNat with l1Exit := true }) (.port p.toNat "drive K") else s) :=
  congrArg Host.Outcome.next (if_congr (by simp only [Bool.and_eq_true, Bool.or_eq_true, beq_iff_eq]) rfl rfl)

theorem exec_l1ExitLatencyEnd : exec (.l1ExitLatencyEnd p) s =
    .next (if prf s p.toNat PRT_STATE_LINK = 2 ∧ (portAt s p.toNat).l1Exit = true then
      pwf (setPort s p.toNat { portAt s p.toNat with l1Exit := false }) p.toNat PRT_STATE_LINK 1 else s) :=
  congrArg Host.Outcome.next (if_congr (by simp) rfl rfl)

/-! ### U1 and U2 (R200) -/

theorem exec_u1Entry : exec (.u1U2Entry p false) s =
    .next (if portState s p.toNat = 3 ∧ (portAt s p.toNat).ss = .up ∧ (portAt s p.toNat).wire = none
        ∧ prf s p.toNat PRT_LPM_U1_EN = 1 ∧ prf s p.toNat PRT_STATE_LINK = 1 then
      emit (pwf s p.toNat PRT_STATE_LINK 3) (.port p.toNat "u1") else s) :=
  congrArg Host.Outcome.next (if_congr (by simp [and_assoc, and_left_comm]) rfl rfl)

theorem exec_u2Entry : exec (.u1U2Entry p true) s =
    .next (if portState s p.toNat = 3 ∧ (portAt s p.toNat).ss = .up ∧ (portAt s p.toNat).wire = none
        ∧ prf s p.toNat PRT_LPM_U2_EN = 1 ∧ (prf s p.toNat PRT_STATE_LINK = 1 ∨ prf s p.toNat PRT_STATE_LINK = 3) then
      emit (pwf s p.toNat PRT_STATE_LINK 4) (.port p.toNat "u2") else s) :=
  congrArg Host.Outcome.next (if_congr (by simp [and_assoc, and_left_comm]) rfl rfl)

theorem exec_uExitEarly : exec (.uExitEarly p) s =
    .next (if portState s p.toNat = 3 ∧ (portAt s p.toNat).ss = .up
        ∧ (prf s p.toNat PRT_STATE_LINK = 3 ∨ prf s p.toNat PRT_STATE_LINK = 4) then
      emit (setPort s p.toNat { portAt s p.toNat with ss := .exiting }) (.port p.toNat "exit to u0") else s) :=
  congrArg Host.Outcome.next (if_congr (by simp [and_left_comm, and_comm]) rfl rfl)

end

/-- Settles O49: each command by the condition under which it acts. -/
theorem linkPower : Obligations.LinkPower := by
  refine ⟨fun s p => ⟨fun hc => ?charges, fun hc => ?notCharging, fun h => ?fault, fun h0 hc => ?off⟩,
    fun s p => ⟨fun h => ⟨?acked, ?refused⟩, fun h ack => ?awake, fun dev hl hr => ?leaves, fun dev h => ?stays, fun hl hx => ?left,
      fun h => ?notLeaving, ⟨fun h => ?u1, fun h => ?noU1, fun h => ?u2, fun h => ?noU2⟩, fun h => ?early, fun h => ?notAsleep⟩⟩
  case charges =>
    rw [exec_vbusCharged, exec_vbusChargeTimeout, if_pos hc, if_pos hc]
    exact ⟨rfl, rfl⟩
  case notCharging =>
    have hno : ¬ (portAt s p.toNat).charging = true := by simp [hc]
    rw [exec_vbusCharged, exec_vbusChargeTimeout, if_neg hno, if_neg hno]
    exact ⟨rfl, rfl⟩
  case fault => rw [exec_vbusFault, if_pos h]
  case off => rw [exec_vbusFault, if_neg (by simp [h0, hc])]
  case acked => exact (exec_l1Entry true).trans (congrArg _ (if_pos h))
  case refused => exact (exec_l1Entry false).trans (congrArg _ (if_pos h))
  case awake => exact (exec_l1Entry ack).trans (congrArg _ (if_neg h))
  case leaves => rw [exec_l1Exit, if_pos ⟨hl, hr⟩]
  case stays =>
    rw [exec_l1Exit, if_neg]
    rintro ⟨hl, hr⟩
    rcases h with h | ⟨hn, hd⟩
    · exact h hl
    · exact hr.elim hn (by simp [hd])
  case left => rw [exec_l1ExitLatencyEnd, if_pos ⟨hl, hx⟩]
  case notLeaving =>
    rw [exec_l1ExitLatencyEnd, if_neg]
    rintro ⟨hl, hx⟩
    exact h.elim (· hl) (by simp [hx])
  case u1 => rw [exec_u1Entry, if_pos h]
  case noU1 => rw [exec_u1Entry, if_neg h]
  case u2 => rw [exec_u2Entry, if_pos h]
  case noU2 => rw [exec_u2Entry, if_neg h]
  case early => rw [exec_uExitEarly, if_pos h]
  case notAsleep => rw [exec_uExitEarly, if_neg h]

end Sys2Proof.Machine
end

section
/-!
PROOFS. The service port (R87, R204 to R208, R266; O51).
-/
namespace Sys2Proof.Machine

/-! ### Host VBUS (R204) -/

/-- SVC_STATUS after a change of host VBUS, with the speed that the host would attach at. -/
def svcVbus (s : State) (hs b : Bool) : State := wb { s with prt := { s.prt with svcHs := hs } } pSvc SVC_STATUS_VBUS b

/-- Host VBUS does not decide whether the chip has power. -/
theorem svcPowered_svcVbus (s : State) (hs b : Bool) : svcPowered (svcVbus s hs b) = svcPowered s := by
  have hstate : rf (svcVbus s hs b) pPwr PWR_CHIP_STATE = rf s pPwr PWR_CHIP_STATE := rf_wf_ne _ _ _ _ _ _ (by decide)
  unfold svcPowered chipDeep
  rw [hstate]
  rfl

section
variable {s : State} {hs : Bool}

theorem exec_svcVbusChange (h : s.mgt.boot ≠ .unpowered) (b : Bool) : exec (.svcVbusChange b hs) s = .next (vbusChange s b hs) :=
  congrArg Host.Outcome.next (if_neg (by simpa using h))

theorem vbusChange_gone : vbusChange s false hs = svcDetach (svcVbus s hs false) := rfl

theorem vbusChange_present : vbusChange s true hs =
    if rb s pSvc SVC_STATUS_VBUS = true then s
    else if svcPowered s = true then svcAttach (svcVbus s hs true) else svcVbus s hs true := by
  refine if_congr (by simp) rfl ((if_pos rfl).trans (if_congr ?_ rfl rfl))
  exact Bool.eq_iff_iff.1 (svcPowered_svcVbus s hs true)

end

/-! ### Requests (R205 to R207) -/

/-- Endpoint 0x01 takes a request. -/
abbrev outReady (s : State) : Prop := s.svc.haltOut = false ∧ s.svc.job = none ∧ s.svc.resp = none

/-- A request of some bytes is taken: OUT_BUSY, and what runs of it. -/
def svcBusy (s : State) (n : Nat) (j : SvcJob) : State :=
  wb { s with svc := { s.svc with job := some j, togOut := togAfter s.svc.togOut (bulkPackets s n) } } pSvc SVC_STATUS_OUT_BUSY true

/-- What runs of a request that is too long: nothing, and its response reads ERROR. -/
def longJob (req : List Word) : SvcJob := { reqJob (req.take 4) with next := bits (dw req 3) 0 13, bad := some 0 }

section
variable {s : State} {req : List Word}

theorem exec_svcRequest {c : Instr}
    (hc : (c = .svcRequestRead req ∧ bits (dw req 0) 0 8 ≠ 2) ∨ (c = .svcRequestWrite req ∧ bits (dw req 0) 0 8 ≠ 1)) :
    exec c s = .next (svcRequest s req) := by
  rcases hc with ⟨rfl, ho⟩ | ⟨rfl, ho⟩
  all_goals exact congrArg Host.Outcome.next (if_neg (by simpa using ho))

theorem svcRequest_off (h : svcUp s = false ∨ pageOn s pSvc = false) : svcRequest s req = s := if_pos (by simpa using h)

section
variable (hu : svcUp s = true) (hp : pageOn s pSvc = true)
include hu hp

theorem svcRequest_stalls (hr : ¬ outReady s) : svcRequest s req = svcStalls s 0x01 := by
  refine (if_neg (by simp [hu, hp])).trans (if_pos ?_)
  simp only [outReady, ← Bool.not_eq_true] at hr
  simp only [Bool.or_eq_true, Option.isSome_iff_ne_none]
  tauto

section
variable (hr : outReady s)
include hr

theorem svcRequest_taken (hl : req.length ≤ 4100) : svcRequest s req = svcGo (svcBusy s (4 * req.length) (reqJob req)) := by
  obtain ⟨hh, hj, hr⟩ := hr
  refine (if_neg (by simp [hu, hp])).trans ((if_neg (by simp [hh, hj, hr])).trans ?_)
  simp only [decide_eq_false (Nat.not_lt.2 hl)]
  rfl

theorem svcRequest_long (hl : 4100 < req.length) : svcRequest s req = svcGo (svcStalls (svcBusy s 16400 (longJob req)) 0x01) := by
  obtain ⟨hh, hj, hr⟩ := hr
  refine (if_neg (by simp [hu, hp])).trans ((if_neg (by simp [hh, hj, hr])).trans ?_)
  simp only [decide_eq_true hl]
  rfl

end

end

end

/-! ### Records and responses (R205, R208) -/

section
variable {s : State}

/-- The record is read out, and clears. -/
def recordRead (s : State) : State :=
  wb (emit { s with svc := { s.svc with evt := 0, newRecs := 0, togEvt := !s.svc.togEvt } } (.svc (wordBytes (evtRecord s))))
    pSvc SVC_STATUS_EVT_PENDING false

theorem readEvents_eq : readEvents s = if svcUp s = false ∨ s.svc.evt = 0 then s else recordRead s := if_congr (by simp) rfl rfl

theorem readResponse_off (h : svcUp s = false) : readResponse s = s := if_pos (by simp [h])

section
variable (hu : svcUp s = true)
include hu

theorem readResponse_stalls (h : s.svc.resp = none ∨ s.svc.haltIn = true) : readResponse s = svcStalls s 0x81 := by
  refine (if_neg (by simp [hu])).trans ?_
  match hr : s.svc.resp with
  | none => rfl
  | some r => exact if_pos (h.resolve_left (by simp [hr]))

theorem readResponse_ready {r : List Word} (hr : s.svc.resp = some r) (hh : s.svc.haltIn = false) : readResponse s =
    wb (wb (emit { s with svc := { s.svc with resp := none, togIn := togAfter s.svc.togIn (bulkPackets s (4 * r.length)) } }
      (.svc (wordBytes r))) pSvc SVC_STATUS_OUT_BUSY false) pSvc SVC_STATUS_IN_READY false := by
  refine (if_neg (by simp [hu])).trans ?_
  simp only [hr]
  exact if_neg (by simp [hh])

end

/-! ### Halts and standard requests (R204, R205, R266) -/

theorem exec_svcClearHalt (hu : svcUp s = true) (ep : BitVec 8) : exec (.svcClearHalt ep) s =
    .next (if ep = 0x01 then { s with svc := { s.svc with haltOut := false, togOut := false } }
      else if ep = 0x81 then { s with svc := { s.svc with haltIn := false, togIn := false } }
      else if ep = 0x82 then { s with svc := { s.svc with togEvt := false } }
      else emit s (.svcStall 0x00)) := by
  refine congrArg Host.Outcome.next ((if_neg (by simp [hu])).trans ?_)
  simp only [beq_iff_eq]

theorem clearHalt_off (h : svcUp s = false) (ep : BitVec 8) : clearHalt s ep = s := if_pos (by simp [h])

theorem stdRequest_off (h : rb s pSvc SVC_STATUS_ATTACHED = false ∨ rb s pSvc SVC_STATUS_SUSPENDED = true) (r : SvcStd) :
    stdRequest s r = s := if_pos (by simpa using h)

/-- The meaning of a standard request on the attached device. -/
def stdAnswer (s : State) (r : SvcStd) : State :=
  match r with
  | .deviceDescriptor => emit s (.svcDevice Config.vendorId)
  | .interfaceDescriptor => emit s (.svcInterface 0xFF 0x01 0x01 true)
  | .serialString => emit s (.svcSerial (serialDigits Config.dieSerial))
  | .setAddress a => wf s pSvc SVC_STATUS_ADDRESS a.toNat
  | .setConfiguration v => svcVotes (wb { s with svc := { s.svc with
      haltOut := false, haltIn := false, togOut := false, togIn := false, togEvt := false } } pSvc SVC_STATUS_CONFIGURED (v != 0))
  | .other => s
  | .unsupported => emit s (.svcStall 0x00)

theorem exec_svcStandardRequest (ha : rb s pSvc SVC_STATUS_ATTACHED = true) (hs : rb s pSvc SVC_STATUS_SUSPENDED = false) (r : SvcStd) :
    exec (.svcStandardRequest r) s = .next (stdAnswer s r) := by
  refine congrArg Host.Outcome.next ((if_neg (by simp [ha, hs])).trans ?_)
  cases r <;> rfl

end

/-- Settles O51: host VBUS by the power of the chip, a request by what its endpoint holds, the rest by what the host can reach. -/
theorem servicePort : Obligations.ServicePort := by
  refine ⟨fun s hs => ⟨fun hb b => ?unpowered, fun hb => ⟨?gone, fun hv => ?stays, fun hv hp => ?attaches, fun hv hp => ?noPower⟩⟩,
    fun s req c hc => ⟨fun h => ?off, fun hu hp hr => ?stalls, fun hu hp hr hl => ?taken, fun hu hp hr hl => ?long⟩,
    fun s req => ⟨fun ho => ?otherRead, fun ho => ?otherWrite⟩,
    fun s => ⟨fun hu he => ?record, fun h => ?noRecord, fun r hu hr hh => ?response, fun hu h => ?noResponse, fun hu => ?deaf⟩,
    fun s => ⟨fun hu => ?clears, fun ep hu h1 h2 h3 => ?unsupported, fun ep hu => ?unreached,
      fun b => ⟨fun ha => ?suspends, fun ha => ?detached⟩, fun r h => ?notAttached, fun ha hs => ?standard⟩⟩
  case unpowered => exact congrArg Host.Outcome.next (if_pos (by simp [hb]))
  case gone => exact (exec_svcVbusChange hb false).trans (congrArg _ vbusChange_gone)
  case stays => rw [exec_svcVbusChange hb, vbusChange_present, if_pos hv]
  case attaches =>
    rw [exec_svcVbusChange hb, vbusChange_present, if_neg (by simp [hv]), if_pos hp]
    rfl
  case noPower =>
    rw [exec_svcVbusChange hb, vbusChange_present, if_neg (by simp [hv]), if_neg (by simp [hp])]
    rfl
  case off => rw [exec_svcRequest hc, svcRequest_off h]
  case stalls => rw [exec_svcRequest hc, svcRequest_stalls hu hp hr]
  case taken => exact (exec_svcRequest hc).trans (congrArg _ (svcRequest_taken hu hp hr hl))
  case long => exact (exec_svcRequest hc).trans (congrArg _ (svcRequest_long hu hp hr hl))
  case otherRead => exact congrArg Host.Outcome.next (if_pos (by simpa using ho))
  case otherWrite => exact congrArg Host.Outcome.next (if_pos (by simpa using ho))
  case record => exact congrArg Host.Outcome.next (readEvents_eq.trans (if_neg (by simpa [hu] using he)))
  case noRecord => exact congrArg Host.Outcome.next (readEvents_eq.trans (if_pos h))
  case response => exact congrArg Host.Outcome.next (readResponse_ready hu hr hh)
  case noResponse => exact congrArg Host.Outcome.next (readResponse_stalls hu h)
  case deaf => exact congrArg Host.Outcome.next (readResponse_off hu)
  case clears => exact ⟨exec_svcClearHalt hu 0x01, exec_svcClearHalt hu 0x81, exec_svcClearHalt hu 0x82⟩
  case unsupported => rw [exec_svcClearHalt hu, if_neg h1, if_neg h2, if_neg h3]
  case unreached => exact congrArg Host.Outcome.next (clearHalt_off hu ep)
  case suspends => exact congrArg Host.Outcome.next (if_pos ha)
  case detached => exact congrArg Host.Outcome.next (if_neg (by simp [ha]))
  case notAttached => exact congrArg Host.Outcome.next (stdRequest_off h r)
  case standard =>
    have hstd (r : SvcStd) := exec_svcStandardRequest ha hs r
    exact ⟨hstd .deviceDescriptor, hstd .interfaceDescriptor, hstd .serialString, fun a => hstd (.setAddress a),
      fun v => hstd (.setConfiguration v), hstd .other, hstd .unsupported⟩

end Sys2Proof.Machine
end

section
/-!
SUPPORT. What a report to the Fault Funnel leaves (R257, R283 to R291, R351): whatever depends neither on the ring, the faults, the service port,
the sideband, the instances and the outputs, nor on the registers of pages RING, FLT, TEN and SVC; and what an ECC error leaves (R213, R214). One
lemma for each operation on the way, over what it leaves.
-/
namespace Sys2Proof.Machine

/-- The pages whose registers a report writes. -/
def reportPages : List Nat := [pRing, pFlt, pTen, pSvc]

/-- What reads no part of the state that a report changes. -/
structure BesideReport {α : Type} (f : State → α) : Prop where
  wr : ∀ s a v, a / 0x1000 ∈ reportPages → f (wr s a v) = f s
  ring : ∀ (s : State) x, f { s with ring := x } = f s
  flt : ∀ (s : State) x, f { s with flt := x } = f s
  svc : ∀ (s : State) x, f { s with svc := x } = f s
  sbd : ∀ (s : State) x, f { s with sbd := x } = f s
  inst : ∀ (s : State) x, f { s with inst := x } = f s
  out : ∀ (s : State) x, f { s with out := x } = f s

/-- Operations in turn leave what each of them leaves. -/
theorem each_beside {α β : Type} {f : State → β} {l : List α} {g : State → α → State} (hg : ∀ s a, f (g s a) = f s) (s : State) :
    f (each l s g) = f s := by
  unfold each
  induction l generalizing s with
  | nil => rfl
  | cons a l ih => exact (ih (g s a)).trans (hg s a)

/-- An error bit is two writes of registers of its page. -/
theorem errBit_beside {α : Type} {f : State → α} {page : Nat}
    (hf : ∀ s off v, off = 0x020 ∨ off = 0x028 → f (wr s (adr page off) v) = f s) (s : State) (n : Nat) :
    f (errBit s page n) = f s := by
  unfold errBit
  dsimp only
  rw [hf _ _ _ (.inl rfl)]
  split
  · exact hf _ _ _ (.inr rfl)
  · rfl

namespace BesideReport
variable {α : Type} {f : State → α} (h : BesideReport f)
include h

theorem wf (s : State) {page : Nat} {g : Fld} (v : Nat) (hp : adr page g.off / 0x1000 ∈ reportPages) : f (wf s page g v) = f s :=
  h.wr _ _ _ hp

theorem incF (s : State) {page : Nat} {g : Fld} (hp : adr page g.off / 0x1000 ∈ reportPages) : f (incF s page g) = f s := h.wf _ _ hp

theorem setRec (s : State) (i : Nat) (r : Rec) : f (setRec s i r) = f s := h.flt _ _

/-! ### Cells -/

theorem enqueue (s : State) (ringB transit : Bool) (c : Cell) : f (enqueue s ringB transit c) = f s := by
  have hqueue (b : Bool) (c : Cell) : f (queueCell s b transit c) = f s := by cases b <;> exact h.ring _ _
  unfold Machine.enqueue
  split_ifs
  · exact hqueue _ _
  · exact hqueue _ _
  · rfl
  · exact h.incF _ (by decide)

theorem submit (s : State) (c : Cell) : f (submit s c) = f s := by
  have hinject (s : State) : f (inject s c) = f s := (h.enqueue _ _ _ _).trans (h.ring _ _)
  unfold Machine.submit
  dsimp only
  split_ifs
  · rfl
  · rfl
  · exact h.ring _ _
  · exact hinject _
  · exact h.ring _ _
  · exact (hinject _).trans (h.ring _ _)

/-! ### Events -/

theorem msix (s : State) (o : Owner) (v : BitVec 8) : f (msix s o v) = f s := by
  unfold Machine.msix
  dsimp only
  split
  · exact h.inst _ _
  · exact h.out _ _

theorem posEvent (s : State) (p : Nat) : f (posEvent s p) = f s := by
  have hbit (v : Word) : f (Machine.wr s (adr pTen (if p < 32 then 0x09C else 0x0A0)) v) = f s :=
    h.wr _ _ _ (by split <;> decide)
  unfold Machine.posEvent
  generalize adr pTen (if p < 32 then 0x09C else 0x0A0) = a at hbit
  dsimp only
  split
  · exact (h.msix _ _ _).trans (hbit _)
  · exact hbit _

theorem pageIntr (s : State) : f (pageIntr s) = f s := by
  unfold Machine.pageIntr
  split_ifs
  · rfl
  · exact h.submit _ _
  · exact h.posEvent _ _

theorem rootCause (s : State) : f (rootCause s) = f s := by
  have hsvc (s : State) : f (svcEvt s .fault) = f s := (h.wf _ _ (by decide)).trans (h.svc _ _)
  have hevt (s : State) : f (evt s pFlt 0) = f s := (each_beside (fun s _ => h.pageIntr s) _).trans (h.wr _ _ _ (by decide))
  exact (hsvc _).trans ((hevt _).trans (h.svc _ _))

/-! ### The Fault Funnel -/

theorem overflowRec (s : State) : f (overflowRec s) = f s := by
  have hlost (s : State) : f (errBit (Machine.incF s pFlt FLT_COUNTS_LOST) pFlt 0) = f s :=
    (errBit_beside (fun _ _ _ ho => h.wr _ _ _ (by rcases ho with rfl | rfl <;> decide)) _ _).trans (h.incF _ (by decide))
  unfold Machine.overflowRec
  dsimp only
  split
  · exact (h.rootCause _).trans ((hlost _).trans (h.setRec _ _ _))
  · exact (hlost _).trans (h.setRec _ _ _)

theorem sbdFault (s : State) (l : BitVec 64) (code : BitVec 16) : f (sbdFault s l code) = f s := by
  unfold Machine.sbdFault
  dsimp only
  split
  · rfl
  · exact h.sbd _ _

theorem chipLost (s : State) (i : Nat) : f (chipLost s i) = f s := by
  unfold Machine.chipLost
  dsimp only
  split
  · rfl
  · split
    · split
      · rw [h.sbdFault, h.setRec, h.setRec]
      · rfl
    · rfl

/-- A report leaves what it does not touch. -/
theorem report (s : State) (l : BitVec 64) (code : BitVec 16) : f (report s l code) = f s := by
  have htold (t : State) : f (if true = true then tellHead t l code else t) = f t := by
    rw [if_pos rfl, tellHead]
    split
    · exact h.submit _ _
    · rfl
  have hcount (i : Nat) (r : Rec) : f (countUnder s i r) = f s := (h.incF _ (by decide)).trans (h.setRec _ _ _)
  unfold Machine.report funnel funnelWith
  dsimp only
  split
  · split
    · exact h.incF _ (by decide)
    · exact hcount _ _
  · split
    · exact (htold _).trans (h.incF _ (by decide))
    · split
      · exact hcount _ _
      · split
        · exact (h.chipLost _ _).trans ((htold _).trans ((h.flt _ _).trans (h.setRec _ _ _)))
        · exact (htold _).trans (h.overflowRec _)

end BesideReport

/-! ### What an ECC error leaves (R213, R214) -/

/-- What reads neither what a report changes, nor the registers of page EBM, nor the words known to be bad. -/
structure BesideEcc {α : Type} (f : State → α) : Prop extends BesideReport f where
  ebmReg : ∀ s off v, f (Machine.wr s (adr pEbm off) v) = f s
  bad : ∀ (s : State) x, f { s with ebmBad := x } = f s

theorem reportRef_fst (s : State) (l : BitVec 64) (code : BitVec 16) : (reportRef s l code).1 = Machine.report s l code := rfl

namespace BesideEcc
variable {α : Type} {f : State → α} (h : BesideEcc f)
include h

theorem eccCount (s : State) (a : Nat) (ue : Bool) : f (eccCount s a ue) = f s := by
  have hbad (s : State) : f (markBad s a) = f s := by
    unfold markBad
    dsimp only
    split
    · rfl
    · exact h.bad _ _
  refine (h.ebmReg _ _ _).trans ((h.ebmReg _ _ _).trans ?_)
  split
  · exact hbad s
  · rfl

/-- The log of an uncorrectable error. -/
theorem eccLog (s : State) (a : Nat) : f (eccLog s a true) = f s := by
  rw [Machine.eccLog, if_pos rfl, eccReport, reportRef_fst, h.report, errBit_beside fun s off v _ => h.ebmReg s off v, h.eccCount]

/-- A write of EBM meets the errors of the words that it changes in part. -/
theorem ebmWrote (s : State) (a n : Nat) : f (ebmWrote s a n) = f s := by
  unfold Machine.ebmWrote
  exact (each_beside (fun s w => h.eccLog s (8 * w)) _).trans (h.bad _ _)

theorem each_ebmWrote (s : State) (rs : List (Nat × Nat)) : f (each rs s fun s r => Machine.ebmWrote s r.1 r.2) = f s := by
  apply each_beside
  intro s r
  exact h.ebmWrote s r.1 r.2

end BesideEcc

/-! ### What stands beside a report -/

theorem besideReport_ebm : BesideReport State.ebm := by constructor <;> intros <;> rfl

theorem besideReport_ctx : BesideReport State.ctx := by constructor <;> intros <;> rfl

theorem besideReport_seq : BesideReport State.seq := by constructor <;> intros <;> rfl

theorem besideReport_pwr : BesideReport State.pwr := by constructor <;> intros <;> rfl

/-- A register of another page. -/
theorem besideReport_rd {a : Nat} (ha : a / 0x1000 ∉ reportPages) : BesideReport (fun s => rd s a) where
  wr s b v hb := rd_wr_ne s b a v fun heq => ha (heq ▸ hb)
  ring _ _ := rfl
  flt _ _ := rfl
  svc _ _ := rfl
  sbd _ _ := rfl
  inst _ _ := rfl
  out _ _ := rfl

theorem besideEcc_ebm : BesideEcc State.ebm := ⟨besideReport_ebm, fun _ _ _ => rfl, fun _ _ => rfl⟩

theorem besideEcc_ctx : BesideEcc State.ctx := ⟨besideReport_ctx, fun _ _ _ => rfl, fun _ _ => rfl⟩

end Sys2Proof.Machine
end

section
/-!
PROOFS. The bytes that an endpoint's buffer takes (R209 to R211, R213; O46).
-/
namespace Sys2Proof.Machine

/-! ### Bytes written at addresses of their own -/

/-- The bytes of a list, numbered from n, each written at the address that its number has. -/
def memScatter (g : Nat → Nat) (d : List Byte) (n : Nat) (m : Tab Byte) : Tab Byte :=
  (d.zipIdx n).foldl (fun m p => memSet m (g p.2) p.1) m

/-- Every other byte of the memory stays. -/
theorem memGet_memScatter_other {g : Nat → Nat} {d : List Byte} {n a : Nat} (m : Tab Byte) (h : ∀ k, k < d.length → a ≠ g (n + k)) :
    memGet (memScatter g d n m) a = memGet m a := by
  induction d generalizing n m with
  | nil => rfl
  | cons b d ih =>
    have hrest : ∀ k, k < d.length → a ≠ g (n + 1 + k) := fun k hk => by
      simpa only [Nat.add_assoc, Nat.add_comm 1 k] using h (k + 1) (Nat.succ_lt_succ hk)
    exact (ih (memSet m (g n) b) hrest).trans ((memGet_set _ _ _ _).trans (if_neg (h 0 (Nat.succ_pos _))))

/-- Where no two numbers share an address, each byte stands at its own. -/
theorem memGet_memScatter {g : Nat → Nat} {d : List Byte} {n : Nat} (m : Tab Byte)
    (hg : ∀ i j, i < j → j < d.length → g (n + i) ≠ g (n + j)) {k : Nat} (hk : k < d.length) :
    memGet (memScatter g d n m) (g (n + k)) = d.getD k 0 := by
  induction d generalizing n m k with
  | nil => exact absurd hk (Nat.not_lt_zero k)
  | cons b d ih =>
    have hshift (j : Nat) : n + 1 + j = n + (j + 1) := by omega
    cases k with
    | zero =>
      have hlater : memGet (memScatter g d (n + 1) (memSet m (g n) b)) (g n) = memGet (memSet m (g n) b) (g n) :=
        memGet_memScatter_other _ fun j hj => hshift j ▸ hg 0 (j + 1) (Nat.succ_pos j) (Nat.succ_lt_succ hj)
      exact hlater.trans ((memGet_set _ _ _ _).trans (if_pos rfl))
    | succ k =>
      have hrest : ∀ i j, i < j → j < d.length → g (n + 1 + i) ≠ g (n + 1 + j) := fun i j hij hj => by
        rw [hshift, hshift]
        exact hg (i + 1) (j + 1) (Nat.succ_lt_succ hij) (Nat.succ_lt_succ hj)
      have hat := ih (memSet m (g n) b) hrest (Nat.lt_of_succ_lt_succ hk)
      rw [hshift] at hat
      exact hat

/-! ### The addresses of a buffer (R211) -/

/-- Distances that differ by less than the size of a buffer have addresses of their own. -/
theorem bufAddr_ne {e : Ep} {i j : Nat} (hij : i < j) (hj : j < i + clsSize e.cls) : bufAddr e i ≠ bufAddr e j := by
  intro heq
  have hmod : (e.head - e.buf + i) ≡ (e.head - e.buf + j) [MOD clsSize e.cls] := Nat.add_left_cancel heq
  have hdvd : clsSize e.cls ∣ j - i := (Nat.modEq_iff_dvd' (Nat.le_of_lt hij)).1 (Nat.ModEq.add_left_cancel' _ hmod)
  have := Nat.le_of_dvd (by omega) hdvd
  omega

/-! ### Bytes put in a buffer -/

section
variable {s : State} {c : Nat} {e : Ep} (he : epAt s c = some e) (d : List Byte)
include he

/-- The bytes go to the addresses after those that the buffer holds. -/
theorem bufPut_ebm : (bufPut s c d).ebm = memScatter (fun k => bufAddr e (e.fill + k)) d 0 s.ebm := by
  rw [bufPut, he]
  dsimp only
  rw [besideEcc_ebm.each_ebmWrote, setEp_ebm, memScatter]

/-- The endpoint counts the bytes that it has been given, as far as its buffer reaches. -/
theorem epAt_bufPut : epAt (bufPut s c d) c = some { e with fill := min (clsSize e.cls) (e.fill + d.length) } := by
  rw [bufPut, he]
  dsimp only
  rw [epAt_of (besideEcc_ctx.each_ebmWrote _ _), epAt_setEp_self]

end

/-- Settles O46: the bytes fit, so the addresses of a buffer that turns over once at most differ; an ECC error that the write meets changes no
byte. -/
theorem bufferBytes : Obligations.BufferBytes := by
  intro s c e d he _ _ hfit
  have hown : ∀ i j, i < j → j < d.length → bufAddr e (e.fill + (0 + i)) ≠ bufAddr e (e.fill + (0 + j)) :=
    fun i j hij hj => bufAddr_ne (by omega) (by omega)
  refine ⟨fun k hk => ?put, fun a ha => ?kept, _, epAt_bufPut he d, Nat.min_eq_right hfit, rfl⟩
  case put =>
    rw [bufPut_ebm he d, ← Nat.zero_add k]
    exact (memGet_memScatter (g := fun k => bufAddr e (e.fill + k)) s.ebm hown hk).trans (by rw [Nat.zero_add])
  case kept =>
    rw [bufPut_ebm he d]
    exact memGet_memScatter_other s.ebm fun k hk => by simpa using ha k hk

end Sys2Proof.Machine
end

section
/-!
PROOFS. Scrubbing, refresh and the sensors of EBM, and ARB_CLEAR (R214 to R216, R239, R280, R352; O53).
-/
namespace Sys2Proof.Machine

/-! ### Scrub ticks (R215) -/

/-- The scrubber works. -/
abbrev scrubs (s : State) : Prop := s.mgt.boot = .running ∧ chipDeep s = false ∧ rb s pEbm EBM_SCRUB_ENABLE = true

theorem exec_scrubTick (s : State) (errs : List EccHit) (ws : List (BitVec 16)) :
    exec (.scrubTick errs ws) s = .next (if scrubs s then scrub s errs ws else s) :=
  congrArg Host.Outcome.next (if_congr (by simp [scrubs, and_assoc]) rfl rfl)

/-- The state of a tick when its groups have been read and their errors met. -/
def scrubMet (s : State) (errs : List EccHit) (ws : List (BitVec 16)) : State :=
  let lit := (List.range 8).filter (bankLit s)
  let bad := lit.flatMap fun b => badWords s (scrubGroup s.seq.scrub b) 64
  let new := errs.filter fun h => lit.any (fun b => h.addr.toNat / 64 * 64 == scrubGroup s.seq.scrub b) && !bad.contains (h.addr.toNat / 8)
  let asked := each lit s fun s b => bankAsk s ⟨b, 255, 0, 1, (ws.getD b 0).toNat, false⟩
  each new (each bad asked fun s w => eccLog s (8 * w) true) fun s h => eccLog s h.addr.toNat h.ue

/-- The tick counts on, or ends its pass. -/
theorem scrub_eq (s : State) (errs : List EccHit) (ws : List (BitVec 16)) :
    scrub s errs ws =
      if (scrubMet s errs ws).seq.scrub + 1 < 65536 then
        { scrubMet s errs ws with seq := { (scrubMet s errs ws).seq with scrub := (scrubMet s errs ws).seq.scrub + 1 } }
      else incF { scrubMet s errs ws with seq := { (scrubMet s errs ws).seq with scrub := 0 } } pEbm EBM_SCRUB_PASSES := rfl

/-! ### Refresh (R216, R280) -/

theorem exec_refreshRow (s : State) (b : BitVec 3) (w : BitVec 16) :
    exec (.refreshRow b w) s = .next (if refreshes s = true then refreshNext s b.toNat w.toNat else s) := rfl

theorem exec_tempSample (s : State) (b : BitVec 3) (tj : BitVec 8) :
    exec (.tempSample b tj) s = .next (if refreshes s = true then sample s b.toNat tj.toInt else s) := rfl

/-- The two registers that show the refresh are all that it changes. -/
theorem showRefresh_frame (s : State) : (showRefresh s).seq = s.seq ∧ (showRefresh s).ebm = s.ebm ∧ (showRefresh s).pwr = s.pwr
    ∧ (showRefresh s).out = s.out := ⟨rfl, rfl, rfl, rfl⟩

theorem rd_showRefresh (s : State) {a : Nat} (he : a ≠ adr pEbm 0x04C) (ha : a ≠ adr pAon 0x058) : rd (showRefresh s) a = rd s a :=
  (rd_wr_ne _ _ _ _ ha).trans (rd_wr_ne _ _ _ _ he)

/-- A bank's request changes its arbiter alone. -/
theorem bankAsk_frame (s : State) (r : BankReq) : (bankAsk s r).seq = s.seq ∧ (bankAsk s r).ebm = s.ebm := by
  unfold bankAsk bankGrant
  dsimp only
  split_ifs <;> exact ⟨rfl, rfl⟩

/-- The row of a bank has moved on, and its interval is the one that the sensor wanted. -/
theorem refreshNext_frame (s : State) (b w : Nat) :
    (refreshNext s b w).seq = { s.seq with
      rows := setCnt s.seq.rows b ((cnt s.seq.rows b + 1) % 2048), used := setCnt s.seq.used b (cnt s.seq.want b) }
    ∧ (refreshNext s b w).ebm = s.ebm := by
  unfold refreshNext
  dsimp only
  obtain ⟨hseq, hebm, -, -⟩ := showRefresh_frame _
  rw [hseq, hebm]
  split
  · exact bankAsk_frame _ _
  · exact ⟨rfl, rfl⟩

/-! ### The sensors (R216, R352) -/

/-- The state when a bank's sensor has been sampled and its interval chosen. -/
def sampled (s : State) (b : Nat) (t : Int) : State :=
  showRefresh { s with
    pwr := { s.pwr with tj := tabSet (fun _ => (0 : Int)) s.pwr.tj b t }
    seq := { s.seq with want := setCnt s.seq.want b (ivalNext (cnt s.seq.want b) t) } }

/-- TJ_HIGH set and reported. -/
def tooHot (s : State) : State := report (errBit s pEbm 2) (chipLoc s) 0x61

/-- A sample is shown, and TJ_HIGH may be set beside. -/
theorem sample_eq (s : State) (b : Nat) (t : Int) :
    sample s b t = if t > 105 && !chipDeep (sampled s b t) && (bankTj s b ≤ 105 || !bit (rd (sampled s b t) (adr pEbm 0x020)) 2)
      then tooHot (sampled s b t) else sampled s b t := rfl

theorem sample_cool {s : State} {b : Nat} {t : Int} (h : t ≤ 105) : sample s b t = sampled s b t :=
  (sample_eq s b t).trans (if_neg (by simp [Int.not_lt.2 h]))

/-- The sensor of a bank that was not hot crosses 105 °C. -/
theorem sample_crosses {s : State} {b : Nat} {t : Int} (h : 105 < t) (hd : chipDeep s = false) (hb : bankTj s b ≤ 105) :
    sample s b t = tooHot (sampled s b t) := by
  have hdeep : chipDeep (sampled s b t) = false := by
    unfold chipDeep rf at hd ⊢
    rw [sampled, rd_showRefresh _ (by decide) (by decide)]
    exact hd
  exact (sample_eq s b t).trans (if_pos (by simp [h, hdeep, hb]))

/-- TJ_HIGH and its report leave what is beside them. -/
theorem sample_beside {α : Type} {f : State → α} (hf : BesideReport f) (he : ∀ s off v, f (wr s (adr pEbm off) v) = f s)
    (s : State) (b : Nat) (t : Int) : f (sample s b t) = f (sampled s b t) := by
  rw [sample_eq]
  split
  · exact (hf.report _ _ _).trans (errBit_beside (fun s off v _ => he s off v) _ _)
  · rfl

/-- The error bit that is set reads 1, if its page has it. -/
theorem bit_errBit (s : State) {page n : Nat} (h : (bitW n &&& BitVec.ofNat 32 (errBits page)).getLsbD n = true) :
    bit (rd (errBit s page n) (adr page 0x020)) n = true := by
  unfold errBit
  rw [rd_wr_self, bit_eq_getLsbD, BitVec.getLsbD_or, h, Bool.or_true]

theorem bit_tooHot (s : State) : bit (rd (tooHot s) (adr pEbm 0x020)) 2 = true := by
  rw [tooHot, (besideReport_rd (a := adr pEbm 0x020) (by decide)).report]
  exact bit_errBit s (by decide)

/-- A sample shows its bank's temperature and takes the interval for it, beside the bytes of EBM. -/
theorem sample_frame (s : State) (b : Nat) (t : Int) : bankTj (sample s b t) b = t
    ∧ cnt (sample s b t).seq.want b = ivalNext (cnt s.seq.want b) t ∧ (sample s b t).ebm = s.ebm := by
  obtain ⟨hseq, hebm, hpwr, -⟩ := showRefresh_frame { s with
    pwr := { s.pwr with tj := tabSet (fun _ => (0 : Int)) s.pwr.tj b t }
    seq := { s.seq with want := setCnt s.seq.want b (ivalNext (cnt s.seq.want b) t) } }
  rw [bankTj, sample_beside besideReport_pwr (fun _ _ _ => rfl), sample_beside besideReport_seq (fun _ _ _ => rfl),
    sample_beside besideReport_ebm (fun _ _ _ => rfl), sampled, hseq, hebm, hpwr]
  exact ⟨tabGet_set_self _ _ _ _, (cnt_setCnt _ _ _ _).trans (if_pos rfl), rfl⟩

/-! ### The arbiters' counters (R239) -/

theorem exec_arbClear {s : State} {src : Src} (h : gate s src pArb 0x050 true = .ok) : exec (.arbClear src) s = .next { s with arb := [] } :=
  congrArg Host.Outcome.next (gatedW_ok h)

/-- Settles O53: a tick by what its groups hold, a row and a sample by what they leave. -/
theorem ebmCare : Obligations.EbmCare := by
  refine ⟨fun s errs ws => ⟨fun h => ?off, fun h hlt => ?counts, fun h hge => ?passes⟩,
    fun s b w tj => ⟨fun h => ?unrefreshed, fun h => ⟨?row, ?temperature⟩⟩, fun s src => exec_arbClear⟩
  case off => rw [exec_scrubTick, if_neg h]
  case counts => exact (exec_scrubTick s errs ws).trans (congrArg _ ((if_pos h).trans ((scrub_eq s errs ws).trans (if_pos hlt))))
  case passes =>
    exact (exec_scrubTick s errs ws).trans (congrArg _ ((if_pos h).trans ((scrub_eq s errs ws).trans (if_neg (Nat.not_lt.2 hge)))))
  case unrefreshed =>
    rw [exec_refreshRow, exec_tempSample, if_neg (by simp [h]), if_neg (by simp [h])]
    exact ⟨rfl, rfl⟩
  case row =>
    obtain ⟨hseq, hebm⟩ := refreshNext_frame s b.toNat w.toNat
    refine ⟨refreshNext s b.toNat w.toNat, congrArg _ (if_pos h), ?_, ?_, hebm⟩
    · rw [hseq]
      exact (cnt_setCnt _ _ _ _).trans (if_pos rfl)
    · rw [hseq]
      exact (cnt_setCnt _ _ _ _).trans (if_pos rfl)
  case temperature =>
    obtain ⟨htj, hwant, hebm⟩ := sample_frame s b.toNat tj.toInt
    refine ⟨sample s b.toNat tj.toInt, congrArg _ (if_pos h), htj, hwant, hebm, fun hcool => ?_, fun hhot hd hb => ?_⟩
    · rw [sample_cool hcool]
      rfl
    · rw [sample_crosses hhot hd hb]
      exact bit_tooHot _

end Sys2Proof.Machine
end

section
/-!
PROOFS. Writes of DMA_CTRL, and what ends, pauses and starts the transfers of the channels (R217 to R229; O52).
-/
namespace Sys2Proof.Machine

theorem isSoft_soft {ch : BitVec 6} (h : 48 ≤ ch.toNat) : isSoft ch.toNat = true := by
  simpa [isSoft, h] using ch.isLt

theorem isSoft_planner {n : Nat} (h : n < 48) : isSoft n = false := by simp [isSoft, h]

/-! ### Writes of DMA_CTRL (R217, R219, R226) -/

/-- The commands that write DMA_CTRL of a channel, each with its word and the descriptor that a chain starts with. -/
def ctrlWrites (s : State) (src : Src) (ch : BitVec 6) (v : Word) (d : Option (List Word)) : List (Instr × Word × Option (List Word)) :=
  [(.dmaStartSingle src ch v, (v ||| bitW 0) &&& ~~~ bitW 2, none), (.dmaStartChain src ch v d, v ||| bitW 0 ||| bitW 2, d),
    (.dmaPause src ch, ctrlWord s ch.toNat ||| bitW 1, none), (.dmaResume src ch, ctrlWord s ch.toNat &&& ~~~ bitW 1, none),
    (.dmaStop src ch, ctrlWord s ch.toNat ||| bitW 11, none)]

theorem exec_ctrlWrite {s : State} {src : Src} {ch : BitVec 6} {v w : Word} {d x : Option (List Word)} {c : Instr}
    (hc : (c, w, x) ∈ ctrlWrites s src ch v d) : exec c s = .next (dmaCtrlCmd s src ch.toNat w x) := by
  simp only [ctrlWrites, List.mem_cons, Prod.mk.injEq, List.not_mem_nil, or_false] at hc
  obtain ⟨rfl, rfl, rfl⟩ | ⟨rfl, rfl, rfl⟩ | ⟨rfl, rfl, rfl⟩ | ⟨rfl, rfl, rfl⟩ | ⟨rfl, rfl, rfl⟩ := hc
  all_goals rfl

section
variable {s : State} {n : Nat} {v : Word} {x : Option (List Word)}

theorem dmaCtrlCmd_planner {src : Src} (hg : gate s src (dmaPage n) (ctrlOff n) true = .ok) (h : n < 48) :
    dmaCtrlCmd s src n v x = refuseAccess s src (dmaPage n) (ctrlOff n) true 1 false := (gatedW_ok hg).trans (if_pos h)

theorem dmaCtrlCmd_soft {src : Src} (hg : gate s src (dmaPage n) (ctrlOff n) true = .ok) (h : 48 ≤ n) :
    dmaCtrlCmd s src n v x = dmaCtrl s n v x := (gatedW_ok hg).trans (if_neg (Nat.not_lt.2 h))

theorem dmaCtrl_free (h : cState s n = 0 ∨ cState s n = 7) :
    dmaCtrl s n v x = if bit v 0 && !bit v 11 then chanStart (writeFields s (dmaPage n) (ctrlOff n) v) n x
      else writeFields s (dmaPage n) (ctrlOff n) v := if_pos (by simpa using h)

theorem dmaCtrl_busy (h : ¬ (cState s n = 0 ∨ cState s n = 7)) : dmaCtrl s n v x = ctrlBusy s n v := if_neg (by simpa using h)

end

/-! ### A barrier, a lost descriptor, and the pace timer (R221, R227, R228) -/

section
variable {s : State} {n : Nat} {next : Option (List Word)}

theorem barrierDone_waits (h : isSoft n = false ∨ cState s n ≠ 5) : barrierDone s n next = s := if_pos (by simpa using h)

theorem barrierDone_chain (hs : isSoft n = true) (h5 : cState s n = 5) (hc : (chanAt s n).chain = true) :
    barrierDone s n next = descFinish s n (chanAt s n).barrier next := (if_neg (by simp [hs, h5])).trans (if_pos hc)

theorem barrierDone_single (hs : isSoft n = true) (h5 : cState s n = 5) (hc : (chanAt s n).chain = false) :
    barrierDone s n next = if (chanAt s n).barrier = 0 then chanDone (if ctl s n DMA_CTRL_IRQ then chanEvt s n 1 else s) n
      else chanError (chanErr s n 0) n :=
  (if_neg (by simp [hs, h5])).trans ((if_neg (by simp [hc])).trans (if_congr beq_iff_eq rfl rfl))

theorem descLost_waits (h : isSoft n = false ∨ chanGoes s n = false ∨ (chanAt s n).chain = false ∨ (chanAt s n).desc ≠ none) :
    descLost s n = s := if_pos (by simpa [Option.isSome_iff_ne_none, or_assoc] using h)

theorem descLost_loses (hs : isSoft n = true) (hg : chanGoes s n = true) (hc : (chanAt s n).chain = true) (hd : (chanAt s n).desc = none) :
    descLost s n = chanError (chanErr (setChan s n { chanAt s n with chain := false }) n 1) n := if_neg (by simp [hs, hg, hc, hd])

theorem exec_dmaPaceTimer {ch : BitVec 6} : exec (.dmaPaceTimer ch) s =
    .next (if isSoft ch.toNat = true ∧ crf s ch.toNat DMA_PACE_SRC = 1 then paceEvent s ch.toNat else s) :=
  congrArg Host.Outcome.next (if_congr (by simp) rfl rfl)

theorem paceEvent_idle (h : cState s n = 0 ∨ cState s n = 7) : paceEvent s n = s := if_pos (by simpa using h)

theorem paceEvent_starts (h : cState s n = 4) : paceEvent s n = chanRun s n := (if_neg (by simp [h])).trans (if_pos (by simp [h]))

theorem paceEvent_counted (h0 : cState s n ≠ 0) (h7 : cState s n ≠ 7) (h4 : cState s n ≠ 4) :
    paceEvent s n = if crf s n DMA_STATUS_PACE_PENDING = 255 then chanErr s n 3
      else cwf s n DMA_STATUS_PACE_PENDING (crf s n DMA_STATUS_PACE_PENDING + 1) :=
  (if_neg (by simp [h0, h7])).trans ((if_neg (by simp [h4])).trans (if_congr beq_iff_eq rfl rfl))

end

/-! ### The end of a transfer (R213, R220, R221) -/

/-- A chain that waits for its descriptor. -/
abbrev undescribed (s : State) (n : Nat) : Prop := (chanAt s n).chain = true ∧ (chanAt s n).desc = none

/-- The first bad word that some bytes of a channel's source meet, where the source is in EBM. -/
def sourceBad (s : State) (n m : Nat) : Option Nat :=
  if ctl s n DMA_CTRL_SRC_EBM then firstBad s (srcRanges s n m (chanAt s n).cnd) else none

/-- The transfer ends with its bytes, or before the first bad word of its source. -/
def xferRead (s : State) (n : Nat) (d : List Byte) (next : Option (List Word)) (ws : List (BitVec 16)) : State :=
  match sourceBad s n (crf s n DMA_COUNT_COUNT) with
  | some a =>
    let m := beforeBad s n (crf s n DMA_COUNT_COUNT) (chanAt s n).cnd
    xferEnd (eccLog (if m == 0 then s else moveBytes s n m [] ws) a true) n 8 next
  | none => xferEnd (moveBytes (endBeats s n) n (crf s n DMA_COUNT_COUNT) d ws) n 0 next

section
variable {s : State} {n : Nat} {d : List Byte} {next : Option (List Word)} {ws : List (BitVec 16)}

theorem xferRead_clean (h : sourceBad s n (crf s n DMA_COUNT_COUNT) = none) :
    xferRead s n d next ws = xferEnd (moveBytes (endBeats s n) n (crf s n DMA_COUNT_COUNT) d ws) n 0 next := by
  rw [xferRead, h]

theorem xferRead_bad {a : Nat} (h : sourceBad s n (crf s n DMA_COUNT_COUNT) = some a) :
    xferRead s n d next ws = xferEnd (eccLog (if beforeBad s n (crf s n DMA_COUNT_COUNT) (chanAt s n).cnd = 0 then s
      else moveBytes s n (beforeBad s n (crf s n DMA_COUNT_COUNT) (chanAt s n).cnd) [] ws) a true) n 8 next := by
  rw [xferRead, h]
  simp only [beq_iff_eq]

theorem xferDone_stays (h : isSoft n = false ∨ chanGoes s n = false) : xferDone s n d next ws = s := if_pos (by simpa using h)

/-- A channel that goes takes its descriptor, fails over a bad one, waits for the block or the bytes, or ends. -/
theorem xferDone_goes (hs : isSoft n = true) (hg : chanGoes s n = true) :
    xferDone s n d next ws = if undescribed s n then takeNext s n next
      else if (chanAt s n).chain = true ∧ xferBad s n = true then xferEnd s n 8 next
      else if (chanLit s n = false ∧ cState s n = 1) ∨ bytesFit s n (crf s n DMA_COUNT_COUNT) d = false then s
      else xferRead s n d next ws := by
  refine (if_neg (by simp [hs, hg])).trans (if_congr ?_ rfl (if_congr ?_ rfl (if_congr ?_ rfl rfl)))
  · simp [undescribed]
  · simp
  · simp

section
variable (hs : isSoft n = true) (hg : chanGoes s n = true)
include hs hg

theorem xferDone_takes (hd : undescribed s n) : xferDone s n d next ws = takeNext s n next :=
  (xferDone_goes hs hg).trans (if_pos hd)

section
variable (hd : ¬ undescribed s n)
include hd

theorem xferDone_malformed (hx : (chanAt s n).chain = true ∧ xferBad s n = true) : xferDone s n d next ws = xferEnd s n 8 next :=
  (xferDone_goes hs hg).trans ((if_neg hd).trans (if_pos hx))

section
variable (hx : ¬ ((chanAt s n).chain = true ∧ xferBad s n = true))
include hx

theorem xferDone_held (hh : (chanLit s n = false ∧ cState s n = 1) ∨ bytesFit s n (crf s n DMA_COUNT_COUNT) d = false) :
    xferDone s n d next ws = s := (xferDone_goes hs hg).trans ((if_neg hd).trans ((if_neg hx).trans (if_pos hh)))

theorem xferDone_reads (hh : ¬ ((chanLit s n = false ∧ cState s n = 1) ∨ bytesFit s n (crf s n DMA_COUNT_COUNT) d = false)) :
    xferDone s n d next ws = xferRead s n d next ws :=
  (xferDone_goes hs hg).trans ((if_neg hd).trans ((if_neg hx).trans (if_neg hh)))

end

end

end

end

/-! ### A pause at a beat (R226, R277) -/

/-- A count of bytes ends a beat of a channel: nothing, everything, a beat of the source, or whole frames. -/
abbrev atBeat (s : State) (n m : Nat) : Prop :=
  m = 0 ∨ m = crf s n DMA_COUNT_COUNT ∨ ((chanAt s n).cnd = [] ∧ ((cpair s n 0x40).toNat + m) % 64 = 0)
    ∨ ((chanAt s n).cnd ≠ [] ∧ m % frameBytes (chanAt s n).cnd = 0)

/-- A channel that pauses may end at a count. -/
abbrev pausesAt (s : State) (n m : Nat) : Prop := cState s n = 2 ∧ m ≤ crf s n DMA_COUNT_COUNT ∧ atBeat s n m

theorem atBeat_iff {s : State} {n m : Nat} : atBeat s n m ↔ (m == 0 || m == crf s n DMA_COUNT_COUNT
    || (if (chanAt s n).cnd.isEmpty then ((cpair s n 0x40).toNat + m) % 64 == 0 else m % frameBytes (chanAt s n).cnd == 0)) = true := by
  by_cases hc : (chanAt s n).cnd = []
  · simp [atBeat, hc, or_assoc]
  · simp [atBeat, hc, or_assoc]

/-- The bytes of a count fit a software channel `u` that pauses, `k` being what the channel held before its last reads. -/
abbrev pauseFits (u : State) (k : Chan) (n m : Nat) (d : List Byte) : Prop :=
  bytesFit u n m d = true ∧ (m = 0 ∨ (xferBad u n = false ∧ ¬ (k.chain = true ∧ k.desc = none)))

/-- The first bad word that a pause meets. -/
def pauseBad (u : State) (cnd : List Word) (n m : Nat) : Option Nat :=
  if ctl u n DMA_CTRL_SRC_EBM && !xferBad u n then firstBad u (srcRanges u n m cnd) else none

/-- A software channel pauses with its bytes, or ends before a bad word. -/
def pauseSoft (u : State) (cnd : List Word) (n m : Nat) (d : List Byte) : State :=
  match pauseBad u cnd n m with
  | some a => resumePowered (xferEnd (eccLog (if beforeBad u n m cnd == 0 then u else moveBytes u n (beforeBad u n m cnd) [] []) a true) n 8 none)
  | none => resumePowered (pausedNow (moveBytes u n m d []) n)

section
variable {s t u : State} {n m : Nat} {d : List Byte} {cnd : List Word}

theorem pauseSoft_clean (h : pauseBad u cnd n m = none) : pauseSoft u cnd n m d = resumePowered (pausedNow (moveBytes u n m d []) n) := by
  rw [pauseSoft, h]

theorem pauseSoft_bad {a : Nat} (h : pauseBad u cnd n m = some a) : pauseSoft u cnd n m d = resumePowered (xferEnd
    (eccLog (if beforeBad u n m cnd = 0 then u else moveBytes u n (beforeBad u n m cnd) [] []) a true) n 8 none) := by
  rw [pauseSoft, h]
  simp only [beq_iff_eq]

theorem not_pausesAt_iff : (cState s n != 2 || crf s n DMA_COUNT_COUNT < m || !(m == 0 || m == crf s n DMA_COUNT_COUNT
    || (if (chanAt s n).cnd.isEmpty then ((cpair s n 0x40).toNat + m) % 64 == 0 else m % frameBytes (chanAt s n).cnd == 0))) = true
    ↔ ¬ pausesAt s n m := by
  simp only [pausesAt, atBeat_iff, Bool.or_eq_true, bne_iff_ne, decide_eq_true_eq, Bool.not_eq_true', ← Bool.not_eq_true, ← Nat.not_le]
  tauto

theorem chanPaused_other (h : ¬ pausesAt s n m) : chanPaused s n m d = s := if_pos (not_pausesAt_iff.2 h)

section
variable (h : pausesAt s n m)
include h

theorem chanPaused_unread (hr : pausedReads s n m = none) : chanPaused s n m d = s := by
  refine (if_neg (mt not_pausesAt_iff.1 (not_not.2 h))).trans ?_
  rw [hr]

/-- A pause at a beat: the reads up to it are done, then the channel stops there. -/
theorem chanPaused_soft (hr : pausedReads s n m = some t) (hs : isSoft n = true) : chanPaused s n m d =
    if ¬ pauseFits (drainParked t n) (chanAt s n) n m d then s else pauseSoft (drainParked t n) (chanAt s n).cnd n m d := by
  refine (if_neg (mt not_pausesAt_iff.1 (not_not.2 h))).trans ?_
  rw [hr]
  dsimp only
  rw [if_pos hs]
  refine if_congr ?_ rfl rfl
  simp only [pauseFits, Bool.or_eq_true, Bool.and_eq_true, Bool.not_eq_true', ← Bool.not_eq_true, Option.isNone_iff_eq_none, bne_iff_ne]
  tauto

theorem chanPaused_planner (hr : pausedReads s n m = some t) (hs : isSoft n = false) : chanPaused s n m d =
    resumePowered (pausedNow (advancePlan (drainParked t n) n m (chanAt s n).cnd) n) := by
  refine (if_neg (mt not_pausesAt_iff.1 (not_not.2 h))).trans ?_
  rw [hr]
  dsimp only
  rw [if_neg (by simp [hs])]

end

end

/-! ### Bus errors (R214, R221, R229) -/

/-- A bus error leaves its own mark: an uncorrectable error is logged. -/
def busLogged (k : BusErr) (s : State) : State := match k with | .eccUe a => eccLog s a.toNat true | _ => s

/-- A software channel whose transfer a bus error ends. -/
abbrev busErrorEnds (s : State) (n : Nat) : Prop := chanGoes s n = true ∧ ¬ undescribed s n

/-- The bytes from before a bus error that the destination takes. -/
abbrev busErrorGot (s : State) (n m : Nat) (d : List Byte) : Prop :=
  m ≠ 0 ∧ m ≤ crf s n DMA_COUNT_COUNT ∧ m % frameBytes (chanAt s n).cnd = 0 ∧ bytesFit s n m d = true ∧ xferBad s n = false

section
variable {s : State} {n m : Nat} {k : BusErr} {d : List Byte} {next : Option (List Word)}

theorem chanBusError_stays (h : isSoft n = false ∨ ¬ busErrorEnds s n) : chanBusError s n k m d next = s := by
  refine if_pos ?_
  simp only [busErrorEnds, undescribed, ← Bool.not_eq_true] at h
  simp only [Bool.or_eq_true, Bool.and_eq_true, Bool.not_eq_true', ← Bool.not_eq_true, Option.isNone_iff_eq_none]
  tauto

theorem chanBusError_ends (hs : isSoft n = true) (h : busErrorEnds s n) : chanBusError s n k m d next =
    xferEnd (busLogged k (if busErrorGot s n m d then moveBytes s n m d [] else s)) n 8 next := by
  obtain ⟨hg, hd⟩ := h
  have hgot : busErrorGot s n m d ↔ (m != 0 && decide (m ≤ crf s n DMA_COUNT_COUNT) && m % frameBytes (chanAt s n).cnd == 0
      && bytesFit s n m d && !xferBad s n) = true := by simp [busErrorGot, and_assoc]
  rw [if_congr hgot rfl rfl]
  refine (if_neg ?_).trans rfl
  simpa [hs, hg, undescribed] using hd

end

section
variable {s : State} {c : Nat} {k : BusErr}

theorem flowError_spilled {a : BitVec 25} (h : 0x1FC0000 ≤ a.toNat) : flowError s c (.eccUe a) = spillFail s c a.toNat :=
  if_pos (by simpa [inSpill] using h)

/-- An error outside the spill region is one of the operation in service. -/
theorem flowError_served (h : ∀ a : BitVec 25, k = .eccUe a → a.toNat < 0x1FC0000) : flowError s c k = flowBusError s c k := by
  cases k with
  | eccUe a => exact if_neg (by simpa [inSpill] using h a rfl)
  | cellLost => rfl
  | other => rfl

/-- The entry of an operation that a bus error ends (R221). -/
def flowFailed (s : State) (c : Nat) (k : BusErr) : State :=
  match k with
  | .cellLost => flowOn (goOn (failWork (lostCell s).1 c 4 (some (lostCell s).2)) c) c
  | .eccUe a => flowOn (eccFail s c a.toNat) c
  | .other => flowOn (goOn (failWork s c 8 none) c) c

theorem flowBusError_idle (h : ∀ w, (epAt s c).bind (·.work) = some w → w.inSvc = false) : flowBusError s c k = s := by
  unfold flowBusError
  split
  · rfl
  · rename_i w hw
    exact if_pos (by simp [h w hw])

theorem flowBusError_issue {e : Ep} {w : Work} (he : epAt s c = some e) (hw : e.work = some w) (hi : w.inSvc = true) (ho : w.op = .issue) :
    flowBusError s c k = match k with
      | .eccUe a => emit (eccLog s a.toNat true) (.port (epPort s e) "bit-stuff error")
      | _ => s := by
  have hwork : (epAt s c).bind (·.work) = some w := by rw [he]; exact hw
  unfold flowBusError
  rw [hwork]
  refine (if_neg (by simp [hi])).trans ((if_pos (by simp [ho])).trans ?_)
  rw [he]
  cases k <;> rfl

theorem flowBusError_moving {w : Work} (hw : (epAt s c).bind (·.work) = some w) (hi : w.inSvc = true) (ho : w.op ≠ .issue) :
    flowBusError s c k = flowFailed s c k := by
  unfold flowBusError
  rw [hw]
  refine (if_neg (by simp [hi])).trans ((if_neg (by simp [ho])).trans ?_)
  cases k <;> rfl

end

/-- Settles O52: a write of DMA_CTRL by the state of its channel, what ends a transfer by the branch of each meaning. -/
theorem dmaChannels : Obligations.DmaChannels := by
  refine ⟨fun s src ch v d hg c w x hc => ⟨fun hn => ?planner, fun hn hf h0 h11 => ?starts, fun hn hf h => ?fields, fun hn hf => ?busy⟩,
    fun s ch next d ws => ⟨fun hn => ⟨?barrierPlanner, ?descPlanner, ?pacePlanner, ?xferPlanner⟩,
      fun hn => ⟨fun h5 => ?noBarrier, fun h5 hc => ?barrierChain, fun h5 hc hb => ?barrierGood, fun h5 hc hb => ?barrierBad,
        fun hg hc hd => ?descLost, fun h => ?descKept,
        fun hp => ⟨fun h => ?paceIdle, fun h4 => ?paceStarts, fun h0 h7 h4 => ⟨fun h => ?paceLost, fun h => ?paceCounted⟩⟩,
        fun hp => ?unpaced, fun hg => ?stopped, fun hg hc hd => ?takes, fun h hx => ?malformed, fun h hx hh => ?held, fun h hx hh hb => ?moved,
        fun a h hx hh hb => ⟨fun hm => ?badFirst, fun hm => ?badLater⟩⟩⟩,
    fun s ch moved d => ⟨fun h => ?noPause, fun h hr => ?unread, fun t h hr => ⟨fun hn hx => ?misfit, fun hn hx hb => ?paused,
      fun a hn hx hb => ?pausedBad, fun hn => ?pausedPlan⟩⟩,
    fun s ch k moved d next => ⟨fun h => ?noTransfer, fun ⟨hn, h⟩ hb => ?errorGot, fun ⟨hn, h⟩ hb => ?errorAlone⟩,
    fun s ctx moved d next => ⟨fun h k hk => ?waiting, fun e w he hw hi ho => ?issue, fun ⟨w, hw, hi, ho⟩ => ?serves, fun a ha => ?spilled⟩⟩
  case planner => exact (exec_ctrlWrite hc).trans (congrArg _ (dmaCtrlCmd_planner hg hn))
  case starts =>
    rw [exec_ctrlWrite hc, dmaCtrlCmd_soft hg hn, dmaCtrl_free hf, if_pos (by simp [h0, h11])]
    rfl
  case fields =>
    rw [exec_ctrlWrite hc, dmaCtrlCmd_soft hg hn, dmaCtrl_free hf, if_neg (by rcases h with h | h <;> simp [h])]
    rfl
  case busy => rw [exec_ctrlWrite hc, dmaCtrlCmd_soft hg hn, dmaCtrl_busy hf]
  case barrierPlanner => exact congrArg Host.Outcome.next (barrierDone_waits (.inl (isSoft_planner hn)))
  case descPlanner => exact congrArg Host.Outcome.next (descLost_waits (.inl (isSoft_planner hn)))
  case pacePlanner => rw [exec_dmaPaceTimer, if_neg (by simp [isSoft_planner hn])]
  case xferPlanner => exact congrArg Host.Outcome.next (xferDone_stays (.inl (isSoft_planner hn)))
  case noBarrier => exact congrArg Host.Outcome.next (barrierDone_waits (.inr h5))
  case barrierChain => exact congrArg Host.Outcome.next (barrierDone_chain (isSoft_soft hn) h5 hc)
  case barrierGood => exact congrArg Host.Outcome.next ((barrierDone_single (isSoft_soft hn) h5 hc).trans (if_pos hb))
  case barrierBad => exact congrArg Host.Outcome.next ((barrierDone_single (isSoft_soft hn) h5 hc).trans (if_neg hb))
  case descLost => exact congrArg Host.Outcome.next (descLost_loses (isSoft_soft hn) hg hc hd)
  case descKept => exact congrArg Host.Outcome.next (descLost_waits (.inr h))
  case paceIdle => rw [exec_dmaPaceTimer, if_pos ⟨isSoft_soft hn, hp⟩, paceEvent_idle h]
  case paceStarts => rw [exec_dmaPaceTimer, if_pos ⟨isSoft_soft hn, hp⟩, paceEvent_starts h4]
  case paceLost => rw [exec_dmaPaceTimer, if_pos ⟨isSoft_soft hn, hp⟩, paceEvent_counted h0 h7 h4, if_pos h]
  case paceCounted => rw [exec_dmaPaceTimer, if_pos ⟨isSoft_soft hn, hp⟩, paceEvent_counted h0 h7 h4, if_neg h]
  case unpaced => rw [exec_dmaPaceTimer, if_neg fun h => hp h.2]
  case stopped => exact congrArg Host.Outcome.next (xferDone_stays (.inr hg))
  case takes => exact congrArg Host.Outcome.next (xferDone_takes (isSoft_soft hn) hg ⟨hc, hd⟩)
  case malformed => exact congrArg Host.Outcome.next (xferDone_malformed (isSoft_soft hn) h.1 h.2 (not_not.1 hx))
  case held => exact congrArg Host.Outcome.next (xferDone_held (isSoft_soft hn) h.1 h.2 hx hh)
  case moved => exact congrArg Host.Outcome.next ((xferDone_reads (isSoft_soft hn) h.1 h.2 hx hh).trans (xferRead_clean hb))
  case badFirst =>
    refine congrArg Host.Outcome.next ((xferDone_reads (isSoft_soft hn) h.1 h.2 hx hh).trans ((xferRead_bad hb).trans ?_))
    rw [if_pos hm]
  case badLater =>
    refine congrArg Host.Outcome.next ((xferDone_reads (isSoft_soft hn) h.1 h.2 hx hh).trans ((xferRead_bad hb).trans ?_))
    rw [if_neg hm]
  case noPause => exact congrArg Host.Outcome.next (chanPaused_other h)
  case unread => exact congrArg Host.Outcome.next (chanPaused_unread h hr)
  case misfit => exact congrArg Host.Outcome.next ((chanPaused_soft h hr (isSoft_soft hn)).trans (if_pos hx))
  case paused =>
    exact congrArg Host.Outcome.next ((chanPaused_soft h hr (isSoft_soft hn)).trans ((if_neg (not_not.2 hx)).trans (pauseSoft_clean hb)))
  case pausedBad =>
    exact congrArg Host.Outcome.next ((chanPaused_soft h hr (isSoft_soft hn)).trans ((if_neg (not_not.2 hx)).trans (pauseSoft_bad hb)))
  case pausedPlan => exact congrArg Host.Outcome.next (chanPaused_planner h hr (isSoft_planner hn))
  case noTransfer =>
    refine congrArg Host.Outcome.next (chanBusError_stays ?_)
    by_cases hn : 48 ≤ ch.toNat
    · exact .inr fun hends => h ⟨hn, hends⟩
    · exact .inl (isSoft_planner (Nat.not_le.1 hn))
  case errorGot =>
    refine congrArg Host.Outcome.next ((chanBusError_ends (isSoft_soft hn) h).trans ?_)
    rw [if_pos hb]
    rfl
  case errorAlone =>
    refine congrArg Host.Outcome.next ((chanBusError_ends (isSoft_soft hn) h).trans ?_)
    rw [if_neg hb]
    rfl
  case waiting => exact congrArg Host.Outcome.next ((flowError_served hk).trans (flowBusError_idle h))
  case issue =>
    have herr (k : BusErr) := flowBusError_issue (k := k) he hw hi ho
    exact ⟨congrArg Host.Outcome.next (herr .cellLost), congrArg Host.Outcome.next (herr .other),
      fun a ha => congrArg Host.Outcome.next ((flowError_served fun _ h => by cases h; exact ha).trans (herr (.eccUe a)))⟩
  case serves =>
    have herr (k : BusErr) := flowBusError_moving (k := k) hw hi ho
    exact ⟨congrArg Host.Outcome.next (herr .cellLost), congrArg Host.Outcome.next (herr .other),
      fun a ha => congrArg Host.Outcome.next ((flowError_served fun _ h => by cases h; exact ha).trans (herr (.eccUe a)))⟩
  case spilled => exact congrArg Host.Outcome.next (flowError_spilled ha)

end Sys2Proof.Machine
end

section
/-!
PROOFS. QUIESCE_INSTANCE, RESUME_INSTANCE and SWAP_DIRTY_LOG (R133, R240, R248, R250, R254; O40).
-/
namespace Sys2Proof.Machine

/-! ### The phase of an instance's work here (R240, R248) -/

section
variable {s : State} {i : Inst}

theorem phaseHere_own (h : isMember s = false) : phaseHere s i = i.state := if_neg (by simp [h])

theorem setPhase_own {v : BitVec 3} (h : isMember s = false) : setPhase s i v = { i with state := v } := if_neg (by simp [h])

theorem phaseHere_member (h : isMember s = true) : phaseHere s i = if i.away = 0 then 1 else i.away :=
  (if_pos h).trans (if_congr beq_iff_eq rfl rfl)

theorem setPhase_member {v : BitVec 3} (h : isMember s = true) : setPhase s i v = { i with away := if v = 1 then 0 else v } := by
  refine (if_pos h).trans ?_
  simp only [beq_iff_eq]

end

/-! ### QUIESCE_INSTANCE and RESUME_INSTANCE (R248, R250) -/

/-- The target's work is quiescing: the command waits for its end, the entries not begun are dropped, and the other homes are told. -/
def quiesceBegun (s : State) (o : Owner) (e : List Word) : State :=
  let i := instAt s (aTarget e).toNat
  tellHomes (quiesceTqs (setInst s (aTarget e).toNat
    (setPhase s { i with quiesce := some (o, e, postedEntries s (.inst (aTarget e))) } 2)) (.inst (aTarget e))) (.inst (aTarget e)) o e

/-- The target's work is served again, here and at its other homes, and its fetching waits for the next poll ticks. -/
def servedAgain (s : State) (o : Owner) (e : List Word) : State :=
  untilPoll (tellHomes (setInst s (aTarget e).toNat (setPhase s (instAt s (aTarget e).toNat) 1)) (.inst (aTarget e)) o e) (.inst (aTarget e))

/-- What was held for the target is written and sent: its completions, the POST cells and PI mirrors that waited, its messages. -/
def heldLetGo (s : State) (t : Owner) : State :=
  msixFlush (mirrorsDue (lateDrain (drainHeld s (tqsOf s t)) t) t) t

section
variable {s : State} {o : Owner} {e : List Word}

section
variable (h : admPasses s o e true 2 = true)
include h

theorem exec_quiesceInstance_untargeted (hb : aBehalf e = false) : exec (.quiesceInstance o e) s = .next (bad s o e 2) :=
  congrArg Host.Outcome.next ((adm_passes h).trans (if_pos (by simp [hb])))

theorem exec_resumeInstance_untargeted (hb : aBehalf e = false) : exec (.resumeInstance o e) s = .next (bad s o e 2) :=
  congrArg Host.Outcome.next ((adm_passes h).trans (if_pos (by simp [hb])))

section
variable (hb : aBehalf e = true)
include hb

/-- QUIESCE_INSTANCE on its target, by the phase of the target's work. -/
theorem exec_quiesceInstance_targeted : exec (.quiesceInstance o e) s =
    .next (if phaseHere s (instAt s (aTarget e).toNat) = 1 then quiesceBegun s o e else bad s o e 8) :=
  congrArg Host.Outcome.next ((adm_passes h).trans ((if_neg (by simp [hb])).trans
    ((if_congr bne_iff_ne rfl rfl).trans (ite_not _ _ _))))

/-- RESUME_INSTANCE on its target, by the phase of the target's work. -/
theorem exec_resumeInstance_targeted : exec (.resumeInstance o e) s =
    .next (if phaseHere s (instAt s (aTarget e).toNat) = 3 then good (heldLetGo (servedAgain s o e) (.inst (aTarget e))) o e 0 0
      else bad s o e 8) :=
  congrArg Host.Outcome.next ((adm_passes h).trans ((if_neg (by simp [hb])).trans
    ((if_congr bne_iff_ne rfl rfl).trans (ite_not _ _ _))))

end

end

/-! ### SWAP_DIRTY_LOG (R254) -/

/-- The address of an instance's dirty log, 0 where it has none. -/
def logBase (i : Inst) : Addr := match i.dirty with | some (b, _) => b | none => 0

/-- The old log's marks are written out and the new log starts, without marks. -/
def logSwapped (s : State) (e : List Word) : State :=
  let i := instAt s (aTarget e).toNat
  let a := join64 (dw e 2) (dw e 3)
  setInst (emits s (dirtyOuts s.mgt.rid (logBase i) i.marks)) (aTarget e).toNat
    { i with dirty := if a = 0 then none else some (a, (dw e 4).toNat), marks := [], dirtyOvf := false }

section
variable (h : admPasses s o e true 5 = true)
include h

theorem exec_swapDirtyLog_field (hf : aBehalf e = false ∨ swapForm (join64 (dw e 2) (dw e 3)) (dw e 4).toNat = false) :
    exec (.swapDirtyLog o e) s = .next (bad s o e 2) :=
  congrArg Host.Outcome.next ((adm_passes h).trans (if_pos (by simpa using hf)))

/-- SWAP_DIRTY_LOG with its fields in order, by the target's state: it answers the old log's address and whether that overflowed. -/
theorem exec_swapDirtyLog_formed (hb : aBehalf e = true) (hf : swapForm (join64 (dw e 2) (dw e 3)) (dw e 4).toNat = true) :
    exec (.swapDirtyLog o e) s = .next (
      let i := instAt s (aTarget e).toNat
      if i.state = 0 ∨ i.state = 4 then bad s o e 8
      else good (logSwapped s e) o e ((lo32 (logBase i)).toNat / 4096 * 4096 + b2n i.dirtyOvf) (hi32 (logBase i)).toNat) := by
  refine congrArg Host.Outcome.next ((adm_passes h).trans ((if_neg (by simp [hb, hf])).trans (if_congr (by simp) rfl ?_)))
  simp only [beq_iff_eq]
  rfl

end

end

/-- Settles O40: each command by its target, then by its fields and the state that the target is in. -/
theorem instanceCommands : Obligations.InstanceCommands := by
  refine fun s o e => ⟨fun hb => ⟨fun h => ?untargeted, fun h => exec_swapDirtyLog_field h (.inl hb)⟩,
    fun hb h => ⟨fun h1 => ?quiesces, fun h1 => ?notActive, fun h3 => ?notQuiesced, fun h3 => ?resumes⟩,
    fun hm => ⟨phaseHere_own hm, fun v => setPhase_own hm⟩, fun hm => ⟨phaseHere_member hm, fun v => setPhase_member hm⟩,
    fun hb h => ⟨fun hf => exec_swapDirtyLog_field h (.inr hf), fun hf hs => ?noLog, fun hf h0 h4 => ?swaps⟩⟩
  case untargeted => exact ⟨exec_quiesceInstance_untargeted h hb, exec_resumeInstance_untargeted h hb⟩
  case quiesces => exact (exec_quiesceInstance_targeted h hb).trans (congrArg Host.Outcome.next (if_pos h1))
  case notActive => exact (exec_quiesceInstance_targeted h hb).trans (congrArg Host.Outcome.next (if_neg h1))
  case notQuiesced => exact (exec_resumeInstance_targeted h hb).trans (congrArg Host.Outcome.next (if_neg h3))
  case resumes => exact (exec_resumeInstance_targeted h hb).trans (congrArg Host.Outcome.next (if_pos h3))
  case noLog => exact (exec_swapDirtyLog_formed h hb hf).trans (congrArg Host.Outcome.next (if_pos hs))
  case swaps => exact (exec_swapDirtyLog_formed h hb hf).trans (congrArg Host.Outcome.next (if_neg (not_or.2 ⟨h0, h4⟩)))

end Sys2Proof.Machine
end

section
/-!
PROOFS. Requests for deep states, and the steps of a deep entry and exit (R269 to R276, R281; O55).
-/
namespace Sys2Proof.Machine

/-! ### What the operations on the way leave -/

theorem besideReport_held : BesideReport State.held := by constructor <;> intros <;> rfl

theorem besideReport_mgt : BesideReport State.mgt := by constructor <;> intros <;> rfl

/-- What is read off something that stands beside a report stands beside it too. -/
theorem BesideReport.comp {α β : Type} {f : State → α} (h : BesideReport f) (g : α → β) : BesideReport fun s => g (f s) where
  wr s a v ha := congrArg g (h.wr s a v ha)
  ring s x := congrArg g (h.ring s x)
  flt s x := congrArg g (h.flt s x)
  svc s x := congrArg g (h.svc s x)
  sbd s x := congrArg g (h.sbd s x)
  inst s x := congrArg g (h.inst s x)
  out s x := congrArg g (h.out s x)

/-- A field of a register of another page. -/
theorem besideReport_rf {page : Nat} {g : Fld} (h : adr page g.off / 0x1000 ∉ reportPages) : BesideReport fun s => rf s page g :=
  (besideReport_rd h).comp (fget · g)

section
variable {α : Type} {f : State → α} (h : BesideReport f)
include h

/-- An event sets its bit of its page, and interrupts. -/
theorem evt_beside {page : Nat} (hw : ∀ s v, f (wr s (adr page 0x02C) v) = f s) (s : State) (n : Nat) : f (evt s page n) = f s :=
  (each_beside (fun s _ => h.pageIntr s) _).trans (hw _ _)

/-- An error sets its bit of its page, and may be reported. -/
theorem err_beside {page : Nat} (hw : ∀ s off v, off = 0x020 ∨ off = 0x028 → f (wr s (adr page off) v) = f s) (s : State) (n : Nat) :
    f (err s page n) = f s := by
  unfold err
  dsimp only
  split
  · exact (h.report _ _ _).trans (errBit_beside hw s n)
  · exact errBit_beside hw s n

theorem svcEvt_beside (s : State) (e : SvcEvt) : f (svcEvt s e) = f s := (h.wf _ _ (by decide)).trans (h.svc _ _)

theorem svcAttach_beside (s : State) : f (svcAttach s) = f s := by
  unfold svcAttach
  split
  · exact (h.wf _ _ (by decide)).trans (h.wf _ _ (by decide))
  · rfl

theorem startTrain_beside (s : State) (d : Side) : f (startTrain s d) = f s := by
  unfold startTrain
  split
  · rfl
  · cases d <;> exact (h.wf _ _ (by decide)).trans (h.ring _ _)

/-- A join opens the switches and starts the training of both ports (R62). -/
theorem joinRing_beside (s : State) : f (joinRing s) = f s := by
  have hopen (s : State) : f (openNow s) = f s := by
    unfold openNow
    split
    · rw [svcEvt_beside h, startTrain_beside h, startTrain_beside h]
      exact h.wf _ _ (by decide)
    · rfl
  unfold joinRing
  dsimp only
  split
  · exact h.ring _ _
  · exact (hopen _).trans (h.ring _ _)

/-- The loss of LOCKED changes page RING and is reported (R58). -/
theorem lockGone_beside (s : State) : f (lockGone s) = f s := by
  unfold lockGone timeLost
  split
  · rw [h.report, errBit_beside fun _ _ _ ho => h.wr _ _ _ (by rcases ho with rfl | rfl <;> decide)]
    exact h.wf _ _ (by decide)
  · rfl

/-- The note of an aborted or refused request (R281). -/
theorem powerWho_beside (hw : ∀ s off v, off = 0x02C ∨ off = 0x05C → f (wr s (adr pPwr off) v) = f s) (s : State)
    (slot cause dom name : Nat) : f (powerWho s slot cause dom name) = f s :=
  (evt_beside h (fun s v => hw s _ v (.inl rfl)) _ _).trans (hw _ _ _ (.inr rfl))

end

/-- Where no access waits, none is served. -/
theorem serveHeld_none {s : State} (h : s.held = []) : serveHeld s = s := by
  unfold serveHeld
  rw [h]
  exact congrArg (fun l => { s with held := l }) h.symm

/-! ### Whether the ring's join waits: no event and no cell changes it -/

theorem submit_joinTimer (s : State) (c : Cell) : (submit s c).ring.joinTimer = s.ring.joinTimer := by
  have hqueue (s : State) (b : Bool) (c : Cell) : (queueCell s b false c).ring.joinTimer = s.ring.joinTimer := by cases b <;> rfl
  have hinject (s : State) : (inject s c).ring.joinTimer = s.ring.joinTimer := by
    unfold inject enqueue
    dsimp only
    split_ifs
    · exact hqueue _ _ _
    · exact hqueue _ _ _
    · rfl
    · rfl
  unfold submit
  dsimp only
  split_ifs
  · rfl
  · rfl
  · rfl
  · exact hinject _
  · rfl
  · exact hinject _

theorem pageIntr_joinTimer (s : State) : (pageIntr s).ring.joinTimer = s.ring.joinTimer := by
  have hmsix (s : State) (o : Owner) (v : BitVec 8) : (msix s o v).ring = s.ring := by
    unfold msix
    dsimp only
    split <;> rfl
  have hpos (p : Nat) : (posEvent s p).ring = s.ring := by
    unfold posEvent
    generalize adr pTen (if p < 32 then 0x09C else 0x0A0) = a
    dsimp only
    split
    · exact hmsix _ _ _
    · rfl
  unfold pageIntr
  split_ifs
  · rfl
  · exact submit_joinTimer _ _
  · exact congrArg Ring.joinTimer (hpos _)

theorem evt_joinTimer (s : State) (page n : Nat) : (evt s page n).ring.joinTimer = s.ring.joinTimer :=
  each_beside (f := fun s => s.ring.joinTimer) (fun s _ => pageIntr_joinTimer s) _

/-! ### Requests (R269, R281) -/

/-- A chip that may enter a deep state: in HOLD, not on its way elsewhere, and no power entry or exit under way. -/
abbrev chipStill (s : State) : Prop := pwrIdle s = true ∧ mode s = 0 ∧ pendingMode s = false

/-- An instance is enabled. -/
abbrev instUsed (s : State) : Prop := s.inst.any (fun i => decide (i.1 < 1024) && i.2.state != 0) = true

/-- The commands that request a deep state, each with the state's number. -/
def deepRequests (src : Src) (f : Bool) : List (Nat × Instr) :=
  [(3, .chipRequestP3 src f), (4, .chipRequestP4 src f), (5, .chipRequestP5 src f)]

/-- A request that no vote stops goes on, unless a channel is busy while it is forced. -/
def deepUnlessBusy (s : State) (n : Nat) (f : Bool) : State :=
  match busyChan s with
  | some ch => if f then powerRefuse s (32 + ch / 16) 0 (0x58 + ch / 16) (0x8020 + ch / 16) else enterDeep s n
  | none => enterDeep s n

section
variable {s : State} {src : Src} {n : Nat} {f : Bool} {c : Instr}

theorem deepRequests_target (hc : (n, c) ∈ deepRequests src f) : n = 3 ∨ n = 4 ∨ n = 5 := by
  simp only [deepRequests, List.mem_cons, Prod.mk.injEq, List.not_mem_nil, or_false] at hc
  omega

/-- Each of them writes PWR_CHIP, which takes it while page PWR works. -/
theorem exec_deepRequest (hc : (n, c) ∈ deepRequests src f) (hg : gate s src pPwr 0x040 true = .ok) :
    exec c s = .next (if pageOn s pPwr = true then chipRequest s n f else s) := by
  simp only [deepRequests, List.mem_cons, Prod.mk.injEq, List.not_mem_nil, or_false] at hc
  rcases hc with ⟨rfl, rfl⟩ | ⟨rfl, rfl⟩ | ⟨rfl, rfl⟩ <;> cases f <;> exact congrArg Host.Outcome.next (access_write hg)

variable (hn : n = 3 ∨ n = 4 ∨ n = 5)
include hn

theorem chipRequest_moving (h : ¬ chipStill s) : chipRequest s n f = chipRefuse s 1 := by
  refine if_pos ?_
  rcases hn with rfl | rfl | rfl <;> simpa [chipStill, or_iff_not_imp_left] using h

variable (h : chipStill s)
include h

/-- A chip that is still refuses for an instance, then for a vote. -/
theorem chipRequest_checked : chipRequest s n f =
    if instUsed s then chipRefuse s 2
    else if f = false ∧ anyVote s = true then refuseByVote s allDoms true
    else deepUnlessBusy s n f := by
  obtain ⟨hi, hm, hp⟩ := h
  refine (if_neg ?_).trans (if_congr Iff.rfl rfl (if_congr (by simp) rfl rfl))
  rcases hn with rfl | rfl | rfl <;> simp [hi, hm, hp]

theorem chipRequest_used (hu : instUsed s) : chipRequest s n f = chipRefuse s 2 :=
  (chipRequest_checked hn h).trans (if_pos hu)

variable (hu : ¬ instUsed s)
include hu

theorem chipRequest_voted (hf : f = false) (hv : anyVote s = true) : chipRequest s n f = refuseByVote s allDoms true :=
  (chipRequest_checked hn h).trans ((if_neg hu).trans (if_pos (by simp [hf, hv])))

/-- A request that no vote stops: a busy channel stops it when it is forced, and it begins otherwise. -/
theorem chipRequest_unvoted (hv : f = true ∨ anyVote s = false) : chipRequest s n f = deepUnlessBusy s n f :=
  (chipRequest_checked hn h).trans ((if_neg hu).trans (if_neg (by rcases hv with hv | hv <;> simp [hv])))

end

/-! ### The steps of an entry (R270) -/

/-- The steps are undone: what they had closed is back, and the entry is over. -/
def stepsBack (s : State) : State :=
  let s1 := wb (svcAttach s) pPwr PWR_CHIP_ENTERING false
  let s2 := if s1.pwr.reopen || s1.ring.joined then joinRing s1 else s1
  { s2 with pwr := { s2.pwr with phase := .idle, reopen := false, wake := none } }

theorem undone_undoing {s : State} (h : s.pwr.phase = .undoing) :
    undone s = powerWho (incF (err (stepsBack s) pPwr 0) pPwr PWR_REFUSE_COUNT_ABORTED) 0 3 0xFF 0 := if_neg (by simp [h])

/-- Beside the phase and PWR_CHIP the undoing leaves what a report leaves. -/
theorem stepsBack_beside {α : Type} {f : State → α} (h : BesideReport f) (hp : ∀ (s : State) x, f { s with pwr := x } = f s) (s : State) :
    f (stepsBack s) = f (wb (svcAttach s) pPwr PWR_CHIP_ENTERING false) := by
  unfold stepsBack
  dsimp only
  rw [hp]
  split
  · exact joinRing_beside h _
  · rfl

/-- What the abort's error, its count and its event leave. -/
theorem undone_beside {α : Type} {f : State → α} (h : BesideReport f)
    (hw : ∀ s off v, off ∈ [0x020, 0x028, 0x02C, 0x058, 0x05C] → f (wr s (adr pPwr off) v) = f s) {s : State} (hs : s.pwr.phase = .undoing) :
    f (undone s) = f (stepsBack s) := by
  rw [undone_undoing hs, powerWho_beside h fun s off v ho => hw s off v (by rcases ho with rfl | rfl <;> decide)]
  exact (hw _ _ _ (by decide)).trans (err_beside h (fun s off v ho => hw s off v (by rcases ho with rfl | rfl <;> decide)) _ _)

/-- The entry is over, and was aborted once more (R281). -/
theorem undone_frame {s : State} (h : s.pwr.phase = .undoing) :
    (undone s).pwr.phase = .idle ∧ rb (undone s) pPwr PWR_CHIP_ENTERING = false
      ∧ rf (undone s) pPwr PWR_REFUSE_COUNT_ABORTED = min 65535 (rf s pPwr PWR_REFUSE_COUNT_ABORTED + 1) ∧ (undone s).ebm = s.ebm := by
  refine ⟨?phase, ?entering, ?count, ?ebm⟩
  case phase => exact congrArg Pwr.phase (undone_beside besideReport_pwr (fun _ _ _ _ => rfl) h)
  case entering =>
    have hreg := besideReport_rf (page := pPwr) (g := PWR_CHIP_ENTERING) (by decide)
    have hchip : rf (undone s) pPwr PWR_CHIP_ENTERING = 0 := by
      rw [undone_beside hreg (fun s off v ho => rf_wr_ne _ _ _ _ _ (by fin_cases ho <;> decide)) h, stepsBack_beside hreg fun _ _ => rfl]
      exact rf_wf_self _ _ _ _ rfl
    exact beq_eq_false_iff_ne.2 (by rw [hchip]; decide)
  case count =>
    have hreg := besideReport_rf (page := pPwr) (g := PWR_REFUSE_COUNT_ABORTED) (by decide)
    have hbefore : rf (err (stepsBack s) pPwr 0) pPwr PWR_REFUSE_COUNT_ABORTED = rf s pPwr PWR_REFUSE_COUNT_ABORTED := by
      rw [err_beside hreg (fun s off v ho => rf_wr_ne _ _ _ _ _ (by rcases ho with rfl | rfl <;> decide)), stepsBack_beside hreg fun _ _ => rfl]
      exact (rf_wf_ne _ _ _ _ _ _ (by decide)).trans (svcAttach_beside hreg s)
    rw [undone_undoing h, powerWho_beside hreg fun s off v ho => rf_wr_ne _ _ _ _ _ (by rcases ho with rfl | rfl <;> decide), rf_incF_self _ _ _ rfl,
      hbefore, Nat.min_comm]
    rfl
  case ebm =>
    rw [undone_beside besideReport_ebm (fun _ _ _ _ => rfl) h, stepsBack_beside besideReport_ebm fun _ _ => rfl]
    exact svcAttach_beside besideReport_ebm s

/-! ### The end of an entry (R270, R271, R276) -/

/-- The chip in its deep state, with what it holds there and the state that it shows. -/
def deepEntered (s : State) : State :=
  let s1 := wb (wf (deepLoss (lockGone s)) pPwr PWR_CHIP_STATE s.pwr.target) pPwr PWR_CHIP_ENTERING false
  showRefresh { s1 with pwr := { s1.pwr with phase := .deep, reopen := false, level := caramel s1 } }

/-- What a deep state loses is none of the power controller's, nor an access that waits. -/
theorem deepLoss_frame (s : State) : (deepLoss s).pwr = s.pwr ∧ (deepLoss s).held = s.held := by
  unfold deepLoss
  dsimp only
  split <;> exact ⟨rfl, rfl⟩

theorem deepEntered_frame (s : State) : (deepEntered s).pwr.phase = .deep ∧ (deepEntered s).pwr.wake = s.pwr.wake
    ∧ (deepEntered s).pwr.target = s.pwr.target ∧ (deepEntered s).held = s.held := by
  obtain ⟨hpwr, hheld⟩ := deepLoss_frame (lockGone s)
  rw [lockGone_beside besideReport_pwr] at hpwr
  rw [lockGone_beside besideReport_held] at hheld
  unfold deepEntered
  generalize deepLoss (lockGone s) = t at hpwr hheld ⊢
  have hwake := congrArg Pwr.wake hpwr
  have htarget := congrArg Pwr.target hpwr
  exact ⟨rfl, hwake, htarget, hheld⟩

/-- The two registers that show the refresh lie on pages EBM and AON. -/
theorem rf_showRefresh (s : State) {page : Nat} {g : Fld} (he : adr page g.off ≠ adr pEbm 0x04C) (ha : adr page g.off ≠ adr pAon 0x058) :
    rf (showRefresh s) page g = rf s page g := congrArg (fget · g) (rd_showRefresh s he ha)

/-- PWR_CHIP as the entry leaves it. -/
theorem deepEntered_chip (s : State) : rf (deepEntered s) pPwr PWR_CHIP_STATE = s.pwr.target % 8
    ∧ rb (deepEntered s) pPwr PWR_CHIP_ENTERING = false := by
  have hshown (g : Fld) (ho : g.off = 0x040) : rf (deepEntered s) pPwr g =
      rf (wb (wf (deepLoss (lockGone s)) pPwr PWR_CHIP_STATE s.pwr.target) pPwr PWR_CHIP_ENTERING false) pPwr g := by
    rw [deepEntered, rf_showRefresh _ (by rw [ho]; decide) (by rw [ho]; decide)]
    rfl
  refine ⟨?_, ?_⟩
  · exact (hshown _ rfl).trans ((rf_wf_same _ _ PWR_CHIP_ENTERING PWR_CHIP_STATE _ rfl rfl rfl).trans (rf_wf_self _ _ _ _ rfl))
  · exact (congrArg (· == 1) (hshown PWR_CHIP_ENTERING rfl)).trans (rb_wb_self _ _ _ _ rfl (by decide))

theorem deepDone_other {s : State} (h : ¬ (s.pwr.phase = .closing ∨ s.pwr.phase = .entering)) : deepDone s = s := if_pos (by simpa using h)

/-- An entry that ends, and a wake that came meanwhile. -/
theorem deepDone_ends {s : State} (h : s.pwr.phase = .closing ∨ s.pwr.phase = .entering) :
    deepDone s = s.pwr.wake.elim (deepEntered s) fun c => startExit (deepEntered s) c.toNat := by
  obtain ⟨-, hwake, -, -⟩ := deepEntered_frame s
  refine (if_neg (by rcases h with h | h <;> simp [h])).trans ?_
  rw [← hwake]
  dsimp only
  split
  case h_1 c hc =>
    rw [show (deepEntered s).pwr.wake = some c from hc]
    rfl
  case h_2 hc =>
    rw [show (deepEntered s).pwr.wake = none from hc]
    rfl

/-! ### Exits (R272, R276) -/

/-- AON_WAKE tells what ends the deep state, and which. -/
def wakeNoted (s : State) (cause : Nat) : State :=
  incF (wf (wf s pAon AON_WAKE_CAUSE cause) pAon AON_WAKE_FROM s.pwr.target) pAon AON_WAKE_COUNT

/-- An exit by its steps has begun. -/
def exitBegun (s : State) : State := wb { s with pwr := { s.pwr with phase := .exiting, wake := none } } pPwr PWR_CHIP_EXITING true

theorem startExit_eq (s : State) (cause : Nat) :
    startExit s cause = if s.pwr.target = 5 then resetChip (wakeNoted s cause) 4 else exitBegun (wakeNoted s cause) :=
  if_congr beq_iff_eq rfl rfl

theorem rf_wakeNoted (s : State) (w : BitVec 3) : rf (wakeNoted s w.toNat) pAon AON_WAKE_CAUSE = w.toNat := by
  unfold wakeNoted incF addF
  rw [rf_wf_same _ _ AON_WAKE_COUNT AON_WAKE_CAUSE _ rfl rfl rfl, rf_wf_same _ _ AON_WAKE_FROM AON_WAKE_CAUSE _ rfl rfl rfl,
    rf_wf_self _ _ _ _ rfl]
  exact Nat.mod_eq_of_lt w.isLt

section
variable {s : State} {w : BitVec 3}

/-- An exit from P5 is a chip reset. -/
theorem startExit_p5 (h : s.pwr.target = 5) : (startExit s w.toNat).mgt.boot = .inReset
    ∧ rf (startExit s w.toNat) pAon AON_RESET_CAUSE_CAUSE = 4 ∧ (startExit s w.toNat).held = [] := by
  rw [startExit_eq, if_pos h]
  exact ⟨(resetChip_frame _ 4).1, resetChip_cause _ 4, resetChip_beside State.held (fun _ _ _ => rfl) _ 4⟩

/-- An exit from P3 or P4 takes its steps. -/
theorem startExit_steps (h : s.pwr.target ≠ 5) : (startExit s w.toNat).pwr.phase = .exiting
    ∧ rb (startExit s w.toNat) pPwr PWR_CHIP_EXITING = true ∧ rf (startExit s w.toNat) pAon AON_WAKE_CAUSE = w.toNat
    ∧ (startExit s w.toNat).held = s.held := by
  rw [startExit_eq, if_neg h]
  have hcause (t : State) : rf (exitBegun t) pAon AON_WAKE_CAUSE = rf t pAon AON_WAKE_CAUSE :=
    (rf_wf_ne _ _ _ _ _ _ (by decide)).trans (rf_of rfl _ _)
  exact ⟨rfl, rb_wb_self _ _ _ _ rfl (by decide), (hcause _).trans (rf_wakeNoted s w), rfl⟩

end

/-- A chip back in P0, before what its return brings up (R272). -/
def backInP0 (s : State) : State :=
  let s1 := wb (wf s pPwr PWR_CHIP_STATE 0) pPwr PWR_CHIP_EXITING false
  { s1 with
    pwr := { s1.pwr with
      phase := .idle, target := 0
      doms := tabMap (fun _ => Dom.init) (fun _ d => { d with pstate := 0, transit := .none, forced := none }) s1.pwr.doms }
    mgt := { s1.mgt with wdogAt := (rct s1).toNat }
    ring := { s1.ring with joined := false, joinTimer := true } }

theorem exitDone_other {s : State} (h : s.pwr.phase ≠ .exiting) : exitDone s = s := if_pos (by simp [h])

theorem exitDone_exiting {s : State} (h : s.pwr.phase = .exiting) :
    exitDone s = showRefresh (svcEvt (evt (svcAttach (backInP0 s)) pAon 1) .power) := by
  rw [exitDone, if_neg (by simp [h]), backInP0]

/-- What the return of the pull-up and its events leave. -/
theorem exitDone_beside {α : Type} {f : State → α} (h : BesideReport f) (hw : ∀ s v, f (wr s (adr pAon 0x02C) v) = f s)
    (hr : ∀ s, f (showRefresh s) = f s) {s : State} (hs : s.pwr.phase = .exiting) : f (exitDone s) = f (backInP0 s) := by
  rw [exitDone_exiting hs, hr, svcEvt_beside h, evt_beside h hw, svcAttach_beside h]

/-- PWR_CHIP after an exit. -/
theorem exitDone_chip {s : State} (h : s.pwr.phase = .exiting) :
    rf (exitDone s) pPwr PWR_CHIP_STATE = 0 ∧ rb (exitDone s) pPwr PWR_CHIP_EXITING = false := by
  have hchip (g : Fld) (ho : adr pPwr g.off = 0x1040) :
      rf (exitDone s) pPwr g = rf (wb (wf s pPwr PWR_CHIP_STATE 0) pPwr PWR_CHIP_EXITING false) pPwr g :=
    (exitDone_beside (besideReport_rf (by rw [ho]; decide)) (fun s v => rf_wr_ne _ _ _ _ _ (by rw [ho]; decide))
      (fun s => rf_showRefresh s (by rw [ho]; decide) (by rw [ho]; decide)) h).trans (rf_of rfl _ _)
  refine ⟨(hchip _ rfl).trans ?_, (congrArg (· == 1) (hchip PWR_CHIP_EXITING rfl)).trans (rb_wb_self _ _ _ _ rfl (by decide))⟩
  exact (rf_wf_same _ _ PWR_CHIP_EXITING PWR_CHIP_STATE _ rfl rfl rfl).trans (rf_wf_self _ _ _ _ rfl)

/-- The chip is awake, its join is due and its watchdog starts anew (R272). -/
theorem exitDone_frame {s : State} (h : s.pwr.phase = .exiting) :
    (exitDone s).pwr.phase = .idle ∧ (exitDone s).ring.joinTimer = true ∧ (exitDone s).mgt.wdogAt = (rct s).toNat
      ∧ (exitDone s).held = s.held := by
  have hjoin : (svcAttach (backInP0 s)).ring.joinTimer = true := by
    unfold svcAttach
    split <;> rfl
  refine ⟨?_, ?_, ?_, ?_⟩
  · exact congrArg Pwr.phase (exitDone_beside besideReport_pwr (fun _ _ => rfl) (fun _ => rfl) h)
  · rw [exitDone_exiting h]
    exact (evt_joinTimer _ _ _).trans hjoin
  · exact congrArg Mgt.wdogAt (exitDone_beside besideReport_mgt (fun _ _ => rfl) (fun _ => rfl) h)
  · exact exitDone_beside besideReport_held (fun _ _ => rfl) (fun _ => rfl) h

/-! ### AON_FORCE_P5 (R273) -/

theorem exec_forceP5 {s : State} {src : Src} {v : Word} (h : gate s src pAon 0x05C true = .ok) :
    exec (.forceP5 src v) s = .next (if bits v 0 8 = 0xC5 then forceDown s else s) :=
  congrArg Host.Outcome.next ((access_write (v := v) h).trans
    (show forceWrite s v = _ from if_congr beq_iff_eq rfl rfl))

/-- Settles O55: a request by the first check that it fails, each step by the phase that it is for. -/
theorem deepStates : Obligations.DeepStates := by
  refine ⟨fun s src f n c hc hg => ⟨fun ho => ?off, fun ho => ⟨fun hs => ?moving, fun hs hu => ?used, fun hs hu hf hv => ?voted,
      fun hs hu hv hb => ?enters, fun ch hs hu hb => ⟨fun hf => ?busy, fun hf hv => ?entersBusy⟩⟩⟩,
    fun s src v hg => ⟨fun hv => ?ignored, fun hv => ?forced⟩,
    fun s => ⟨fun ok h => ?noCopy, fun h => ⟨?copied, ?copyFailed⟩, fun h => ?noClosing, fun h => ?stuck, fun h => ?noUndoing,
      fun h => ?undone⟩,
    fun s => ⟨fun h => ?noEntry, fun h hw hh h3 h5 => ?deep, fun w h hw hh h3 h5 => ?woken, fun h => ?noExit, fun h hh => ?awake⟩⟩
  case off => rw [exec_deepRequest hc hg, if_neg (by simp [ho])]
  case moving => rw [exec_deepRequest hc hg, if_pos ho, chipRequest_moving (deepRequests_target hc) hs]
  case used => rw [exec_deepRequest hc hg, if_pos ho, chipRequest_used (deepRequests_target hc) hs hu]
  case voted => rw [exec_deepRequest hc hg, if_pos ho, chipRequest_voted (deepRequests_target hc) hs hu hf hv]
  case enters =>
    rw [exec_deepRequest hc hg, if_pos ho, chipRequest_unvoted (deepRequests_target hc) hs hu hv, deepUnlessBusy, hb]
  case busy =>
    rw [exec_deepRequest hc hg, if_pos ho, chipRequest_unvoted (deepRequests_target hc) hs hu (.inl hf), deepUnlessBusy, hb]
    exact congrArg _ (if_pos hf)
  case entersBusy =>
    rw [exec_deepRequest hc hg, if_pos ho, chipRequest_unvoted (deepRequests_target hc) hs hu (.inr hv), deepUnlessBusy, hb]
    exact congrArg _ (if_neg (by simp [hf]))
  case ignored => rw [exec_forceP5 hg, if_neg hv]
  case forced => rw [exec_forceP5 hg, if_pos hv]
  case noCopy => exact congrArg Host.Outcome.next (if_pos (by simp [h]))
  case copied => exact congrArg Host.Outcome.next (if_neg (by simp [h]))
  case copyFailed => exact congrArg Host.Outcome.next (if_neg (by simp [h]))
  case noClosing => exact congrArg Host.Outcome.next (if_pos (by simp [h]))
  case stuck => exact congrArg Host.Outcome.next (if_neg (by simp [h]))
  case noUndoing => exact congrArg Host.Outcome.next (if_pos (by simp [h]))
  case undone => exact ⟨_, rfl, undone_frame h⟩
  case noEntry => exact congrArg (Host.Outcome.next ∘ serveHeld) (deepDone_other h)
  case deep =>
    obtain ⟨hphase, -, -, hheld⟩ := deepEntered_frame s
    obtain ⟨hstate, hentering⟩ := deepEntered_chip s
    refine ⟨deepEntered s, congrArg Host.Outcome.next ?_, hphase, by omega, hentering⟩
    rw [deepDone_ends h, hw]
    exact serveHeld_none (hheld.trans hh)
  case woken =>
    obtain ⟨-, -, htarget, hheld⟩ := deepEntered_frame s
    have hexit : deepDone s = startExit (deepEntered s) w.toNat := by
      rw [deepDone_ends h, hw]
      rfl
    by_cases hp : s.pwr.target = 5
    · obtain ⟨hboot, hcause, hnone⟩ := startExit_p5 (w := w) (htarget.trans hp)
      refine ⟨_, congrArg Host.Outcome.next ?_, fun _ => ⟨hboot, hcause⟩, fun h => absurd hp h⟩
      rw [hexit, serveHeld_none hnone]
    · obtain ⟨hphase, hexiting, hcause, hkept⟩ := startExit_steps (w := w) (s := deepEntered s) (by rwa [htarget])
      refine ⟨_, congrArg Host.Outcome.next ?_, fun h => absurd h hp, fun _ => ⟨hphase, hexiting, hcause⟩⟩
      rw [hexit, serveHeld_none (hkept.trans (hheld.trans hh))]
  case noExit => exact congrArg (Host.Outcome.next ∘ serveHeld) (exitDone_other h)
  case awake =>
    obtain ⟨hphase, hjoin, hwdog, hheld⟩ := exitDone_frame h
    obtain ⟨hstate, hexiting⟩ := exitDone_chip h
    exact ⟨exitDone s, congrArg Host.Outcome.next (serveHeld_none (hheld.trans hh)), hphase, hstate, hexiting, hjoin, hwdog⟩

end Sys2Proof.Machine
end

section
/-!
PROOFS. Domains: requests, the ends of transits, and the timers that withdraw votes (R263 to R268, R276, R277, R281; O56).
-/
namespace Sys2Proof.Machine

/-! ### Requests (R277, R281) -/

/-- The commands that write PWR_DOM_CMD with GO, each with its target and FORCE. -/
def domRequests (src : Src) (f : Bool) : List (Nat × Bool × Instr) :=
  [(0, false, .domainRelease src), (1, f, .domainRequestP1 src f), (2, f, .domainRequestP2 src f)]

section
variable {s : State} {src : Src} {n : Nat} {f : Bool} {c : Instr}

theorem domRequests_target (hc : (n, f, c) ∈ domRequests src f) : n = 0 ∨ n = 1 ∨ n = 2 := by
  simp only [domRequests, List.mem_cons, Prod.mk.injEq, List.not_mem_nil, or_false] at hc
  omega

/-- PWR_DOM_CMD takes a request while page PWR works. -/
theorem exec_domRequest (hc : (n, f, c) ∈ domRequests src f) (hg : gate s src pPwr 0x04C true = .ok) :
    exec c s = .next (if pageOn s pPwr = true then domRequest s n f else s) := by
  simp only [domRequests, List.mem_cons, Prod.mk.injEq, List.not_mem_nil, or_false] at hc
  rcases hc with ⟨rfl, rfl, rfl⟩ | ⟨rfl, -, rfl⟩ | ⟨rfl, -, rfl⟩
  · exact congrArg Host.Outcome.next (access_write hg)
  · cases f <;> exact congrArg Host.Outcome.next (access_write hg)
  · cases f <;> exact congrArg Host.Outcome.next (access_write hg)

theorem domRequest_cannot (h : pwrIdle s = false ∨ domOk s.pwr.sel = false) : domRequest s n f = powerRefuse s 0 1 s.pwr.sel 0 :=
  if_pos (by rcases h with h | h <;> simp [h])

/-- A request for a domain that may take one. -/
theorem domRequest_can (hn : n = 0 ∨ n = 1 ∨ n = 2) (hi : pwrIdle s = true) (hd : domOk s.pwr.sel = true) : domRequest s n f =
    if n = 0 then releaseDom s s.pwr.sel
    else if f = true then (if forceOk s s.pwr.sel = true then forceDom s s.pwr.sel n else powerRefuse s 0 1 s.pwr.sel 0)
    else if voted (domAt s s.pwr.sel) = true then refuseByVote s [s.pwr.sel] false
    else if (domAt s s.pwr.sel).forced ≠ none then
      setDom s s.pwr.sel (domForce (domAt s s.pwr.sel) n (entryWaits s s.pwr.sel))
    else setDom s s.pwr.sel (domTo (domAt s s.pwr.sel) n) := by
  refine (if_neg ?_).trans (if_congr beq_iff_eq rfl (if_congr Iff.rfl rfl (if_congr Iff.rfl rfl (if_congr ?_ rfl rfl))))
  · rcases hn with rfl | rfl | rfl <;> simp [hi, hd]
  · exact Option.isSome_iff_ne_none

end

/-! ### The ends of transits (R268, R276 to R279) -/

/-- A domain whose logic supply is off, at the Caramel level. -/
def domOff (s : State) (x : Dom) : Dom := { x with pstate := 2, transit := .none, level := caramel s }

/-- What such a domain does next: a forced target applies, or it follows its votes. -/
def domFollows (x : Dom) : Dom := match x.forced with | some t => domForce x t false | none => settledAsked x

theorem domFollows_unforced {x : Dom} (h : x.forced = none) : domFollows x = settledAsked x := by rw [domFollows, h]

theorem domFollows_forced {x : Dom} {t : Nat} (h : x.forced = some t) : domFollows x = domForce x t false := by rw [domFollows, h]

section
variable {s : State} {d : Nat}

theorem p2Done_waits (h : (domAt s d).transit ≠ .toP2 ∨ ((domAt s d).forced ≠ none ∧ drained s d = false)) : p2Done s d = s := by
  refine if_pos ?_
  rcases h with h | ⟨hf, hd⟩
  · simp [h]
  · simp [Option.isSome_iff_ne_none.2 hf, hd]

theorem p2Done_ends (ht : (domAt s d).transit = .toP2) (h : (domAt s d).forced = none ∨ drained s d = true) :
    p2Done s d = islandVotes (setDom s d (domFollows (domOff s (domAt s d)))) d :=
  if_neg (by rcases h with h | h <;> simp [ht, h])

end

/-- A domain that is back in P0. -/
def domOn (x : Dom) : Dom := { x with pstate := 0, transit := .none }

/-- What it does next: a forced target applies, or it follows its votes. -/
def domReturned (s : State) (d : Nat) : State :=
  match (domOn (domAt s d)).forced with
  | some t => forceP1 (setDom s d (domForce (domOn (domAt s d)) t false)) d
  | none => setDom s d (settledAsked (domOn (domAt s d)))

/-- The channels that paused for it go on. -/
def domServes (s : State) (d : Nat) : State := resumePowered (islandVotes (domReturned s d) d)

section
variable {s : State} {d : Nat}

theorem exitedDom_other (h : (domAt s d).transit ≠ .exit) : exitedDom s d = s := if_pos (by simp [h])

/-- A cluster that stays lit takes up its latched events (R202). -/
theorem exitedDom_ends (h : (domAt s d).transit = .exit) : exitedDom s d =
    if d < 64 ∧ domClosed (domServes s d) d = false then wakeCluster (domServes s d) d else domServes s d := by
  have hends : exitedDom s d = if (decide (d < 64) && !domClosed (domServes s d) d) = true then wakeCluster (domServes s d) d
    else domServes s d := if_neg (by simp [h])
  exact hends.trans (if_congr (by simp) rfl rfl)

theorem exec_domainExitDone (s : State) (d : BitVec 8) :
    exec (.domainExitDone d) s = .next (serveHeld (dueTicks (exitedDom s d.toNat))) := rfl

end

/-! ### Timers (R264, R266, R267) -/

/-- A domain that QUIET sends to P2: it stands in P1, unforced, and holds no vote. -/
abbrev domQuits (s : State) (d : Nat) : Prop :=
  domOk d = true ∧ quiet s = true ∧ chipDeep s = false ∧ voted (domAt s d) = false ∧ (domAt s d).pstate = 1 ∧ (domAt s d).transit = .none
    ∧ (domAt s d).forced = none

theorem exec_quietIdleTimer (s : State) (d : BitVec 8) : exec (.quietIdleTimer d) s =
    .next (if domQuits s d.toNat then setDom s d.toNat { domAt s d.toNat with transit := .toP2 } else s) :=
  congrArg Host.Outcome.next (if_congr (by simp [domQuits, and_assoc]) rfl rfl)

theorem exec_autoP1Delay (s : State) : exec .autoP1Delay s =
    .next (if chipIdle s = true ∧ (rf s pPln PLN_PROFILE_ACTIVE = 0 ∨ rf s pPln PLN_PROFILE_ACTIVE = 3) ∧ chipDeep s = false then
      each allDoms { s with pwr := { s.pwr with idle := true } } (fun s d => settle (voteHw s 36 d false) d) else s) :=
  congrArg Host.Outcome.next (if_congr (by simp [and_assoc]) rfl rfl)

/-- A cluster that has been idle for so long is noted. -/
def clusterNoted (s : State) (c : Nat) : State :=
  { s with pwr := { s.pwr with clidle := if s.pwr.clidle.contains c then s.pwr.clidle else s.pwr.clidle ++ [c] } }

theorem exec_clusterIdleTimer (s : State) (c : BitVec 6) : exec (.clusterIdleTimer c) s =
    .next (if quiet s = true ∧ clIdle s c.toNat = true ∧ chipDeep s = false then clusterNoted (voteHw s 36 c.toNat false) c.toNat else s) :=
  congrArg Host.Outcome.next (if_congr (by simp [and_assoc]) rfl rfl)

theorem clusterNoted_known {s : State} {c : Nat} (h : s.pwr.clidle.contains c = true) : clusterNoted s c = s := by
  rw [clusterNoted, if_pos h]

theorem clusterNoted_new {s : State} {c : Nat} (h : s.pwr.clidle.contains c = false) :
    clusterNoted s c = { s with pwr := { s.pwr with clidle := s.pwr.clidle ++ [c] } } := by
  rw [clusterNoted, if_neg (Bool.not_eq_true _ ▸ h)]

/-- Settles O56: a request by what its domain may take, a transit by its kind, a timer by its condition. -/
theorem domains : Obligations.Domains := by
  refine ⟨fun s src f n c hc hg => ?requests, fun s d => ⟨fun h => ?waits, fun ht hf => ?unforced, fun t ht hf hd => ?forced,
      fun h => ?noExit, fun h => ⟨fun hl => ?lit, fun hl => ?unlit⟩, fun h => ?quits, fun h => ?stays⟩,
    fun s => ⟨fun h => ?rests, fun h => ?busy, fun c => ⟨fun h hk => ?known, fun h hk => ?noted, fun h => ?active⟩, fun c => rfl⟩⟩
  case requests =>
    have hexec := exec_domRequest hc hg
    have hcan (ho : pageOn s pPwr = true) (hi : pwrIdle s = true) (hd : domOk s.pwr.sel = true) :=
      (hexec.trans (congrArg Host.Outcome.next (if_pos ho))).trans (congrArg Host.Outcome.next (domRequest_can (domRequests_target hc) hi hd))
    refine ⟨fun ho => ?_, fun ho h => ?_, fun ⟨ho, hi, hd⟩ h0 => ?_, fun ⟨ho, hi, hd⟩ h0 hf hk => ?_, fun ⟨ho, hi, hd⟩ h0 hf hk => ?_,
      fun ⟨ho, hi, hd⟩ h0 hf hv => ?_, fun ⟨ho, hi, hd⟩ h0 hf hv hx => ?_, fun ⟨ho, hi, hd⟩ h0 hf hv hx => ?_⟩
    · rw [hexec, if_neg ho]
    · rw [hexec, if_pos ho, domRequest_cannot h]
    · rw [hcan ho hi hd, if_pos h0]
    · rw [hcan ho hi hd, if_neg h0, if_pos hf, if_pos hk]
    · rw [hcan ho hi hd, if_neg h0, if_pos hf, if_neg (by simp [hk])]
    · rw [hcan ho hi hd, if_neg h0, if_neg (by simp [hf]), if_pos hv]
    · rw [hcan ho hi hd, if_neg h0, if_neg (by simp [hf]), if_neg (by simp [hv]), if_pos hx]
    · rw [hcan ho hi hd, if_neg h0, if_neg (by simp [hf]), if_neg (by simp [hv]), if_neg (not_not.2 hx)]
  case waits => exact congrArg Host.Outcome.next (p2Done_waits h)
  case unforced =>
    have hnext := domFollows_unforced (x := domOff s (domAt s d.toNat)) hf
    exact congrArg Host.Outcome.next ((p2Done_ends ht (.inl hf)).trans (congrArg (fun x => islandVotes (setDom s d.toNat x) d.toNat) hnext))
  case forced =>
    have hnext := domFollows_forced (x := domOff s (domAt s d.toNat)) hf
    exact congrArg Host.Outcome.next ((p2Done_ends ht (.inr hd)).trans (congrArg (fun x => islandVotes (setDom s d.toNat x) d.toNat) hnext))
  case noExit => rw [exec_domainExitDone, exitedDom_other h]
  case lit =>
    rw [exec_domainExitDone, (exitedDom_ends h).trans (if_pos hl)]
    rfl
  case unlit =>
    rw [exec_domainExitDone, (exitedDom_ends h).trans (if_neg hl)]
    rfl
  case quits => rw [exec_quietIdleTimer, if_pos h]
  case stays => rw [exec_quietIdleTimer, if_neg h]
  case rests => rw [exec_autoP1Delay, if_pos h]
  case busy => rw [exec_autoP1Delay, if_neg h]
  case known => rw [exec_clusterIdleTimer, if_pos h, clusterNoted_known hk]
  case noted => rw [exec_clusterIdleTimer, if_pos h, clusterNoted_new hk]
  case active => rw [exec_clusterIdleTimer, if_neg h]

end Sys2Proof.Machine
end

section
/-!
PROOFS. The RTC and its alarm, the feeds and the DCO (R271, R275, R282, R327, R331; O57).
-/
namespace Sys2Proof.Machine

/-! ### The RTC (R271, R275) -/

/-- The RTC reads what was written to its pair of registers. -/
theorem rtc_wrPair (s : State) (v : BitVec 64) : rtc (wrPair s pAon 0x040 v) = v := by
  unfold rtc wrPair
  rw [rd_wr_ne _ _ (adr pAon 0x040) _ (by decide), rd_wr_self, rd_wr_self, join64_lo32_hi32]

/-- Its registers do not tell whether the chip is in a deep state. -/
theorem chipDeep_wrPair (s : State) (v : BitVec 64) : chipDeep (wrPair s pAon 0x040 v) = chipDeep s := by
  unfold chipDeep wrPair
  rw [rf_wr_ne _ _ _ _ _ (by decide), rf_wr_ne _ _ _ _ _ (by decide)]

theorem rtc_of {s t : State} (h : s.regs = t.regs) : rtc s = rtc t := by
  unfold rtc
  rw [rd_of h, rd_of h]

/-- AON's RCT has advanced by its share of a tick's 64th. -/
def rctTicked (s : State) (k : Nat) : State :=
  { s with clk := { s.clk with
    rct := s.clk.rct + BitVec.ofNat 64 ((k + 1) * 1953125 / 64 - k * 1953125 / 64), tick := s.clk.tick + 1 } }

/-- The clock is none of the registers. (Stated for any clock: the kernel need not compare the clocks, whose numbers are large.) -/
theorem withClk_regs (s : State) (c : Clock) : ({ s with clk := c } : State).regs = s.regs := rfl

/-- The clocks after a tick: the RTC, and in a deep state RCT. -/
def clocksTicked (s : State) : State :=
  let s1 := wrPair s pAon 0x040 (rtc s + 1)
  let k := s.clk.tick.toNat
  if chipDeep s1 then rctTicked s1 k else s1

theorem rtc_clocksTicked (s : State) : rtc (clocksTicked s) = rtc s + 1 := by
  unfold clocksTicked
  dsimp only
  split
  · exact (rtc_of (withClk_regs _ _)).trans (rtc_wrPair s _)
  · exact rtc_wrPair s _

/-- The alarm is armed, and its time has come. -/
abbrev alarmDue (s : State) (now : BitVec 64) : Prop :=
  rb s pAon AON_ALARM_CTRL_ARMED = true ∧ (join64 (rd s (adr pAon 0x048)) (rd s (adr pAon 0x04C))).toNat ≤ now.toNat

/-- A chip with power moves its clocks on, and an alarm that is due then fires. -/
theorem tick_powered {s : State} (h : s.mgt.boot ≠ .unpowered) :
    tick s = if alarmDue (clocksTicked s) (rtc s + 1) then fire (clocksTicked s) else clocksTicked s := by
  have hclocks : tick s = if rb (clocksTicked s) pAon AON_ALARM_CTRL_ARMED
      && decide ((join64 (rd (clocksTicked s) (adr pAon 0x048)) (rd (clocksTicked s) (adr pAon 0x04C))).toNat ≤ (rtc (clocksTicked s)).toNat)
      then fire (clocksTicked s) else clocksTicked s := by
    rw [tick, if_neg (by simp [h]), ← chipDeep_wrPair s (rtc s + 1)]
    rfl
  rw [hclocks, rtc_clocksTicked]
  exact if_congr (by rw [Bool.and_eq_true, decide_eq_true_iff]) rfl rfl

theorem exec_rtcTick (s : State) : exec .rtcTick s = .next (tick s) := rfl

theorem tick_unpowered {s : State} (h : s.mgt.boot = .unpowered) : tick s = s := by rw [tick, if_pos (by simp [h])]

/-- A tick of a chip with power, by its alarm. -/
theorem exec_rtcTick_powered {s : State} (h : s.mgt.boot ≠ .unpowered) :
    (¬ alarmDue (clocksTicked s) (rtc s + 1) → exec .rtcTick s = .next (clocksTicked s))
      ∧ (alarmDue (clocksTicked s) (rtc s + 1) → exec .rtcTick s = .next (fire (clocksTicked s))) ∧ rtc (clocksTicked s) = rtc s + 1 := by
  rw [exec_rtcTick, tick_powered h]
  exact ⟨fun hd => congrArg _ (if_neg hd), fun hd => congrArg _ (if_pos hd), rtc_clocksTicked s⟩

/-! ### ALARM_NOW (R275) -/

/-- The word that ALARM_NOW writes: NOW, and ARMED as it was. -/
def alarmNowWord (s : State) : Word := BitVec.ofNat 32 (4 + rf s pAon AON_ALARM_CTRL_ARMED)

theorem bit_alarmNowWord (s : State) : bit (alarmNowWord s) 2 = true := by
  have hlt : rf s pAon AON_ALARM_CTRL_ARMED < 2 := fget_lt _ _
  unfold alarmNowWord
  generalize rf s pAon AON_ALARM_CTRL_ARMED = n at hlt
  interval_cases n <;> rfl

theorem exec_alarmNow {s : State} {src : Src} (h : gate s src pAon 0x050 true = .ok) :
    exec (.alarmNow src) s = .next (alarmCtrl s (alarmNowWord s)) := congrArg Host.Outcome.next (access_write h)

/-- A write of plain fields leaves what reads no register. -/
theorem writeFields_beside {α : Type} {f : State → α} (hf : ∀ s a v, f (wr s a v) = f s) (s : State) (page off : Nat) (v : Word) :
    f (writeFields s page off v) = f s := by
  cases h : regDesc page off with
  | none => simp [writeFields, h]
  | some r =>
    rw [writeFields_eq h, hf]
    split
    · exact hf _ _ _
    · rfl

/-- An alarm that is armed changes its registers, and in whose name it stands. -/
theorem armAlarm_frame (s : State) (a : BitVec 64) (k : BitVec 3) : (armAlarm s a k).pwr.armedBy = k ∧ (armAlarm s a k).ebm = s.ebm
    ∧ (armAlarm s a k).que = s.que := ⟨rfl, rfl, rfl⟩

/-- The alarm is armed at the present. -/
theorem alarmCtrl_now {s : State} {v : Word} (h : bit v 2 = true) :
    alarmCtrl s v = armAlarm (writeFields s pAon 0x050 v) (rtc s) 1 := by
  have hrtc : rtc (writeFields s pAon 0x050 v) = rtc s := by
    unfold rtc
    rw [rd_writeFields_ne _ _ _ _ _ (by decide) (by decide), rd_writeFields_ne _ _ _ _ _ (by decide) (by decide)]
  rw [← hrtc]
  exact if_pos h

/-! ### The feeds (R282, R327) -/

/-- The chip without power: EBM holds nothing, and the queue of commands waits as it did. -/
theorem powerLost_frame (s : State) : (powerLost s).mgt.boot = .unpowered ∧ (powerLost s).ring.east.feed = false
    ∧ (powerLost s).ring.west.feed = false ∧ (powerLost s).ebm = [] ∧ (powerLost s).pending = s.pending :=
  ⟨rfl, rfl, rfl, rfl, (kept_powerLost (Kept.refl s)).pending⟩

/-- The feeds when one has been absent for 1 ms and the other carries the chip. -/
def feedsSwapped (s : State) : Side → State
  | .east => setSide (setSide s .east { s.ring.east with feed := false }) .west { s.ring.west with feed := true }
  | .west => setSide (setSide s .west { s.ring.west with feed := false }) .east { s.ring.east with feed := true }

theorem feedLost_powered {s : State} (h : s.mgt.boot ≠ .unpowered) (d : Side) :
    feedLost s d = if chipDeep s = true then feedsSwapped s d else report (feedsSwapped s d) (chipLoc s) 0x62 := by
  cases d <;> exact if_neg (by simp [h])

/-- Settles O57: a tick by the clocks that it moves, the alarm and the feeds by what they write, the DCO by its bounds. -/
theorem alwaysOn : Obligations.AlwaysOn := by
  refine ⟨fun s => ⟨fun h => ?unpowered, fun h => ?powered⟩, fun s src hg => ?now,
    fun s => ⟨⟨powerLost s, rfl, powerLost_frame s⟩, fun d => ⟨feedLost s d, rfl, fun h => ?noPower, fun h => ?lost⟩,
      ⟨fun h => ?down, fun h => ?bottom⟩, fun h => ?up, fun h => ?top⟩⟩
  case unpowered => rw [exec_rtcTick, tick_unpowered h]
  case powered => exact exec_rtcTick_powered h
  case now =>
    obtain ⟨-, hebm, -⟩ := writeFields_frame s pAon 0x050 (alarmNowWord s)
    have hque := writeFields_beside (f := State.que) (fun _ _ _ => rfl) s pAon 0x050 (alarmNowWord s)
    rw [exec_alarmNow hg, alarmCtrl_now (bit_alarmNowWord s)]
    generalize writeFields s pAon 0x050 (alarmNowWord s) = t at hebm hque ⊢
    obtain ⟨hlo, hhi⟩ := armAlarm_regs t (rtc s) 1
    obtain ⟨harmed, hebm', hque'⟩ := armAlarm_frame t (rtc s) 1
    refine ⟨_, rfl, ?_, rb_wb_self _ _ _ _ rfl (by decide), harmed, hebm'.trans hebm, hque'.trans hque⟩
    rw [hlo, hhi, join64_lo32_hi32]
  case noPower => exact if_pos (by simp [h])
  case lost =>
    rw [feedLost_powered h]
    cases d <;> rfl
  case down => exact congrArg Host.Outcome.next (if_pos (by simpa using h))
  case bottom => exact congrArg Host.Outcome.next (if_neg (by simpa using h))
  case up => exact congrArg Host.Outcome.next (if_pos h)
  case top => exact congrArg Host.Outcome.next (if_neg (Nat.not_lt.2 h))

end Sys2Proof.Machine
end

section
/-!
PROOFS. The Fault Funnel: hush windows, and the management of the log (R286, R287, R291, R323; O58).
-/
namespace Sys2Proof.Machine

/-! ### The end of a hush window (R286, R288) -/

section
variable {s : State} {i : Nat}

theorem hushEnd_stays (h : (recAt s i).state ≠ 1 ∨ frozen s = true) : hushEnd s i = s := if_pos (by simpa using h)

theorem hushEnd_remote (ho : (recAt s i).state = 1) (hz : frozen s = false) (hr : (recAt s i).remote = true) :
    hushEnd s i = setRec s i { recAt s i with state := 3 } := (if_neg (by simp [ho, hz])).trans (if_pos hr)

theorem hushEnd_own (ho : (recAt s i).state = 1) (hz : frozen s = false) (hr : (recAt s i).remote = false) :
    hushEnd s i = rootCause (setRec s i { recAt s i with state := 2 }) := (if_neg (by simp [ho, hz])).trans (if_neg (by simp [hr]))

theorem exec_hushWindowEnd (h : funnelRuns s = true) (i : BitVec 6) : exec (.hushWindowEnd i) s = .next (hushEnd s i.toNat) :=
  congrArg Host.Outcome.next (if_pos h)

end

/-! ### Retiring (R291) -/

/-- The word that FLT_RETIRE writes: INDEX, and GO. -/
def retireWord (i : BitVec 6) : Word := BitVec.ofNat 32 (i.toNat + 2 ^ 8)

theorem retireWord_fields (i : BitVec 6) : bits (retireWord i) 0 6 = i.toNat ∧ bit (retireWord i) 8 = true := by
  have hi := i.isLt
  have hword : (retireWord i).toNat = i.toNat + 256 := by
    rw [retireWord, BitVec.toNat_ofNat]
    omega
  unfold bits bit
  rw [hword, beq_iff_eq]
  omega

theorem exec_fltRetire {s : State} {src : Src} (h : gate s src pFlt 0x048 true = .ok) (i : BitVec 6) :
    exec (.fltRetire src i) s = .next (retire s (retireWord i)) := congrArg Host.Outcome.next (access_write h)

/-- A retiring, by the record that its word names. -/
theorem retire_retireWord (s : State) (i : BitVec 6) : retire s (retireWord i) =
    if (recAt s i.toNat).state ≠ 2 ∨ frozen s = true then s
    else if i = 63 then setRec s i.toNat { recAt s i.toNat with state := 3, suppressed := 0, affected := 0, moves := 0 }
    else setRec s i.toNat { recAt s i.toNat with state := 3 } := by
  obtain ⟨hindex, hgo⟩ := retireWord_fields i
  have hlast : i.toNat = 63 ↔ i = 63 := BitVec.toNat_inj (y := 63)
  unfold retire
  rw [hindex, hgo]
  simp [hlast]

/-! ### Freezing and thawing (R291, R323) -/

section
variable {s : State} {src : Src}

theorem freezeWrite_freeze : freezeWrite s 1 =
    if frozen s = false then wb (wb s pFlt FLT_FREEZE_FREEZE true) pNvm NVM_SNAPSHOT_BUSY true else s := by
  obtain ⟨hfreeze, hthaw⟩ : bit 1 0 = true ∧ bit 1 1 = false := by decide
  unfold freezeWrite
  rw [hfreeze, hthaw]
  simp

theorem freezeWrite_thaw : freezeWrite s 2 = wb s pFlt FLT_FREEZE_FREEZE false := by
  obtain ⟨hfreeze, hthaw⟩ : bit 2 0 = false ∧ bit 2 1 = true := by decide
  unfold freezeWrite
  rw [hfreeze, hthaw]
  rfl

variable (h : gate s src pFlt 0x044 true = .ok)
include h

theorem exec_fltFreeze : exec (.fltFreeze src) s = .next (freezeWrite s 1) := congrArg Host.Outcome.next (access_write h)

theorem exec_fltThaw : exec (.fltThaw src) s = .next (freezeWrite s 2) := congrArg Host.Outcome.next (access_write h)

end

/-! ### The snapshot (R323) -/

theorem snapshotEnd_idle {s : State} (h : rb s pNvm NVM_SNAPSHOT_BUSY = false) (ok : Bool) : snapshotEnd s ok = s := if_pos (by simp [h])

theorem snapshotEnd_busy {s : State} (h : rb s pNvm NVM_SNAPSHOT_BUSY = true) (ok : Bool) : snapshotEnd s ok =
    let s1 := wb s pNvm NVM_SNAPSHOT_BUSY false
    if ok = true then wb { s1 with nvm := { s.nvm with snapshot := snapshotOf s } } pNvm NVM_SNAPSHOT_VALID true else err s1 pNvm 3 :=
  if_neg (by simp [h])

/-- Settles O58: a report and a hush window by whether the firmware runs and by the record, the management's writes by the words that they
bring to their registers, the snapshot by BUSY. -/
theorem faultFunnel : Obligations.Funnel := by
  refine ⟨fun s loc code i => ⟨fun hf => ⟨?noReport, ?noWindow⟩, fun hf => ?reported, fun hf => ⟨fun h => ?waits,
      fun ho hz hr => ?remote, fun ho hz hr => ?own⟩⟩,
    fun s src i hg => ⟨fun hr hz hi => ?retired, fun hr hz hi => ?overflow, fun h => ?notRaised⟩,
    fun s src hg => ⟨fun hz => ?freezes, fun hz => ?alreadyFrozen, ?thaws⟩,
    fun s => ⟨fun hb ok => ?noSnapshot, fun hb => ⟨?valid, ?failed⟩⟩⟩
  case noReport => exact congrArg Host.Outcome.next (if_neg (by simp [hf]))
  case noWindow => exact congrArg Host.Outcome.next (if_neg (by simp [hf]))
  case reported => exact congrArg Host.Outcome.next (if_pos hf)
  case waits => rw [exec_hushWindowEnd hf, hushEnd_stays h]
  case remote => rw [exec_hushWindowEnd hf, hushEnd_remote ho hz hr]
  case own => rw [exec_hushWindowEnd hf, hushEnd_own ho hz hr]
  case retired => rw [exec_fltRetire hg, retire_retireWord, if_neg (by simp [hr, hz]), if_neg hi]
  case overflow => rw [exec_fltRetire hg, retire_retireWord, if_neg (by simp [hr, hz]), if_pos hi]
  case notRaised => rw [exec_fltRetire hg, retire_retireWord, if_pos h]
  case freezes => rw [exec_fltFreeze hg, freezeWrite_freeze, if_pos hz]
  case alreadyFrozen => rw [exec_fltFreeze hg, freezeWrite_freeze, if_neg (by simp [hz])]
  case thaws => rw [exec_fltThaw hg, freezeWrite_thaw]
  case noSnapshot => exact congrArg Host.Outcome.next (snapshotEnd_idle hb ok)
  case valid => exact congrArg Host.Outcome.next (snapshotEnd_busy hb true)
  case failed => exact congrArg Host.Outcome.next (snapshotEnd_busy hb false)

end Sys2Proof.Machine
end

section
/-!
PROOFS. The test access port: the instruction register and the balls, and the test instructions (R345 to R347; O60).
-/
namespace Sys2Proof.Machine

/-! ### Selecting an instruction (R345, R347) -/

/-- The state whose instruction register holds a value, before the balls follow. -/
def withIr (s : State) (ir : BitVec 8) : State := { s with jtag := { s.jtag with ir := ir } }

theorem select_eq (s : State) (ir : BitVec 8) : select s ir =
    if !ballsTaken s && ballsTaken (withIr s ir) then takeBalls (withIr s ir)
    else if ballsTaken s && !ballsTaken (withIr s ir) then freeBalls (withIr s ir)
    else withIr s ir := rfl

section
variable {s : State} {ir : BitVec 8}

theorem select_ballsStay (h : ballsTaken s = ballsTaken (withIr s ir)) : select s ir = withIr s ir := by
  rw [select_eq, if_neg (by simp [h]), if_neg (by simp [h])]

theorem select_ballsTaken (hs : ballsTaken s = false) (h1 : ballsTaken (withIr s ir) = true) : select s ir = takeBalls (withIr s ir) := by
  rw [select_eq, if_pos (by simp [hs, h1])]

theorem select_ballsFreed (hs : ballsTaken s = true) (h1 : ballsTaken (withIr s ir) = false) : select s ir = freeBalls (withIr s ir) := by
  rw [select_eq, if_neg (by simp [hs]), if_pos (by simp [hs, h1])]

end

/-! ### The test instructions (R345 to R347) -/

section
variable {s : State}

/-- Without power, and in a deep state, the port takes no instruction (R263, R278, R308). -/
theorem exec_tapOff (h : tapOff s = true) {c : Instr} {d p : Scan} {v page : BitVec 8} {off : BitVec 12} {op : Op}
    (hc : c ∈ [.tapReset, .idcode, .extest d p, .samplePreload d p, .clamp, .highz, .extestPulse d p, .extestTrain d p, .bypass v,
      .debug page off op]) : exec c s = .next s := by
  simp only [List.mem_cons, List.not_mem_nil, or_false] at hc
  obtain rfl | rfl | rfl | rfl | rfl | rfl | rfl | rfl | rfl | rfl := hc
  pick_goal 9
  · exact congrArg Host.Outcome.next (if_pos (by rw [h, Bool.true_or] : (tapOff s || tapDefined v) = true))
  all_goals exact congrArg Host.Outcome.next (if_pos h)

theorem exec_bypass_defined {v : BitVec 8} (h : tapDefined v = true) : exec (.bypass v) s = .next s :=
  congrArg Host.Outcome.next (if_pos (by rw [h, Bool.or_true]))

theorem exec_bypass_selects (hon : tapOff s = false) {v : BitVec 8} (h : tapDefined v = false) :
    exec (.bypass v) s = .next (selectBypass s v) := congrArg Host.Outcome.next (if_neg (by simp [hon, h]))

theorem scanTest_tapOn (hon : tapOff s = false) (ir : BitVec 8) (d p : Scan) : scanTest s ir d p =
    let s1 := select s ir
    emits { s1 with jtag := { s1.jtag with preload := d, bound := scanOf s1 p } } [.balls ir (driven s1 d), .tdo (scanOf s1 p).toNat] :=
  if_neg (by simp [hon])

/-- EXTEST and its two tests of AC-coupled pairs are one operation, under the value that each selects (R345). -/
theorem exec_driver {d p : Scan} {ir : BitVec 8} {c : Instr}
    (h : (ir, c) ∈ [((0x00 : BitVec 8), Instr.extest d p), (0x05, .extestPulse d p), (0x06, .extestTrain d p)]) :
    exec c s = .next (scanTest s ir d p) := by
  simp only [List.mem_cons, Prod.mk.injEq, List.not_mem_nil, or_false] at h
  obtain ⟨rfl, rfl⟩ | ⟨rfl, rfl⟩ | ⟨rfl, rfl⟩ := h
  · exact rfl
  · exact rfl
  · exact rfl

end

/-- Settles O60: an instruction by the port's power and by the value that it selects, the balls by what the values before and after take. -/
theorem testPort : Obligations.TestPort := by
  refine ⟨fun s c d p v page off op hc hoff => exec_tapOff hoff hc,
    fun s hon => ?powered,
    fun s ir => ⟨select_ballsStay, select_ballsTaken, select_ballsFreed⟩⟩
  have hpow : ¬ tapOff s = true := by simp [hon]
  refine ⟨?reset, ?idcode, fun pre pins => ?sample, fun d p ir c hc => ?driver, ?clamp, ?highz,
    fun v hv => exec_bypass_selects hon hv, fun v hv => exec_bypass_defined hv, fun page off op => ?debug⟩
  case driver => rw [exec_driver hc, scanTest_tapOn hon]
  all_goals exact congrArg Host.Outcome.next (if_neg hpow)

end Sys2Proof.Machine
end
